-- ==== Sys2Proof/Word.lean ====
section
/-! DEFINITION. The machine's words and the plainest arithmetic over them (R10: registers are 32 bits wide). -/
namespace Sys2Proof

/-- A register word (R10). -/
abbrev Word := BitVec 32
/-- A core instruction, a stamp or a 64-bit count. -/
abbrev Word64 := BitVec 64
/-- The smallest addressable unit of device memory. -/
abbrev Byte := BitVec 8

/-- A sparse table: number and entry, numbers strictly rising, no entry equal to what an unlisted number reads as. -/
abbrev Tab (α : Type) := List (Nat × α)

end Sys2Proof
end

