-- ==== Sys2Proof/Syntax.lean ====
section
/-! DEFINITION. The commands the part takes, one constructor per row of spec/opcode_table.json, with the operands the rows carry.
Times are counts: `dt` is the CLK_ORB cycles (10 ns) since the previous command, `cycle` a CLK_CORE cycle number of a core, and `cycles`, `stall` and the like are durations the spec leaves to the part (R15). -/
namespace Sys2Proof

/-- Who makes a register access (R395): an Ensign, a PCIe function by its index (R312), or the I3C management path. -/
inductive Requester where
  /-- Ensign A (false) or B (true) -/
  | ensign (b : Bool)
  /-- the function of index 64 × port + n -/
  | fn (index : Nat)
  | i3c
  deriving DecidableEq, Repr


/-- Where a register access goes (R313, R314, R395): an offset in the register window, in BAR4 of the requesting function, or in its configuration space. -/
inductive RegAddr where
  | bar0 (a : Nat)
  | bar4 (a : Nat)
  | config (a : Nat)
  deriving DecidableEq, Repr

/-- Frozen cycles of a core's array: a run of CLK_CORE cycles, and which causes hold in it (R101). -/
structure Freeze where
  start : Nat
  cycles : Nat
  a : Bool
  cin : Bool
  drain : Bool
  deriving DecidableEq, Repr

/-- A cycle in which several requesters ask one local-store bank for access: 1 MX drain, 2 MX C-in, 3 MX operand A, 4 MX weights, 5 VX, 6 stream writes, 7 stream reads, 8 L1 (R132). -/
structure BankCycle where
  bank : Nat
  reqs : List Nat
  deriving DecidableEq, Repr

/-- When a matrix command falls: its CLK_CORE cycle, and the cycles before it and in it in which a feeder or the drain was not ready, with the contests for the local store's banks since the last one. -/
structure MxWhen where
  cycle : Nat
  freezes : List Freeze
  banks : List BankCycle
  deriving DecidableEq, Repr

/-- What a bring-up meets (R341 to R348): the results of its steps that the part's own commands do not decide. -/
structure BootIn where
  /-- the Ensigns that boot, the image slots that authenticate, tried in this order, and the version of the image loaded (R343) -/
  ensA : Bool
  ensB : Bool
  auth0 : Bool
  auth1 : Bool
  version : Nat
  /-- the GCOMPAT strap, and the I/O dies that read their substrate strap (R28) -/
  gcompat : Bool
  ioOk : Nat
  /-- running reference clocks (R428) -/
  ref0 : Bool
  ref1 : Bool
  /-- links and ports whose stored result fails its check (R348) -/
  linkRecheck : List Nat
  portRecheck : List Nat
  /-- a sample of the release check of R302 is at or above its throttle level -/
  hot : Bool
  /-- dies that take no identity (R159) -/
  noIdent : List Nat
  /-- links that fail to train, with their cause; rate and ×32 of those that fall back; halyard ports that fail to train (R342) -/
  linksDown : List (Nat × Nat)
  linkRates : List (Nat × Nat × Bool)
  portsDown : List Nat
  /-- sites that fail BIST -/
  bistFailed : List Nat
  /-- rows that fail the retention screen: column, and bank × 12288 + row (R341) -/
  weakRows : List (Nat × Nat)
  /-- milliseconds from PWRGD to READY -/
  ms : Nat
  deriving DecidableEq, Repr, Inhabited

/-- What the slices of an orderly shutdown meet (R349, R350). -/
structure ShutIn where
  /-- links whose test fails, with the direction; halyard ports and land groups that fail -/
  linkFails : List (Nat × Nat)
  portFails : List Nat
  pinFails : List Nat
  /-- length of each slice in CLK_ORB cycles, in their order, at most 2 ms -/
  lens : List Nat
  /-- the record is programmed and reads back -/
  flashOk : Bool
  deriving DecidableEq, Repr, Inhabited

/-- JTAG instructions by what R410 says of them. -/
inductive JtagInstr where
  | bypass
  | idcode
  | samplePreload
  /-- EXTEST, the IEEE 1149.6 instructions, and logic and array scan -/
  | scan
  deriving DecidableEq, Repr


/-- The commands the part takes (one per row of the opcode table). -/
inductive Instr where
  /-- REGISTER_WRITE (R11): A write to a register field that has no row of its own takes effect according to its access code (rw, w1c, w1s, rw1, stg, wo), subject to the reach and lock rules.
  `size` is the access size in bytes (R314); `sets` are the w1c bits that the part sets in the cycle of the write (R12). -/
  | registerWrite (who : Requester) (addr : RegAddr) (size : Nat) (value : Word64) (sets : Nat)
  /-- READ_CLEAR_COUNTER (R12): A read of a counter of access rc returns its value and clears it, keeping any event counted in the same cycle.
  `size` is the access size in bytes (R314); `coincident` are the events that fall in the cycle of the read. -/
  | readClearCounter (who : Requester) (addr : RegAddr) (size : Nat) (coincident : Nat)
  /-- ORBIT_TIMER_EXPIRY (R36): The internal timer reaches P × 100 CLK_ORB cycles after the previous tick and produces a tick. -/
  | orbitTimerExpiry
  /-- OTICK_EDGE (R37): A rising edge on OTICK is accepted as a tick if it falls in the acceptance window, or ignored if it is early. -/
  | otickEdge (dt : Nat)
  /-- OTICK_MISS (R38): No OTICK edge is accepted by P + TOL, so OTICK_MISS is set and ORB_MISS_COUNT increments. -/
  | otickMiss
  /-- STOP_ORBITS (R42): A write of ORB_CTRL.RUN from 1 to 0 closes the open orbit's account, applies pending staged values and stops ticks. -/
  | stopOrbits (who : Requester) (value : Word)
  /-- START_ORBITS (R42): A write of ORB_CTRL.RUN from 0 to 1 restarts orbits with a first tick chosen by the tick source. -/
  | startOrbits (who : Requester) (value : Word)
  /-- TICK_SOURCE_CHANGE (R43): A write of ORB_CTRL.SRC while orbits run changes at once which source ends the open orbit. -/
  | tickSourceChange (who : Requester) (value : Word)
  /-- COUNT_LOAD (R46): A write of 1 to ORB_CMD.COUNT_LOAD makes a load of the orbit count pending for the next tick. -/
  | countLoad (who : Requester) (value : Word)
  /-- ACTION_ARM (R49): A write of ORB_ACT_CTRL.ARM = 1 arms an action entry for its orbit. -/
  | actionArm (who : Requester) (entry : Nat) (value : Word)
  /-- ACTION_DISARM (R50): A write of ARM = 0 to an armed entry disarms it and returns STATE to IDLE. -/
  | actionDisarm (who : Requester) (entry : Nat) (value : Word)
  /-- SERVICE_SLICE_START (R56): The service slice opens P − S after the tick that began the orbit. -/
  | serviceSliceStart
  /-- LINK_PHASE_RECENTRE (R57): The active Ensign starts a UCIe link phase recentre in the service slice, taking the link into RECENTRE. -/
  | linkPhaseRecentre (ens : Nat) (link : Nat) (cycles : Nat)
  /-- HALYARD_TSV_RECENTRE (R57): The active Ensign starts a TSV eye recentre of one row's 17 halyard ports in the service slice. -/
  | halyardTsvRecentre (ens : Nat) (row : Nat) (cycles : Nat)
  /-- THERMAL_SENSOR_TRIM (R57): The active Ensign starts a trim of one tower's thermal sensors in the service slice. -/
  | thermalSensorTrim (ens : Nat) (tower : Nat) (cycles : Nat)
  /-- CALIBRATION_COMPLETE (R57): A service-slice calibration ends and its resource returns to service, or a failed halyard recentre fails the port. -/
  | calibrationComplete (kind : Nat) (target : Nat) (failed : List Nat)
  /-- NS_ROLLOVER (R58): With PPS disabled, TIM_NS reaches 1,000,000,000, making a second edge. -/
  | nsRollover
  /-- PPS_EDGE (R59): A PPS_IN rising edge is taken as a second edge when acquiring or in the locked window, or is ignored as early. -/
  | ppsEdge (dt : Nat)
  /-- PPS_MISS (R59): TIM_NS reaches 1,000,100,000 without a PPS edge, so the part makes a second edge itself and restarts acquisition after three misses. -/
  | ppsMiss
  /-- SEC_LOAD (R60): A write of TIM_CTRL.SEC_LOAD makes a seconds load pending for the next second edge. -/
  | secLoad (who : Requester) (value : Word)
  /-- TIMEBASE_SNAPSHOT_READ (R61): A read of TIM_ORBIT_LO returns the live count and latches the requester's snapshot of the other time registers. -/
  | timebaseSnapshotRead (who : Requester)
  /-- ENERGY_TOTAL_READ (R305): A read of ORB_EN_TOTAL_LO latches ORB_EN_TOTAL_HI for the requester. -/
  | energyTotalRead (who : Requester)
  /-- MXWLD (R96): The MX instruction that queues a weight tile load into the shadow set or quadrant transit registers. -/
  | mxwld (core : Nat) (word : Word64) (time : MxWhen)
  /-- MXPASS (R99): The MX instruction that queues a pass of M operand rows against the current or next weight tile. -/
  | mxpass (core : Nat) (word : Word64) (time : MxWhen)
  /-- MXBUNT (R109): The MX instruction that holds bunting through the next COUNT gap cycles. -/
  | mxbunt (core : Nat) (word : Word64) (time : MxWhen)
  /-- MXIDLE (R109): The MX instruction that begins ramp-down at the first gap cycle after earlier passes complete. -/
  | mxidle (core : Nat) (word : Word64) (time : MxWhen)
  /-- MXMARK (R107): The MX instruction that increments a tally once all earlier MX instructions have completed. -/
  | mxmark (core : Nat) (word : Word64) (time : MxWhen)
  /-- MXMARK_DONE (R117): Every MX instruction before an MXMARK has completed, so its tally increments. -/
  | mxmarkDone (core : Nat) (time : MxWhen)
  /-- WEIGHT_LOAD_START (R97): A queued weight tile load starts once the shadow bus, earlier tiles and target rows allow it. -/
  | weightLoadStart (core : Nat) (time : MxWhen)
  /-- WEIGHT_LOAD_COMPLETE (R96): A weight tile has been fully written into its shadow set or transit registers. -/
  | weightLoadComplete (core : Nat) (quad : Nat) (time : MxWhen)
  /-- PASS_START (R99): A pass enters its first operand row once its predecessor, weight and C-in conditions hold. -/
  | passStart (core : Nat) (quad : Nat) (time : MxWhen)
  /-- PASS_COMPLETE (R91): A pass writes its last output row and completes, incrementing its tally if TEN is set. -/
  | passComplete (core : Nat) (quad : Nat) (time : MxWhen)
  /-- RAMP_DOWN_START (R105): A run of gap cycles reaches BUNT_LEN and the first array quarter is clock-gated. -/
  | rampDownStart (core : Nat) (time : MxWhen)
  /-- RAMP_STEP_EXPIRY (R105): RAMP_STEP cycles elapse during a ramp and the next quarter is gated or ungated. -/
  | rampStepExpiry (core : Nat) (time : MxWhen)
  /-- RAMP_UP_START (R105): A pass becomes ready while quarters are gated, reversing or starting ramp-up. -/
  | rampUpStart (core : Nat) (time : MxWhen)
  /-- TRANSITION_ADMIT (R269): A waiting array-quarter or vector-engine transition is admitted by the cluster step limiter. -/
  | transitionAdmit (core : Nat) (kind : Nat) (time : MxWhen)
  /-- CTNOP (R115): The control instruction that does nothing. -/
  | ctnop (core : Nat) (word : Word64)
  /-- CTLI (R115): The control instruction that loads an immediate into a scalar register. -/
  | ctli (core : Nat) (word : Word64)
  /-- CTADD (R115): The control instruction that adds an immediate to a scalar register. -/
  | ctadd (core : Nat) (word : Word64)
  /-- CTLOOP (R115): The control instruction that decrements a scalar register and branches while it is nonzero. -/
  | ctloop (core : Nat) (word : Word64)
  /-- CTBR (R115): The control instruction that branches to a target. -/
  | ctbr (core : Nat) (word : Word64)
  /-- CTID (R115): The control instruction that reads the logical core number or program index into a scalar register. -/
  | ctid (core : Nat) (word : Word64)
  /-- CTEVT (R115): The control instruction that posts an event with a code to the partition's event ring. -/
  | ctevt (core : Nat) (word : Word64)
  /-- CTBERTH (R52): The control instruction that berths the core, optionally ending the voyage. -/
  | ctberth (core : Nat) (word : Word64)
  /-- BERTH_COMPLETE (R52): All issued engine operations have retired and outgoing transfers have passed the egress gate, so the core is berthed. -/
  | berthComplete (core : Nat)
  /-- PROGRAM_START (R53): A berthed or loaded core starts its next orbit program, at once or at step 6 of the due tick. -/
  | programStart (core : Nat) (stall : Nat)
  /-- PROGRAM_FETCH_COMPLETE (R134): A program has been fully fetched into a program buffer, or its fetch has failed. -/
  | programFetchComplete (core : Nat)
  /-- SYWAIT (R119): The sync instruction that holds issue until a tally reaches COUNT. -/
  | sywait (core : Nat) (word : Word64)
  /-- SYWAIT_SATISFIED (R119): A held SYWAIT finds its tally at or above COUNT, subtracts COUNT and releases issue. -/
  | sywaitSatisfied (core : Nat) (cycles : Nat)
  /-- SYSIG (R119): The sync instruction that sends a tally addition to a core through a route-table entry. -/
  | sysig (core : Nat) (word : Word64)
  /-- SYFENCE (R119): The sync instruction that holds issue until the berth test is met. -/
  | syfence (core : Nat) (word : Word64)
  /-- SYFENCE_SATISFIED (R119): The berth test of a held SYFENCE is met and issue resumes. -/
  | syfenceSatisfied (core : Nat) (cycles : Nat)
  /-- SYSET (R119): The sync instruction that sets one of the core's own tallies. -/
  | syset (core : Nat) (word : Word64)
  /-- VADD (R121): The vector instruction that adds two registers lanewise. -/
  | vadd (core : Nat) (word : Word64)
  /-- VSUB (R121): The vector instruction that subtracts two registers lanewise. -/
  | vsub (core : Nat) (word : Word64)
  /-- VMUL (R121): The vector instruction that multiplies two registers lanewise. -/
  | vmul (core : Nat) (word : Word64)
  /-- VFMA (R121): The vector instruction that forms a fused multiply-add lanewise. -/
  | vfma (core : Nat) (word : Word64)
  /-- VFMS (R121): The vector instruction that forms a fused multiply-subtract lanewise. -/
  | vfms (core : Nat) (word : Word64)
  /-- VMAX (R121): The vector instruction that takes the lanewise maximum. -/
  | vmax (core : Nat) (word : Word64)
  /-- VMIN (R121): The vector instruction that takes the lanewise minimum. -/
  | vmin (core : Nat) (word : Word64)
  /-- VABS (R121): The vector instruction that takes the lanewise absolute value. -/
  | vabs (core : Nat) (word : Word64)
  /-- VNEG (R121): The vector instruction that negates each lane. -/
  | vneg (core : Nat) (word : Word64)
  /-- VCMPLT (R121): The vector instruction that writes a mask of lanes where VA < VB. -/
  | vcmplt (core : Nat) (word : Word64)
  /-- VCMPEQ (R121): The vector instruction that writes a mask of lanes where VA = VB. -/
  | vcmpeq (core : Nat) (word : Word64)
  /-- VSEL (R121): The vector instruction that selects lanes from two registers by a mask. -/
  | vsel (core : Nat) (word : Word64)
  /-- VBCI (R121): The vector instruction that broadcasts an immediate to every lane. -/
  | vbci (core : Nat) (word : Word64)
  /-- VEXP2 (R125): The vector instruction that computes 2 to the power of each lane. -/
  | vexp2 (core : Nat) (word : Word64)
  /-- VLOG2 (R125): The vector instruction that computes the base-2 logarithm of each lane. -/
  | vlog2 (core : Nat) (word : Word64)
  /-- VRCP (R125): The vector instruction that computes the reciprocal of each lane. -/
  | vrcp (core : Nat) (word : Word64)
  /-- VRSQ (R125): The vector instruction that computes the reciprocal square root of each lane. -/
  | vrsq (core : Nat) (word : Word64)
  /-- VSQRT (R125): The vector instruction that computes the correctly rounded square root of each lane. -/
  | vsqrt (core : Nat) (word : Word64)
  /-- VTANH (R125): The vector instruction that computes the hyperbolic tangent of each lane. -/
  | vtanh (core : Nat) (word : Word64)
  /-- VREDSUM (R124): The vector instruction that sums unmasked lanes in a fixed pairwise tree. -/
  | vredsum (core : Nat) (word : Word64)
  /-- VREDMAX (R124): The vector instruction that takes the maximum of unmasked lanes. -/
  | vredmax (core : Nat) (word : Word64)
  /-- VLD (R123): The vector instruction that loads 256 bytes from the scratchpad into a register. -/
  | vld (core : Nat) (word : Word64)
  /-- VST (R123): The vector instruction that stores a register's 256 bytes to the scratchpad. -/
  | vst (core : Nat) (word : Word64)
  /-- VLDB (R123): The vector instruction that broadcasts 4 bytes of the scratchpad to every lane. -/
  | vldb (core : Nat) (word : Word64)
  /-- VMARK (R122): The vector instruction that increments a tally once every earlier VX instruction has retired. -/
  | vmark (core : Nat) (word : Word64)
  /-- VMARK_DONE (R122): Every VX instruction before a VMARK has retired, so its tally increments. -/
  | vmarkDone (core : Nat)
  /-- STLD (R126): The stream instruction that starts a load from memory to the scratchpad with conversion. -/
  | stld (core : Nat) (word : Word64)
  /-- STST (R126): The stream instruction that starts a store from the scratchpad to memory with conversion. -/
  | stst (core : Nat) (word : Word64)
  /-- STPF (R126): The stream instruction that prefetches memory into caches without writing the scratchpad. -/
  | stpf (core : Nat) (word : Word64)
  /-- STMARK (R126): The stream instruction that increments a tally once every earlier stream has completed. -/
  | stmark (core : Nat) (word : Word64)
  /-- STMARK_DONE (R117): Every stream before an STMARK has completed, so its tally increments. -/
  | stmarkDone (core : Nat)
  /-- STREAM_COMPLETE (R129): A stream's last byte is in the scratchpad, its writes are acknowledged or its lines allocated, and its tally and remote signal fire. -/
  | streamComplete (core : Nat) (sid : Nat)
  /-- CORE_FAULTED (R136): After queued engine work drains, a faulting core enters FAULTED, records the cause and posts an event. -/
  | coreFaulted (core : Nat) (held : Nat)
  /-- WATCHDOG_HANG (R137): A running core stays in one program for CORE_WDOG.ORBITS ticks and takes a HANG fault. -/
  | watchdogHang (core : Nat)
  /-- VOYAGE_LAUNCH (R133): A write of CORE_VOY_CMD.LAUNCH clears core state, enters LOADED and fetches program 0. -/
  | voyageLaunch (who : Requester) (core : Nat) (value : Word)
  /-- VOYAGE_ABORT (R136): A write of CORE_VOY_CMD.ABORT in LOADED, RUNNING or BERTHED faults the core with cause ABORT. -/
  | voyageAbort (who : Requester) (core : Nat) (value : Word)
  /-- LOCAL_STORE_SPLIT_CHANGE (R131): A write of CORE_LS_SPLIT changing the L1 size keeps scratchpad bytes below the boundary and invalidates the L1. -/
  | localStoreSplitChange (who : Requester) (core : Nat) (value : Word)
  /-- PACKET_HOP (R144): A router executes the current route segment of a packet, forwarding it, sending it over a link or delivering it to its exit. -/
  | packetHop (id : Nat)
  /-- TALLY_ADD (R149): A TALLY_ADD packet reaches its core and adds its count to the named tally. -/
  | tallyAdd (id : Nat)
  /-- FRAME_SEND (R161): In each frame time an ACTIVE link sender sends one 512-byte frame of slots, credits, link control and CRC. -/
  | frameSend (link : Nat) (toB : Bool) (stamp : Nat)
  /-- FRAME_RECEIVE (R162): A link receiver takes a frame, checks its CRC, returns ACK or NAK and takes slots, credits and link control. -/
  | frameReceive (link : Nat) (toB : Bool) (flips : List Nat) (stamp : Nat)
  /-- LINK_ENABLE (R160): A write of link PG_CTRL.ENABLE = 1 starts the link state machine from OFF or FAILED. -/
  | linkEnable (who : Requester) (link : Nat) (value : Word)
  /-- LINK_DISABLE (R160): A write of link PG_CTRL.ENABLE = 0 takes the link to OFF. -/
  | linkDisable (who : Requester) (link : Nat) (value : Word)
  /-- SIDEBAND_UP (R160): The UCIe sideband comes up and the link leaves SB_INIT for MB_TRAIN. -/
  | sidebandUp (link : Nat)
  /-- SB_TIMEOUT (R160): SB_INIT lasts 8 ms and the link enters FAILED with cause SB_TIMEOUT. -/
  | sbTimeout (link : Nat)
  /-- MAINBAND_TRAINED (R160): Mainband training, or application of the quick-start record, succeeds and the link enters PARAM. -/
  | mainbandTrained (link : Nat) (fromRecord : Bool) (repaired : Nat)
  /-- MB_TRAIN_TIMEOUT (R160): A 20 ms training attempt fails, and training retries, falls back in width or rate, or enters FAILED. -/
  | mbTrainTimeout (link : Nat)
  /-- IDENT (R159): A sideband IDENT message gives a compute die its identity or checks the expected peer, failing a miswired port. On an I/O link `io` and `seenA` are the number i and port k that end A hears; on a compute-compute link `seenA` and `seenB` are the dies that the ends hear. -/
  | ident (link : Nat) (io : Nat) (seenA : Nat) (seenB : Nat)
  /-- IDENTITY_TIMEOUT (R159): Neither I/O port answers within 50 ms and the die stays unconfigured with cause WIRING. -/
  | identityTimeout (die : Nat)
  /-- CAPABILITY_RECORD (R164): The moonlet's capability record arrives in PARAM and is answered or ends PARAM with cause PARAM. -/
  | capabilityRecord (link : Nat) (record : List Nat)
  /-- PARAM_TIMEOUT (R160): PARAM lasts 10 ms and the link enters FAILED with cause PARAM. -/
  | paramTimeout (link : Nat)
  /-- LANE_FAILURE (R160): A lane fails on an ACTIVE link and the link enters RETRAIN. -/
  | laneFailure (link : Nat)
  /-- RETRAIN (R168): A write of LNK_CMD.RETRAIN takes an ACTIVE link into RETRAIN. -/
  | retrain (who : Requester) (link : Nat) (value : Word)
  /-- RETRAIN_COMPLETE (R160): Retraining succeeds and the link returns to ACTIVE. -/
  | retrainComplete (link : Nat)
  /-- RETRAIN_TIMEOUT (R160): RETRAIN lasts 2 ms and the link enters FAILED, sinking held packets into LNK_LOST. -/
  | retrainTimeout (link : Nat)
  /-- PROBE (R169): A write of LNK_CMD.PROBE starts a new measurement of LNK_DLY. -/
  | probe (who : Requester) (link : Nat) (value : Word)
  /-- LINK_DELAY_MEASURED (R169): The echoes of 1,024 probes have returned and LNK_DLY is updated. -/
  | linkDelayMeasured (link : Nat)
  /-- MRD (R166): A moonlet read message through a window is translated and served, or answered with an error status. -/
  | mrd (die : Nat) (win : Nat) (tag : Nat) (len : Nat) (addr : Nat)
  /-- MWR (R166): A moonlet write message through a window is translated and performed, or refused. -/
  | mwr (die : Nat) (win : Nat) (tag : Nat) (len : Nat) (addr : Nat) (data : List Byte)
  /-- MWRB (R166): A moonlet masked write of one atom through a window is translated and performed, or refused. -/
  | mwrb (die : Nat) (win : Nat) (tag : Nat) (len : Nat) (addr : Nat) (data : List Byte) (mask : Nat)
  /-- MSIG (R166): A moonlet signal message adds COUNT to a tally of a site in the window's partition, or is dropped. -/
  | msig (die : Nat) (win : Nat) (addr : Nat) (count : Nat)
  /-- MEVT (R166): A moonlet event message posts an event to the window's partition, or is dropped. -/
  | mevt (die : Nat) (win : Nat) (code : Nat)
  /-- HRD (R181): A halyard read request, plain or expanding, reaches its port and is queued or answered with an error status. -/
  | hrd (id : Nat)
  /-- HWR (R182): A halyard write request, optionally masked, reaches its port and is queued or refused. -/
  | hwr (id : Nat)
  /-- HALYARD_REQUEST_COMPLETE (R180): A bank access for a halyard request completes and the port sends HRSP or HACK. -/
  | halyardRequestComplete (site : Nat) (req : Nat)
  /-- EXPANSION_COMPLETE (R188): The expansion unit finishes multiplying a latent vector by W and returns the expanded vector. -/
  | expansionComplete (site : Nat) (slot : Nat)
  /-- HRSP (R181): A read response reaches its requester with data or a status. -/
  | hrsp (id : Nat)
  /-- HACK (R181): A write acknowledgement reaches its requester with a status. -/
  | hack (id : Nat)
  /-- AGED_REMOTE_GRANT (R179): The oldest REMOTE request has waited HYP_ARB.AGE × 100 ns and is granted ahead of OWN. -/
  | agedRemoteGrant (site : Nat)
  /-- ROW_IDLE_CLOSE (R173): An open DRAM row has been idle for 200 ns and closes. -/
  | rowIdleClose (site : Nat) (bank : Nat)
  /-- REFRESH_DUE (R190): A bank's refresh operation interval elapses and an operation falls due, running or being postponed into debt. -/
  | refreshDue (site : Nat) (bank : Nat)
  /-- REFRESH_PAYBACK (R191): A bank with refresh debt has been idle 200 ns and pays back one postponed operation. -/
  | refreshPayback (site : Nat) (bank : Nat)
  /-- REFRESH_COMPLETE (R191): A refresh operation on 4 rows finishes and releases its token. -/
  | refreshComplete (site : Nat) (bank : Nat)
  /-- HCOPY (R236): A page copy request reaches the free page's halyard port, which copies the old page and acknowledges. -/
  | hcopy (id : Nat)
  /-- BKCAST (R201): The bank instruction that broadcasts a bank command to a column, row or partition group. -/
  | bkcast (core : Nat) (word : Word64)
  /-- BKSETK (R201): The bank instruction that writes 256 bytes of query data into K slots of the selected banks. -/
  | bksetk (core : Nat) (word : Word64)
  /-- BKMARK (R201): The bank instruction that increments a tally once every earlier BK instruction has completed. -/
  | bkmark (core : Nat) (word : Word64)
  /-- BKMARK_DONE (R117): Every BK instruction before a BKMARK has completed, so its tally increments. -/
  | bkmarkDone (core : Nat)
  /-- BKCMD (R203): A bank-command packet reaches a port, which queues it and, as row head, forwards it to the row's columns. -/
  | bkcmd (id : Nat)
  /-- BKSETK_PACKET (R203): A K-slot data packet reaches a port, which applies it between operations and forwards it as row head. -/
  | bksetkPacket (id : Nat)
  /-- BKDONE (R205): A column or row report reaches its row head or issuer, which aggregates it and completes the broadcast when all reports are in. -/
  | bkdone (id : Nat)
  /-- WAVE_START (R207): A port starts the next wave of a broadcast on as many banks as free tokens and the cap allow. -/
  | waveStart (site : Nat)
  /-- ENGINE_STEP_COMPLETE (R195): A bank-engine step ends, and the bank serves one waiting request in the gap or an urgent refresh before the next step. -/
  | engineStepComplete (site : Nat) (bank : Nat) (cycles : Nat)
  /-- PATROL_SCRUB_DUE (R367): The patrol interval elapses and a column's next scrub step falls due. -/
  | patrolScrubDue (site : Nat)
  /-- SCRUB_STEP_START (R367): A due scrub step starts in a wave gap when its bank is idle and a token is free. -/
  | scrubStepStart (site : Nat)
  /-- LINE_FILL_RETURN (R221): A cluster-cache line fill returns, the line is allocated and every merged waiter receives a response. -/
  | lineFillReturn (id : Nat)
  /-- MISS_ADMIT (R221): A miss waiting at the CLU port is admitted when a fill entry, waiter slot or miss register frees. -/
  | missAdmit (clu : Nat)
  /-- CRDS (R226): A coherent read-for-share request reaches the home directory. -/
  | crds (id : Nat)
  /-- CCLAIM (R226): A request for ownership without data reaches the home directory. -/
  | cclaim (id : Nat)
  /-- CFILL (R226): An owner's request for DRAM data of a partial line reaches the home. -/
  | cfill (id : Nat)
  /-- CWB (R226): A write-back of dirty bytes reaches the home, which writes them or discards a stale one. -/
  | cwb (id : Nat)
  /-- CINV (R226): An invalidation from the home reaches a sharer, which drops its copy and answers CIACK. -/
  | cinv (id : Nat)
  /-- CRECALL (R226): A recall from the home reaches the owner, which answers CWBR with its dirty bytes. -/
  | crecall (id : Nat)
  /-- CATOM (R234): A census atomic reaches the home and is performed, refused or held while BUSY. -/
  | catom (id : Nat)
  /-- CDATA (R226): Coherent data, or a census result, reaches the requester. -/
  | cdata (id : Nat)
  /-- CGRANT (R226): An ownership grant reaches the requesting cache. -/
  | cgrant (id : Nat)
  /-- CIACK (R226): An invalidation acknowledgement reaches the home. -/
  | ciack (id : Nat)
  /-- CWBR (R226): A recall answer with dirty bytes reaches the home. -/
  | cwbr (id : Nat)
  /-- CACK (R226): A write-back acknowledgement reaches the cache. -/
  | cack (id : Nat)
  /-- INVAL_RO (R239): A write of CLU_CC_CMD.INVAL_RO drops every RO line of the cluster cache. -/
  | invalRo (who : Requester) (clu : Nat) (value : Word)
  /-- WB_ALL (R239): A write of CLU_CC_CMD.WB_ALL writes back and drops every M and P line. -/
  | wbAll (who : Requester) (clu : Nat) (value : Word)
  /-- CACHE_COMMAND_COMPLETE (R239): A running cluster-cache command finishes and CLU_CC_STATUS.BUSY clears. -/
  | cacheCommandComplete (clu : Nat)
  /-- XINV (R231): A write of PRT_XINV.GO starts invalidating the named range in every translation cache. -/
  | xinv (who : Requester) (part : Nat) (value : Word)
  /-- XINV_DONE (R231): The invalidation completes and PRT_XINV.DONE reads 1. -/
  | xinvDone (n : Nat)
  /-- CENSUS_READ (R234): PRT_CEN_OP with OP READ returns a page's census entry. -/
  | censusRead (who : Requester) (part : Nat) (value : Word)
  /-- CENSUS_INC (R234): PRT_CEN_OP with OP INC increments REFS of a census entry. -/
  | censusInc (who : Requester) (part : Nat) (value : Word)
  /-- CENSUS_DEC (R234): PRT_CEN_OP with OP DEC decrements REFS of a census entry. -/
  | censusDec (who : Requester) (part : Nat) (value : Word)
  /-- CENSUS_SET (R234): PRT_CEN_OP with OP SET writes REFS of a census entry. -/
  | censusSet (who : Requester) (part : Nat) (value : Word)
  /-- CENSUS_LOCK (R234): PRT_CEN_OP with OP LOCK sets BUSY on a census entry, waiting while it is set. -/
  | censusLock (who : Requester) (part : Nat) (value : Word)
  /-- CENSUS_DECUNLOCK (R234): PRT_CEN_OP with OP DECUNLOCK decrements REFS and clears BUSY. -/
  | censusDecunlock (who : Requester) (part : Nat) (value : Word)
  /-- CENSUS_UNLOCK (R234): PRT_CEN_OP with OP UNLOCK clears BUSY on a census entry. -/
  | censusUnlock (who : Requester) (part : Nat) (value : Word)
  /-- CENSUS_OP_COMPLETE (R241): A census operation started through PRT_CEN_OP completes and BUSY clears with the result. -/
  | censusOpComplete (part : Nat)
  /-- FREE_TAIL_ADVANCE (R235): A write of PRT_FREE_TAIL makes free pages available to copy on write, releasing a waiting copy. -/
  | freeTailAdvance (who : Requester) (part : Nat) (value : Word)
  /-- FREE_PAGE_WAIT_EXPIRY (R236): A copy on write waits WAIT_US for a free page and fails with kind NOFREE. -/
  | freePageWaitExpiry (cow : Nat)
  /-- ENERGY_SAMPLE (R287): Every 1 µs the regulators report current and the energy account accumulates per consumer. -/
  | energySample (links : Nat) (mem : Nat) (comp : Nat)
  /-- POWER_WAVE_START (R270): Every 50 µs of power-up the next wave starts ramping the gates of one column of sites in every row. -/
  | powerWaveStart
  /-- GATE_SEGMENT_CLOSE (R271): Every 0.5 µs of a ramp the next power-gate segment closes and the step current and rail are checked. -/
  | gateSegmentClose (ovr : List Nat) (rails : List (Nat × Nat))
  /-- CURRENT_REGION_TRIP (R274): A current region stays above its trip level for 1 µs, eclipsing its sites or turning off the cluster regulator. -/
  | currentRegionTrip (clu : Nat) (region : Nat)
  /-- SENSE_POINT_SAMPLE (R276): Every 1 µs each half-layer die samples its sense points and forms each point's excess drop. -/
  | sensePointSample (volts : List (Nat × List Nat)) (vin : List Nat) (iin : List Nat)
  /-- DOMAIN_FAULT (R278): A DRAM half-layer or fabric regulator stays below 90% for 10 µs and its domain, or its whole tower, is turned off. -/
  | domainFault (fabric : Bool) (n : Nat)
  /-- VIN_WARNING (R280): A VIN field falls below the warning threshold and CLK_CORE of every compute die is divided by two. -/
  | vinWarning (dt : Nat) (field : Nat)
  /-- VIN_ABOVE_WARNING (R281): Every VIN field is back above the rising warning threshold and the release count starts. -/
  | vinAboveWarning (dt : Nat)
  /-- RELEASE_QUALIFIED (R281): Every field has stayed above warning for 100 µs, so release qualifies, or is released at once while orbits are stopped. -/
  | releaseQualified
  /-- WAVE_RESUME (R283): 100 µs after every field is above warning, held power-up waves and ramps resume. -/
  | waveResume
  /-- VIN_BELOW_RESET (R279): A VIN field falls below the reset threshold and its reset timer starts. -/
  | vinBelowReset (dt : Nat) (field : Nat)
  /-- FIELD_FAULT (R282): A field stays below reset past its limit, taking its tower down, or two or more fields cause a fault reset. -/
  | fieldFault (fields : List Nat) (boot : BootIn)
  /-- GOVERNOR_WINDOW (R292): A 10 µs governor window ends and the governor moves its level, taking trim_max on a short-limit breach. -/
  | governorWindow
  /-- ENERGY_CTRL_WRITE (R291): A write of ORB_EN_CTRL takes effect, moving the governor level at once if a fill level is no longer allowed. -/
  | energyCtrlWrite (who : Requester) (value : Word)
  /-- FREQ_REQUEST (R298): A write of DIE_FREQ.FSEL stages a new step and starts raising cluster setpoints ahead of a rise. -/
  | freqRequest (who : Requester) (die : Nat) (value : Word)
  /-- SETPOINT_REACHED (R298): A cluster regulator finishes slewing to its new setpoint. -/
  | setpointReached (cluster : Nat)
  /-- STOPPED_FREQUENCY_CHANGE (R295): While orbits are stopped, a die whose frequency in force changes does so without a tick, a rise once voltages are ready. -/
  | stoppedFrequencyChange (die : Nat)
  /-- PCAP_ASSERT (R299): PCAP_N has been low 0.5 µs and the emergency cap stops arrays and vector engines, caps tokens and takes LINKS trim. -/
  | pcapAssert (dt : Nat) (low : Nat)
  /-- PCAP_RELEASE (R300): PCAP_N has been high 100 µs and the emergency-cap response ends, at the next tick or at once while stopped. -/
  | pcapRelease (dt : Nat)
  /-- THERMAL_SENSOR_SAMPLE (R301): Every 20 µs the sensors are sampled, updating throttle holds, refresh mode and the thermal token cap. -/
  | thermalSensorSample (cores : List (Nat × Nat)) (dram : List (Nat × Nat)) (caps : List (Nat × Nat))
  /-- ENERGY_FORECAST (R303): The active Ensign reads energy plans for orbit N + 4, forecasts tower temperatures and sets the COOLREQ duty. -/
  | energyForecast (energy : List Nat)
  /-- COOLREQ_PERIOD (R433): A 40 µs COOLREQ period begins and takes the duty in force. -/
  | coolreqPeriod
  /-- COOLREQ_DUTY_TIMEOUT (R304): No Ensign has written a duty for 100 ms and hardware forces full demand. -/
  | coolreqDutyTimeout
  /-- DOORBELL (R323): A doorbell write updates a queue's producer count or is discarded, stopping the queue on DB_OVER. -/
  | doorbell (fn : Nat) (queue : Nat) (value : Word)
  /-- WORK_ORDER_DISPATCH (R327): A queue's head order becomes ready between rounds and is dispatched at once, flagged LATE if its orbit has passed. -/
  | workOrderDispatch (queue : Nat)
  /-- NOP (R325): The work order that does nothing and completes at dispatch. -/
  | nop (queue : Nat)
  /-- LAUNCH (R326): The work order that checks a list of launch records and launches every listed core. -/
  | launch (order : Nat)
  /-- COPY (R325): The work order that copies bytes between device and host addresses. -/
  | copy (order : Nat)
  /-- SIGNAL (R325): The work order that injects a TALLY_ADD to a site of the partition. -/
  | signal (order : Nat)
  /-- WRITE (R325): The work order that writes up to 64 bytes of data to a virtual address. -/
  | write (order : Nat)
  /-- EVENT (R325): The work order that writes an event record with a code. -/
  | event (queue : Nat)
  /-- WORK_ORDER_COMPLETE (R329): An executing work order completes or fails, writing its record and stopping its queue on error unless CONT is set. -/
  | workOrderComplete (order : Nat)
  /-- QUEUE_RESUME (R329): A write of QUE_STATUS.RESUME takes a queue out of STOPPED. -/
  | queueResume (who : Requester) (queue : Nat) (value : Word)
  /-- QUEUE_ENABLE (R323): A write of QUE_CFG.EN from 0 to 1 enables a queue and zeroes its counts. -/
  | queueEnable (who : Requester) (queue : Nat) (value : Word)
  /-- BAR2_READ (R316): A host read through BAR2 is translated and served, or answered with an error completion. -/
  | bar2Read (fn : Nat) (tag : Nat) (off : Nat) (len : Nat)
  /-- BAR2_WRITE (R316): A host write through BAR2 is translated and performed, held under copy on write, or discarded. -/
  | bar2Write (fn : Nat) (off : Nat) (data : List Byte) (mask : Nat)
  /-- FLR (R317): A function-level reset clears the function's configuration space and disables its queues and event rings. -/
  | flr (fn : Nat)
  /-- PERST_RELEASE (R344): A port's PERST_N rises and the port trains once Ensign boot has ended. -/
  | perstRelease (port : Nat) (rate : Nat) (x8 : Bool)
  /-- HOST_PORT_RESET (R351): A port's PERST_N falls and its controller and functions' configuration are reset, with their queues and rings disabled. -/
  | hostPortReset (port : Nat)
  /-- MGMT (R335): A write of HPT_CTRL.MGMT = 1 gives this port's PF the management view and clears the bit on other ports. -/
  | mgmt (who : Requester) (port : Nat) (value : Word)
  /-- PARTITION_ROWS_WRITE (R318): A write of PRT_ROWS assigns rows to a partition, or is ignored if a row belongs elsewhere, and updates page ownership. -/
  | partitionRowsWrite (who : Requester) (part : Nat) (high : Bool) (value : Word)
  /-- PARTITION_ENABLE (R318): A write of the partition's PG_CTRL.ENABLE moves it between IDLE and ACTIVE. -/
  | partitionEnable (who : Requester) (part : Nat) (value : Word)
  /-- QUIESCE_REQ (R354): A write of QUIESCE_REQ = 1 puts an ACTIVE partition into QUIESCING, and 0 returns it to ACTIVE. -/
  | quiesceReq (who : Requester) (part : Nat) (value : Word)
  /-- PARTITION_RESET (R355): A write of the partition's RESET_REQ discards orders, resets its cores, drains broadcasts, writes back caches and resets its pages. -/
  | partitionReset (who : Requester) (part : Nat) (value : Word)
  /-- CLUSTER_RESET (R351): A write of the cluster's RESET_REQ resets its controller, cache and cores, readmits released sites and applies a pending DIRW. -/
  | clusterReset (who : Requester) (clu : Nat) (value : Word)
  /-- CORE_RESET (R351): A write of the core's RESET_REQ resets its engines and page, zeroes its local store and ends in IDLE, OFF or ECLIPSED. -/
  | coreReset (who : Requester) (core : Nat) (value : Word)
  /-- EVENT_RECORD_WRITTEN (R334): A ring's record in progress ends and the next staged record or a summary is written, followed by MSI-X. -/
  | eventRecordWritten (ring : Nat)
  /-- EVENT_HEAD_ADVANCE (R333): A write of EVT_HEAD frees ring space so a waiting summary or record can be written. -/
  | eventHeadAdvance (who : Requester) (ring : Nat) (value : Word)
  /-- MSIX_HOLDOFF_EXPIRY (R333): An MSI-X holdoff ends and one more message is sent if records were written during it. -/
  | msixHoldoffExpiry (ring : Nat)
  /-- EVENT_ENABLE_WRITE (R405): A write of PG_EVT_EN that enables an already set PG_EVT bit posts one event. -/
  | eventEnableWrite (who : Requester) (page : Nat) (value : Word)
  /-- POWER_GOOD (R341): PWRGD rises and bring-up runs its steps from Ensign boot to READY or FAILED. -/
  | powerGood (boot : BootIn)
  /-- PWRGD_FALL (R340): PWRGD falls and the part is held in whole-part reset with only the standby domains running. -/
  | pwrgdFall (dt : Nat)
  /-- VSB_POWER_ON (R351): VSB comes up, the standby domains start, straps are latched and the I3C target begins to answer. -/
  | vsbPowerOn (strap : Nat) (boot : BootIn)
  /-- VSB_LOSS (R428): VSB is lost, ending everything including the held fields and releasing THERMTRIP_N. -/
  | vsbLoss (dt : Nat)
  /-- AUX_SUPPLY_FAULT (R428): VAUX or VPHY stays below its minimum for 2 µs while PWRGD is high and the part enters whole-part reset. -/
  | auxSupplyFault (dt : Nat)
  /-- RESET_ALL (R351): A write of G_BOOT_CMD.RESET_ALL performs a whole-part reset. -/
  | resetAll (who : Requester) (value : Word) (boot : BootIn)
  /-- SHUTDOWN (R349): A write of G_BOOT_CMD.SHUTDOWN runs the orderly shutdown with BIST slices and quick-start record, or is refused. -/
  | shutdown (who : Requester) (value : Word) (meets : ShutIn)
  /-- FORCE_COLD (R360): A write of G_BOOT_CMD.FORCE_COLD makes the next bring-up cold. -/
  | forceCold (who : Requester) (value : Word)
  /-- ENS_RESET_A (R358): A write of G_BOOT_CMD.ENS_RESET_A resets Ensign A, which reboots and adopts the live state. -/
  | ensResetA (who : Requester) (value : Word)
  /-- ENS_RESET_B (R358): A write of G_BOOT_CMD.ENS_RESET_B resets Ensign B, which reboots and adopts the live state. -/
  | ensResetB (who : Requester) (value : Word)
  /-- ENSIGN_WATCHDOG_EXPIRY (R351): An Ensign's watchdog expires and that Ensign is reset. -/
  | ensignWatchdogExpiry (ens : Nat)
  /-- ENSIGN_HEARTBEAT (R381): An Ensign's 1 ms heartbeat reaches a compute die over an active I/O link. -/
  | ensignHeartbeat (ens : Nat) (die : Nat)
  /-- STEWARD_TIMEOUT (R382): A die has had no beat from its steward for 4 ms and grants the standby Ensign's claim, which takes over. -/
  | stewardTimeout (die : Nat)
  /-- STEWARDLESS (R383): A die has had no beat from either Ensign for 4 ms and its safe sequencer holds it at step 0. -/
  | stewardless (die : Nat)
  /-- ENSIGN_CLAIM (R382): A claim from an Ensign for a compute die is granted, making it the die's steward. -/
  | ensignClaim (ens : Nat) (die : Nat)
  /-- ENSIGN_ROLE_GIVE_UP (R382): An active Ensign without any active link to a compute die for 2 ms gives up every role. -/
  | ensignRoleGiveUp (dt : Nat)
  /-- REFCLK_LOSS (R385): A die's clock detector declares its reference lost and switches to the other reference. -/
  | refclkLoss (ref : Bool) (die : Nat)
  /-- REFCLK_SELECT (R385): A write of G_CLKSEL.PREF switches every die whose chosen reference is good. -/
  | refclkSelect (who : Requester) (value : Word)
  /-- DRIVER_ECLIPSE (R375): A write of 1 to a site's DIE_ECL bit eclipses the site with cause DRIVER. -/
  | driverEclipse (who : Requester) (die : Nat) (index : Nat) (value : Word)
  /-- GHOST_FLIT (R377): A flit presented by an eclipsed core to its egress gate is dropped and counted, logging the first. -/
  | ghostFlit (core : Nat)
  /-- BANK_RETIRE (R372): A write of a DIE_BRET bit retires a bank so its port answers COL_FAIL and broadcasts skip it. -/
  | bankRetire (who : Requester) (die : Nat) (index : Nat) (value : Word)
  /-- PORT_FAIL (R372): A write of a DIE_PFAIL bit takes a halyard port to FAILED. -/
  | portFail (who : Requester) (die : Nat) (index : Nat) (value : Word)
  /-- ASSIGN (R379): A write of CLU_SPARE.CMD = ASSIGN ramps the row spare into the cluster, or is refused with a result. -/
  | assign (who : Requester) (clu : Nat) (value : Word)
  /-- RELEASE (R379): A write of CLU_SPARE.CMD = RELEASE opens the spare's gate and unassigns it, or is refused. -/
  | release (who : Requester) (clu : Nat) (value : Word)
  /-- TEST_FLIP_ARM (R371): A write of G_FLIP_CTRL.ARM arms a test flip applied to the next write of the named byte. -/
  | testFlipArm (who : Requester) (value : Word)
  /-- BIST_ALL (R390): G_BIST_CMD.GO with SCOPE ALL starts a full self-test, or is refused. -/
  | bistAll (who : Requester) (value : Word)
  /-- BIST_ROW (R390): G_BIST_CMD.GO with SCOPE ROW starts a march and engine test of one row, or is refused. -/
  | bistRow (who : Requester) (value : Word)
  /-- BIST_LINK (R390): G_BIST_CMD.GO with SCOPE LINK starts a PRBS and margin test of one link, or is refused. -/
  | bistLink (who : Requester) (value : Word)
  /-- BIST_DONE (R390): A self-test ends, eclipsing failed sites, logging failures and raising BIST_DONE. -/
  | bistDone (sites : List (Nat × Nat)) (others : List (Nat × Nat)) (ms : Nat)
  /-- SCAN_OPEN_REQUEST (R411): A write of SEC_SCAN_CMD.OPEN starts the scan-enable sequence, or is refused. -/
  | scanOpenRequest (who : Requester) (value : Word)
  /-- JTAG_INSTRUCTION (R410): A JTAG instruction is loaded, acting as BYPASS until scan is open and requesting the scan-enable sequence if it needs scan. -/
  | jtagInstruction (instr : JtagInstr)
  /-- SCAN_SEQUENCE_START (R412): The scan-enable sequence starts, zeroing the key store, seeds and arrays before scan opens. -/
  | scanSequenceStart
  /-- GET_INFO (R416): The mailbox command that returns firmware versions, slots and part serial bytes. -/
  | getInfo (who : Requester) (value : Word)
  /-- FW_BEGIN (R416): The mailbox command that starts a firmware update and erases image slot 1. -/
  | fwBegin (who : Requester) (value : Word)
  /-- FW_WRITE (R416): The mailbox command that writes one chunk of the new image to slot 1. -/
  | fwWrite (who : Requester) (value : Word)
  /-- FW_VERIFY (R416): The mailbox command that authenticates the image in slot 1. -/
  | fwVerify (who : Requester) (value : Word)
  /-- FW_ACTIVATE (R417): The mailbox command that copies slot 1 to slot 0 and reboots both Ensigns onto the new image. -/
  | fwActivate (who : Requester) (value : Word)
  /-- FW_ABORT (R416): The mailbox command that ends an update begun with FW_BEGIN. -/
  | fwAbort (who : Requester) (value : Word)
  /-- MAILBOX_COMMAND_COMPLETE (R415): A running mailbox command completes with a result, or with LOST when its Ensign resets. -/
  | mailboxCommandComplete (outcome : Nat) (version : Nat)
  /-- GET_VERSION (R409): The SPDM request that returns the supported versions. -/
  | getVersion (via : Nat)
  /-- GET_CAPABILITIES (R409): The SPDM request that returns the responder's capabilities. -/
  | getCapabilities (via : Nat)
  /-- NEGOTIATE_ALGORITHMS (R409): The SPDM request that negotiates ECDSA P-384 with SHA-384. -/
  | negotiateAlgorithms (via : Nat)
  /-- GET_DIGESTS (R409): The SPDM request that returns the certificate chain digest of slot 0. -/
  | getDigests (via : Nat)
  /-- GET_CERTIFICATE (R409): The SPDM request that returns the certificate chain of slot 0. -/
  | getCertificate (via : Nat) (slot : Nat) (off : Nat) (len : Nat)
  /-- CHALLENGE (R409): The SPDM request that signs a challenge with the identity key, or answers ERROR when the key is absent. -/
  | challenge (via : Nat) (slot : Nat) (nonce : Nat)
  /-- GET_MEASUREMENTS (R409): The SPDM request that returns measurement blocks, signed when asked. -/
  | getMeasurements (via : Nat) (index : Nat) (signed : Bool) (nonce : Nat)
  /-- DOE_DISCOVERY (R409): The DOE request that lists the mailbox's protocols. -/
  | doeDiscovery (port : Nat) (index : Nat)
  /-- SET_ENDPOINT_ID (R437): The MCTP control message that assigns the part's endpoint ID. -/
  | setEndpointId (eid : Nat)
  /-- ENTDAA (R436): The I3C broadcast that assigns the target a dynamic address. -/
  | entdaa (addr : Nat)
  /-- SETDASA (R436): The I3C command that assigns a dynamic address from the static address. -/
  | setdasa (static : Nat) (addr : Nat)
  /-- GET_SENSOR_READING (R438): The PLDM command that returns one of the part's sensors. -/
  | getSensorReading (sensor : Nat)
  /-- SET_POWER_CAP (R439): Setting PLDM effecter 1 applies a package power cap, staged or armed in an Ensign action entry for the cap orbit. -/
  | setPowerCap (watts : Nat)
  /-- SET_CAP_ORBIT (R438): Setting PLDM effecter 2 names the orbit at which the next cap applies. -/
  | setCapOrbit (stamp : Nat)
  /-- SET_MIN_DUTY (R438): Setting PLDM effecter 3 writes THM_COOL_CFG.MIN_DUTY. -/
  | setMinDuty (percent : Nat)
  /-- REQUEST_UPDATE (R440): The PLDM type 5 command that begins an Ensign firmware update, refused while a mailbox update runs. -/
  | requestUpdate
  /-- FLASH_LOCK_TIMEOUT (R442): An I/O die holds the flash lock for 100 ms without a transfer and loses it. -/
  | flashLockTimeout (die : Nat)
  /-- REFCLK_RESTORED (R384): A reference clock that was declared lost is seen good again, so its REFn_OK bit returns to 1 and ALERT_N may be driven high. -/
  | refclkRestored (ref : Bool)
  /-- VIN_ABOVE_RESET (R279): A VIN field that was below the reset threshold rises above it before the field-fault time, stopping its reset timer so that no field fault occurs. -/
  | vinAboveReset (dt : Nat) (field : Nat)
  /-- AUX_SUPPLY_IN_REGULATION (R429): With PWRGD high, VAUX and VPHY both come into regulation, and the I/O dies leave reset so that bring-up begins at step 1. -/
  | auxSupplyInRegulation (boot : BootIn)
  /-- HOST_COMPLETION (R330): A PCIe completion arrives for a non-posted request that the part issued to a host, delivering COPY data or an error that counts in HPT_DMA_ERR and fails the order with HOST_ERR. -/
  | hostCompletion (tag : Nat) (ok : Bool) (data : List Byte)
  /-- ATS_INVALIDATION (R310): A host ATS invalidation request reaches a port, which drops the matching entries of its ATC and completes the invalidation. -/
  | atsInvalidation (port : Nat) (fn : Nat) (addr : Nat) (pages : Nat) (tag : Nat)
  /-- RESERVED_INSTRUCTION (R113): The issue stage meets a word with a reserved class or a reserved opcode and the core takes a program fault instead of executing it. -/
  | reservedInstruction (core : Nat) (word : Word64)
  /-- VX_INSTRUCTION_RETIRE (R123): A vector instruction's result is written after its 4-cycle or 12-cycle latency and it retires, releasing register interlocks that hold later VX instructions. -/
  | vxInstructionRetire (core : Nat) (slot : Nat) (cycle : Nat) (banks : List BankCycle)
  /-- ACTIVATE_FIRMWARE (R440): The PLDM type 5 activation command runs the steps of R417 with ALONE taken as 0 to place the updated Ensign image in service. -/
  | activateFirmware (verified : Bool) (version : Nat)
  deriving DecidableEq, Repr

end Sys2Proof
end

