-- ==== Sys2Proof/Machine/Bits.lean ====
section
/-! DEFINITION. Sparse tables, bit fields and counts that hold at their maximum. -/
namespace Sys2Proof.Machine

/-- The entry of a sparse table, if it lists one. -/
def tabGet {α : Type} : Tab α → Nat → Option α
  | [], _ => none
  | (k, v) :: t, n => if k = n then some v else tabGet t n

/-- A sparse table without its entry `n`. -/
def tabDel {α : Type} : Tab α → Nat → Tab α
  | [], _ => []
  | (k, v) :: t, n => if k = n then tabDel t n else (k, v) :: tabDel t n

/-- A sparse table with entry `n` set to `v`, kept in rising order. -/
def tabPut {α : Type} : Tab α → Nat → α → Tab α
  | [], n, v => [(n, v)]
  | (k, w) :: t, n, v =>
    if n < k then (n, v) :: (k, w) :: t
    else if k = n then (n, v) :: t
    else (k, w) :: tabPut t n v

/-- The numbers of a table rise strictly. -/
def tabSorted {α : Type} : Tab α → Bool
  | [] => true
  | [_] => true
  | (a, _) :: (b, w) :: t => decide (a < b) && tabSorted ((b, w) :: t)

/-- A count that holds at its maximum. -/
def satAdd (a b top : Nat) : Nat := min (a + b) top

/-- 2^n as a number of values. -/
def two (n : Nat) : Nat := 2 ^ n

/-- Bit `i` of a number. -/
def bit (w i : Nat) : Bool := (w >>> i) % 2 == 1

/-- Bits `lsb` to `lsb + width - 1` of a number. -/
def bits (w lsb width : Nat) : Nat := (w >>> lsb) % 2 ^ width

/-- A number with bits `lsb` to `lsb + width - 1` replaced by `v`. -/
def setBits (w lsb width v : Nat) : Nat :=
  w % 2 ^ lsb + (v % 2 ^ width) * 2 ^ lsb + (w >>> (lsb + width)) * 2 ^ (lsb + width)

/-- A flag as a number. -/
def b2n (b : Bool) : Nat := if b then 1 else 0

/-- The list without its entry at an index. -/
def dropAt {α : Type} : List α → Nat → List α
  | [], _ => []
  | _ :: t, 0 => t
  | a :: t, n + 1 => a :: dropAt t n

end Sys2Proof.Machine
end

