-- ==== Sys2Proof/Machine/FpTypes.lean ====
section
/-! DEFINITION. What a floating-point value, a flag set and a format are (R66, R67, R76, R89). -/
namespace Sys2Proof.Machine

/-- The sticky flags of CORE_FPFLAGS (R89), as one operation raises them. -/
structure FpFlags where
  inv : Bool := false
  ovf : Bool := false
  unf : Bool := false
  dni : Bool := false
  nanin : Bool := false
  deriving DecidableEq, Repr

/-- A value that a code denotes (R67): a NaN, an infinity, or (-1)^neg × m × 2^e. -/
inductive Val where
  | nan
  | inf (neg : Bool)
  | fin (neg : Bool) (m : Nat) (e : Int)
  deriving DecidableEq, Repr

/-- The sign/exponent/fraction formats of R66. -/
inductive Fmt where
  | binary32 | binary16 | b16 | q8e4 | q8e5
  deriving DecidableEq, Repr

/-- The rounding modes of R76; stochastic rounding carries its 24-bit draw. -/
inductive Rnd where
  | rne | rtz | rdn | rup
  | sr (r : Nat)
  deriving DecidableEq, Repr

end Sys2Proof.Machine
end

