-- ==== Sys2Proof/Machine/Flags.lean ====
section
/-! DEFINITION. Floating-point flags: joining them, and their places in CORE_FPFLAGS (R89). -/
namespace Sys2Proof.Machine

/-- A flag is raised when any lane or element meets its condition (R89). -/
def FpFlags.or (a b : FpFlags) : FpFlags :=
  ⟨a.inv || b.inv, a.ovf || b.ovf, a.unf || b.unf, a.dni || b.dni, a.nanin || b.nanin⟩

/-- The flags of a list of lanes or elements. -/
def orFlags (l : List FpFlags) : FpFlags := l.foldl FpFlags.or {}

/-- The CORE_FPFLAGS bits of a flag set (R89). -/
def FpFlags.bits (f : FpFlags) : Nat :=
  b2n f.inv + 2 * b2n f.ovf + 4 * b2n f.unf + 8 * b2n f.dni + 16 * b2n f.nanin

end Sys2Proof.Machine
end

