-- ==== Sys2Proof/Machine/Formats.lean ====
section
/-! DEFINITION. Number formats: what each code denotes, rounding, the flush rule and the special values (R66 to R80, R86). -/
namespace Sys2Proof.Machine

/-- Exponent bits, fraction bits and bias of a format (R66). -/
def Fmt.shape : Fmt → Nat × Nat × Int
  | .binary32 => (8, 23, 127)
  | .binary16 => (5, 10, 15)
  | .b16 => (8, 7, 127)
  | .q8e4 => (4, 3, 7)
  | .q8e5 => (5, 2, 15)

def Fmt.ebits (f : Fmt) : Nat := f.shape.1
def Fmt.fbits (f : Fmt) : Nat := f.shape.2.1
def Fmt.bias (f : Fmt) : Int := f.shape.2.2
/-- The width of a code in bits. -/
def Fmt.width (f : Fmt) : Nat := 1 + f.ebits + f.fbits
/-- The exponent of the smallest normal (R66). -/
def Fmt.emin (f : Fmt) : Int := 1 - f.bias
/-- The exponent of the smallest subnormal unit. -/
def Fmt.ulpMin (f : Fmt) : Int := f.emin - f.fbits
/-- The flush rule applies to binary32, binary16 and B16 (R71); Q8 keeps its subnormals (R72). -/
def Fmt.flushes : Fmt → Bool
  | .binary32 | .binary16 | .b16 => true
  | .q8e4 | .q8e5 => false
/-- Q8E4 has no infinity (R66). -/
def Fmt.hasInf : Fmt → Bool
  | .q8e4 => false
  | _ => true
/-- The code of the largest finite magnitude (R66). -/
def Fmt.maxCode : Fmt → Nat
  | .binary32 => 0x7F7FFFFF
  | .binary16 => 0x7BFF
  | .b16 => 0x7F7F
  | .q8e4 => 0x7E
  | .q8e5 => 0x7B
/-- The code of +∞, where the format has one. -/
def Fmt.infCode : Fmt → Nat
  | .binary32 => 0x7F800000
  | .binary16 => 0x7C00
  | .b16 => 0x7F80
  | .q8e4 => 0x7F
  | .q8e5 => 0x7C
/-- The canonical NaN (R74). -/
def Fmt.nanCode : Fmt → Nat
  | .binary32 => 0x7FC00000
  | .binary16 => 0x7E00
  | .b16 => 0x7FC0
  | .q8e4 => 0x7F
  | .q8e5 => 0x7E

/-- The value of a code (R66, R67, R68), before any flush. -/
def decodeFp (f : Fmt) (code : Nat) : Val :=
  let s := bit code (f.width - 1)
  let e := bits code f.fbits f.ebits
  let fr := bits code 0 f.fbits
  let top := 2 ^ f.ebits - 1
  if f = .q8e4 then
    if e = 15 ∧ fr = 7 then .nan
    else if e = 0 then .fin s fr f.ulpMin
    else .fin s (8 + fr) ((e : Int) - f.bias - 3)
  else if e = top then (if fr = 0 then .inf s else .nan)
  else if e = 0 then .fin s fr f.ulpMin
  else .fin s (2 ^ f.fbits + fr) ((e : Int) - f.bias - f.fbits)

/-- The code is subnormal: exponent field 0 and fraction not 0 (R67). -/
def isSubnormal (f : Fmt) (code : Nat) : Bool :=
  bits code f.fbits f.ebits == 0 && bits code 0 f.fbits != 0

/-- An operand as an engine reads it: input flush by R71 (not in strict mode for binary32, R73), NaNs read with NANIN. -/
def readFp (f : Fmt) (strict : Bool) (code : Nat) : Val × FpFlags :=
  if f.flushes && isSubnormal f code && !(strict && decide (f = .binary32)) then
    (.fin (bit code (f.width - 1)) 0 0, { dni := true })
  else match decodeFp f code with
    | .nan => (.nan, { nanin := true })
    | v => (v, {})

/-- Numerator of n/d after scaling by 2^e. -/
def scaleNum (n : Nat) (e : Int) : Nat := n * 2 ^ e.toNat
/-- Denominator of n/d after scaling by 2^e. -/
def scaleDen (d : Nat) (e : Int) : Nat := d * 2 ^ (-e).toNat

/-- The exponent E with 2^E ≤ n/d < 2^(E+1), for n > 0. -/
def ratExp (n d : Nat) : Int :=
  let k : Int := (Nat.log2 n : Int) - Nat.log2 d
  if n * 2 ^ (-k).toNat < d * 2 ^ k.toNat then k - 1 else k

/-- Whether the magnitude t + rem/den of one unit is rounded up to t + 1 (R76, R77). -/
def roundsUp (mode : Rnd) (neg : Bool) (t rem den : Nat) : Bool :=
  match mode with
  | .rne => decide (2 * rem > den) || (decide (2 * rem = den) && t % 2 == 1)
  | .rtz => false
  | .rdn => neg && rem != 0
  | .rup => !neg && rem != 0
  | .sr r => decide (rem * 2 ^ 24 > r * den)

/-- n/d × 2^e rounded to p significant bits, the unit never below 2^qmin where one is given: (t, q) for t × 2^q. -/
def roundRat (mode : Rnd) (neg : Bool) (n d : Nat) (e : Int) (p : Nat) (qmin : Option Int) : Nat × Int :=
  if n = 0 then (0, 0) else
  let n' := scaleNum n e
  let d' := scaleDen d e
  let q0 := ratExp n' d' + 1 - p
  let q := match qmin with | none => q0 | some m => max q0 m
  let nn := n' * 2 ^ (-q).toNat
  let dd := d' * 2 ^ q.toNat
  let t := nn / dd
  (if roundsUp mode neg t (nn % dd) dd then t + 1 else t, q)

/-- m × 2^e ≤ m' × 2^e' (magnitudes). -/
def leMag (m : Nat) (e : Int) (m' : Nat) (e' : Int) : Bool :=
  let k := min e e'
  decide (m * 2 ^ (e - k).toNat ≤ m' * 2 ^ (e' - k).toNat)

/-- m × 2^e written as a count of units 2^q, where it is one. -/
def inUnits (m : Nat) (e q : Int) : Nat := m * 2 ^ (e - q).toNat / 2 ^ (q - e).toNat

/-- The code of a finite value that the format holds exactly. -/
def encodeExact (f : Fmt) (neg : Bool) (m : Nat) (e : Int) : Nat :=
  let s := b2n neg * 2 ^ (f.width - 1)
  if m = 0 then s else
  let x : Int := (Nat.log2 m : Int) + e
  if x < f.emin then s + inUnits m e f.ulpMin
  else s + (x + f.bias).toNat * 2 ^ f.fbits + (inUnits m e (x - f.fbits) - 2 ^ f.fbits)

/-- The signed code of a magnitude code. -/
def signed (f : Fmt) (neg : Bool) (mag : Nat) : Nat := b2n neg * 2 ^ (f.width - 1) + mag

/-- What an overflow gives: in a conversion by R75 under SAT, in arithmetic by R79 under the rounding direction. -/
inductive OvfRule where
  | convert (sat : Bool)
  | arith

/-- The code an overflow gives (R75, R79). -/
def overflowCode (f : Fmt) (r : OvfRule) (mode : Rnd) (neg : Bool) : Nat :=
  match r with
  | .convert true => signed f neg f.maxCode
  | .convert false => if f.hasInf then signed f neg f.infCode else f.nanCode
  | .arith =>
    match mode, neg with
    | .rtz, _ | .rdn, false | .rup, true => signed f neg f.maxCode
    | _, _ => signed f neg f.infCode

/-- A finite result n/d × 2^e brought into a format: rounding, flush (or gradual underflow where kept) and overflow (R71, R72, R75, R79). -/
def packRat (f : Fmt) (keepSub : Bool) (rule : OvfRule) (mode : Rnd) (neg : Bool) (n d : Nat) (e : Int) : Nat × FpFlags :=
  if n = 0 then (signed f neg 0, {}) else
  let p := f.fbits + 1
  let tq := roundRat mode neg n d e p none
  let mx := decodeFp f f.maxCode
  let ovr := match mx with | .fin _ m x => !(leMag tq.1 tq.2 m x) | _ => false
  if ovr then (overflowCode f rule mode neg, { ovf := true })
  else if f.flushes && !keepSub then
    if leMag 1 f.emin tq.1 tq.2 then (encodeExact f neg tq.1 tq.2, {})
    else (signed f neg 0, { unf := true })
  else
    let sq := roundRat mode neg n d e p (some f.ulpMin)
    if sq.1 = 0 then (signed f neg 0, { unf := true }) else (encodeExact f neg sq.1 sq.2, {})

/-- A conversion of a value to a format (R75): NaN, infinity, overflow and flush; the flags of the source (NANIN, DNI) are raised where it is read. -/
def convertVal (f : Fmt) (mode : Rnd) (sat : Bool) : Val → Nat × FpFlags
  | .nan => (f.nanCode, {})
  | .inf s => if f.hasInf then (signed f s f.infCode, {}) else (f.nanCode, { inv := true })
  | .fin s m e => packRat f false (.convert sat) mode s m 1 e

/-- The result of an arithmetic operation as a binary32 code (R79); strict mode keeps subnormals (R73). -/
def packArith (strict : Bool) (mode : Rnd) : Val → Nat × FpFlags
  | .nan => (Fmt.nanCode .binary32, {})
  | .inf s => (signed .binary32 s (Fmt.infCode .binary32), {})
  | .fin s m e => packRat .binary32 strict .arith mode s m 1 e

/-- The negation of a value. -/
def Val.neg : Val → Val
  | .nan => .nan
  | .inf s => .inf (!s)
  | .fin s m e => .fin (!s) m e

/-- The exact product; 0 × ∞ is invalid (R79). -/
def mulVal : Val → Val → Val × FpFlags
  | .nan, _ => (.nan, {})
  | _, .nan => (.nan, {})
  | .inf s, .inf t => (.inf (s != t), {})
  | .inf s, .fin t m _ => if m = 0 then (.nan, { inv := true }) else (.inf (s != t), {})
  | .fin s m _, .inf t => if m = 0 then (.nan, { inv := true }) else (.inf (s != t), {})
  | .fin s m e, .fin t n x => (.fin (s != t) (m * n) (e + x), {})

/-- The exact sum; ∞ - ∞ is invalid, and an exact zero of unlike signs is +0, or -0 toward -∞ (R79). -/
def addVal (mode : Rnd) : Val → Val → Val × FpFlags
  | .nan, _ => (.nan, {})
  | _, .nan => (.nan, {})
  | .inf s, .inf t => if s = t then (.inf s, {}) else (.nan, { inv := true })
  | .inf s, _ => (.inf s, {})
  | _, .inf t => (.inf t, {})
  | .fin s m e, .fin t n x =>
    let k := min e x
    let a : Int := (m * 2 ^ (e - k).toNat : Nat)
    let b : Int := (n * 2 ^ (x - k).toNat : Nat)
    let v := (if s then -a else a) + (if t then -b else b)
    if v = 0 then
      (.fin (if s = t then s else decide (mode = .rdn)) 0 0, {})
    else (.fin (decide (v < 0)) v.natAbs k, {})

/-- Fused multiply-add of three codes in binary32, rounded once (R79). -/
def fmaCode (strict : Bool) (mode : Rnd) (negProd : Bool) (a b c : Nat) : Nat × FpFlags :=
  let ra := readFp .binary32 strict a
  let rb := readFp .binary32 strict b
  let rc := readFp .binary32 strict c
  let p := mulVal ra.1 rb.1
  let q := addVal mode (if negProd then p.1.neg else p.1) rc.1
  let r := packArith strict mode q.1
  (r.1, orFlags [ra.2, rb.2, rc.2, p.2, q.2, r.2])

/-- Sum of two codes in binary32 (R79). -/
def addCode (strict : Bool) (mode : Rnd) (a b : Nat) : Nat × FpFlags :=
  let ra := readFp .binary32 strict a
  let rb := readFp .binary32 strict b
  let q := addVal mode ra.1 rb.1
  let r := packArith strict mode q.1
  (r.1, orFlags [ra.2, rb.2, q.2, r.2])

/-- Product of two codes in binary32 (R79). -/
def mulCode (strict : Bool) (mode : Rnd) (a b : Nat) : Nat × FpFlags :=
  let ra := readFp .binary32 strict a
  let rb := readFp .binary32 strict b
  let q := mulVal ra.1 rb.1
  let r := packArith strict mode q.1
  (r.1, orFlags [ra.2, rb.2, q.2, r.2])

/-- A binary32 code with its sign inverted, as a number is negated bit by bit. -/
def flipSign (a : Nat) : Nat := if bit a 31 then a - 2 ^ 31 else a + 2 ^ 31

/-- The value of a T4B element code (R69), in halves: (negative, twice the magnitude). -/
def t4bElem (code : Nat) : Bool × Nat :=
  (bit code 3, [0, 1, 2, 3, 4, 6, 8, 12].getD (code % 8) 0)

/-- The value of a T4B scale code as m × 2^e; none for the NaN scale 0xFF (R69). -/
def t4bScale (code : Nat) : Option (Nat × Int) :=
  if code = 0xFF then none
  else if code / 8 = 0 then some (code % 8, -17)
  else some (8 + code % 8, (code / 8 : Int) - 18)

/-- The value of element code `c` under scale code `sc` (R69). -/
def t4bVal (sc c : Nat) : Val :=
  match t4bScale sc with
  | none => .nan
  | some (m, e) => .fin (t4bElem c).1 ((t4bElem c).2 * m) (e - 1)

/-- The element code of twice-magnitude h (R69). -/
def t4bCode (neg : Bool) (h : Nat) : Nat :=
  b2n neg * 8 + (if h ≤ 4 then h else if h = 6 then 5 else if h = 8 then 6 else 7)

/-- The scale code of R86 step 3 for the largest magnitude a = m × 2^e > 0. -/
def t4bPickScale (m : Nat) (e : Int) : Nat :=
  let tq := roundRat .rup false m 6 e 4 (some (-17))
  if leMag tq.1 tq.2 7 14 then
    (if leMag 8 (-17) tq.1 tq.2 then
      let x := (Nat.log2 tq.1 : Int) + tq.2
      (x + 15).toNat * 8 + (inUnits tq.1 tq.2 (x - 3) - 8)
    else inUnits tq.1 tq.2 (-17))
  else 0xFE

/-- One element of R86 steps 4 and 5: x / s rounded onto the element grid, clamped to ±6 on overflow; UNF when a nonzero value becomes zero (R72). -/
def t4bPickElem (sc : Nat) (neg : Bool) (m : Nat) (e : Int) : Nat × FpFlags :=
  match t4bScale sc with
  | none => (0, {})
  | some (sm, se) =>
    if m = 0 then (t4bCode neg 0, {}) else
    let tq := roundRat .rne neg m sm (e - se) 2 (some (-1))
    if leMag tq.1 tq.2 6 0 then
      let h := inUnits tq.1 tq.2 (-1)
      (t4bCode neg h, { unf := decide (h = 0) })
    else (t4bCode neg 12, { ovf := true })

/-- The larger of two magnitudes of finite values. -/
def maxMag (a b : Nat × Int) : Nat × Int := if leMag a.1 a.2 b.1 b.2 then b else a

/-- A block of 16 values as T4B (R75, R86): element codes, scale code, flags. -/
def packT4B (vals : List Val) : List Nat × Nat × FpFlags :=
  if vals.any (fun v => decide (v = .nan)) then
    (vals.map (fun _ => 0), 0xFF,
      { nanin := true, inv := vals.any (fun v => match v with | .inf _ => true | _ => false) })
  else if vals.any (fun v => match v with | .inf _ => true | _ => false) then
    (vals.map (fun _ => 0), 0xFF, { inv := true })
  else
    let a := vals.foldl (fun acc v => match v with | .fin _ m e => maxMag acc (m, e) | _ => acc) (0, (0 : Int))
    if a.1 = 0 then
      (vals.map (fun v => match v with | .fin s _ _ => t4bCode s 0 | _ => 0), 0, {})
    else
      let sc := t4bPickScale a.1 a.2
      let r := vals.map (fun v => match v with | .fin s m e => t4bPickElem sc s m e | _ => (0, {}))
      (r.map Prod.fst, sc, orFlags (r.map Prod.snd))

/-- The rounding mode of an RND code (R76); stochastic rounding takes the draw r. -/
def rndOf (code r : Nat) : Rnd :=
  match code with
  | 0 => .rne
  | 1 => .rtz
  | 2 => .rdn
  | 3 => .rup
  | _ => .sr r

/-- The base of a program's draws: seed, logical core number, program index (R78). -/
def srBaseOf (seed lc k : Nat) : Nat := (seed + 0x9E3779B9 * lc + 0x632BE5AB * k) % 2 ^ 32

/-- The draw r of R78 for SR counter `cnt`. -/
def srDrawAt (base cnt : Nat) : Nat :=
  let w := 2 ^ 32
  let x := Nat.xor base (cnt * 0x9E3779B9 % w)
  let x := Nat.xor x (x / 2 ^ 16)
  let x := x * 0x7FEB352D % w
  let x := Nat.xor x (x / 2 ^ 15)
  let x := x * 0x846CA68B % w
  let x := Nat.xor x (x / 2 ^ 16)
  x / 2 ^ 8

end Sys2Proof.Machine
end

