-- ==== Sys2Proof/Machine/RegTypes.lean ====
section
/-! DEFINITION. What a register, a field and an access code are (R10, R11, R14), and the kinds of page (R400). -/
namespace Sys2Proof.Machine

/-- The access codes of R11. -/
inductive Acc where
  | rw | ro | wo | w1c | w1s | rc | rw1 | stg | rsv
  deriving DecidableEq, Repr

/-- The entries of a Reset column (R14). -/
inductive RVal where
  /-- a stated value -/
  | val (n : Nat)
  /-- undefined -/
  | undef
  /-- loaded from fuses or the flash fuse overlay -/
  | fuse
  /-- held across every reset except loss of VSB -/
  | held
  deriving DecidableEq, Repr

/-- One row of a register table; `range` bounds the values a write may carry, where the spec says that others are ignored. -/
structure RField where
  lsb : Nat
  width : Nat
  acc : Acc
  rst : RVal
  range : Option (Nat × Nat)
  deriving DecidableEq, Repr

/-- One register, or `copies` of it `stride` bytes apart. -/
structure RegDesc where
  off : Nat
  stride : Nat
  copies : Nat
  fields : List RField
  deriving DecidableEq, Repr

/-- The page types of R400. -/
inductive PageKind where
  | ident | timebase | orbit | power | thermal | bringup | reliability | security | mailbox
  | die | queue | event | cluster | core | halyard | link | hostPort | partition | moonlet
  deriving DecidableEq, Repr

/-- A named field: the BAR0 address of its register, its lowest bit and its width. -/
structure Fld where
  addr : Nat
  lsb : Nat
  width : Nat
  deriving DecidableEq, Repr

end Sys2Proof.Machine
end

