-- ==== Sys2Proof/Machine/RegFields.lean ====
section
/-! DEFINITION. Every register field of the spec by its own name: REGISTER_FIELD, with the instance and the array index as arguments (addresses by R398 and R399). -/
namespace Sys2Proof.Machine.F
def G_PART_ID_GRADE : Fld := ⟨0x100, 0, 4⟩
def G_PART_ID_STEPPING : Fld := ⟨0x100, 4, 8⟩
def G_PART_ID_FAMILY : Fld := ⟨0x100, 12, 20⟩
def G_STRAPS_GCOMPAT : Fld := ⟨0x104, 0, 1⟩
def G_STRAPS_IO_OK : Fld := ⟨0x104, 1, 1⟩
def G_CORES_ACTIVE : Fld := ⟨0x108, 0, 11⟩
def G_CORES_ECLIPSED : Fld := ⟨0x108, 11, 11⟩
def G_SERIAL (i : Nat) : Fld := ⟨0x110 + 0x4 * i, 0, 32⟩
def G_DIESER (i : Nat) : Fld := ⟨0x120 + 0x4 * i, 0, 32⟩
def G_SCRATCH (i : Nat) : Fld := ⟨0x160 + 0x4 * i, 0, 32⟩
def TIM_CTRL_PPS_EN : Fld := ⟨0x1100, 0, 1⟩
def TIM_CTRL_SEC_LOAD : Fld := ⟨0x1100, 1, 1⟩
def TIM_STATUS_SEC_SRC : Fld := ⟨0x1104, 0, 2⟩
def TIM_FLAGS_PPS_EARLY : Fld := ⟨0x1108, 0, 1⟩
def TIM_FLAGS_PPS_MISS : Fld := ⟨0x1108, 1, 1⟩
def TIM_FLAGS_PPS_ACQ : Fld := ⟨0x1108, 2, 1⟩
def TIM_FLAGS_SEC_LOADED : Fld := ⟨0x1108, 3, 1⟩
def TIM_PPS_CYCLES_CYCLES : Fld := ⟨0x110C, 0, 32⟩
def TIM_SEC_SET_LO_SEC : Fld := ⟨0x1110, 0, 32⟩
def TIM_SEC_SET_HI_SEC : Fld := ⟨0x1114, 0, 32⟩
def TIM_ORBIT_LO_ORBIT : Fld := ⟨0x1120, 0, 32⟩
def TIM_ORBIT_HI_ORBIT : Fld := ⟨0x1124, 0, 32⟩
def TIM_SEC_LO_SEC : Fld := ⟨0x1128, 0, 32⟩
def TIM_SEC_HI_SEC : Fld := ⟨0x112C, 0, 32⟩
def TIM_NS_NS : Fld := ⟨0x1130, 0, 30⟩
def TIM_TICK_SEC_LO_SEC : Fld := ⟨0x1134, 0, 32⟩
def TIM_TICK_NS_NS : Fld := ⟨0x1138, 0, 30⟩
def ORB_CTRL_SRC : Fld := ⟨0x2100, 0, 2⟩
def ORB_CTRL_RUN : Fld := ⟨0x2100, 2, 1⟩
def ORB_PERIOD_PERIOD_US : Fld := ⟨0x2104, 0, 14⟩
def ORB_OTICK_TOL_TOL_US : Fld := ⟨0x2108, 0, 8⟩
def ORB_SERVICE_LEN_US : Fld := ⟨0x210C, 0, 9⟩
def ORB_STATUS_ACTIVE_SRC : Fld := ⟨0x2110, 0, 1⟩
def ORB_STATUS_RELOCKING : Fld := ⟨0x2110, 1, 1⟩
def ORB_FLAGS_OTICK_EARLY : Fld := ⟨0x2114, 0, 1⟩
def ORB_FLAGS_OTICK_MISS : Fld := ⟨0x2114, 1, 1⟩
def ORB_FLAGS_FALLBACK : Fld := ⟨0x2114, 2, 1⟩
def ORB_FLAGS_RELOCK : Fld := ⟨0x2114, 3, 1⟩
def ORB_FLAGS_ACT_LATE : Fld := ⟨0x2114, 4, 1⟩
def ORB_FLAGS_ACT_BADTGT : Fld := ⟨0x2114, 5, 1⟩
def ORB_FLAGS_COUNT_LOADED : Fld := ⟨0x2114, 6, 1⟩
def ORB_MISS_COUNT_COUNT : Fld := ⟨0x2118, 0, 16⟩
def ORB_EARLY_COUNT_COUNT : Fld := ⟨0x211C, 0, 16⟩
def ORB_COUNT_SET_LO_ORBIT : Fld := ⟨0x2120, 0, 32⟩
def ORB_COUNT_SET_HI_ORBIT : Fld := ⟨0x2124, 0, 32⟩
def ORB_CMD_COUNT_LOAD : Fld := ⟨0x2128, 0, 1⟩
def ORB_OVERRUN_PART : Fld := ⟨0x212C, 0, 16⟩
def ORB_OVR_TICKS_COUNT : Fld := ⟨0x2130, 0, 32⟩
def ORB_ORBIT_LEN_LAST_LEN : Fld := ⟨0x2134, 0, 32⟩
def ORB_EN_CTRL_EN : Fld := ⟨0x2400, 0, 1⟩
def ORB_EN_CTRL_FILL_EN : Fld := ⟨0x2400, 1, 1⟩
def ORB_EN_CTRL_BALLAST_EN : Fld := ⟨0x2400, 2, 1⟩
def ORB_EN_LOW_E : Fld := ⟨0x2404, 0, 20⟩
def ORB_EN_HIGH_E : Fld := ⟨0x2408, 0, 20⟩
def ORB_EN_RAMP_E : Fld := ⟨0x240C, 0, 20⟩
def ORB_PPL_WATTS : Fld := ⟨0x2410, 0, 12⟩
def ORB_EN_ORDER_ORDER : Fld := ⟨0x2414, 0, 6⟩
def ORB_EN_BKMAX_CAP : Fld := ⟨0x2418, 0, 4⟩
def ORB_PCAP_CFG_BKCAP : Fld := ⟨0x241C, 0, 4⟩
def ORB_EN_STATUS_COMP : Fld := ⟨0x2420, 0, 4⟩
def ORB_EN_STATUS_FILL : Fld := ⟨0x2420, 4, 2⟩
def ORB_EN_STATUS_MEM : Fld := ⟨0x2420, 6, 3⟩
def ORB_EN_STATUS_LINKS : Fld := ⟨0x2420, 9, 3⟩
def ORB_EN_STATUS_PCAP : Fld := ⟨0x2420, 12, 1⟩
def ORB_EN_STATUS_PCAP_PIN : Fld := ⟨0x2420, 13, 1⟩
def ORB_EN_FLAGS_ABOVE : Fld := ⟨0x2424, 0, 1⟩
def ORB_EN_FLAGS_BELOW : Fld := ⟨0x2424, 1, 1⟩
def ORB_EN_FLAGS_RAMP : Fld := ⟨0x2424, 2, 1⟩
def ORB_EN_FLAGS_CAP_OVER : Fld := ⟨0x2424, 3, 1⟩
def ORB_EN_FLAGS_SHORT_OVER : Fld := ⟨0x2424, 4, 1⟩
def ORB_EN_FLAGS_LOW_YIELD : Fld := ⟨0x2424, 5, 1⟩
def ORB_EN_FLAGS_PCAP_ENTER : Fld := ⟨0x2424, 6, 1⟩
def ORB_EN_FLAGS_PCAP_EXIT : Fld := ⟨0x2424, 7, 1⟩
def ORB_EN_FLAGS_FREQ_DEFER : Fld := ⟨0x2424, 8, 1⟩
def ORB_EN_ORBIT_LO_ORBIT : Fld := ⟨0x2428, 0, 32⟩
def ORB_EN_RAW_E : Fld := ⟨0x242C, 0, 24⟩
def ORB_EN_NORM_E : Fld := ⟨0x2430, 0, 24⟩
def ORB_EN_LINKS_E : Fld := ⟨0x2434, 0, 24⟩
def ORB_EN_MEM_E : Fld := ⟨0x2438, 0, 24⟩
def ORB_EN_COMP_E : Fld := ⟨0x243C, 0, 24⟩
def ORB_EN_BK_E : Fld := ⟨0x2440, 0, 24⟩
def ORB_EN_LIM_HIGH_E : Fld := ⟨0x2444, 0, 20⟩
def ORB_EN_LIM_LOW_E : Fld := ⟨0x2448, 0, 20⟩
def ORB_EN_LIM_LOW_OFF : Fld := ⟨0x2448, 20, 1⟩
def ORB_EN_PEAK_WATTS : Fld := ⟨0x244C, 0, 12⟩
def ORB_EN_TOTAL_LO : Fld := ⟨0x2450, 0, 32⟩
def ORB_EN_TOTAL_HI : Fld := ⟨0x2454, 0, 32⟩
def ORB_EN_ABOVE_CNT_COUNT : Fld := ⟨0x2458, 0, 32⟩
def ORB_EN_BELOW_CNT_COUNT : Fld := ⟨0x245C, 0, 32⟩
def ORB_ACT_ORBIT_LO_ORBIT (i : Nat) : Fld := ⟨0x2800 + 0x20 * i, 0, 32⟩
def ORB_ACT_ORBIT_HI_ORBIT (i : Nat) : Fld := ⟨0x2804 + 0x20 * i, 0, 32⟩
def ORB_ACT_TARGET_OFFSET (i : Nat) : Fld := ⟨0x2808 + 0x20 * i, 2, 26⟩
def ORB_ACT_VALUE_VALUE (i : Nat) : Fld := ⟨0x280C + 0x20 * i, 0, 32⟩
def ORB_ACT_MASK_MASK (i : Nat) : Fld := ⟨0x2810 + 0x20 * i, 0, 32⟩
def ORB_ACT_CTRL_ARM (i : Nat) : Fld := ⟨0x2814 + 0x20 * i, 0, 1⟩
def ORB_ACT_CTRL_STATE (i : Nat) : Fld := ⟨0x2814 + 0x20 * i, 1, 3⟩
def ORB_ACT_FIRED_LO_ORBIT (i : Nat) : Fld := ⟨0x2818 + 0x20 * i, 0, 32⟩
def PWR_STATUS_WARN : Fld := ⟨0x3100, 0, 1⟩
def PWR_STATUS_DIV : Fld := ⟨0x3100, 1, 1⟩
def PWR_STATUS_QUALIFYING : Fld := ⟨0x3100, 2, 1⟩
def PWR_STATUS_QUALIFIED : Fld := ⟨0x3100, 3, 1⟩
def PWR_STATUS_WAVE : Fld := ⟨0x3100, 4, 5⟩
def PWR_STATUS_WAVE_HELD : Fld := ⟨0x3100, 9, 1⟩
def PWR_VIN_01_F0 : Fld := ⟨0x3104, 0, 12⟩
def PWR_VIN_01_F1 : Fld := ⟨0x3104, 16, 12⟩
def PWR_VIN_23_F2 : Fld := ⟨0x3108, 0, 12⟩
def PWR_VIN_23_F3 : Fld := ⟨0x3108, 16, 12⟩
def PWR_IIN_01_F0 : Fld := ⟨0x310C, 0, 12⟩
def PWR_IIN_01_F1 : Fld := ⟨0x310C, 16, 12⟩
def PWR_IIN_23_F2 : Fld := ⟨0x3110, 0, 12⟩
def PWR_IIN_23_F3 : Fld := ⟨0x3110, 16, 12⟩
def PWR_VIN_DIP_DEPTH : Fld := ⟨0x3114, 0, 11⟩
def PWR_WARN_COUNT_COUNT : Fld := ⟨0x3118, 0, 32⟩
def PWR_DIV_US_COUNT : Fld := ⟨0x311C, 0, 32⟩
def PWR_LASTFAULT_SITE : Fld := ⟨0x3120, 0, 16⟩
def PWR_LASTFAULT_CAUSE : Fld := ⟨0x3120, 16, 4⟩
def PWR_LASTFAULT_DETAIL : Fld := ⟨0x3120, 20, 1⟩
def PWR_LASTFAULT_WHERE : Fld := ⟨0x3120, 21, 3⟩
def PWR_LASTFAULT_ORB_ORBIT : Fld := ⟨0x3124, 0, 32⟩
def PWR_CRACK_CFG_SUSPECT_MV : Fld := ⟨0x3128, 0, 8⟩
def PWR_CRACK_CFG_SEVERE_MV : Fld := ⟨0x3128, 8, 8⟩
def PWR_CRACK_LAST_SITE : Fld := ⟨0x312C, 0, 16⟩
def PWR_CRACK_LAST_LAYER : Fld := ⟨0x312C, 16, 3⟩
def PWR_CRACK_LAST_SEVERE : Fld := ⟨0x312C, 19, 1⟩
def PWR_CRACK_LAST_DROP_MV : Fld := ⟨0x312C, 20, 8⟩
def PWR_CRACK_COUNT_COUNT : Fld := ⟨0x3130, 0, 32⟩
def PWR_TOWER_FAULT_FAB : Fld := ⟨0x3134, 0, 4⟩
def PWR_TOWER_FAULT_FIELD : Fld := ⟨0x3134, 4, 4⟩
def PWR_DRAM_FAULT (i : Nat) : Fld := ⟨0x3138 + 0x4 * i, 0, 32⟩
def PWR_CLU_LATCH (i : Nat) : Fld := ⟨0x3140 + 0x4 * i, 0, 32⟩
def PWR_SITE_LATCH (i : Nat) : Fld := ⟨0x3200 + 0x4 * i, 0, 32⟩
def THM_STATUS_LTHR : Fld := ⟨0x4100, 0, 4⟩
def THM_STATUS_DTHR : Fld := ⟨0x4100, 4, 4⟩
def THM_STATUS_TRIP : Fld := ⟨0x4100, 8, 1⟩
def THM_STATUS_FCAST_VALID : Fld := ⟨0x4100, 9, 1⟩
def THM_MAX_A (i : Nat) : Fld := ⟨0x4110 + 0x4 * i, 0, 12⟩
def THM_MAX_B (i : Nat) : Fld := ⟨0x4110 + 0x4 * i, 16, 12⟩
def THM_CAP_A (i : Nat) : Fld := ⟨0x4120 + 0x4 * i, 0, 12⟩
def THM_CAP_B (i : Nat) : Fld := ⟨0x4120 + 0x4 * i, 16, 12⟩
def THM_FCAST_A (i : Nat) : Fld := ⟨0x4130 + 0x4 * i, 0, 12⟩
def THM_FCAST_B (i : Nat) : Fld := ⟨0x4130 + 0x4 * i, 16, 12⟩
def THM_COOL_CFG_T_BASE : Fld := ⟨0x4140, 0, 8⟩
def THM_COOL_CFG_T_FULL : Fld := ⟨0x4140, 8, 8⟩
def THM_COOL_CFG_MIN_DUTY : Fld := ⟨0x4140, 16, 7⟩
def THM_COOL_DUTY_DUTY : Fld := ⟨0x4144, 0, 7⟩
def THM_COOL_DUTY_HW_FULL : Fld := ⟨0x4144, 7, 1⟩
def THM_TRIP_CAUSE_WHERE : Fld := ⟨0x4148, 0, 16⟩
def THM_TRIP_CAUSE_KIND : Fld := ⟨0x4148, 16, 2⟩
def THM_PLAN_BASE_LO_ADDR (i : Nat) : Fld := ⟨0x4200 + 0x10 * i, 3, 29⟩
def THM_PLAN_BASE_HI_ADDR (i : Nat) : Fld := ⟨0x4204 + 0x10 * i, 0, 16⟩
def THM_PLAN_START_START (i : Nat) : Fld := ⟨0x4208 + 0x10 * i, 0, 32⟩
def THM_PLAN_CNT_COUNT (i : Nat) : Fld := ⟨0x420C + 0x10 * i, 0, 16⟩
def THM_PLAN_CNT_REPEAT (i : Nat) : Fld := ⟨0x420C + 0x10 * i, 16, 1⟩
def THM_PLAN_CNT_EN (i : Nat) : Fld := ⟨0x420C + 0x10 * i, 17, 1⟩
def THM_DRAM_A (i : Nat) : Fld := ⟨0x4400 + 0x4 * i, 0, 12⟩
def THM_DRAM_B (i : Nat) : Fld := ⟨0x4400 + 0x4 * i, 16, 12⟩
def G_BOOT_STATE_STATE : Fld := ⟨0x5100, 0, 4⟩
def G_BOOT_STATE_QUICK : Fld := ⟨0x5100, 4, 1⟩
def G_BOOT_STATE_DRAM_KEPT : Fld := ⟨0x5100, 5, 4⟩
def G_BOOT_CAUSE_CAUSE : Fld := ⟨0x5104, 0, 4⟩
def G_BOOT_CAUSE_FAIL : Fld := ⟨0x5104, 4, 4⟩
def G_BOOT_TIME_MS : Fld := ⟨0x5108, 0, 16⟩
def G_BOOT_CMD_RESET_ALL : Fld := ⟨0x510C, 0, 1⟩
def G_BOOT_CMD_SHUTDOWN : Fld := ⟨0x510C, 1, 1⟩
def G_BOOT_CMD_FORCE_COLD : Fld := ⟨0x510C, 2, 1⟩
def G_BOOT_CMD_ENS_RESET_A : Fld := ⟨0x510C, 3, 1⟩
def G_BOOT_CMD_ENS_RESET_B : Fld := ⟨0x510C, 4, 1⟩
def G_SD_STATUS_STATUS : Fld := ⟨0x5110, 0, 4⟩
def G_SD_STATUS_SLICES : Fld := ⟨0x5110, 4, 8⟩
def G_SD_STATUS_FAILS : Fld := ⟨0x5110, 12, 8⟩
def G_QS_STATUS_FOUND : Fld := ⟨0x5114, 0, 1⟩
def G_QS_STATUS_USED : Fld := ⟨0x5114, 1, 1⟩
def G_QS_STATUS_REASON : Fld := ⟨0x5114, 2, 3⟩
def G_QS_STATUS_FORCE_COLD : Fld := ⟨0x5114, 5, 1⟩
def G_QS_STATUS_DIES_COLD : Fld := ⟨0x5114, 6, 4⟩
def G_QS_STATUS_LINKS_COLD : Fld := ⟨0x5114, 10, 6⟩
def G_QS_STATUS_PORTS_COLD : Fld := ⟨0x5114, 16, 11⟩
def G_QS_SEQ_SEQ : Fld := ⟨0x5118, 0, 32⟩
def G_REL_STATUS_ENS_A : Fld := ⟨0x6100, 0, 1⟩
def G_REL_STATUS_ENS_B : Fld := ⟨0x6100, 1, 1⟩
def G_REL_STATUS_ACTIVE : Fld := ⟨0x6100, 2, 1⟩
def G_REL_STATUS_STEWARD : Fld := ⟨0x6100, 3, 4⟩
def G_REL_STATUS_STEWARDLESS : Fld := ⟨0x6100, 7, 4⟩
def G_REL_STATUS_TOWER_LOST : Fld := ⟨0x6100, 11, 4⟩
def G_REL_STATUS_REF0_OK : Fld := ⟨0x6100, 15, 1⟩
def G_REL_STATUS_REF1_OK : Fld := ⟨0x6100, 16, 1⟩
def G_REL_FAILOVERS_COUNT : Fld := ⟨0x6104, 0, 32⟩
def G_CLKSEL_PREF : Fld := ⟨0x6108, 0, 1⟩
def G_CLKSEL_CUR : Fld := ⟨0x6108, 1, 4⟩
def G_CLKSEL_CUR_IO : Fld := ⟨0x6108, 5, 2⟩
def G_SCRUB_HOURS : Fld := ⟨0x610C, 0, 8⟩
def G_CE_COUNT_COUNT : Fld := ⟨0x6110, 0, 32⟩
def G_UE_COUNT_COUNT : Fld := ⟨0x6114, 0, 32⟩
def G_ELOG_WR_COUNT : Fld := ⟨0x6118, 0, 32⟩
def G_ELOG_RD_COUNT : Fld := ⟨0x611C, 0, 32⟩
def G_ELOG_LOST_COUNT : Fld := ⟨0x6120, 0, 32⟩
def G_FLIP_CTRL_ARM : Fld := ⟨0x6130, 0, 1⟩
def G_FLIP_CTRL_UNIT : Fld := ⟨0x6130, 1, 2⟩
def G_FLIP_CTRL_BYTE : Fld := ⟨0x6130, 3, 7⟩
def G_FLIP_CTRL_MASK : Fld := ⟨0x6130, 10, 12⟩
def G_FLIP_CTRL_DONE : Fld := ⟨0x6130, 22, 1⟩
def G_FLIP_ADDR_LO_ADDR : Fld := ⟨0x6134, 0, 32⟩
def G_FLIP_ADDR_HI_ADDR : Fld := ⟨0x6138, 0, 32⟩
def G_BIST_CMD_SCOPE : Fld := ⟨0x6140, 0, 2⟩
def G_BIST_CMD_INDEX : Fld := ⟨0x6140, 2, 6⟩
def G_BIST_CMD_GO : Fld := ⟨0x6140, 8, 1⟩
def G_BIST_STATUS_STATUS : Fld := ⟨0x6144, 0, 4⟩
def G_BIST_STATUS_FAILS : Fld := ⟨0x6144, 4, 12⟩
def G_BIST_STATUS_MS : Fld := ⟨0x6144, 16, 16⟩
def G_ELOG_REC0 (i : Nat) : Fld := ⟨0x6800 + 0x10 * i, 0, 32⟩
def G_ELOG_REC1 (i : Nat) : Fld := ⟨0x6804 + 0x10 * i, 0, 32⟩
def G_ELOG_REC2 (i : Nat) : Fld := ⟨0x6808 + 0x10 * i, 0, 32⟩
def G_ELOG_REC3 (i : Nat) : Fld := ⟨0x680C + 0x10 * i, 0, 32⟩
def SEC_STATUS_KEY_LOADED : Fld := ⟨0x7100, 0, 1⟩
def SEC_STATUS_SEEDS_LOADED : Fld := ⟨0x7100, 1, 1⟩
def SEC_STATUS_SCAN : Fld := ⟨0x7100, 2, 2⟩
def SEC_STATUS_FW_A_AUTH : Fld := ⟨0x7100, 4, 1⟩
def SEC_STATUS_FW_B_AUTH : Fld := ⟨0x7100, 5, 1⟩
def SEC_SCAN_CMD_OPEN : Fld := ⟨0x7104, 0, 1⟩
def SEC_SCAN_INFO_SOURCE : Fld := ⟨0x7108, 0, 2⟩
def SEC_SCAN_INFO_REFUSED : Fld := ⟨0x7108, 2, 2⟩
def SEC_SCAN_INFO_ORBIT : Fld := ⟨0x7108, 4, 28⟩
def SEC_KEY_ID_ID : Fld := ⟨0x710C, 0, 32⟩
def SEC_SPDM_REQS_COUNT : Fld := ⟨0x7110, 0, 32⟩
def SEC_SPDM_ERRS_COUNT : Fld := ⟨0x7114, 0, 32⟩
def ENS_CMD_OP : Fld := ⟨0x8100, 0, 16⟩
def ENS_CMD_LEN : Fld := ⟨0x8100, 16, 11⟩
def ENS_CMD_GO : Fld := ⟨0x8100, 31, 1⟩
def ENS_STATUS_BUSY : Fld := ⟨0x8104, 0, 1⟩
def ENS_STATUS_READY : Fld := ⟨0x8104, 1, 1⟩
def ENS_STATUS_WHO : Fld := ⟨0x8104, 2, 1⟩
def ENS_STATUS_RESULT : Fld := ⟨0x8104, 4, 8⟩
def ENS_STATUS_RLEN : Fld := ⟨0x8104, 12, 11⟩
def ENS_DONE_COUNT : Fld := ⟨0x8108, 0, 32⟩
def ENS_FWVER_VERSION (i : Nat) : Fld := ⟨0x8110 + 0x4 * i, 0, 16⟩
def ENS_FWVER_SLOT (i : Nat) : Fld := ⟨0x8110 + 0x4 * i, 16, 1⟩
def ENS_DATA (i : Nat) : Fld := ⟨0x8400 + 0x4 * i, 0, 32⟩
def DIE_DLY_MESH_P50 (n : Nat) : Fld := ⟨0x10000 + 0x1000 * n + 0x180, 0, 8⟩
def DIE_DLY_MESH_P99 (n : Nat) : Fld := ⟨0x10000 + 0x1000 * n + 0x180, 8, 8⟩
def DIE_DLY_MESH_P9999 (n : Nat) : Fld := ⟨0x10000 + 0x1000 * n + 0x180, 16, 8⟩
def DIE_DLY_MESH_MAX (n : Nat) : Fld := ⟨0x10000 + 0x1000 * n + 0x180, 24, 8⟩
def DIE_DLY_SEAM_P50 (n : Nat) : Fld := ⟨0x10000 + 0x1000 * n + 0x184, 0, 8⟩
def DIE_DLY_SEAM_P99 (n : Nat) : Fld := ⟨0x10000 + 0x1000 * n + 0x184, 8, 8⟩
def DIE_DLY_SEAM_P9999 (n : Nat) : Fld := ⟨0x10000 + 0x1000 * n + 0x184, 16, 8⟩
def DIE_DLY_SEAM_MAX (n : Nat) : Fld := ⟨0x10000 + 0x1000 * n + 0x184, 24, 8⟩
def DIE_BK_TOKCAP_CAP (n : Nat) : Fld := ⟨0x10000 + 0x1000 * n + 0x200, 0, 4⟩
def DIE_BK_STATUS_ENG_TOK (n : Nat) : Fld := ⟨0x10000 + 0x1000 * n + 0x204, 0, 12⟩
def DIE_BK_STATUS_REF_TOK (n : Nat) : Fld := ⟨0x10000 + 0x1000 * n + 0x204, 12, 12⟩
def DIE_BK_WOVER_PART (n : Nat) : Fld := ⟨0x10000 + 0x1000 * n + 0x208, 0, 16⟩
def DIE_BK_WOVER_ORBIT_ORBIT (n : Nat) : Fld := ⟨0x10000 + 0x1000 * n + 0x20C, 0, 32⟩
def DIE_BK_PEAK_TOK (n : Nat) : Fld := ⟨0x10000 + 0x1000 * n + 0x210, 0, 12⟩
def DIE_FREQ_FSEL (n : Nat) : Fld := ⟨0x10000 + 0x1000 * n + 0x240, 0, 4⟩
def DIE_FREQ_CUR (n : Nat) : Fld := ⟨0x10000 + 0x1000 * n + 0x240, 4, 4⟩
def DIE_FREQ_CEIL_GOV (n : Nat) : Fld := ⟨0x10000 + 0x1000 * n + 0x240, 8, 4⟩
def DIE_FREQ_CEIL_THM (n : Nat) : Fld := ⟨0x10000 + 0x1000 * n + 0x240, 12, 4⟩
def DIE_FREQ_CEIL_FUSE (n : Nat) : Fld := ⟨0x10000 + 0x1000 * n + 0x240, 16, 4⟩
def DIE_FREQ_DEFER_COUNT (n : Nat) : Fld := ⟨0x10000 + 0x1000 * n + 0x244, 0, 32⟩
def DIE_ECL (n : Nat) (i : Nat) : Fld := ⟨0x10000 + 0x1000 * n + 0x300 + 0x4 * i, 0, 32⟩
def DIE_ECL_REL (n : Nat) (i : Nat) : Fld := ⟨0x10000 + 0x1000 * n + 0x340 + 0x4 * i, 0, 32⟩
def DIE_PFAIL (n : Nat) (i : Nat) : Fld := ⟨0x10000 + 0x1000 * n + 0x380 + 0x4 * i, 0, 32⟩
def DIE_GHOST_COUNT (n : Nat) : Fld := ⟨0x10000 + 0x1000 * n + 0x3C0, 0, 32⟩
def DIE_GHOST_LAST_SITE (n : Nat) : Fld := ⟨0x10000 + 0x1000 * n + 0x3C4, 0, 16⟩
def DIE_BRET (n : Nat) (i : Nat) : Fld := ⟨0x10000 + 0x1000 * n + 0x800 + 0x4 * i, 0, 32⟩
def QUE_BASE_LO_VA (n : Nat) (i : Nat) : Fld := ⟨0x40000 + 0x1000 * n + 0x800 + 0x20 * i, 7, 25⟩
def QUE_BASE_HI_VA (n : Nat) (i : Nat) : Fld := ⟨0x40000 + 0x1000 * n + 0x804 + 0x20 * i, 0, 16⟩
def QUE_CFG_EN (n : Nat) (i : Nat) : Fld := ⟨0x40000 + 0x1000 * n + 0x808 + 0x20 * i, 0, 1⟩
def QUE_CFG_LOG2 (n : Nat) (i : Nat) : Fld := ⟨0x40000 + 0x1000 * n + 0x808 + 0x20 * i, 1, 5⟩
def QUE_CFG_RING (n : Nat) (i : Nat) : Fld := ⟨0x40000 + 0x1000 * n + 0x808 + 0x20 * i, 8, 6⟩
def QUE_CFG_FN (n : Nat) (i : Nat) : Fld := ⟨0x40000 + 0x1000 * n + 0x808 + 0x20 * i, 16, 8⟩
def QUE_TAIL_COUNT (n : Nat) (i : Nat) : Fld := ⟨0x40000 + 0x1000 * n + 0x80C + 0x20 * i, 0, 32⟩
def QUE_HEAD_COUNT (n : Nat) (i : Nat) : Fld := ⟨0x40000 + 0x1000 * n + 0x810 + 0x20 * i, 0, 32⟩
def QUE_DONE_COUNT (n : Nat) (i : Nat) : Fld := ⟨0x40000 + 0x1000 * n + 0x814 + 0x20 * i, 0, 32⟩
def QUE_STATUS_STATE (n : Nat) (i : Nat) : Fld := ⟨0x40000 + 0x1000 * n + 0x818 + 0x20 * i, 0, 3⟩
def QUE_STATUS_ERR (n : Nat) (i : Nat) : Fld := ⟨0x40000 + 0x1000 * n + 0x818 + 0x20 * i, 8, 4⟩
def QUE_STATUS_RESUME (n : Nat) (i : Nat) : Fld := ⟨0x40000 + 0x1000 * n + 0x818 + 0x20 * i, 31, 1⟩
def QUE_LATE_COUNT (n : Nat) (i : Nat) : Fld := ⟨0x40000 + 0x1000 * n + 0x81C + 0x20 * i, 0, 32⟩
def EVT_CFG_EN (n : Nat) : Fld := ⟨0x80000 + 0x1000 * n + 0x100, 0, 1⟩
def EVT_CFG_DEV (n : Nat) : Fld := ⟨0x80000 + 0x1000 * n + 0x100, 1, 1⟩
def EVT_CFG_LOG2 (n : Nat) : Fld := ⟨0x80000 + 0x1000 * n + 0x100, 2, 5⟩
def EVT_CFG_FN (n : Nat) : Fld := ⟨0x80000 + 0x1000 * n + 0x100, 7, 8⟩
def EVT_CFG_VEC (n : Nat) : Fld := ⟨0x80000 + 0x1000 * n + 0x100, 15, 6⟩
def EVT_BASE_LO_ADDR (n : Nat) : Fld := ⟨0x80000 + 0x1000 * n + 0x104, 12, 20⟩
def EVT_BASE_HI_ADDR (n : Nat) : Fld := ⟨0x80000 + 0x1000 * n + 0x108, 0, 32⟩
def EVT_HEAD_COUNT (n : Nat) : Fld := ⟨0x80000 + 0x1000 * n + 0x10C, 0, 32⟩
def EVT_TAIL_COUNT (n : Nat) : Fld := ⟨0x80000 + 0x1000 * n + 0x110, 0, 32⟩
def EVT_PENDING_MASK (n : Nat) : Fld := ⟨0x80000 + 0x1000 * n + 0x114, 0, 16⟩
def EVT_FLOOD_COUNT (n : Nat) : Fld := ⟨0x80000 + 0x1000 * n + 0x118, 0, 32⟩
def EVT_IRQ_HOLDOFF_US (n : Nat) : Fld := ⟨0x80000 + 0x1000 * n + 0x11C, 0, 16⟩
def EVT_STAGED_COUNT (n : Nat) : Fld := ⟨0x80000 + 0x1000 * n + 0x120, 0, 5⟩
def CLU_MXCFG_SHAPE (n : Nat) : Fld := ⟨0x100000 + 0x1000 * n + 0x180, 0, 2⟩
def CLU_CC_CFG_DIRW (n : Nat) : Fld := ⟨0x100000 + 0x1000 * n + 0x200, 0, 2⟩
def CLU_CC_CMD_INVAL_RO (n : Nat) : Fld := ⟨0x100000 + 0x1000 * n + 0x204, 0, 1⟩
def CLU_CC_CMD_WB_ALL (n : Nat) : Fld := ⟨0x100000 + 0x1000 * n + 0x204, 1, 1⟩
def CLU_CC_STATUS_BUSY (n : Nat) : Fld := ⟨0x100000 + 0x1000 * n + 0x208, 0, 1⟩
def CLU_CC_STATUS_GCOMPAT (n : Nat) : Fld := ⟨0x100000 + 0x1000 * n + 0x208, 1, 1⟩
def CLU_CC_STATUS_DIRW_PENDING (n : Nat) : Fld := ⟨0x100000 + 0x1000 * n + 0x208, 2, 1⟩
def CLU_CC_LD_LOOK_COUNT (n : Nat) : Fld := ⟨0x100000 + 0x1000 * n + 0x20C, 0, 32⟩
def CLU_CC_LD_HIT_COUNT (n : Nat) : Fld := ⟨0x100000 + 0x1000 * n + 0x210, 0, 32⟩
def CLU_CC_PF_LOOK_COUNT (n : Nat) : Fld := ⟨0x100000 + 0x1000 * n + 0x214, 0, 32⟩
def CLU_CC_PF_HIT_COUNT (n : Nat) : Fld := ⟨0x100000 + 0x1000 * n + 0x218, 0, 32⟩
def CLU_CC_COH_LOOK_COUNT (n : Nat) : Fld := ⟨0x100000 + 0x1000 * n + 0x21C, 0, 32⟩
def CLU_CC_COH_HIT_COUNT (n : Nat) : Fld := ⟨0x100000 + 0x1000 * n + 0x220, 0, 32⟩
def CLU_CC_MERGED_COUNT (n : Nat) : Fld := ⟨0x100000 + 0x1000 * n + 0x224, 0, 32⟩
def CLU_CC_GSTALL_COUNT (n : Nat) : Fld := ⟨0x100000 + 0x1000 * n + 0x228, 0, 32⟩
def CLU_CC_WB_COUNT (n : Nat) : Fld := ⟨0x100000 + 0x1000 * n + 0x22C, 0, 32⟩
def CLU_CC_RECALL_COUNT (n : Nat) : Fld := ⟨0x100000 + 0x1000 * n + 0x230, 0, 32⟩
def CLU_CC_DIR_EVICT_COUNT (n : Nat) : Fld := ⟨0x100000 + 0x1000 * n + 0x234, 0, 32⟩
def CLU_PSTATE_VSEL (n : Nat) : Fld := ⟨0x100000 + 0x1000 * n + 0x280, 0, 7⟩
def CLU_PSTATE_EXTRA (n : Nat) : Fld := ⟨0x100000 + 0x1000 * n + 0x280, 8, 4⟩
def CLU_PSTATE_SLEWING (n : Nat) : Fld := ⟨0x100000 + 0x1000 * n + 0x280, 12, 1⟩
def CLU_VMIN (n : Nat) (i : Nat) : Fld := ⟨0x100000 + 0x1000 * n + 0x284 + 0x4 * i, 0, 32⟩
def CLU_SPARE_CMD (n : Nat) : Fld := ⟨0x100000 + 0x1000 * n + 0x2C0, 0, 2⟩
def CLU_SPARE_ASSIGNED (n : Nat) : Fld := ⟨0x100000 + 0x1000 * n + 0x2C0, 8, 1⟩
def CLU_SPARE_BUSY (n : Nat) : Fld := ⟨0x100000 + 0x1000 * n + 0x2C0, 9, 1⟩
def CLU_SPARE_RESULT (n : Nat) : Fld := ⟨0x100000 + 0x1000 * n + 0x2C0, 10, 3⟩
def CORE_SITE_SITE (n : Nat) : Fld := ⟨0x200000 + 0x1000 * n + 0x100, 0, 16⟩
def CORE_SITE_ROLE (n : Nat) : Fld := ⟨0x200000 + 0x1000 * n + 0x100, 16, 2⟩
def CORE_SITE_FUSED_ACTIVE (n : Nat) : Fld := ⟨0x200000 + 0x1000 * n + 0x100, 18, 1⟩
def CORE_SITE_ASSIGNED (n : Nat) : Fld := ⟨0x200000 + 0x1000 * n + 0x100, 19, 1⟩
def CORE_SITE_SIDE (n : Nat) : Fld := ⟨0x200000 + 0x1000 * n + 0x100, 20, 1⟩
def CORE_LS_SPLIT_L1 (n : Nat) : Fld := ⟨0x200000 + 0x1000 * n + 0x104, 0, 3⟩
def CORE_VOY_LCORE_LCORE (n : Nat) : Fld := ⟨0x200000 + 0x1000 * n + 0x108, 0, 10⟩
def CORE_VOY_SEED_SEED (n : Nat) : Fld := ⟨0x200000 + 0x1000 * n + 0x10C, 0, 32⟩
def CORE_VOY_TABLE_LO_ADDR (n : Nat) : Fld := ⟨0x200000 + 0x1000 * n + 0x110, 6, 26⟩
def CORE_VOY_TABLE_HI_ADDR (n : Nat) : Fld := ⟨0x200000 + 0x1000 * n + 0x114, 0, 32⟩
def CORE_VOY_PROGS_COUNT (n : Nat) : Fld := ⟨0x200000 + 0x1000 * n + 0x118, 0, 16⟩
def CORE_VOY_PROGS_REPEAT (n : Nat) : Fld := ⟨0x200000 + 0x1000 * n + 0x118, 16, 1⟩
def CORE_VOY_LAUNCH_LO_ORBIT (n : Nat) : Fld := ⟨0x200000 + 0x1000 * n + 0x11C, 0, 32⟩
def CORE_VOY_LAUNCH_HI_ORBIT (n : Nat) : Fld := ⟨0x200000 + 0x1000 * n + 0x120, 0, 32⟩
def CORE_VOY_CMD_LAUNCH (n : Nat) : Fld := ⟨0x200000 + 0x1000 * n + 0x124, 0, 1⟩
def CORE_VOY_CMD_ABORT (n : Nat) : Fld := ⟨0x200000 + 0x1000 * n + 0x124, 1, 1⟩
def CORE_PROG_K_K (n : Nat) : Fld := ⟨0x200000 + 0x1000 * n + 0x128, 0, 32⟩
def CORE_PC_PC (n : Nat) : Fld := ⟨0x200000 + 0x1000 * n + 0x12C, 0, 12⟩
def CORE_FPFLAGS_INV (n : Nat) : Fld := ⟨0x200000 + 0x1000 * n + 0x130, 0, 1⟩
def CORE_FPFLAGS_OVF (n : Nat) : Fld := ⟨0x200000 + 0x1000 * n + 0x130, 1, 1⟩
def CORE_FPFLAGS_UNF (n : Nat) : Fld := ⟨0x200000 + 0x1000 * n + 0x130, 2, 1⟩
def CORE_FPFLAGS_DNI (n : Nat) : Fld := ⟨0x200000 + 0x1000 * n + 0x130, 3, 1⟩
def CORE_FPFLAGS_NANIN (n : Nat) : Fld := ⟨0x200000 + 0x1000 * n + 0x130, 4, 1⟩
def CORE_FAULT_CAUSE (n : Nat) : Fld := ⟨0x200000 + 0x1000 * n + 0x134, 0, 8⟩
def CORE_FAULT_PC_PC (n : Nat) : Fld := ⟨0x200000 + 0x1000 * n + 0x138, 0, 12⟩
def CORE_FAULT_PC_K (n : Nat) : Fld := ⟨0x200000 + 0x1000 * n + 0x138, 12, 20⟩
def CORE_FAULT_INFO_INFO (n : Nat) : Fld := ⟨0x200000 + 0x1000 * n + 0x13C, 0, 32⟩
def CORE_WDOG_ORBITS (n : Nat) : Fld := ⟨0x200000 + 0x1000 * n + 0x140, 0, 8⟩
def CORE_SR_N_N (n : Nat) : Fld := ⟨0x200000 + 0x1000 * n + 0x144, 0, 32⟩
def CORE_FETCH_STALL_COUNT (n : Nat) : Fld := ⟨0x200000 + 0x1000 * n + 0x148, 0, 32⟩
def CORE_SYWAIT_CYC_COUNT (n : Nat) : Fld := ⟨0x200000 + 0x1000 * n + 0x14C, 0, 32⟩
def CORE_VX_BUSY_COUNT (n : Nat) : Fld := ⟨0x200000 + 0x1000 * n + 0x150, 0, 32⟩
def CORE_ST_DONE_COUNT (n : Nat) : Fld := ⟨0x200000 + 0x1000 * n + 0x154, 0, 32⟩
def CORE_LS_CONFLICT_COUNT (n : Nat) : Fld := ⟨0x200000 + 0x1000 * n + 0x158, 0, 32⟩
def CORE_TALLY_LOW (n : Nat) (i : Nat) : Fld := ⟨0x200000 + 0x1000 * n + 0x180 + 0x4 * i, 0, 16⟩
def CORE_TALLY_HIGH (n : Nat) (i : Nat) : Fld := ⟨0x200000 + 0x1000 * n + 0x180 + 0x4 * i, 16, 16⟩
def CORE_MX_CTRL_BUNT_LEN (n : Nat) : Fld := ⟨0x200000 + 0x1000 * n + 0x200, 0, 9⟩
def CORE_MX_CTRL_BUNT_LEVEL (n : Nat) : Fld := ⟨0x200000 + 0x1000 * n + 0x200, 9, 2⟩
def CORE_MX_CTRL_RAMP_STEP (n : Nat) : Fld := ⟨0x200000 + 0x1000 * n + 0x200, 16, 5⟩
def CORE_MX_STATUS_SHAPE (n : Nat) : Fld := ⟨0x200000 + 0x1000 * n + 0x204, 0, 2⟩
def CORE_MX_STATUS_GATED (n : Nat) : Fld := ⟨0x200000 + 0x1000 * n + 0x204, 2, 3⟩
def CORE_MX_STATUS_BUNTING (n : Nat) : Fld := ⟨0x200000 + 0x1000 * n + 0x204, 5, 1⟩
def CORE_MX_STATUS_FROZEN (n : Nat) : Fld := ⟨0x200000 + 0x1000 * n + 0x204, 6, 1⟩
def CORE_MX_STATUS_QDEPTH (n : Nat) : Fld := ⟨0x200000 + 0x1000 * n + 0x204, 8, 4⟩
def CORE_MX_FRZ_TOTAL_COUNT (n : Nat) : Fld := ⟨0x200000 + 0x1000 * n + 0x208, 0, 32⟩
def CORE_MX_FRZ_A_COUNT (n : Nat) : Fld := ⟨0x200000 + 0x1000 * n + 0x20C, 0, 32⟩
def CORE_MX_FRZ_CIN_COUNT (n : Nat) : Fld := ⟨0x200000 + 0x1000 * n + 0x210, 0, 32⟩
def CORE_MX_FRZ_DRAIN_COUNT (n : Nat) : Fld := ⟨0x200000 + 0x1000 * n + 0x214, 0, 32⟩
def CORE_MX_LGAP_COUNT (n : Nat) : Fld := ⟨0x200000 + 0x1000 * n + 0x218, 0, 32⟩
def CORE_MX_BUNT_CYC_COUNT (n : Nat) : Fld := ⟨0x200000 + 0x1000 * n + 0x21C, 0, 32⟩
def CORE_MX_GATED_CYC_COUNT (n : Nat) : Fld := ⟨0x200000 + 0x1000 * n + 0x220, 0, 32⟩
def CORE_MX_BUSY_CYC_COUNT (n : Nat) : Fld := ⟨0x200000 + 0x1000 * n + 0x224, 0, 32⟩
def CORE_MX_PASSES_COUNT (n : Nat) : Fld := ⟨0x200000 + 0x1000 * n + 0x228, 0, 32⟩
def CORE_L1_LD_LOOK_COUNT (n : Nat) : Fld := ⟨0x200000 + 0x1000 * n + 0x240, 0, 32⟩
def CORE_L1_LD_HIT_COUNT (n : Nat) : Fld := ⟨0x200000 + 0x1000 * n + 0x244, 0, 32⟩
def CORE_L1_PF_LOOK_COUNT (n : Nat) : Fld := ⟨0x200000 + 0x1000 * n + 0x248, 0, 32⟩
def CORE_L1_PF_HIT_COUNT (n : Nat) : Fld := ⟨0x200000 + 0x1000 * n + 0x24C, 0, 32⟩
def CORE_L1_DROP_COUNT (n : Nat) : Fld := ⟨0x200000 + 0x1000 * n + 0x250, 0, 32⟩
def CORE_XL_MISS_COUNT (n : Nat) : Fld := ⟨0x200000 + 0x1000 * n + 0x254, 0, 32⟩
def CORE_TEMP_TEMP (n : Nat) : Fld := ⟨0x200000 + 0x1000 * n + 0x280, 0, 12⟩
def CORE_TEMP_VALID (n : Nat) : Fld := ⟨0x200000 + 0x1000 * n + 0x280, 12, 1⟩
def CORE_ECL_CAUSE (n : Nat) : Fld := ⟨0x200000 + 0x1000 * n + 0x284, 0, 4⟩
def CORE_ECL_ORBIT (n : Nat) : Fld := ⟨0x200000 + 0x1000 * n + 0x284, 4, 28⟩
def CORE_GHOST_COUNT (n : Nat) : Fld := ⟨0x200000 + 0x1000 * n + 0x288, 0, 32⟩
def HYP_ARB_AGE (n : Nat) : Fld := ⟨0x800000 + 0x1000 * n + 0x100, 0, 8⟩
def HYP_STATUS_OWN_ACTIVE (n : Nat) : Fld := ⟨0x800000 + 0x1000 * n + 0x104, 0, 1⟩
def HYP_STATUS_SOUTH (n : Nat) : Fld := ⟨0x800000 + 0x1000 * n + 0x104, 1, 1⟩
def HYP_STATUS_INFLIGHT (n : Nat) : Fld := ⟨0x800000 + 0x1000 * n + 0x104, 4, 5⟩
def HYP_STATUS_FULL (n : Nat) : Fld := ⟨0x800000 + 0x1000 * n + 0x104, 9, 1⟩
def HYP_ERR_COUNT (n : Nat) : Fld := ⟨0x800000 + 0x1000 * n + 0x108, 0, 32⟩
def HYP_LASTERR_TYPE (n : Nat) : Fld := ⟨0x800000 + 0x1000 * n + 0x10C, 0, 8⟩
def HYP_LASTERR_STATUS (n : Nat) : Fld := ⟨0x800000 + 0x1000 * n + 0x10C, 8, 4⟩
def HYP_LASTERR_SPACE (n : Nat) : Fld := ⟨0x800000 + 0x1000 * n + 0x10C, 12, 2⟩
def HYP_LASTERR_DROW (n : Nat) : Fld := ⟨0x800000 + 0x1000 * n + 0x10C, 14, 18⟩
def HYP_RD_OWN_COUNT (n : Nat) : Fld := ⟨0x800000 + 0x1000 * n + 0x110, 0, 32⟩
def HYP_RD_REM_COUNT (n : Nat) : Fld := ⟨0x800000 + 0x1000 * n + 0x114, 0, 32⟩
def HYP_WR_ATOMS_COUNT (n : Nat) : Fld := ⟨0x800000 + 0x1000 * n + 0x118, 0, 32⟩
def HYP_ARB_AGED_COUNT (n : Nat) : Fld := ⟨0x800000 + 0x1000 * n + 0x11C, 0, 32⟩
def HYP_REF_STATUS_DOUBLE_S (n : Nat) : Fld := ⟨0x800000 + 0x1000 * n + 0x124, 0, 1⟩
def HYP_REF_STATUS_DOUBLE_N (n : Nat) : Fld := ⟨0x800000 + 0x1000 * n + 0x124, 1, 1⟩
def HYP_REF_STATUS_MAXDEBT (n : Nat) : Fld := ⟨0x800000 + 0x1000 * n + 0x124, 4, 4⟩
def HYP_REF_OPS_COUNT (n : Nat) : Fld := ⟨0x800000 + 0x1000 * n + 0x128, 0, 32⟩
def HYP_REF_URGENT_COUNT (n : Nat) : Fld := ⟨0x800000 + 0x1000 * n + 0x12C, 0, 32⟩
def HYP_XSET_DIN (n : Nat) (i : Nat) : Fld := ⟨0x800000 + 0x1000 * n + 0x140 + 0x4 * i, 0, 6⟩
def HYP_XSET_DOUT (n : Nat) (i : Nat) : Fld := ⟨0x800000 + 0x1000 * n + 0x140 + 0x4 * i, 6, 6⟩
def HYP_XSET_OFMT (n : Nat) (i : Nat) : Fld := ⟨0x800000 + 0x1000 * n + 0x140 + 0x4 * i, 12, 1⟩
def HYP_XSET_BASE (n : Nat) (i : Nat) : Fld := ⟨0x800000 + 0x1000 * n + 0x140 + 0x4 * i, 16, 5⟩
def HYP_XSET_VALID (n : Nat) (i : Nat) : Fld := ⟨0x800000 + 0x1000 * n + 0x140 + 0x4 * i, 31, 1⟩
def HYP_XVEC_COUNT (n : Nat) : Fld := ⟨0x800000 + 0x1000 * n + 0x150, 0, 32⟩
def HYP_XBUSY_COUNT (n : Nat) : Fld := ⟨0x800000 + 0x1000 * n + 0x154, 0, 32⟩
def HYP_BUS_BUSY_COUNT (n : Nat) : Fld := ⟨0x800000 + 0x1000 * n + 0x158, 0, 32⟩
def HYP_ROWMISS_COUNT (n : Nat) : Fld := ⟨0x800000 + 0x1000 * n + 0x15C, 0, 32⟩
def HYP_BK_STATUS_ENG_TOK (n : Nat) : Fld := ⟨0x800000 + 0x1000 * n + 0x400, 0, 4⟩
def HYP_BK_STATUS_REF_TOK (n : Nat) : Fld := ⟨0x800000 + 0x1000 * n + 0x400, 4, 4⟩
def HYP_BK_STATUS_CAP (n : Nat) : Fld := ⟨0x800000 + 0x1000 * n + 0x400, 8, 4⟩
def HYP_BK_STATUS_HOLDBACK (n : Nat) : Fld := ⟨0x800000 + 0x1000 * n + 0x400, 12, 1⟩
def HYP_BK_STATUS_THERM (n : Nat) : Fld := ⟨0x800000 + 0x1000 * n + 0x400, 13, 1⟩
def HYP_BK_STATUS_QUEUED (n : Nat) : Fld := ⟨0x800000 + 0x1000 * n + 0x400, 14, 4⟩
def HYP_BK_OPS_COUNT (n : Nat) : Fld := ⟨0x800000 + 0x1000 * n + 0x404, 0, 32⟩
def HYP_BK_WAVES_COUNT (n : Nat) : Fld := ⟨0x800000 + 0x1000 * n + 0x408, 0, 32⟩
def HYP_BK_STEPS_COUNT (n : Nat) : Fld := ⟨0x800000 + 0x1000 * n + 0x40C, 0, 32⟩
def HYP_BK_INSERTS_COUNT (n : Nat) : Fld := ⟨0x800000 + 0x1000 * n + 0x410, 0, 32⟩
def HYP_BK_HELD_COUNT (n : Nat) : Fld := ⟨0x800000 + 0x1000 * n + 0x414, 0, 32⟩
def HYP_BK_CORR_COUNT (n : Nat) : Fld := ⟨0x800000 + 0x1000 * n + 0x418, 0, 32⟩
def HYP_BK_UNCORR_COUNT (n : Nat) : Fld := ⟨0x800000 + 0x1000 * n + 0x41C, 0, 32⟩
def HYP_BK_LASTERR_DROW (n : Nat) : Fld := ⟨0x800000 + 0x1000 * n + 0x420, 0, 14⟩
def HYP_BK_LASTERR_BANK (n : Nat) : Fld := ⟨0x800000 + 0x1000 * n + 0x420, 14, 5⟩
def HYP_BK_LASTERR_KIND (n : Nat) : Fld := ⟨0x800000 + 0x1000 * n + 0x420, 19, 3⟩
def HYP_BK_ISSUED_COUNT (n : Nat) : Fld := ⟨0x800000 + 0x1000 * n + 0x424, 0, 32⟩
def HYP_BK_LASTDONE_WAVES (n : Nat) : Fld := ⟨0x800000 + 0x1000 * n + 0x428, 0, 6⟩
def HYP_BK_LASTDONE_WAVE_OVER (n : Nat) : Fld := ⟨0x800000 + 0x1000 * n + 0x428, 6, 1⟩
def HYP_BK_LASTDONE_UNCORR (n : Nat) : Fld := ⟨0x800000 + 0x1000 * n + 0x428, 7, 1⟩
def HYP_BK_LASTDONE_COL_FAIL (n : Nat) : Fld := ⟨0x800000 + 0x1000 * n + 0x428, 8, 1⟩
def HYP_BK_LASTDONE_COLUMNS (n : Nat) : Fld := ⟨0x800000 + 0x1000 * n + 0x428, 16, 11⟩
def HYP_BK_WOVER_COUNT (n : Nat) : Fld := ⟨0x800000 + 0x1000 * n + 0x42C, 0, 32⟩
def HYP_BK_TOKNS_COUNT (n : Nat) : Fld := ⟨0x800000 + 0x1000 * n + 0x430, 0, 32⟩
def HYP_RT_LINKSEL_SEL (n : Nat) : Fld := ⟨0x800000 + 0x1000 * n + 0x700, 0, 3⟩
def HYP_RT_DROP_COUNT (n : Nat) : Fld := ⟨0x800000 + 0x1000 * n + 0x704, 0, 32⟩
def HYP_RT_LASTDROP_SRC (n : Nat) : Fld := ⟨0x800000 + 0x1000 * n + 0x708, 0, 16⟩
def HYP_RT_LASTDROP_CAUSE (n : Nat) : Fld := ⟨0x800000 + 0x1000 * n + 0x708, 16, 4⟩
def HYP_RT_ABSORB_COUNT (n : Nat) : Fld := ⟨0x800000 + 0x1000 * n + 0x70C, 0, 32⟩
def HYP_RTAB_LO_ROUTE (n : Nat) (i : Nat) : Fld := ⟨0x800000 + 0x1000 * n + 0x800 + 0x8 * i, 0, 32⟩
def HYP_RTAB_HI_ROUTE (n : Nat) (i : Nat) : Fld := ⟨0x800000 + 0x1000 * n + 0x804 + 0x8 * i, 0, 32⟩
def LNK_CFG_MAX_RATE (n : Nat) : Fld := ⟨0xE00000 + 0x1000 * n + 0x100, 0, 2⟩
def LNK_CFG_NO_X32 (n : Nat) : Fld := ⟨0xE00000 + 0x1000 * n + 0x100, 2, 1⟩
def LNK_CFG_USE_RECORD (n : Nat) : Fld := ⟨0xE00000 + 0x1000 * n + 0x100, 3, 1⟩
def LNK_CFG_REPLAY_LIMIT (n : Nat) : Fld := ⟨0xE00000 + 0x1000 * n + 0x100, 8, 4⟩
def LNK_STATUS_RATE (n : Nat) : Fld := ⟨0xE00000 + 0x1000 * n + 0x104, 0, 2⟩
def LNK_STATUS_X32 (n : Nat) : Fld := ⟨0xE00000 + 0x1000 * n + 0x104, 2, 1⟩
def LNK_STATUS_FROM_RECORD (n : Nat) : Fld := ⟨0xE00000 + 0x1000 * n + 0x104, 3, 1⟩
def LNK_STATUS_PORT_A (n : Nat) : Fld := ⟨0xE00000 + 0x1000 * n + 0x104, 4, 4⟩
def LNK_STATUS_PORT_B (n : Nat) : Fld := ⟨0xE00000 + 0x1000 * n + 0x104, 8, 4⟩
def LNK_STATUS_REPAIRED (n : Nat) : Fld := ⟨0xE00000 + 0x1000 * n + 0x104, 16, 8⟩
def LNK_CAUSE_CAUSE (n : Nat) : Fld := ⟨0xE00000 + 0x1000 * n + 0x108, 0, 4⟩
def LNK_CMD_RETRAIN (n : Nat) : Fld := ⟨0xE00000 + 0x1000 * n + 0x10C, 0, 1⟩
def LNK_CMD_PROBE (n : Nat) : Fld := ⟨0xE00000 + 0x1000 * n + 0x10C, 1, 1⟩
def LNK_CRC_ERR_COUNT (n : Nat) : Fld := ⟨0xE00000 + 0x1000 * n + 0x110, 0, 32⟩
def LNK_REPLAYS_COUNT (n : Nat) : Fld := ⟨0xE00000 + 0x1000 * n + 0x114, 0, 32⟩
def LNK_RETRAINS_COUNT (n : Nat) : Fld := ⟨0xE00000 + 0x1000 * n + 0x118, 0, 32⟩
def LNK_DLY_P50 (n : Nat) : Fld := ⟨0xE00000 + 0x1000 * n + 0x11C, 0, 8⟩
def LNK_DLY_P99 (n : Nat) : Fld := ⟨0xE00000 + 0x1000 * n + 0x11C, 8, 8⟩
def LNK_DLY_P9999 (n : Nat) : Fld := ⟨0xE00000 + 0x1000 * n + 0x11C, 16, 8⟩
def LNK_DLY_MAX (n : Nat) : Fld := ⟨0xE00000 + 0x1000 * n + 0x11C, 24, 8⟩
def LNK_FLITS_AB_COUNT (n : Nat) : Fld := ⟨0xE00000 + 0x1000 * n + 0x120, 0, 32⟩
def LNK_FLITS_BA_COUNT (n : Nat) : Fld := ⟨0xE00000 + 0x1000 * n + 0x124, 0, 32⟩
def LNK_LOST_COUNT (n : Nat) : Fld := ⟨0xE00000 + 0x1000 * n + 0x128, 0, 32⟩
def HPT_CTRL_MGMT (n : Nat) : Fld := ⟨0xE20000 + 0x1000 * n + 0x100, 0, 1⟩
def HPT_LINK_UP (n : Nat) : Fld := ⟨0xE20000 + 0x1000 * n + 0x104, 0, 1⟩
def HPT_LINK_RATE (n : Nat) : Fld := ⟨0xE20000 + 0x1000 * n + 0x104, 1, 3⟩
def HPT_LINK_X8 (n : Nat) : Fld := ⟨0xE20000 + 0x1000 * n + 0x104, 4, 1⟩
def HPT_FILT_DROP_COUNT (n : Nat) : Fld := ⟨0xE20000 + 0x1000 * n + 0x108, 0, 32⟩
def HPT_FILT_LAST_PAGE (n : Nat) : Fld := ⟨0xE20000 + 0x1000 * n + 0x10C, 0, 16⟩
def HPT_FILT_LAST_FN (n : Nat) : Fld := ⟨0xE20000 + 0x1000 * n + 0x10C, 16, 6⟩
def HPT_FILT_LAST_WRITE (n : Nat) : Fld := ⟨0xE20000 + 0x1000 * n + 0x10C, 22, 1⟩
def HPT_FILT_LAST_DOORBELL (n : Nat) : Fld := ⟨0xE20000 + 0x1000 * n + 0x10C, 23, 1⟩
def HPT_XLATE_ERR_COUNT (n : Nat) : Fld := ⟨0xE20000 + 0x1000 * n + 0x110, 0, 32⟩
def HPT_DMA_ERR_COUNT (n : Nat) : Fld := ⟨0xE20000 + 0x1000 * n + 0x114, 0, 32⟩
def HPT_FN_BOUND (n : Nat) (i : Nat) : Fld := ⟨0xE20000 + 0x1000 * n + 0x200 + 0x4 * i, 0, 1⟩
def HPT_FN_PART (n : Nat) (i : Nat) : Fld := ⟨0xE20000 + 0x1000 * n + 0x200 + 0x4 * i, 1, 4⟩
def HPT_WIN_VBASE_LO_ADDR (n : Nat) (i : Nat) : Fld := ⟨0xE20000 + 0x1000 * n + 0x400 + 0x10 * i, 21, 11⟩
def HPT_WIN_VBASE_HI_ADDR (n : Nat) (i : Nat) : Fld := ⟨0xE20000 + 0x1000 * n + 0x404 + 0x10 * i, 0, 16⟩
def HPT_WIN_SIZE_SIZE (n : Nat) (i : Nat) : Fld := ⟨0xE20000 + 0x1000 * n + 0x408 + 0x10 * i, 0, 20⟩
def PRT_ROWS_LO_ROWS (n : Nat) : Fld := ⟨0xE40000 + 0x1000 * n + 0x100, 0, 32⟩
def PRT_ROWS_HI_ROWS (n : Nat) : Fld := ⟨0xE40000 + 0x1000 * n + 0x104, 0, 32⟩
def PRT_GRANT_MNL (n : Nat) : Fld := ⟨0xE40000 + 0x1000 * n + 0x108, 0, 1⟩
def PRT_DEFRING_RING (n : Nat) : Fld := ⟨0xE40000 + 0x1000 * n + 0x10C, 0, 6⟩
def PRT_INFO_CORES (n : Nat) : Fld := ⟨0xE40000 + 0x1000 * n + 0x110, 0, 11⟩
def PRT_INFO_SITES (n : Nat) : Fld := ⟨0xE40000 + 0x1000 * n + 0x110, 11, 11⟩
def PRT_QUEUES_COUNT (n : Nat) : Fld := ⟨0xE40000 + 0x1000 * n + 0x114, 0, 13⟩
def PRT_PT_ROOT_LO_ADDR (n : Nat) : Fld := ⟨0xE40000 + 0x1000 * n + 0x400, 12, 20⟩
def PRT_PT_ROOT_HI_ADDR (n : Nat) : Fld := ⟨0xE40000 + 0x1000 * n + 0x404, 0, 13⟩
def PRT_XCTRL_EN (n : Nat) : Fld := ⟨0xE40000 + 0x1000 * n + 0x408, 0, 1⟩
def PRT_XINV_GO (n : Nat) : Fld := ⟨0xE40000 + 0x1000 * n + 0x40C, 0, 1⟩
def PRT_XINV_ALL (n : Nat) : Fld := ⟨0xE40000 + 0x1000 * n + 0x40C, 1, 1⟩
def PRT_XINV_DONE (n : Nat) : Fld := ⟨0xE40000 + 0x1000 * n + 0x40C, 2, 1⟩
def PRT_XINV_VA_LO_VA (n : Nat) : Fld := ⟨0xE40000 + 0x1000 * n + 0x410, 16, 16⟩
def PRT_XINV_VA_HI_VA (n : Nat) : Fld := ⟨0xE40000 + 0x1000 * n + 0x414, 0, 16⟩
def PRT_XINV_PAGES_COUNT (n : Nat) : Fld := ⟨0xE40000 + 0x1000 * n + 0x418, 0, 32⟩
def PRT_XF_STATUS_KIND (n : Nat) : Fld := ⟨0xE40000 + 0x1000 * n + 0x41C, 0, 4⟩
def PRT_XF_STATUS_LEVEL (n : Nat) : Fld := ⟨0xE40000 + 0x1000 * n + 0x41C, 4, 2⟩
def PRT_XF_STATUS_WRITE (n : Nat) : Fld := ⟨0xE40000 + 0x1000 * n + 0x41C, 6, 1⟩
def PRT_XF_STATUS_SRCKIND (n : Nat) : Fld := ⟨0xE40000 + 0x1000 * n + 0x41C, 7, 2⟩
def PRT_XF_STATUS_SRC (n : Nat) : Fld := ⟨0xE40000 + 0x1000 * n + 0x41C, 9, 16⟩
def PRT_XF_STATUS_VALID (n : Nat) : Fld := ⟨0xE40000 + 0x1000 * n + 0x41C, 31, 1⟩
def PRT_XF_VA_LO_VA (n : Nat) : Fld := ⟨0xE40000 + 0x1000 * n + 0x420, 0, 32⟩
def PRT_XF_VA_HI_VA (n : Nat) : Fld := ⟨0xE40000 + 0x1000 * n + 0x424, 0, 32⟩
def PRT_XF_COUNT_COUNT (n : Nat) : Fld := ⟨0xE40000 + 0x1000 * n + 0x428, 0, 32⟩
def PRT_CEN_VALUE_REFS (n : Nat) : Fld := ⟨0xE40000 + 0x1000 * n + 0x42C, 0, 30⟩
def PRT_CEN_BASE_LO_ADDR (n : Nat) : Fld := ⟨0xE40000 + 0x1000 * n + 0x430, 12, 20⟩
def PRT_CEN_BASE_HI_ADDR (n : Nat) : Fld := ⟨0xE40000 + 0x1000 * n + 0x434, 0, 13⟩
def PRT_CEN_PAGE_LO_ADDR (n : Nat) : Fld := ⟨0xE40000 + 0x1000 * n + 0x438, 16, 16⟩
def PRT_CEN_PAGE_HI_ADDR (n : Nat) : Fld := ⟨0xE40000 + 0x1000 * n + 0x43C, 0, 13⟩
def PRT_CEN_OP_OP (n : Nat) : Fld := ⟨0xE40000 + 0x1000 * n + 0x440, 0, 3⟩
def PRT_CEN_OP_GO (n : Nat) : Fld := ⟨0xE40000 + 0x1000 * n + 0x440, 3, 1⟩
def PRT_CEN_OP_BUSY (n : Nat) : Fld := ⟨0xE40000 + 0x1000 * n + 0x440, 4, 1⟩
def PRT_CEN_OP_REFUSED (n : Nat) : Fld := ⟨0xE40000 + 0x1000 * n + 0x440, 5, 1⟩
def PRT_CEN_RESULT_ENTRY (n : Nat) : Fld := ⟨0xE40000 + 0x1000 * n + 0x444, 0, 32⟩
def PRT_FREE_BASE_LO_ADDR (n : Nat) : Fld := ⟨0xE40000 + 0x1000 * n + 0x448, 3, 29⟩
def PRT_FREE_BASE_HI_ADDR (n : Nat) : Fld := ⟨0xE40000 + 0x1000 * n + 0x44C, 0, 13⟩
def PRT_FREE_SIZE_LOG2 (n : Nat) : Fld := ⟨0xE40000 + 0x1000 * n + 0x450, 0, 5⟩
def PRT_FREE_TAIL_COUNT (n : Nat) : Fld := ⟨0xE40000 + 0x1000 * n + 0x454, 0, 32⟩
def PRT_FREE_HEAD_COUNT (n : Nat) : Fld := ⟨0xE40000 + 0x1000 * n + 0x458, 0, 32⟩
def PRT_FREE_LOW_LOW (n : Nat) : Fld := ⟨0xE40000 + 0x1000 * n + 0x45C, 0, 16⟩
def PRT_FREE_LOW_WAIT_US (n : Nat) : Fld := ⟨0xE40000 + 0x1000 * n + 0x45C, 16, 16⟩
def PRT_COW_COPIES_COUNT (n : Nat) : Fld := ⟨0xE40000 + 0x1000 * n + 0x460, 0, 32⟩
def PRT_COW_SOLE_COUNT (n : Nat) : Fld := ⟨0xE40000 + 0x1000 * n + 0x464, 0, 32⟩
def PRT_FREE_BAD_COUNT (n : Nat) : Fld := ⟨0xE40000 + 0x1000 * n + 0x468, 0, 16⟩
def PRT_COW_FAIL_LO_ADDR (n : Nat) : Fld := ⟨0xE40000 + 0x1000 * n + 0x46C, 16, 16⟩
def PRT_COW_FAIL_HI_ADDR (n : Nat) : Fld := ⟨0xE40000 + 0x1000 * n + 0x470, 0, 13⟩
def MNL_STATUS_PRESENT : Fld := ⟨0xE60100, 0, 1⟩
def MNL_STATUS_ACTIVE : Fld := ⟨0xE60100, 1, 4⟩
def MNL_PORTSEL_SEL : Fld := ⟨0xE60104, 0, 3⟩
def MNL_ERR_COUNT : Fld := ⟨0xE60108, 0, 32⟩
def MNL_LASTERR_TYPE : Fld := ⟨0xE6010C, 0, 8⟩
def MNL_LASTERR_WIN : Fld := ⟨0xE6010C, 8, 4⟩
def MNL_LASTERR_STATUS : Fld := ⟨0xE6010C, 12, 4⟩
def MNL_LASTERR_DIE : Fld := ⟨0xE6010C, 16, 2⟩
def MNL_CAP (i : Nat) : Fld := ⟨0xE60110 + 0x4 * i, 0, 32⟩
def MNL_WIN_CTRL_EN (i : Nat) : Fld := ⟨0xE60200 + 0x10 * i, 0, 1⟩
def MNL_WIN_CTRL_PART (i : Nat) : Fld := ⟨0xE60200 + 0x10 * i, 1, 4⟩
def MNL_WIN_CTRL_OPEN (i : Nat) : Fld := ⟨0xE60200 + 0x10 * i, 5, 1⟩
def MNL_WIN_VBASE_LO_ADDR (i : Nat) : Fld := ⟨0xE60204 + 0x10 * i, 21, 11⟩
def MNL_WIN_VBASE_HI_ADDR (i : Nat) : Fld := ⟨0xE60208 + 0x10 * i, 0, 32⟩
def MNL_WIN_SIZE_SIZE (i : Nat) : Fld := ⟨0xE6020C + 0x10 * i, 0, 20⟩
def PG_IDENT_LAYOUT (pg : Nat) : Fld := ⟨pg + 0x0, 0, 8⟩
def PG_IDENT_INSTANCE (pg : Nat) : Fld := ⟨pg + 0x0, 8, 12⟩
def PG_IDENT_TYPE (pg : Nat) : Fld := ⟨pg + 0x0, 20, 12⟩
def PG_CAPS_QUIESCE (pg : Nat) : Fld := ⟨pg + 0x4, 0, 1⟩
def PG_CAPS_RESET (pg : Nat) : Fld := ⟨pg + 0x4, 1, 1⟩
def PG_CAPS_GCOMPAT (pg : Nat) : Fld := ⟨pg + 0x4, 2, 1⟩
def PG_CAPS_STATE (pg : Nat) : Fld := ⟨pg + 0x4, 3, 1⟩
def PG_CAPS_ERRCAP (pg : Nat) : Fld := ⟨pg + 0x4, 4, 1⟩
def PG_CAPS_ENABLE (pg : Nat) : Fld := ⟨pg + 0x4, 5, 1⟩
def PG_CTRL_ENABLE (pg : Nat) : Fld := ⟨pg + 0x8, 0, 1⟩
def PG_CTRL_QUIESCE_REQ (pg : Nat) : Fld := ⟨pg + 0x8, 1, 1⟩
def PG_CTRL_RESET_REQ (pg : Nat) : Fld := ⟨pg + 0x8, 2, 1⟩
def PG_CTRL_GCOMPAT (pg : Nat) : Fld := ⟨pg + 0x8, 3, 1⟩
def PG_CTRL_OWNER (pg : Nat) : Fld := ⟨pg + 0x8, 8, 4⟩
def PG_CTRL_OWNED (pg : Nat) : Fld := ⟨pg + 0x8, 12, 1⟩
def PG_STATE_STATE (pg : Nat) : Fld := ⟨pg + 0xC, 0, 4⟩
def PG_EVT_ERRCAP (pg : Nat) : Fld := ⟨pg + 0x10, 0, 1⟩
def PG_EVT_LOCKED (pg : Nat) : Fld := ⟨pg + 0x10, 1, 1⟩
def PG_EVT_BLOCK (pg : Nat) : Fld := ⟨pg + 0x10, 8, 24⟩
def PG_EVT_EN_EN (pg : Nat) : Fld := ⟨pg + 0x14, 0, 32⟩
def PG_EVT_ROUTE_RING (pg : Nat) : Fld := ⟨pg + 0x18, 0, 6⟩
def PG_EVT_COUNT_COUNT (pg : Nat) : Fld := ⟨pg + 0x1C, 0, 32⟩
def PG_ERRCAP (pg : Nat) (i : Nat) : Fld := ⟨pg + 0x20 + 0x4 * i, 0, 32⟩
def PG_LOCK_LOCK (pg : Nat) : Fld := ⟨pg + 0x30, 0, 1⟩
def PG_LOCK_HOLD (pg : Nat) : Fld := ⟨pg + 0x30, 1, 1⟩
end Sys2Proof.Machine.F
end

