-- ==== Sys2Proof/Machine/RegTable.lean ====
section
/-! DEFINITION. The register tables of the spec, one row per register (R62 to R65, R112, R138 to R140, R168 to R171, R193, R214, R239, R241, R285, R305 to R309, R335 to R338, R369, R391 to R394, R401, R406, R408, R415): offset in its page, spacing and number of copies, and the fields with their access code and reset entry. -/
namespace Sys2Proof.Machine
def regsIdent0 : List RegDesc :=
  [.mk 0x100 0 1 [.mk 0 4 .ro (.fuse) none, .mk 4 8 .ro (.fuse) none, .mk 12 20 .ro (.fuse) none], -- G_PART_ID
   .mk 0x104 0 1 [.mk 0 1 .ro (.undef) none, .mk 1 1 .ro (.undef) none], -- G_STRAPS
   .mk 0x108 0 1 [.mk 0 11 .ro (.fuse) none, .mk 11 11 .ro (.val 0) none], -- G_CORES
   .mk 0x110 4 4 [.mk 0 32 .ro (.fuse) none], -- G_SERIAL
   .mk 0x120 4 12 [.mk 0 32 .ro (.fuse) none], -- G_DIESER
   .mk 0x160 4 4 [.mk 0 32 .rw (.held) none]] -- G_SCRATCH
/-- The registers of a ident page. -/
def regsIdent : List RegDesc := regsIdent0
def regsTimebase0 : List RegDesc :=
  [.mk 0x100 0 1 [.mk 0 1 .rw (.val 0) none, .mk 1 1 .w1s (.val 0) none], -- TIM_CTRL
   .mk 0x104 0 1 [.mk 0 2 .ro (.val 0) none], -- TIM_STATUS
   .mk 0x108 0 1 [.mk 0 1 .w1c (.val 0) none, .mk 1 1 .w1c (.val 0) none, .mk 2 1 .w1c (.val 0) none, .mk 3 1 .w1c (.val 0) none], -- TIM_FLAGS
   .mk 0x10C 0 1 [.mk 0 32 .ro (.val 0) none], -- TIM_PPS_CYCLES
   .mk 0x110 0 1 [.mk 0 32 .rw (.val 0) none], -- TIM_SEC_SET_LO
   .mk 0x114 0 1 [.mk 0 32 .rw (.val 0) none], -- TIM_SEC_SET_HI
   .mk 0x120 0 1 [.mk 0 32 .ro (.val 0) none], -- TIM_ORBIT_LO
   .mk 0x124 0 1 [.mk 0 32 .ro (.val 0) none], -- TIM_ORBIT_HI
   .mk 0x128 0 1 [.mk 0 32 .ro (.val 0) none], -- TIM_SEC_LO
   .mk 0x12C 0 1 [.mk 0 32 .ro (.val 0) none], -- TIM_SEC_HI
   .mk 0x130 0 1 [.mk 0 30 .ro (.val 0) none], -- TIM_NS
   .mk 0x134 0 1 [.mk 0 32 .ro (.val 0) none], -- TIM_TICK_SEC_LO
   .mk 0x138 0 1 [.mk 0 30 .ro (.val 0) none]] -- TIM_TICK_NS
/-- The registers of a timebase page. -/
def regsTimebase : List RegDesc := regsTimebase0
def regsOrbit0 : List RegDesc :=
  [.mk 0x100 0 1 [.mk 0 2 .rw (.val 0) (some (0, 2)), .mk 2 1 .rw (.val 0) none], -- ORB_CTRL
   .mk 0x104 0 1 [.mk 0 14 .stg (.val 0x1f4) (some (50, 10000))], -- ORB_PERIOD
   .mk 0x108 0 1 [.mk 0 8 .rw (.val 5) (some (1, 100))], -- ORB_OTICK_TOL
   .mk 0x10C 0 1 [.mk 0 9 .stg (.val 0x14) (some (0, 500))], -- ORB_SERVICE
   .mk 0x110 0 1 [.mk 0 1 .ro (.val 0) none, .mk 1 1 .ro (.val 0) none], -- ORB_STATUS
   .mk 0x114 0 1 [.mk 0 1 .w1c (.val 0) none, .mk 1 1 .w1c (.val 0) none, .mk 2 1 .w1c (.val 0) none, .mk 3 1 .w1c (.val 0) none, .mk 4 1 .w1c (.val 0) none, .mk 5 1 .w1c (.val 0) none, .mk 6 1 .w1c (.val 0) none], -- ORB_FLAGS
   .mk 0x118 0 1 [.mk 0 16 .rc (.val 0) none], -- ORB_MISS_COUNT
   .mk 0x11C 0 1 [.mk 0 16 .rc (.val 0) none], -- ORB_EARLY_COUNT
   .mk 0x120 0 1 [.mk 0 32 .rw (.val 0) none], -- ORB_COUNT_SET_LO
   .mk 0x124 0 1 [.mk 0 32 .rw (.val 0) none], -- ORB_COUNT_SET_HI
   .mk 0x128 0 1 [.mk 0 1 .wo (.val 0) none], -- ORB_CMD
   .mk 0x12C 0 1 [.mk 0 16 .w1c (.val 0) none], -- ORB_OVERRUN
   .mk 0x130 0 1 [.mk 0 32 .rc (.val 0) none], -- ORB_OVR_TICKS
   .mk 0x134 0 1 [.mk 0 32 .ro (.val 0) none], -- ORB_ORBIT_LEN_LAST
   .mk 0x400 0 1 [.mk 0 1 .rw (.val 0) none, .mk 1 1 .rw (.val 0) none, .mk 2 1 .rw (.val 0) none], -- ORB_EN_CTRL
   .mk 0x404 0 1 [.mk 0 20 .stg (.val 0) none], -- ORB_EN_LOW
   .mk 0x408 0 1 [.mk 0 20 .stg (.val 0xfffff) none], -- ORB_EN_HIGH
   .mk 0x40C 0 1 [.mk 0 20 .stg (.val 0) none], -- ORB_EN_RAMP
   .mk 0x410 0 1 [.mk 0 12 .stg (.val 0xc80) (some (1200, 3200))], -- ORB_PPL
   .mk 0x414 0 1 [.mk 0 6 .stg (.val 0x24) none], -- ORB_EN_ORDER
   .mk 0x418 0 1 [.mk 0 4 .stg (.val 8) (some (1, 8))], -- ORB_EN_BKMAX
   .mk 0x41C 0 1 [.mk 0 4 .rw (.val 1) (some (1, 8))], -- ORB_PCAP_CFG
   .mk 0x420 0 1 [.mk 0 4 .ro (.val 0) none, .mk 4 2 .ro (.val 0) none, .mk 6 3 .ro (.val 0) none, .mk 9 3 .ro (.val 0) none, .mk 12 1 .ro (.val 0) none, .mk 13 1 .ro (.undef) none], -- ORB_EN_STATUS
   .mk 0x424 0 1 [.mk 0 1 .w1c (.val 0) none, .mk 1 1 .w1c (.val 0) none, .mk 2 1 .w1c (.val 0) none, .mk 3 1 .w1c (.val 0) none, .mk 4 1 .w1c (.val 0) none, .mk 5 1 .w1c (.val 0) none, .mk 6 1 .w1c (.val 0) none, .mk 7 1 .w1c (.val 0) none, .mk 8 1 .w1c (.val 0) none]] -- ORB_EN_FLAGS
def regsOrbit1 : List RegDesc :=
  [.mk 0x428 0 1 [.mk 0 32 .ro (.val 0) none], -- ORB_EN_ORBIT_LO
   .mk 0x42C 0 1 [.mk 0 24 .ro (.val 0) none], -- ORB_EN_RAW
   .mk 0x430 0 1 [.mk 0 24 .ro (.val 0) none], -- ORB_EN_NORM
   .mk 0x434 0 1 [.mk 0 24 .ro (.val 0) none], -- ORB_EN_LINKS
   .mk 0x438 0 1 [.mk 0 24 .ro (.val 0) none], -- ORB_EN_MEM
   .mk 0x43C 0 1 [.mk 0 24 .ro (.val 0) none], -- ORB_EN_COMP
   .mk 0x440 0 1 [.mk 0 24 .ro (.val 0) none], -- ORB_EN_BK
   .mk 0x444 0 1 [.mk 0 20 .ro (.val 0) none], -- ORB_EN_LIM_HIGH
   .mk 0x448 0 1 [.mk 0 20 .ro (.val 0) none, .mk 20 1 .ro (.val 0) none], -- ORB_EN_LIM_LOW
   .mk 0x44C 0 1 [.mk 0 12 .ro (.val 0) none], -- ORB_EN_PEAK
   .mk 0x450 0 1 [.mk 0 32 .ro (.val 0) none], -- ORB_EN_TOTAL_LO
   .mk 0x454 0 1 [.mk 0 32 .ro (.val 0) none], -- ORB_EN_TOTAL_HI
   .mk 0x458 0 1 [.mk 0 32 .rc (.val 0) none], -- ORB_EN_ABOVE_CNT
   .mk 0x45C 0 1 [.mk 0 32 .rc (.val 0) none], -- ORB_EN_BELOW_CNT
   .mk 0x800 32 64 [.mk 0 32 .rw (.val 0) none], -- ORB_ACT_ORBIT_LO
   .mk 0x804 32 64 [.mk 0 32 .rw (.val 0) none], -- ORB_ACT_ORBIT_HI
   .mk 0x808 32 64 [.mk 2 26 .rw (.val 0) none], -- ORB_ACT_TARGET
   .mk 0x80C 32 64 [.mk 0 32 .rw (.val 0) none], -- ORB_ACT_VALUE
   .mk 0x810 32 64 [.mk 0 32 .rw (.val 0xffffffff) none], -- ORB_ACT_MASK
   .mk 0x814 32 64 [.mk 0 1 .rw (.val 0) none, .mk 1 3 .ro (.val 0) none], -- ORB_ACT_CTRL
   .mk 0x818 32 64 [.mk 0 32 .ro (.val 0) none]] -- ORB_ACT_FIRED_LO
/-- The registers of a orbit page. -/
def regsOrbit : List RegDesc := regsOrbit0 ++ regsOrbit1
def regsPower0 : List RegDesc :=
  [.mk 0x100 0 1 [.mk 0 1 .ro (.val 0) none, .mk 1 1 .ro (.val 0) none, .mk 2 1 .ro (.val 0) none, .mk 3 1 .ro (.val 0) none, .mk 4 5 .ro (.val 0x1f) none, .mk 9 1 .ro (.val 0) none], -- PWR_STATUS
   .mk 0x104 0 1 [.mk 0 12 .ro (.val 0) none, .mk 16 12 .ro (.val 0) none], -- PWR_VIN_01
   .mk 0x108 0 1 [.mk 0 12 .ro (.val 0) none, .mk 16 12 .ro (.val 0) none], -- PWR_VIN_23
   .mk 0x10C 0 1 [.mk 0 12 .ro (.val 0) none, .mk 16 12 .ro (.val 0) none], -- PWR_IIN_01
   .mk 0x110 0 1 [.mk 0 12 .ro (.val 0) none, .mk 16 12 .ro (.val 0) none], -- PWR_IIN_23
   .mk 0x114 0 1 [.mk 0 11 .rc (.val 0) none], -- PWR_VIN_DIP
   .mk 0x118 0 1 [.mk 0 32 .rc (.val 0) none], -- PWR_WARN_COUNT
   .mk 0x11C 0 1 [.mk 0 32 .rc (.val 0) none], -- PWR_DIV_US
   .mk 0x120 0 1 [.mk 0 16 .ro (.val 0) none, .mk 16 4 .ro (.val 0) none, .mk 20 1 .ro (.val 0) none, .mk 21 3 .ro (.val 0) none], -- PWR_LASTFAULT
   .mk 0x124 0 1 [.mk 0 32 .ro (.val 0) none], -- PWR_LASTFAULT_ORB
   .mk 0x128 0 1 [.mk 0 8 .rw (.val 0x19) none, .mk 8 8 .rw (.val 0x3c) none], -- PWR_CRACK_CFG
   .mk 0x12C 0 1 [.mk 0 16 .ro (.val 0) none, .mk 16 3 .ro (.val 0) none, .mk 19 1 .ro (.val 0) none, .mk 20 8 .ro (.val 0) none], -- PWR_CRACK_LAST
   .mk 0x130 0 1 [.mk 0 32 .rc (.val 0) none], -- PWR_CRACK_COUNT
   .mk 0x134 0 1 [.mk 0 4 .w1c (.held) none, .mk 4 4 .w1c (.held) none], -- PWR_TOWER_FAULT
   .mk 0x138 4 2 [.mk 0 32 .w1c (.held) none], -- PWR_DRAM_FAULT
   .mk 0x140 4 4 [.mk 0 32 .w1c (.held) none], -- PWR_CLU_LATCH
   .mk 0x200 4 34 [.mk 0 32 .w1c (.held) none]] -- PWR_SITE_LATCH
/-- The registers of a power page. -/
def regsPower : List RegDesc := regsPower0
def regsThermal0 : List RegDesc :=
  [.mk 0x100 0 1 [.mk 0 4 .ro (.val 0) none, .mk 4 4 .ro (.val 0) none, .mk 8 1 .ro (.held) none, .mk 9 1 .ro (.val 0) none], -- THM_STATUS
   .mk 0x110 4 4 [.mk 0 12 .ro (.val 0) none, .mk 16 12 .ro (.val 0) none], -- THM_MAX
   .mk 0x120 4 4 [.mk 0 12 .ro (.val 0) none, .mk 16 12 .ro (.val 0) none], -- THM_CAP
   .mk 0x130 4 4 [.mk 0 12 .ro (.val 0) none, .mk 16 12 .ro (.val 0) none], -- THM_FCAST
   .mk 0x140 0 1 [.mk 0 8 .rw (.val 0x46) none, .mk 8 8 .rw (.val 0x5a) none, .mk 16 7 .rw (.val 0x14) none], -- THM_COOL_CFG
   .mk 0x144 0 1 [.mk 0 7 .ro (.held) none, .mk 7 1 .ro (.val 1) none], -- THM_COOL_DUTY
   .mk 0x148 0 1 [.mk 0 16 .ro (.held) none, .mk 16 2 .ro (.held) none], -- THM_TRIP_CAUSE
   .mk 0x200 16 16 [.mk 3 29 .rw (.val 0) none], -- THM_PLAN_BASE_LO
   .mk 0x204 16 16 [.mk 0 16 .rw (.val 0) none], -- THM_PLAN_BASE_HI
   .mk 0x208 16 16 [.mk 0 32 .rw (.val 0) none], -- THM_PLAN_START
   .mk 0x20C 16 16 [.mk 0 16 .rw (.val 0) none, .mk 16 1 .rw (.val 0) none, .mk 17 1 .rw (.val 0) none], -- THM_PLAN_CNT
   .mk 0x400 4 128 [.mk 0 12 .ro (.val 0) none, .mk 16 12 .ro (.val 0) none]] -- THM_DRAM
/-- The registers of a thermal page. -/
def regsThermal : List RegDesc := regsThermal0
def regsBringup0 : List RegDesc :=
  [.mk 0x100 0 1 [.mk 0 4 .ro (.val 0) none, .mk 4 1 .ro (.val 0) none, .mk 5 4 .ro (.val 0) none], -- G_BOOT_STATE
   .mk 0x104 0 1 [.mk 0 4 .ro (.held) none, .mk 4 4 .ro (.val 0) none], -- G_BOOT_CAUSE
   .mk 0x108 0 1 [.mk 0 16 .ro (.val 0) none], -- G_BOOT_TIME
   .mk 0x10C 0 1 [.mk 0 1 .wo (.val 0) none, .mk 1 1 .wo (.val 0) none, .mk 2 1 .wo (.val 0) none, .mk 3 1 .wo (.val 0) none, .mk 4 1 .wo (.val 0) none], -- G_BOOT_CMD
   .mk 0x110 0 1 [.mk 0 4 .ro (.held) none, .mk 4 8 .ro (.held) none, .mk 12 8 .ro (.held) none], -- G_SD_STATUS
   .mk 0x114 0 1 [.mk 0 1 .ro (.val 0) none, .mk 1 1 .ro (.val 0) none, .mk 2 3 .ro (.val 0) none, .mk 5 1 .ro (.held) none, .mk 6 4 .ro (.val 0) none, .mk 10 6 .ro (.val 0) none, .mk 16 11 .ro (.val 0) none], -- G_QS_STATUS
   .mk 0x118 0 1 [.mk 0 32 .ro (.val 0) none]] -- G_QS_SEQ
/-- The registers of a bringup page. -/
def regsBringup : List RegDesc := regsBringup0
def regsReliability0 : List RegDesc :=
  [.mk 0x100 0 1 [.mk 0 1 .ro (.val 0) none, .mk 1 1 .ro (.val 0) none, .mk 2 1 .ro (.val 0) none, .mk 3 4 .ro (.val 0) none, .mk 7 4 .ro (.val 0) none, .mk 11 4 .ro (.val 0) none, .mk 15 1 .ro (.val 0) none, .mk 16 1 .ro (.val 0) none], -- G_REL_STATUS
   .mk 0x104 0 1 [.mk 0 32 .rc (.val 0) none], -- G_REL_FAILOVERS
   .mk 0x108 0 1 [.mk 0 1 .rw (.val 0) none, .mk 1 4 .ro (.val 0) none, .mk 5 2 .ro (.val 0) none], -- G_CLKSEL
   .mk 0x10C 0 1 [.mk 0 8 .rw (.val 0x18) none], -- G_SCRUB
   .mk 0x110 0 1 [.mk 0 32 .rc (.val 0) none], -- G_CE_COUNT
   .mk 0x114 0 1 [.mk 0 32 .rc (.val 0) none], -- G_UE_COUNT
   .mk 0x118 0 1 [.mk 0 32 .ro (.val 0) none], -- G_ELOG_WR
   .mk 0x11C 0 1 [.mk 0 32 .rw (.val 0) none], -- G_ELOG_RD
   .mk 0x120 0 1 [.mk 0 32 .rc (.val 0) none], -- G_ELOG_LOST
   .mk 0x130 0 1 [.mk 0 1 .rw (.val 0) none, .mk 1 2 .rw (.val 0) none, .mk 3 7 .rw (.val 0) none, .mk 10 12 .rw (.val 0) none, .mk 22 1 .ro (.val 0) none], -- G_FLIP_CTRL
   .mk 0x134 0 1 [.mk 0 32 .rw (.val 0) none], -- G_FLIP_ADDR_LO
   .mk 0x138 0 1 [.mk 0 32 .rw (.val 0) none], -- G_FLIP_ADDR_HI
   .mk 0x140 0 1 [.mk 0 2 .rw (.val 0) none, .mk 2 6 .rw (.val 0) none, .mk 8 1 .w1s (.val 0) none], -- G_BIST_CMD
   .mk 0x144 0 1 [.mk 0 4 .ro (.val 0) none, .mk 4 12 .ro (.val 0) none, .mk 16 16 .ro (.val 0) none], -- G_BIST_STATUS
   .mk 0x800 16 64 [.mk 0 32 .ro (.val 0) none], -- G_ELOG_REC0
   .mk 0x804 16 64 [.mk 0 32 .ro (.val 0) none], -- G_ELOG_REC1
   .mk 0x808 16 64 [.mk 0 32 .ro (.val 0) none], -- G_ELOG_REC2
   .mk 0x80C 16 64 [.mk 0 32 .ro (.val 0) none]] -- G_ELOG_REC3
/-- The registers of a reliability page. -/
def regsReliability : List RegDesc := regsReliability0
def regsSecurity0 : List RegDesc :=
  [.mk 0x100 0 1 [.mk 0 1 .ro (.val 0) none, .mk 1 1 .ro (.val 0) none, .mk 2 2 .ro (.val 0) none, .mk 4 1 .ro (.val 0) none, .mk 5 1 .ro (.val 0) none], -- SEC_STATUS
   .mk 0x104 0 1 [.mk 0 1 .wo (.val 0) none], -- SEC_SCAN_CMD
   .mk 0x108 0 1 [.mk 0 2 .ro (.held) none, .mk 2 2 .ro (.val 0) none, .mk 4 28 .ro (.held) none], -- SEC_SCAN_INFO
   .mk 0x10C 0 1 [.mk 0 32 .ro (.fuse) none], -- SEC_KEY_ID
   .mk 0x110 0 1 [.mk 0 32 .rc (.val 0) none], -- SEC_SPDM_REQS
   .mk 0x114 0 1 [.mk 0 32 .rc (.val 0) none]] -- SEC_SPDM_ERRS
/-- The registers of a security page. -/
def regsSecurity : List RegDesc := regsSecurity0
def regsMailbox0 : List RegDesc :=
  [.mk 0x100 0 1 [.mk 0 16 .rw (.val 0) none, .mk 16 11 .rw (.val 0) none, .mk 31 1 .w1s (.val 0) none], -- ENS_CMD
   .mk 0x104 0 1 [.mk 0 1 .ro (.val 0) none, .mk 1 1 .ro (.val 0) none, .mk 2 1 .ro (.val 0) none, .mk 4 8 .ro (.val 0) none, .mk 12 11 .ro (.val 0) none], -- ENS_STATUS
   .mk 0x108 0 1 [.mk 0 32 .ro (.val 0) none], -- ENS_DONE
   .mk 0x110 4 2 [.mk 0 16 .ro (.val 0) none, .mk 16 1 .ro (.val 0) none], -- ENS_FWVER
   .mk 0x400 4 256 [.mk 0 32 .rw (.undef) none]] -- ENS_DATA
/-- The registers of a mailbox page. -/
def regsMailbox : List RegDesc := regsMailbox0
def regsDie0 : List RegDesc :=
  [.mk 0x180 0 1 [.mk 0 8 .ro (.fuse) none, .mk 8 8 .ro (.fuse) none, .mk 16 8 .ro (.fuse) none, .mk 24 8 .ro (.fuse) none], -- DIE_DLY_MESH
   .mk 0x184 0 1 [.mk 0 8 .ro (.fuse) none, .mk 8 8 .ro (.fuse) none, .mk 16 8 .ro (.fuse) none, .mk 24 8 .ro (.fuse) none], -- DIE_DLY_SEAM
   .mk 0x200 0 1 [.mk 0 4 .stg (.val 8) (some (0, 8))], -- DIE_BK_TOKCAP
   .mk 0x204 0 1 [.mk 0 12 .ro (.val 0) none, .mk 12 12 .ro (.val 0) none], -- DIE_BK_STATUS
   .mk 0x208 0 1 [.mk 0 16 .w1c (.val 0) none], -- DIE_BK_WOVER
   .mk 0x20C 0 1 [.mk 0 32 .ro (.val 0) none], -- DIE_BK_WOVER_ORBIT
   .mk 0x210 0 1 [.mk 0 12 .rc (.val 0) none], -- DIE_BK_PEAK
   .mk 0x240 0 1 [.mk 0 4 .stg (.val 4) (some (0, 8)), .mk 4 4 .ro (.val 0) none, .mk 8 4 .ro (.val 8) none, .mk 12 4 .ro (.val 8) none, .mk 16 4 .ro (.fuse) none], -- DIE_FREQ
   .mk 0x244 0 1 [.mk 0 32 .rc (.val 0) none], -- DIE_FREQ_DEFER
   .mk 0x300 4 9 [.mk 0 32 .w1s (.fuse) none], -- DIE_ECL
   .mk 0x340 4 9 [.mk 0 32 .w1s (.val 0) none], -- DIE_ECL_REL
   .mk 0x380 4 9 [.mk 0 32 .w1s (.val 0) none], -- DIE_PFAIL
   .mk 0x3C0 0 1 [.mk 0 32 .rc (.val 0) none], -- DIE_GHOST
   .mk 0x3C4 0 1 [.mk 0 16 .ro (.val 0) none], -- DIE_GHOST_LAST
   .mk 0x800 4 272 [.mk 0 32 .w1s (.val 0) none]] -- DIE_BRET
/-- The registers of a die page. -/
def regsDie : List RegDesc := regsDie0
def regsQueue0 : List RegDesc :=
  [.mk 0x800 32 64 [.mk 7 25 .rw (.val 0) none], -- QUE_BASE_LO
   .mk 0x804 32 64 [.mk 0 16 .rw (.val 0) none], -- QUE_BASE_HI
   .mk 0x808 32 64 [.mk 0 1 .rw (.val 0) none, .mk 1 5 .rw (.val 4) (some (4, 16)), .mk 8 6 .rw (.val 0) none, .mk 16 8 .rw (.val 0) none], -- QUE_CFG
   .mk 0x80C 32 64 [.mk 0 32 .ro (.val 0) none], -- QUE_TAIL
   .mk 0x810 32 64 [.mk 0 32 .ro (.val 0) none], -- QUE_HEAD
   .mk 0x814 32 64 [.mk 0 32 .ro (.val 0) none], -- QUE_DONE
   .mk 0x818 32 64 [.mk 0 3 .ro (.val 0) none, .mk 8 4 .ro (.val 0) none, .mk 31 1 .wo (.val 0) none], -- QUE_STATUS
   .mk 0x81C 32 64 [.mk 0 32 .rc (.val 0) none]] -- QUE_LATE
/-- The registers of a queue page. -/
def regsQueue : List RegDesc := regsQueue0
def regsEvent0 : List RegDesc :=
  [.mk 0x100 0 1 [.mk 0 1 .rw (.val 0) none, .mk 1 1 .rw (.val 0) none, .mk 2 5 .rw (.val 4) (some (4, 16)), .mk 7 8 .rw (.val 0) none, .mk 15 6 .rw (.val 0) none], -- EVT_CFG
   .mk 0x104 0 1 [.mk 12 20 .rw (.val 0) none], -- EVT_BASE_LO
   .mk 0x108 0 1 [.mk 0 32 .rw (.val 0) none], -- EVT_BASE_HI
   .mk 0x10C 0 1 [.mk 0 32 .rw (.val 0) none], -- EVT_HEAD
   .mk 0x110 0 1 [.mk 0 32 .ro (.val 0) none], -- EVT_TAIL
   .mk 0x114 0 1 [.mk 0 16 .ro (.val 0) none], -- EVT_PENDING
   .mk 0x118 0 1 [.mk 0 32 .rc (.val 0) none], -- EVT_FLOOD
   .mk 0x11C 0 1 [.mk 0 16 .rw (.val 0) none], -- EVT_IRQ
   .mk 0x120 0 1 [.mk 0 5 .ro (.val 0) none]] -- EVT_STAGED
/-- The registers of a event page. -/
def regsEvent : List RegDesc := regsEvent0
def regsCluster0 : List RegDesc :=
  [.mk 0x180 0 1 [.mk 0 2 .rw (.val 0) (some (0, 2))], -- CLU_MXCFG
   .mk 0x200 0 1 [.mk 0 2 .rw (.val 0) (some (0, 2))], -- CLU_CC_CFG
   .mk 0x204 0 1 [.mk 0 1 .wo (.val 0) none, .mk 1 1 .wo (.val 0) none], -- CLU_CC_CMD
   .mk 0x208 0 1 [.mk 0 1 .ro (.val 0) none, .mk 1 1 .ro (.val 0) none, .mk 2 1 .ro (.val 0) none], -- CLU_CC_STATUS
   .mk 0x20C 0 1 [.mk 0 32 .rc (.val 0) none], -- CLU_CC_LD_LOOK
   .mk 0x210 0 1 [.mk 0 32 .rc (.val 0) none], -- CLU_CC_LD_HIT
   .mk 0x214 0 1 [.mk 0 32 .rc (.val 0) none], -- CLU_CC_PF_LOOK
   .mk 0x218 0 1 [.mk 0 32 .rc (.val 0) none], -- CLU_CC_PF_HIT
   .mk 0x21C 0 1 [.mk 0 32 .rc (.val 0) none], -- CLU_CC_COH_LOOK
   .mk 0x220 0 1 [.mk 0 32 .rc (.val 0) none], -- CLU_CC_COH_HIT
   .mk 0x224 0 1 [.mk 0 32 .rc (.val 0) none], -- CLU_CC_MERGED
   .mk 0x228 0 1 [.mk 0 32 .rc (.val 0) none], -- CLU_CC_GSTALL
   .mk 0x22C 0 1 [.mk 0 32 .rc (.val 0) none], -- CLU_CC_WB
   .mk 0x230 0 1 [.mk 0 32 .rc (.val 0) none], -- CLU_CC_RECALL
   .mk 0x234 0 1 [.mk 0 32 .rc (.val 0) none], -- CLU_CC_DIR_EVICT
   .mk 0x280 0 1 [.mk 0 7 .ro (.fuse) none, .mk 8 4 .rw (.val 0) (some (0, 8)), .mk 12 1 .ro (.val 0) none], -- CLU_PSTATE
   .mk 0x284 4 3 [.mk 0 32 .ro (.fuse) none], -- CLU_VMIN
   .mk 0x2C0 0 1 [.mk 0 2 .wo (.val 0) none, .mk 8 1 .ro (.fuse) none, .mk 9 1 .ro (.val 0) none, .mk 10 3 .ro (.val 0) none]] -- CLU_SPARE
/-- The registers of a cluster page. -/
def regsCluster : List RegDesc := regsCluster0
def regsCore0 : List RegDesc :=
  [.mk 0x100 0 1 [.mk 0 16 .ro (.fuse) none, .mk 16 2 .ro (.fuse) none, .mk 18 1 .ro (.fuse) none, .mk 19 1 .ro (.val 0) none, .mk 20 1 .ro (.val 0) none], -- CORE_SITE
   .mk 0x104 0 1 [.mk 0 3 .rw (.val 0) (some (0, 4))], -- CORE_LS_SPLIT
   .mk 0x108 0 1 [.mk 0 10 .rw (.val 0) none], -- CORE_VOY_LCORE
   .mk 0x10C 0 1 [.mk 0 32 .rw (.val 0) none], -- CORE_VOY_SEED
   .mk 0x110 0 1 [.mk 6 26 .rw (.val 0) none], -- CORE_VOY_TABLE_LO
   .mk 0x114 0 1 [.mk 0 32 .rw (.val 0) none], -- CORE_VOY_TABLE_HI
   .mk 0x118 0 1 [.mk 0 16 .rw (.val 1) (some (1, 65535)), .mk 16 1 .rw (.val 0) none], -- CORE_VOY_PROGS
   .mk 0x11C 0 1 [.mk 0 32 .rw (.val 0) none], -- CORE_VOY_LAUNCH_LO
   .mk 0x120 0 1 [.mk 0 32 .rw (.val 0) none], -- CORE_VOY_LAUNCH_HI
   .mk 0x124 0 1 [.mk 0 1 .wo (.val 0) none, .mk 1 1 .wo (.val 0) none], -- CORE_VOY_CMD
   .mk 0x128 0 1 [.mk 0 32 .ro (.val 0) none], -- CORE_PROG_K
   .mk 0x12C 0 1 [.mk 0 12 .ro (.val 0) none], -- CORE_PC
   .mk 0x130 0 1 [.mk 0 1 .w1c (.val 0) none, .mk 1 1 .w1c (.val 0) none, .mk 2 1 .w1c (.val 0) none, .mk 3 1 .w1c (.val 0) none, .mk 4 1 .w1c (.val 0) none], -- CORE_FPFLAGS
   .mk 0x134 0 1 [.mk 0 8 .ro (.val 0) none], -- CORE_FAULT
   .mk 0x138 0 1 [.mk 0 12 .ro (.val 0) none, .mk 12 20 .ro (.val 0) none], -- CORE_FAULT_PC
   .mk 0x13C 0 1 [.mk 0 32 .ro (.val 0) none], -- CORE_FAULT_INFO
   .mk 0x140 0 1 [.mk 0 8 .stg (.val 0x10) none], -- CORE_WDOG
   .mk 0x144 0 1 [.mk 0 32 .ro (.val 0) none], -- CORE_SR_N
   .mk 0x148 0 1 [.mk 0 32 .rc (.val 0) none], -- CORE_FETCH_STALL
   .mk 0x14C 0 1 [.mk 0 32 .rc (.val 0) none], -- CORE_SYWAIT_CYC
   .mk 0x150 0 1 [.mk 0 32 .rc (.val 0) none], -- CORE_VX_BUSY
   .mk 0x154 0 1 [.mk 0 32 .rc (.val 0) none], -- CORE_ST_DONE
   .mk 0x158 0 1 [.mk 0 32 .rc (.val 0) none], -- CORE_LS_CONFLICT
   .mk 0x180 4 32 [.mk 0 16 .rw (.val 0) none, .mk 16 16 .rw (.val 0) none]] -- CORE_TALLY
def regsCore1 : List RegDesc :=
  [.mk 0x200 0 1 [.mk 0 9 .stg (.val 0x100) none, .mk 9 2 .stg (.val 3) none, .mk 16 5 .stg (.val 0x10) none], -- CORE_MX_CTRL
   .mk 0x204 0 1 [.mk 0 2 .ro (.val 0) none, .mk 2 3 .ro (.val 0) none, .mk 5 1 .ro (.val 0) none, .mk 6 1 .ro (.val 0) none, .mk 8 4 .ro (.val 0) none], -- CORE_MX_STATUS
   .mk 0x208 0 1 [.mk 0 32 .rc (.val 0) none], -- CORE_MX_FRZ_TOTAL
   .mk 0x20C 0 1 [.mk 0 32 .rc (.val 0) none], -- CORE_MX_FRZ_A
   .mk 0x210 0 1 [.mk 0 32 .rc (.val 0) none], -- CORE_MX_FRZ_CIN
   .mk 0x214 0 1 [.mk 0 32 .rc (.val 0) none], -- CORE_MX_FRZ_DRAIN
   .mk 0x218 0 1 [.mk 0 32 .rc (.val 0) none], -- CORE_MX_LGAP
   .mk 0x21C 0 1 [.mk 0 32 .rc (.val 0) none], -- CORE_MX_BUNT_CYC
   .mk 0x220 0 1 [.mk 0 32 .rc (.val 0) none], -- CORE_MX_GATED_CYC
   .mk 0x224 0 1 [.mk 0 32 .rc (.val 0) none], -- CORE_MX_BUSY_CYC
   .mk 0x228 0 1 [.mk 0 32 .rc (.val 0) none], -- CORE_MX_PASSES
   .mk 0x240 0 1 [.mk 0 32 .rc (.val 0) none], -- CORE_L1_LD_LOOK
   .mk 0x244 0 1 [.mk 0 32 .rc (.val 0) none], -- CORE_L1_LD_HIT
   .mk 0x248 0 1 [.mk 0 32 .rc (.val 0) none], -- CORE_L1_PF_LOOK
   .mk 0x24C 0 1 [.mk 0 32 .rc (.val 0) none], -- CORE_L1_PF_HIT
   .mk 0x250 0 1 [.mk 0 32 .rc (.val 0) none], -- CORE_L1_DROP
   .mk 0x254 0 1 [.mk 0 32 .rc (.val 0) none], -- CORE_XL_MISS
   .mk 0x280 0 1 [.mk 0 12 .ro (.val 0) none, .mk 12 1 .ro (.val 0) none], -- CORE_TEMP
   .mk 0x284 0 1 [.mk 0 4 .ro (.fuse) none, .mk 4 28 .ro (.val 0) none], -- CORE_ECL
   .mk 0x288 0 1 [.mk 0 32 .rc (.val 0) none]] -- CORE_GHOST
/-- The registers of a core page. -/
def regsCore : List RegDesc := regsCore0 ++ regsCore1
def regsHalyard0 : List RegDesc :=
  [.mk 0x100 0 1 [.mk 0 8 .rw (.val 0x14) (some (1, 255))], -- HYP_ARB
   .mk 0x104 0 1 [.mk 0 1 .ro (.val 0) none, .mk 1 1 .ro (.fuse) none, .mk 4 5 .ro (.val 0) none, .mk 9 1 .ro (.val 0) none], -- HYP_STATUS
   .mk 0x108 0 1 [.mk 0 32 .rc (.val 0) none], -- HYP_ERR
   .mk 0x10C 0 1 [.mk 0 8 .ro (.val 0) none, .mk 8 4 .ro (.val 0) none, .mk 12 2 .ro (.val 0) none, .mk 14 18 .ro (.val 0) none], -- HYP_LASTERR
   .mk 0x110 0 1 [.mk 0 32 .rc (.val 0) none], -- HYP_RD_OWN
   .mk 0x114 0 1 [.mk 0 32 .rc (.val 0) none], -- HYP_RD_REM
   .mk 0x118 0 1 [.mk 0 32 .rc (.val 0) none], -- HYP_WR_ATOMS
   .mk 0x11C 0 1 [.mk 0 32 .rc (.val 0) none], -- HYP_ARB_AGED
   .mk 0x124 0 1 [.mk 0 1 .ro (.val 0) none, .mk 1 1 .ro (.val 0) none, .mk 4 4 .ro (.val 0) none], -- HYP_REF_STATUS
   .mk 0x128 0 1 [.mk 0 32 .rc (.val 0) none], -- HYP_REF_OPS
   .mk 0x12C 0 1 [.mk 0 32 .rc (.val 0) none], -- HYP_REF_URGENT
   .mk 0x140 4 4 [.mk 0 6 .rw (.val 0) none, .mk 6 6 .rw (.val 0) none, .mk 12 1 .rw (.val 0) none, .mk 16 5 .rw (.val 0) none, .mk 31 1 .ro (.val 0) none], -- HYP_XSET
   .mk 0x150 0 1 [.mk 0 32 .rc (.val 0) none], -- HYP_XVEC
   .mk 0x154 0 1 [.mk 0 32 .rc (.val 0) none], -- HYP_XBUSY
   .mk 0x158 0 1 [.mk 0 32 .rc (.val 0) none], -- HYP_BUS_BUSY
   .mk 0x15C 0 1 [.mk 0 32 .rc (.val 0) none], -- HYP_ROWMISS
   .mk 0x400 0 1 [.mk 0 4 .ro (.val 0) none, .mk 4 4 .ro (.val 0) none, .mk 8 4 .ro (.val 8) none, .mk 12 1 .ro (.val 0) none, .mk 13 1 .ro (.val 0) none, .mk 14 4 .ro (.val 0) none], -- HYP_BK_STATUS
   .mk 0x404 0 1 [.mk 0 32 .rc (.val 0) none], -- HYP_BK_OPS
   .mk 0x408 0 1 [.mk 0 32 .rc (.val 0) none], -- HYP_BK_WAVES
   .mk 0x40C 0 1 [.mk 0 32 .rc (.val 0) none], -- HYP_BK_STEPS
   .mk 0x410 0 1 [.mk 0 32 .rc (.val 0) none], -- HYP_BK_INSERTS
   .mk 0x414 0 1 [.mk 0 32 .rc (.val 0) none], -- HYP_BK_HELD
   .mk 0x418 0 1 [.mk 0 32 .rc (.val 0) none], -- HYP_BK_CORR
   .mk 0x41C 0 1 [.mk 0 32 .rc (.val 0) none]] -- HYP_BK_UNCORR
def regsHalyard1 : List RegDesc :=
  [.mk 0x420 0 1 [.mk 0 14 .ro (.val 0) none, .mk 14 5 .ro (.val 0) none, .mk 19 3 .ro (.val 0) none], -- HYP_BK_LASTERR
   .mk 0x424 0 1 [.mk 0 32 .rc (.val 0) none], -- HYP_BK_ISSUED
   .mk 0x428 0 1 [.mk 0 6 .ro (.val 0) none, .mk 6 1 .ro (.val 0) none, .mk 7 1 .ro (.val 0) none, .mk 8 1 .ro (.val 0) none, .mk 16 11 .ro (.val 0) none], -- HYP_BK_LASTDONE
   .mk 0x42C 0 1 [.mk 0 32 .rc (.val 0) none], -- HYP_BK_WOVER
   .mk 0x430 0 1 [.mk 0 32 .rc (.val 0) none], -- HYP_BK_TOKNS
   .mk 0x700 0 1 [.mk 0 3 .rw (.val 0) none], -- HYP_RT_LINKSEL
   .mk 0x704 0 1 [.mk 0 32 .rc (.val 0) none], -- HYP_RT_DROP
   .mk 0x708 0 1 [.mk 0 16 .ro (.val 0) none, .mk 16 4 .ro (.val 0) none], -- HYP_RT_LASTDROP
   .mk 0x70C 0 1 [.mk 0 32 .rc (.val 0) none], -- HYP_RT_ABSORB
   .mk 0x800 8 256 [.mk 0 32 .rw (.val 0) none], -- HYP_RTAB_LO
   .mk 0x804 8 256 [.mk 0 32 .rw (.val 0) none]] -- HYP_RTAB_HI
/-- The registers of a halyard page. -/
def regsHalyard : List RegDesc := regsHalyard0 ++ regsHalyard1
def regsLink0 : List RegDesc :=
  [.mk 0x100 0 1 [.mk 0 2 .rw (.val 3) none, .mk 2 1 .rw (.val 0) none, .mk 3 1 .rw (.val 1) none, .mk 8 4 .rw (.val 8) (some (1, 15))], -- LNK_CFG
   .mk 0x104 0 1 [.mk 0 2 .ro (.val 0) none, .mk 2 1 .ro (.val 0) none, .mk 3 1 .ro (.val 0) none, .mk 4 4 .ro (.val 0) none, .mk 8 4 .ro (.val 0) none, .mk 16 8 .ro (.val 0) none], -- LNK_STATUS
   .mk 0x108 0 1 [.mk 0 4 .ro (.val 0) none], -- LNK_CAUSE
   .mk 0x10C 0 1 [.mk 0 1 .wo (.val 0) none, .mk 1 1 .wo (.val 0) none], -- LNK_CMD
   .mk 0x110 0 1 [.mk 0 32 .rc (.val 0) none], -- LNK_CRC_ERR
   .mk 0x114 0 1 [.mk 0 32 .rc (.val 0) none], -- LNK_REPLAYS
   .mk 0x118 0 1 [.mk 0 32 .rc (.val 0) none], -- LNK_RETRAINS
   .mk 0x11C 0 1 [.mk 0 8 .ro (.val 0) none, .mk 8 8 .ro (.val 0) none, .mk 16 8 .ro (.val 0) none, .mk 24 8 .ro (.val 0) none], -- LNK_DLY
   .mk 0x120 0 1 [.mk 0 32 .rc (.val 0) none], -- LNK_FLITS_AB
   .mk 0x124 0 1 [.mk 0 32 .rc (.val 0) none], -- LNK_FLITS_BA
   .mk 0x128 0 1 [.mk 0 32 .rc (.val 0) none]] -- LNK_LOST
/-- The registers of a link page. -/
def regsLink : List RegDesc := regsLink0
def regsHostPort0 : List RegDesc :=
  [.mk 0x100 0 1 [.mk 0 1 .rw (.fuse) none], -- HPT_CTRL
   .mk 0x104 0 1 [.mk 0 1 .ro (.val 0) none, .mk 1 3 .ro (.val 0) none, .mk 4 1 .ro (.val 0) none], -- HPT_LINK
   .mk 0x108 0 1 [.mk 0 32 .rc (.val 0) none], -- HPT_FILT_DROP
   .mk 0x10C 0 1 [.mk 0 16 .ro (.val 0) none, .mk 16 6 .ro (.val 0) none, .mk 22 1 .ro (.val 0) none, .mk 23 1 .ro (.val 0) none], -- HPT_FILT_LAST
   .mk 0x110 0 1 [.mk 0 32 .rc (.val 0) none], -- HPT_XLATE_ERR
   .mk 0x114 0 1 [.mk 0 32 .rc (.val 0) none], -- HPT_DMA_ERR
   .mk 0x200 4 64 [.mk 0 1 .rw (.val 0) none, .mk 1 4 .rw (.val 0) none], -- HPT_FN
   .mk 0x400 16 64 [.mk 21 11 .rw (.val 0) none], -- HPT_WIN_VBASE_LO
   .mk 0x404 16 64 [.mk 0 16 .rw (.val 0) none], -- HPT_WIN_VBASE_HI
   .mk 0x408 16 64 [.mk 0 20 .rw (.val 0) none]] -- HPT_WIN_SIZE
/-- The registers of a hostPort page. -/
def regsHostPort : List RegDesc := regsHostPort0
def regsPartition0 : List RegDesc :=
  [.mk 0x100 0 1 [.mk 0 32 .rw (.val 0) none], -- PRT_ROWS_LO
   .mk 0x104 0 1 [.mk 0 32 .rw (.val 0) none], -- PRT_ROWS_HI
   .mk 0x108 0 1 [.mk 0 1 .rw (.val 0) none], -- PRT_GRANT
   .mk 0x10C 0 1 [.mk 0 6 .rw (.val 0) none], -- PRT_DEFRING
   .mk 0x110 0 1 [.mk 0 11 .ro (.val 0) none, .mk 11 11 .ro (.val 0) none], -- PRT_INFO
   .mk 0x114 0 1 [.mk 0 13 .ro (.val 0) none], -- PRT_QUEUES
   .mk 0x400 0 1 [.mk 12 20 .rw (.val 0) none], -- PRT_PT_ROOT_LO
   .mk 0x404 0 1 [.mk 0 13 .rw (.val 0) none], -- PRT_PT_ROOT_HI
   .mk 0x408 0 1 [.mk 0 1 .rw (.val 0) none], -- PRT_XCTRL
   .mk 0x40C 0 1 [.mk 0 1 .w1s (.val 0) none, .mk 1 1 .rw (.val 0) none, .mk 2 1 .ro (.val 1) none], -- PRT_XINV
   .mk 0x410 0 1 [.mk 16 16 .rw (.val 0) none], -- PRT_XINV_VA_LO
   .mk 0x414 0 1 [.mk 0 16 .rw (.val 0) none], -- PRT_XINV_VA_HI
   .mk 0x418 0 1 [.mk 0 32 .rw (.val 0) none], -- PRT_XINV_PAGES
   .mk 0x41C 0 1 [.mk 0 4 .ro (.val 0) none, .mk 4 2 .ro (.val 0) none, .mk 6 1 .ro (.val 0) none, .mk 7 2 .ro (.val 0) none, .mk 9 16 .ro (.val 0) none, .mk 31 1 .w1c (.val 0) none], -- PRT_XF_STATUS
   .mk 0x420 0 1 [.mk 0 32 .ro (.val 0) none], -- PRT_XF_VA_LO
   .mk 0x424 0 1 [.mk 0 32 .ro (.val 0) none], -- PRT_XF_VA_HI
   .mk 0x428 0 1 [.mk 0 32 .rc (.val 0) none], -- PRT_XF_COUNT
   .mk 0x42C 0 1 [.mk 0 30 .rw (.val 0) none], -- PRT_CEN_VALUE
   .mk 0x430 0 1 [.mk 12 20 .rw (.val 0) none], -- PRT_CEN_BASE_LO
   .mk 0x434 0 1 [.mk 0 13 .rw (.val 0) none], -- PRT_CEN_BASE_HI
   .mk 0x438 0 1 [.mk 16 16 .rw (.val 0) none], -- PRT_CEN_PAGE_LO
   .mk 0x43C 0 1 [.mk 0 13 .rw (.val 0) none], -- PRT_CEN_PAGE_HI
   .mk 0x440 0 1 [.mk 0 3 .rw (.val 0) (some (0, 6)), .mk 3 1 .w1s (.val 0) none, .mk 4 1 .ro (.val 0) none, .mk 5 1 .ro (.val 0) none], -- PRT_CEN_OP
   .mk 0x444 0 1 [.mk 0 32 .ro (.val 0) none]] -- PRT_CEN_RESULT
def regsPartition1 : List RegDesc :=
  [.mk 0x448 0 1 [.mk 3 29 .rw (.val 0) none], -- PRT_FREE_BASE_LO
   .mk 0x44C 0 1 [.mk 0 13 .rw (.val 0) none], -- PRT_FREE_BASE_HI
   .mk 0x450 0 1 [.mk 0 5 .rw (.val 4) (some (4, 16))], -- PRT_FREE_SIZE
   .mk 0x454 0 1 [.mk 0 32 .rw (.val 0) none], -- PRT_FREE_TAIL
   .mk 0x458 0 1 [.mk 0 32 .ro (.val 0) none], -- PRT_FREE_HEAD
   .mk 0x45C 0 1 [.mk 0 16 .rw (.val 0x10) none, .mk 16 16 .rw (.val 0x64) none], -- PRT_FREE_LOW
   .mk 0x460 0 1 [.mk 0 32 .rc (.val 0) none], -- PRT_COW_COPIES
   .mk 0x464 0 1 [.mk 0 32 .rc (.val 0) none], -- PRT_COW_SOLE
   .mk 0x468 0 1 [.mk 0 16 .rc (.val 0) none], -- PRT_FREE_BAD
   .mk 0x46C 0 1 [.mk 16 16 .ro (.val 0) none], -- PRT_COW_FAIL_LO
   .mk 0x470 0 1 [.mk 0 13 .ro (.val 0) none]] -- PRT_COW_FAIL_HI
/-- The registers of a partition page. -/
def regsPartition : List RegDesc := regsPartition0 ++ regsPartition1
def regsMoonlet0 : List RegDesc :=
  [.mk 0x100 0 1 [.mk 0 1 .ro (.fuse) none, .mk 1 4 .ro (.val 0) none], -- MNL_STATUS
   .mk 0x104 0 1 [.mk 0 3 .rw (.val 0) none], -- MNL_PORTSEL
   .mk 0x108 0 1 [.mk 0 32 .rc (.val 0) none], -- MNL_ERR
   .mk 0x10C 0 1 [.mk 0 8 .ro (.val 0) none, .mk 8 4 .ro (.val 0) none, .mk 12 4 .ro (.val 0) none, .mk 16 2 .ro (.val 0) none], -- MNL_LASTERR
   .mk 0x110 4 4 [.mk 0 32 .ro (.val 0) none], -- MNL_CAP
   .mk 0x200 16 16 [.mk 0 1 .rw (.val 0) none, .mk 1 4 .rw (.val 0) none, .mk 5 1 .ro (.val 0) none], -- MNL_WIN_CTRL
   .mk 0x204 16 16 [.mk 21 11 .rw (.val 0) none], -- MNL_WIN_VBASE_LO
   .mk 0x208 16 16 [.mk 0 32 .rw (.val 0) none], -- MNL_WIN_VBASE_HI
   .mk 0x20C 16 16 [.mk 0 20 .rw (.val 0) none]] -- MNL_WIN_SIZE
/-- The registers of a moonlet page. -/
def regsMoonlet : List RegDesc := regsMoonlet0
def regsHeader0 : List RegDesc :=
  [.mk 0x0 0 1 [.mk 0 8 .ro (.fuse) none, .mk 8 12 .ro (.fuse) none, .mk 20 12 .ro (.fuse) none], -- PG_IDENT
   .mk 0x4 0 1 [.mk 0 1 .ro (.fuse) none, .mk 1 1 .ro (.fuse) none, .mk 2 1 .ro (.fuse) none, .mk 3 1 .ro (.fuse) none, .mk 4 1 .ro (.fuse) none, .mk 5 1 .ro (.fuse) none], -- PG_CAPS
   .mk 0x8 0 1 [.mk 0 1 .rw (.val 0) none, .mk 1 1 .rw (.val 0) none, .mk 2 1 .w1s (.val 0) none, .mk 3 1 .rw (.fuse) none, .mk 8 4 .rw (.val 0) none, .mk 12 1 .rw (.val 0) none], -- PG_CTRL
   .mk 0xC 0 1 [.mk 0 4 .ro (.val 0) none], -- PG_STATE
   .mk 0x10 0 1 [.mk 0 1 .w1c (.val 0) none, .mk 1 1 .w1c (.val 0) none, .mk 8 24 .w1c (.val 0) none], -- PG_EVT
   .mk 0x14 0 1 [.mk 0 32 .rw (.val 0) none], -- PG_EVT_EN
   .mk 0x18 0 1 [.mk 0 6 .rw (.val 0) none], -- PG_EVT_ROUTE
   .mk 0x1C 0 1 [.mk 0 32 .rc (.val 0) none], -- PG_EVT_COUNT
   .mk 0x20 4 4 [.mk 0 32 .ro (.val 0) none], -- PG_ERRCAP
   .mk 0x30 0 1 [.mk 0 1 .rw (.val 0) none, .mk 1 1 .rw1 (.val 0) none]] -- PG_LOCK
/-- The registers of the common page header. -/
def regsHeader : List RegDesc := regsHeader0
/-- The registers of a page, header first (R401). -/
def regsOf : PageKind → List RegDesc
  | .ident => regsHeader ++ regsIdent
  | .timebase => regsHeader ++ regsTimebase
  | .orbit => regsHeader ++ regsOrbit
  | .power => regsHeader ++ regsPower
  | .thermal => regsHeader ++ regsThermal
  | .bringup => regsHeader ++ regsBringup
  | .reliability => regsHeader ++ regsReliability
  | .security => regsHeader ++ regsSecurity
  | .mailbox => regsHeader ++ regsMailbox
  | .die => regsHeader ++ regsDie
  | .queue => regsHeader ++ regsQueue
  | .event => regsHeader ++ regsEvent
  | .cluster => regsHeader ++ regsCluster
  | .core => regsHeader ++ regsCore
  | .halyard => regsHeader ++ regsHalyard
  | .link => regsHeader ++ regsLink
  | .hostPort => regsHeader ++ regsHostPort
  | .partition => regsHeader ++ regsPartition
  | .moonlet => regsHeader ++ regsMoonlet
end Sys2Proof.Machine
end

