-- ==== Sys2Proof/Config.lean ====
section
/-! DEFINITION. What the spec leaves to the part: fused values, and values that it leaves undefined (free values: nothing constrains them). -/
namespace Sys2Proof.Config

/-- The grade (R2): the part is a TQ4-B816. -/
opaque gradeB : Bool
/-- A register word loaded from fuses or the flash fuse overlay (R14, entry f), by BAR0 address, where the spec gives no value. -/
opaque fuse : Nat → Word
/-- A register word whose reset entry is x (R14), by BAR0 address. -/
opaque undefWord : Nat → Word
/-- A byte of undefined content: the generation of the content and the address. -/
opaque undefByte : Nat → Nat → Byte
/-- On a TQ4-B816, the cluster whose seven sites include the row spare of a global row: 0 none, 1 West, 2 East (R22). -/
opaque fusedSpare : Nat → Fin 3
/-- On a TQ4-B816, a column (0 to 7 within the cluster) that fuses leave out of a cluster (R3, R22). -/
opaque fusedOut : Nat → Fin 8
/-- On a TQ4-B816 cluster that takes its row spare, the distance from `fusedOut` to the second column left out, less one. -/
opaque fusedOut2 : Nat → Fin 7
/-- The published function of a transcendental (R125): opcode, strict mode, operand; its result lies within the bound or is not taken. -/
opaque transcendental : Nat → Bool → Nat → Nat
/-- A value the spec leaves open where the machine goes on, by the number of such values taken before. -/
opaque freeValue : Nat → Nat

/-- Which of every eight cycles a COMP trim holds the arrays of a core begins (R291): a phase per core. -/
opaque trimPhase : Nat → Nat
/-- The fused thermal model (R303): tower, DRAM (true) or logic, the hottest present logic and DRAM readings of the four towers, planned energy in mJ; a 12-bit temperature in eighths of a degree. -/
opaque forecast : Nat → Bool → List Nat → Nat → BitVec 12

/-- What a bring-up meets that no command describes, because an action's write of RESET_ALL began it. -/
opaque freeBoot : Nat → BootIn
/-- The same of an orderly shutdown that a plain write began. -/
opaque freeShutdown : Nat → ShutIn
/-- Bytes 0 to 7 of the mailbox's GET_INFO result, whose layout the spec does not give: byte, versions of A and B, slots of A and B (R416). -/
opaque infoByte : Nat → Nat → Nat → Nat → Nat → BitVec 8
/-- The certificate chain of slot 0 and its digest (R409). -/
opaque certChain : List (BitVec 8)
opaque certDigest : List (BitVec 8)
/-- Digest of the Ensign image of a version in a slot, and of the fuse overlay (R409). -/
opaque imageDigest : Nat → Nat → List (BitVec 8)
opaque overlayDigest : List (BitVec 8)
/-- A signature by the identity key (R409). -/
opaque signature : Nat → List (BitVec 8)
/-- The manufacturer field of the JTAG IDCODE (R443). -/
opaque jtagMaker : BitVec 11

end Sys2Proof.Config
end

