-- ==== Sys2Proof/Machine/Sites.lean ====
section
/-! DEFINITION. Numbers of sites, rows and clusters, page addresses, and the fused state of sites (R20 to R25, R398). -/
namespace Sys2Proof.Machine

/-- Sites of the part (R20). -/
def nSites : Nat := 1088

def siteDie (i : Nat) : Nat := i / 272
def siteRow (i : Nat) : Nat := i % 272 / 17
def siteCol (i : Nat) : Nat := i % 17
/-- Global row of a site (R25). -/
def siteGRow (i : Nat) : Nat := i / 17
/-- Page index of a site from die, row and column (R25). -/
def siteIdx (d r c : Nat) : Nat := 272 * d + 17 * r + c
/-- The 16-bit site number (R23). -/
def siteNum (i : Nat) : Nat := siteDie i * 0x4000 + siteRow i * 0x400 + siteCol i * 0x20
/-- The page index that a site number names; none where it names no site (R24). -/
def siteOfNum (n : Nat) : Option Nat :=
  if bits n 5 5 ≤ 16 ∧ bits n 0 5 = 0 ∧ n < 0x10000 then some (siteIdx (bits n 14 2) (bits n 10 4) (bits n 5 5)) else none
/-- The site is its row's spare (R20). -/
def isSpare (i : Nat) : Bool := siteCol i == 8
/-- Cluster number of a die, row and side (R25). -/
def clusterNum (d r side : Nat) : Nat := 32 * d + 2 * r + side
/-- The cluster of a cluster site; of a spare, the West cluster of its row. -/
def homeCluster (i : Nat) : Nat := clusterNum (siteDie i) (siteRow i) (if siteCol i > 8 then 1 else 0)
/-- Column within its cluster of a cluster site. -/
def siteInCluster (i : Nat) : Nat := if siteCol i > 8 then siteCol i - 9 else siteCol i
/-- Global row of a cluster. -/
def clusterGRow (c : Nat) : Nat := c / 2
/-- The spare site of a global row. -/
def spareOfRow (g : Nat) : Nat := 17 * g + 8
/-- The eight own sites of a cluster. -/
def clusterSites (c : Nat) : List Nat :=
  (List.range 8).map (fun k => 17 * (c / 2) + (if c % 2 = 0 then k else 9 + k))

/-- BAR0 addresses of instance pages (R398, R399). -/
def pgTim : Nat := 0x1000
def pgOrb : Nat := 0x2000
def pgPwr : Nat := 0x3000
def pgThm : Nat := 0x4000
def pgBoot : Nat := 0x5000
def pgRel : Nat := 0x6000
def pgSec : Nat := 0x7000
def pgEns : Nat := 0x8000
def pgDie (d : Nat) : Nat := 0x10000 + 0x1000 * d
def pgQue (n : Nat) : Nat := 0x40000 + 0x1000 * n
def pgEvt (e : Nat) : Nat := 0x80000 + 0x1000 * e
def pgClu (c : Nat) : Nat := 0x100000 + 0x1000 * c
def pgCore (i : Nat) : Nat := 0x200000 + 0x1000 * i
def pgHyp (i : Nat) : Nat := 0x800000 + 0x1000 * i
def pgLnk (n : Nat) : Nat := 0xE00000 + 0x1000 * n
def pgHpt (n : Nat) : Nat := 0xE20000 + 0x1000 * n
def pgPrt (p : Nat) : Nat := 0xE40000 + 0x1000 * p
def pgMnl : Nat := 0xE60000

/-- Fuses record the site as active (R2, R3, R22). -/
def fusedActive (i : Nat) : Bool :=
  if Config.gradeB then
    if isSpare i then (Config.fusedSpare (siteGRow i)).val != 0
    else
      let c := homeCluster i
      let o := (Config.fusedOut c).val
      let col := siteInCluster i
      col != o && !((Config.fusedSpare (siteGRow i)).val == c % 2 + 1 && col == (o + 1 + (Config.fusedOut2 c).val) % 8)
  else !isSpare i

/-- A cluster site that fuses leave out: eclipsed from bring-up on (R22, R375). -/
def fusedOff (i : Nat) : Bool := !isSpare i && !fusedActive i

/-- Fuses give a cluster the row spare (R22). -/
def fusedServes (c : Nat) : Bool := Config.gradeB && (Config.fusedSpare (clusterGRow c)).val == c % 2 + 1

end Sys2Proof.Machine
end

