-- ==== Sys2Proof/Machine/ByteMemory.lean ====
section
/-! DEFINITION. Byte memory as plain data (R131, R176, R362). -/
namespace Sys2Proof.Machine

/-- Byte memory: the listed bytes in rising address order; `fill` says what an unlisted byte reads as
(newest entry first: from, up to but not including, and none for zero or the generation of an undefined content);
`flips` holds the bits of a byte's 12-bit codeword (R362) that differ from a written codeword. -/
structure Memory where
  cells : List Host.Cell
  fill : List (Nat × Nat × Option Nat)
  flips : Tab Nat
  deriving DecidableEq, Repr

end Sys2Proof.Machine
end

