-- ==== Sys2Proof/Machine/FabricTypes.lean ====
section
/-! DEFINITION. Packets, routers, die-to-die links and halyard ports beyond their registers (R141 to R172, R179 to R193). -/
namespace Sys2Proof.Machine

/-- Where a packet is. -/
inductive Place where
  /-- injected by a core, not yet through its site's egress gate -/
  | gate (site : Nat)
  /-- at a site's router -/
  | router (site : Nat)
  /-- in a link's sending gateway or on the link; towards end B or end A; its lane in the strip -/
  | link (n : Nat) (toB : Bool) (lane : Nat)
  /-- delivered to an exit -/
  | core (site : Nat)
  | hal (site : Nat)
  | clu (site : Nat)
  /-- delivered to the I/O die or moonlet end of a link -/
  | ext (link : Nat)
  deriving DecidableEq, Repr

/-- A packet: the header of R149, its payload and its mask flit. -/
structure Packet where
  place : Place
  route : Nat
  /-- current segment, and hops left in it (0 before it is begun) -/
  cur : Nat
  left : Nat
  xed : Bool
  vc : Nat
  srcKind : Nat
  masked : Bool
  src : Nat
  ty : Nat
  part : Nat
  clu : Bool
  tag : Nat
  addr : Nat
  len : Nat
  aux : Nat
  data : List Byte
  mask : Nat
  deriving DecidableEq, Repr

/-- A filled slot of a frame (R161): the packet or message and the flit of it, its VC and lane (XED), START on the first flit, and its 64 bytes. -/
structure Slot where
  pkt : Nat
  flit : Nat
  vc : Nat
  xed : Bool
  start : Bool
  bytes : List Nat
  deriving DecidableEq, Repr

/-- A frame on a link (R161): its filled slots, acknowledgement, credits freed, and link control: kind (0 none, 1 probe, 2 probe echo, 3 retrain request) and timestamp. -/
structure Frame where
  seq : Nat
  slots : List Slot
  ack : Nat
  nak : Bool
  cred : List Nat
  lctl : Nat × Nat
  deriving DecidableEq, Repr

/-- A delay measurement (R169): probes sent by end A, and the round trips of the echoes so far in CLK_D2D cycles. -/
structure Probe where
  sent : Nat
  trips : List Nat
  deriving DecidableEq, Repr

/-- One direction of a link: its sender and its receiver (R161 to R163). -/
structure LinkDir where
  /-- packets in the sending gateway, oldest first, with flits already sent -/
  waiting : List (Nat × Nat)
  /-- next sequence number -/
  seq : Nat
  /-- frames not yet acknowledged, oldest first -/
  replay : List Frame
  /-- index in `replay` of the next frame to send again; none when no replay runs -/
  again : Option Nat
  /-- consecutive replays of the oldest frame -/
  tries : Nat
  /-- frames on the mainband -/
  wire : List Frame
  /-- flit credits by VC, LOCAL then ARRIVED (R163) -/
  credits : List Nat
  /-- receiver: last good sequence number, whether the last frame was bad, flits received of each packet, flits freed -/
  good : Nat
  bad : Bool
  got : Tab Nat
  freed : List Nat
  deriving DecidableEq, Repr

/-- A link's state machine beyond its page (R160, R169). -/
structure LinkState where
  toB : LinkDir
  toA : LinkDir
  /-- when the present state was entered, in CLK_ORB cycles -/
  since : Nat
  /-- attempts made at the present rate and width -/
  attempts : Nat
  /-- width and rate of the present attempt -/
  tryX32 : Bool
  tryRate : Nat
  /-- the word of LNK_CFG taken at the latest entry to MB_TRAIN (R168) -/
  cfg : Nat
  /-- the measurement that runs, and the timestamps that end B has to echo (R169) -/
  probe : Option Probe
  echo : List Nat
  /-- an end has entered RETRAIN and its next frame says so (R160, R161) -/
  asking : Bool
  /-- IDENT messages or capability records exchanged -/
  identDone : Bool
  deriving DecidableEq, Repr

/-- A request that a halyard port has taken (R179, R180). -/
structure PortReq where
  pkt : Packet
  /-- from the site's own CORE port -/
  own : Bool
  since : Nat
  granted : Bool
  deriving DecidableEq, Repr

/-- What the routers' arbiters and buffers hold: the mesh port through which a packet came into its present router (1 N to 4 W), and of each router output the port served last and whether BULK went last, by site × 64 + output (R150, R151). -/
structure MeshState where
  inp : Tab Nat
  last : Tab (Nat × Bool)
  deriving DecidableEq, Repr

/-- A message the part sends to the moonlet (R165): link, type, tag, status, data. -/
structure MtOut where
  link : Nat
  ty : Nat
  tag : Nat
  status : Nat
  data : List Byte
  deriving DecidableEq, Repr

end Sys2Proof.Machine
end

