-- ==== Sys2Proof/Machine/MemTypes.lean ====
section
/-! DEFINITION. Requests to memory, streams, halyard ports, bank engines, caches, translations and copies on write beyond their registers (R126 to R130, R173 to R241). -/
namespace Sys2Proof.Machine

/-- Who waits for a memory request's answer. -/
inductive Org where
  /-- a stream of a core: its number, the plane (0 elements, 1 scales or records) and the place of the piece in the plane -/
  | stream (core sid plane pos skip take : Nat)
  /-- a cluster cache's fill of an RO line -/
  | fill (clu line : Nat)
  /-- a home's own DRAM access for its transaction on a line -/
  | home (clu line : Nat)
  /-- a copying port's read of piece `off` of copy `job` -/
  | copyRead (site job off : Nat)
  /-- a copy on write's census atomic or page copy -/
  | cow (id : Nat)
  /-- a census operation through PRT_CEN_OP -/
  | census (part : Nat)
  /-- a host's, a moonlet's or a queue engine's access: its job and the place of this piece in it -/
  | job (job pos skip take : Nat)
  deriving DecidableEq, Repr

/-- A request by virtual address, for at most 256 bytes within one 256-byte block, or one expanding read; `mask` enables bytes of a write. -/
structure MReq where
  part : Nat
  va : Nat
  len : Nat
  wr : Bool
  data : List Byte
  mask : Nat
  /-- ALLOC and PATH of a core's request (R127) -/
  alloc : Nat
  path : Nat
  /-- an STPF request -/
  pf : Bool
  org : Org
  deriving DecidableEq, Repr

/-- A descriptor's fields (R127), SB and SL added. -/
structure StDesc where
  maddr : Nat
  laddr : Nat
  conv : Nat
  path : Nat
  alloc : Nat
  pfd : Nat
  rsig : Bool
  rroute : Nat
  rtally : Nat
  cnt : List Nat
  mstr : List Int
  lstr : List Nat
  meta_ : Nat
  deriving DecidableEq, Repr

/-- A contiguous run of memory bytes that a stream has still to request: plane, place in the plane, address, bytes (and the data of a store). -/
structure Piece where
  plane : Nat
  pos : Nat
  va : Nat
  len : Nat
  deriving DecidableEq, Repr

/-- A stream in the stream engine (R126 to R130). -/
structure CoreStream where
  sid : Nat
  /-- 1 STLD, 2 STST, 3 STPF, 4 STMARK -/
  op : Nat
  ten : Bool
  tally : Nat
  desc : StDesc
  /-- first SR counter taken at issue (R78), seed base at issue -/
  srFrom : Nat
  srBase : Nat
  todo : List Piece
  /-- bytes requested and not yet answered, and requests not yet answered -/
  out : Nat
  waiting : Nat
  /-- bytes read so far by place, element plane then second plane -/
  got : Tab (List Byte)
  gotAux : Tab (List Byte)
  /-- source bytes of a store taken from the scratchpad at issue: elements, scales -/
  src : List Nat
  srcAux : List Nat
  /-- destination bytes of a store, element plane and second plane -/
  dst : List Nat
  dstAux : List Nat
  /-- a store whose writes have been formed -/
  writing : Bool
  /-- flags of its conversions, raised at completion (R89) -/
  flags : FpFlags
  deriving DecidableEq, Repr

/-- A translation held by a cache (R231): partition, first VA of the page, 2 MiB page, leaf. -/
structure Xlat where
  part : Nat
  va : Nat
  big : Bool
  leaf : Nat
  deriving DecidableEq, Repr

/-- An operation of a bank: the bank, steps done, urgent refreshes inserted, waiting requests served in the present gap. -/
structure BankOp where
  bank : Nat
  step : Nat
  inserted : Nat
  refreshing : Bool
  uncorr : Bool
  deriving DecidableEq, Repr

/-- A broadcast at a port (R203 to R208): its command or K-slot data, where its report goes, and its run. -/
structure Bcast where
  /-- BKSETK data, with HALF -/
  setk : Option (Bool × List Byte)
  cmd : List Nat
  banks : Nat
  /-- the packet that brought it, for the report -/
  pkt : Packet
  /-- requests of the port that reached it before -/
  before : List Nat
  /-- selected banks not yet started, and the operations of the present wave -/
  todo : List Nat
  active : List BankOp
  waves : Nat
  uncorr : Bool
  started : Bool
  deriving DecidableEq, Repr

/-- A row head's, or an issuer's, collection of reports (R205): its own tag or packet, reports awaited, results so far. -/
structure Collect where
  /-- the row command's packet at a row head; none at the issuer -/
  head : Option Packet
  tag : Nat
  /-- columns or rows still to report: sites -/
  waits : List Nat
  /-- columns that each report awaited covers: 1, or 17 of a row -/
  each : Nat
  waves : Nat
  status : Nat
  columns : Nat
  /-- at the issuer: BKCAST or BKSETK, TEN, TALLY, WMAX -/
  setk : Bool
  ten : Bool
  tally : Nat
  wmax : Nat
  deriving DecidableEq, Repr

/-- A BK instruction that has issued and waits to be sent or marks a point (R201, R203): descriptor, data, TEN, TALLY. -/
structure BkOp where
  /-- 1 BKCAST, 2 BKSETK, 3 BKMARK -/
  op : Nat
  cmd : List Nat
  data : List Byte
  half : Bool
  ten : Bool
  tally : Nat
  tag : Nat
  deriving DecidableEq, Repr

/-- A page copy at a port (R236): its packet, the old page, pieces not yet read, pieces outstanding, the status of the first failed read (0 none). -/
structure CopyJob where
  pkt : Packet
  old : Nat
  fresh : Nat
  todo : List Nat
  waits : Nat
  failed : Nat
  deriving DecidableEq, Repr

/-- A halyard port beyond its page (R173 to R211). -/
structure PortState where
  /-- requests taken and not yet served, in order of arrival, by number -/
  reqs : Tab PortReq
  nextReq : Nat
  /-- when the last aged grant was made (R179) -/
  agedAt : Nat
  /-- expanding reads whose latents have been read and await the expansion unit -/
  expand : Tab (PortReq × List Nat)
  /-- the open row of each bank, and when it was last used -/
  openRows : Tab (Nat × Nat)
  /-- since when each bank has been idle (R191) -/
  idleFrom : Tab Nat
  xbuf : Memory
  /-- refresh debt of each bank; banks in a refresh operation outside an engine operation; when each bank's interval last elapsed -/
  debt : Tab Nat
  refreshing : List Nat
  refAt : Tab Nat
  /-- banks that hold a token for a scrub step -/
  scrubbing : Option (Nat × Nat)
  bcasts : List Bcast
  /-- the bank last granted (R207) -/
  ptr : Nat
  /-- K slots by bank × 16 + slot; an unlisted one is undefined -/
  kslots : Tab (List Nat)
  kgen : Nat
  /-- K slots not listed are zero, not undefined: a scan-enable sequence has cleared them (R412) -/
  kzero : Bool
  collects : List Collect
  copies : Tab CopyJob
  nextCopy : Nat
  deriving DecidableEq, Repr

/-- States of a cluster-cache line (R224); I is not listed. -/
inductive CSt where
  | ro | s | e | m | p
  deriving DecidableEq, Repr

/-- A cluster-cache line: data, dirty mask, use stamp, codeword bits that differ (R362). -/
structure CLine where
  st : CSt
  data : List Byte
  mask : Nat
  stamp : Nat
  flips : Tab Nat
  deriving DecidableEq, Repr

/-- A line in a core's L1 (R215). -/
structure LLine where
  data : List Byte
  stamp : Nat
  deriving DecidableEq, Repr

/-- A directory entry (R225): owner or sharers. -/
structure DirEnt where
  owned : Bool
  ovf : Bool
  ptrs : List Nat
  stamp : Nat
  deriving DecidableEq, Repr

/-- What a home's transaction on a line does next (R225 to R228). -/
inductive Phase where
  /-- invalidations or a recall are outstanding -/
  | acks
  /-- dirty bytes of a recall, or the bytes of a write, are being written to DRAM -/
  | write
  /-- a host's or moonlet's write goes to DRAM -/
  | put
  /-- DRAM is being read -/
  | read
  deriving DecidableEq, Repr

/-- A home's transaction: the request (none for a directory eviction), its phase, acknowledgements awaited, the census entry read, requests waiting in order (R227). -/
structure Txn where
  req : Option Packet
  phase : Phase
  acks : Nat
  old : Nat
  queue : List Packet
  deriving DecidableEq, Repr

/-- A coherent request of a cluster cache to a home: 0x30, 0x31 or 0x32, or 0x33 while its own write-back of the line awaits CACK, with the accesses that wait for it; `kill` when an invalidation or recall may have overtaken its answer (R227). -/
structure CPend where
  ty : Nat
  waiters : List (MReq × Nat)
  kill : Bool
  deriving DecidableEq, Repr

/-- A miss: the core's request, its DPA; allocated in L1, a prefetch (R218, R221). -/
structure Waiter where
  core : Nat
  req : MReq
  dpa : Nat
  deriving DecidableEq, Repr

/-- Steps of a copy on write (R236) that wait for something. -/
inductive CowStep where
  | lock | freePage | copy | set | unlockOld | shoot | leave
  deriving DecidableEq, Repr

/-- A held write and its copy on write (R236): the unit is a cluster (0 to 127), I/O die 128 + i or P8 gateway 130 + d. -/
structure Cow where
  unit : Nat
  part : Nat
  req : MReq
  /-- the old page, its census entry's REFS once locked, the free page, the address of the leaf and the leaf -/
  old : Nat
  refs : Nat
  fresh : Nat
  leafAt : Nat
  leaf : Nat
  step : CowStep
  since : Nat
  /-- how the held write ends: a status as MemErr's -/
  fail : Option Nat
  deriving DecidableEq, Repr

/-- A translation invalidation in progress (R231, R236 step 7): partition, range, and the copy on write it belongs to. -/
structure Xinv where
  part : Nat
  all : Bool
  va : Nat
  pages : Nat
  cow : Option Nat
  deriving DecidableEq, Repr

end Sys2Proof.Machine
end

