-- ==== Sys2Proof/Machine/ClusterTypes.lean ====
section
/-! DEFINITION. What a cluster controller holds beside its registers: step limiter, cluster cache, directory, translations (R215 to R231, R269). -/
namespace Sys2Proof.Machine

/-- A cluster controller. -/
structure ClusterState where
  /-- CLK_CORE cycles of the latest transitions admitted, newest first, at most four (R269) -/
  admits : List Nat
  /-- directory ways in force, and the use stamp (R225, R216) -/
  dirWays : Nat
  clock : Nat
  /-- lines by DPA / 128 -/
  lines : Tab CLine
  dir : Tab DirEnt
  txns : Tab Txn
  /-- census atomics held while an entry is BUSY (R234) -/
  held : List Packet
  /-- fills in flight with their waiters, and misses waiting at the CLU port (R221, R222) -/
  fills : Tab (List Waiter)
  missQueue : List Waiter
  /-- coherent requests in flight -/
  pend : Tab CPend
  /-- write-back buffers awaiting CACK: bytes, mask and bytes to poison (R227, R364) -/
  wb : Tab (List Byte × Nat × Nat)
  /-- dirty bytes a home has recalled and is writing, by line -/
  dirty : Tab (List Byte × Nat × Nat)
  tlb : List Xlat
  deriving DecidableEq, Repr

end Sys2Proof.Machine
end

