-- ==== Sys2Proof/Machine/CoreTypes.lean ====
section
/-! DEFINITION. The state inside a core site: local store, scalar and vector registers, engine queues, the matrix array (R90 to R140). -/
namespace Sys2Proof.Machine

/-- What holds a core's issue stage (R114, R119, R52). -/
inductive Hold where
  | none
  /-- SYWAIT on a tally for a count -/
  | sywait (tally count : Nat)
  /-- SYFENCE -/
  | fence
  /-- CTBERTH, with its END bit -/
  | berth (last : Bool)
  deriving DecidableEq, Repr

/-- A program buffer's fetch (R134). -/
inductive Fetch where
  | idle
  /-- fetch of program k in progress -/
  | running (k : Nat)
  /-- program k fetched -/
  | ready (k : Nat) (words : List Word64)
  /-- fetch of program k failed: a program fault when the program would start -/
  | failed (k : Nat)
  deriving DecidableEq, Repr

/-- A program fault taken and not yet entered in FAULTED (R136). -/
structure FaultRec where
  cause : Nat
  pc : Nat
  k : Nat
  info : Nat
  deriving DecidableEq, Repr

/-- A vector instruction in the vector engine: its word and, for VLD, VST and VLDB, its byte address in the local store. -/
structure VxEntry where
  word : Word64
  addr : Nat
  deriving DecidableEq, Repr

/-- An MX instruction in the issue queue (R107). -/
inductive MxOp where
  | wld (waddr fmt qmask : Nat)
  | pass (aaddr caddr m fmt : Nat) (acc swap : Bool) (qmask : Nat) (ten : Bool) (tally : Nat)
  | bunt (count : Nat)
  | idle
  | mark (tally : Nat)
  deriving DecidableEq, Repr

/-- A weight tile in a weight set or in transit registers (R96, R98); `start` is the first cycle of its load. -/
structure Tile where
  fmt : Nat
  data : List Nat
  start : Nat
  loaded : Bool
  deriving DecidableEq, Repr

/-- The weight storage of one quadrant, or of the whole array in FULL. -/
structure Quad where
  active : Option Tile
  /-- the tile that no pass has yet taken up -/
  waiting : Option Tile
  /-- array time after the last operand row that entered -/
  rowEnd : Nat
  /-- first array time at which row 0 of the set that loads next is free (R97) -/
  setFree : Nat
  /-- first cycle in which the bus or the port is free for a next load -/
  loadFree : Nat
  /-- format family of the weights active for the next instruction to issue, and of the loads not yet taken up by an issued pass -/
  issActive : Option Nat
  issWaiting : List Nat
  deriving DecidableEq, Repr

/-- A result row on its way to the drain: its number, the array time at which it is written, its bytes and flags. -/
structure MxRow where
  row : Nat
  due : Nat
  data : List Nat
  flags : FpFlags
  deriving DecidableEq, Repr

/-- A pass in the array: its place in program order, its weights, the operand rows entered, and the result rows not yet written. -/
structure MxRun where
  seq : Nat
  op : MxOp
  tiles : Tab Tile
  entered : Nat
  pipe : List MxRow
  deriving DecidableEq, Repr

/-- A weight load that has left the queue and whose targets have not all begun to be served. -/
structure MxLoad where
  waddr : Nat
  fmt : Nat
  qmask : Nat
  todo : Nat
  deriving DecidableEq, Repr

/-- What decides the present or next gap (R105, R106). -/
inductive MxGap where
  | normal
  /-- MXBUNT: the gap cycles still to bunt, and whether its gap has begun -/
  | bunt (left : Nat) (begun : Bool)
  /-- MXIDLE, and whether its gap has begun -/
  | idle (begun : Bool)
  deriving DecidableEq, Repr

/-- The direction of the clock-gate ramp (R105). -/
inductive Ramp where
  | none
  | down
  | up
  deriving DecidableEq, Repr

/-- The matrix engine (R90 to R112). -/
structure MxState where
  /-- the issue queue, with each instruction's place in program order -/
  queue : List (Nat × MxOp)
  /-- instructions issued so far -/
  issued : Nat
  loads : List MxLoad
  runs : List MxRun
  quads : Tab Quad
  /-- the engine has been given its first cycle since the core's reset -/
  started : Bool
  /-- the next CLK_CORE cycle to run -/
  clock : Nat
  /-- array time: the cycles run that were not frozen -/
  flow : Nat
  /-- gap cycles run since an operand row last entered -/
  gapRun : Nat
  gap : MxGap
  /-- the latest cycle run was frozen; in it some cells ran bunting -/
  frozen : Bool
  bunting : Bool
  gated : Nat
  ramp : Ramp
  lastStep : Nat
  /-- a gate transition waits for the cluster step limiter (R269) -/
  awaiting : Bool
  deriving DecidableEq, Repr

/-- What a core site holds beside its registers. -/
structure CoreState where
  /-- S0 to S15; an unlisted one is 0 (R115) -/
  scalars : Tab Word
  /-- V0 to V31, 64 lanes each; an unlisted one is all zero (R121) -/
  vregs : Tab (List Word)
  /-- M1 to M7; an unlisted one is 0 -/
  masks : Tab Word64
  /-- the local store (R131) -/
  ls : Memory
  /-- the program being run -/
  prog : List Word64
  /-- the other program buffer (R134) -/
  fetch : Fetch
  hold : Hold
  fault : Option FaultRec
  vx : List VxEntry
  /-- the vector engine is issuing to its lanes, since which CLK_CORE cycle it has been so or not, and a start waiting for the step limiter (R269) -/
  vxOn : Bool
  vxMark : Nat
  vxWait : Bool
  mx : MxState
  /-- running streams and marks, in order of issue, and the number of the next (R129) -/
  streams : List CoreStream
  nextStream : Nat
  /-- BK instructions waiting at the halyard port or in flight, oldest first (R113, R203) -/
  bk : List BkOp
  /-- L1 lines by DPA / 128, the use stamp, the core's translations (R215, R231) -/
  l1 : Tab LLine
  l1Clock : Nat
  tlb : List Xlat
  /-- consecutive cycles that a requester has lost at a bank, by bank × 16 + requester (R132) -/
  lsWait : Tab Nat
  /-- consecutive ticks in the present program (R137) -/
  wdog : Nat
  /-- times that k has passed 2^32 in this voyage (R53, R134) -/
  kTurns : Nat
  deriving DecidableEq, Repr

end Sys2Proof.Machine
end

