-- ==== Sys2Proof/Machine/EnvelopeTypes.lean ====
section
/-! DEFINITION. The governor, the energy account, frequencies and heat beyond their registers (R287 to R304). -/
namespace Sys2Proof.Machine

/-- Energy by consumer in µJ (R287). -/
structure Energy where
  links : Nat
  mem : Nat
  comp : Nat
  deriving DecidableEq, Repr

/-- The governor and the energy account. -/
structure GovState where
  /-- the level G: positive trims, negative fills (R291) -/
  level : Int
  /-- windows in a row above PPL (R292) -/
  run : Nat
  /-- when the open window began -/
  winFrom : Nat
  /-- energy of the open window, µJ -/
  winE : Nat
  /-- the latest windows' energies while orbits are stopped, newest first, at most 100 (R289) -/
  roll : List Nat
  /-- energy of the open orbit, µJ by consumer (R41) -/
  orbE : Energy
  /-- package energy since whole-part reset, µJ -/
  total : Nat
  /-- highest window power of the open orbit, W -/
  peak : Nat
  /-- a window of the open orbit exceeded 3,800 W -/
  short : Bool
  /-- the closed orbit's normalized energy, 100 µJ; none before the first close (R288, R294) -/
  norm : Option Nat
  /-- H and L of the open orbit, 100 µJ (R289) -/
  high : Nat
  low : Nat
  lowOn : Bool
  /-- when the level was last accounted, and the cycles of the open orbit at COMP trim 2 or more (R296) -/
  markAt : Nat
  trim2 : Nat
  /-- some trim was in force in the open orbit -/
  anyTrim : Bool
  /-- PCAP_N has been low for 0.5 µs, and not high for 100 µs since (R299, R300) -/
  pinLow : Bool
  /-- when PCAP_N goes or went high -/
  pinHighAt : Nat
  /-- arrays and vector engines are held by R299 step 1 -/
  pcapHold : Bool
  /-- H is bounded by 1,200 W × P -/
  pcapBound : Bool
  /-- when energy was last sampled -/
  sampledAt : Nat
  /-- token-ns of every bank engine since reset, and when the open orbit began (R287) -/
  tokNs : Nat
  tokFrom : Nat
  deriving DecidableEq, Repr

/-- Heat. -/
structure ThermState where
  /-- when the sensors were last sampled -/
  sampledAt : Nat
  /-- sensors at or above their trip level in the latest sample: logic by site, DRAM sensor j as 2000 + j -/
  atTrip : List Nat
  /-- towers whose COMP actuators are held at trim 4 or more until the next tick -/
  held : List Nat
  /-- towers that a sample since the last tick has found throttling -/
  renewed : List Nat
  /-- towers whose sensors have all stayed below release in the open orbit -/
  cool : List Nat
  /-- towers that have stayed below release for a whole orbit -/
  released : List Nat
  /-- die temperatures for refresh (half-layer dies in DOUBLE mode, R190) -/
  double : List Nat
  /-- the duty an Ensign has set, when, and the start of the present COOLREQ period -/
  ensDuty : Nat
  dutyAt : Nat
  periodAt : Nat
  /-- an Ensign has written a duty within 100 ms (R304) -/
  live : Bool
  deriving DecidableEq, Repr

end Sys2Proof.Machine
end

