-- ==== Sys2Proof/Machine/EventTypes.lean ====
section
/-! DEFINITION. Event rings, replies and what the part sends to a host (R331 to R334, R61). -/
namespace Sys2Proof.Machine

/-- An event waiting for its ring: the fields of its record (R332) and its class (R334). -/
structure EvRec where
  kind : Nat
  flags : Nat
  src : Nat
  code : Nat
  orbit : Nat
  data0 : Nat
  data1 : Nat
  cls : Nat
  deriving DecidableEq, Repr

/-- What a ring holds beside its registers (R333, R334). -/
structure RingState where
  /-- events staged, oldest first -/
  staged : List EvRec
  /-- the record in progress, from its start until its write is issued -/
  inProgress : Option EvRec
  /-- events lost since the previous summary -/
  lost : Nat
  /-- when the running MSI-X holdoff began, in CLK_ORB cycles -/
  holdFrom : Option Nat
  /-- records written during the holdoff -/
  owed : Bool
  deriving DecidableEq, Repr

/-- What the part answers to the requester of the latest access. -/
inductive Reply where
  /-- a register or doorbell read -/
  | word (v : Word)
  /-- a read completion with data -/
  | bytes (d : List Byte)
  /-- a read completion whose data is poisoned (EP) -/
  | poisoned
  /-- Unsupported Request -/
  | unsupported
  /-- Completer Abort -/
  | aborted
  /-- Configuration Request Retry Status (R344) -/
  | retry
  /-- a message of a management protocol: a completion or error code and its data -/
  | message (code : Nat) (d : List Nat)
  deriving DecidableEq, Repr

/-- What the part sends out of a host port, oldest first. -/
inductive Egress where
  /-- a posted write by a function; `xl` where its address is translated (ATS, R325) -/
  | hostWrite (fn addr : Nat) (xl : Bool) (d : List Byte)
  /-- a read request by a function, with the tag that its completion carries -/
  | hostRead (fn addr : Nat) (xl : Bool) (len tag : Nat)
  /-- an ATS translation request by a function for a host page (R310) -/
  | atsRequest (fn page tag : Nat)
  /-- an MSI-X message of a vector, with the address and data of its table entry (R313) -/
  | msix (fn vec addr data : Nat)
  /-- a completion of a function's read, by the request's tag -/
  | completion (fn tag : Nat) (r : Reply)
  /-- an ATS invalidation completion of a port -/
  | atsDone (port tag : Nat)
  deriving DecidableEq, Repr

end Sys2Proof.Machine
end

