-- ==== Sys2Proof/Machine/HostTypes.lean ====
section
/-! DEFINITION. Accesses of hosts and the moonlet, and work orders in execution (R166, R316, R322 to R330). -/
namespace Sys2Proof.Machine

/-- Whose access a job is. -/
inductive JobKind where
  /-- a BAR2 access of a function, with the tag of a read's completion or the offset of a write -/
  | bar2 (fn tag : Nat)
  /-- a moonlet message: link, type, window and tag -/
  | moonlet (link ty win tag : Nat)
  /-- a part of a work order: the order, and the place of the bytes in it -/
  | order (order off : Nat)
  /-- an event record -/
  | event (ring : Nat)
  deriving DecidableEq, Repr

/-- An access through an I/O die (128, 129) or a P8 gateway (130 to 133): requests not yet answered, data so far, the first failure. -/
structure MemJob where
  kind : JobKind
  unit : Nat
  wr : Bool
  len : Nat
  waiting : Nat
  got : Tab (List Byte)
  err : Option Nat
  /-- pieces of a write that may go; they go together once no other piece is held (R166, R167) -/
  ready : List MReq
  sent : Bool
  deriving DecidableEq, Repr

/-- A work order in execution (R324, R327). -/
structure Order where
  queue : Nat
  /-- ring index -/
  idx : Nat
  part : Nat
  fn : Nat
  raw : List Nat
  gcompat : Bool
  late : Bool
  /-- an FLR of the queue's function, or a reset of its port: no record is written (R317) -/
  quiet : Bool
  /-- the operation's row has begun it -/
  begun : Bool
  /-- bytes of a COPY not yet asked for, pieces to be written, accesses outstanding -/
  next : Nat
  writes : List (Nat × List Byte)
  inflight : Nat
  /-- status and DATA1's kind of a failure met -/
  failed : Option (Nat × Nat)
  /-- cores that a checked LAUNCH has still to launch, with their records -/
  cores : List (Nat × List Nat)
  /-- it has ended: status (with a record index above bit 8) and DATA1's kind -/
  done : Option (Nat × Nat)
  deriving DecidableEq, Repr

/-- The configuration space of a function (R310, R313, R317): what the PCIe standard lets software set and the part acts on, and the AER status with the header of the first error. -/
structure FnCfg where
  /-- Memory Space Enable (bit 1) and Bus Master Enable (bit 2) -/
  command : Nat
  /-- base addresses of BAR0, BAR2 and BAR4 -/
  bars : List Nat
  /-- log2 of the size of BAR2 in bytes, 30 to 40 (R310, R313) -/
  bar2Log2 : Nat
  /-- MSI-X Enable and Function Mask -/
  msixOn : Bool
  msixMask : Bool
  /-- ATS Enable -/
  ats : Bool
  /-- VFs that a PF's SR-IOV capability enables -/
  vfs : Nat
  /-- AER uncorrectable and correctable status, and the header of the first error logged -/
  aerUncorr : Nat
  aerCorr : Nat
  aerHdr : List Nat
  deriving DecidableEq, Repr

/-- A translation that a port's ATC holds (R310): function, host page, its translation, and whether it may be read and written. -/
structure AtcEntry where
  fn : Nat
  page : Nat
  frame : Nat
  rd : Bool
  wr : Bool
  deriving DecidableEq, Repr

/-- A BAR2 read that waits for the earlier posted writes of its function (R249, R323). -/
structure HeldRead where
  fn : Nat
  tag : Nat
  part : Option Nat
  va : Nat
  len : Nat
  deriving DecidableEq, Repr

/-- Host requests of the queue engines, jobs and orders. -/
structure HostState where
  jobs : Tab MemJob
  nextJob : Nat
  orders : Tab Order
  nextOrder : Nat
  /-- host reads outstanding, by tag: order, place, bytes, function -/
  reads : Tab (Nat × Nat × Nat × Nat)
  /-- the next job number when each queue's doorbell was last rung (R323) -/
  marks : Tab Nat
  /-- the queue each engine served last, plus one (R328) -/
  served : Tab Nat
  /-- configuration spaces by function; an unlisted one is as after a reset -/
  cfg : Tab FnCfg
  /-- MSI-X table entries by 64 × function + vector: address, data, mask bit; an unlisted one is masked and zero -/
  msix : Tab (Nat × Nat × Bool)
  /-- vectors whose pending bit is 1 (PBA), as 64 × function + vector -/
  pba : List Nat
  /-- each port's ATC, newest first, and its translation requests outstanding by tag: function, page, work order, write (R310) -/
  atc : Tab (List AtcEntry)
  atsReqs : Tab (Nat × Nat × Nat × Bool)
  /-- ports whose PERST_N is high, with the rate and width at which they train (R311, R344) -/
  perst : Tab (Nat × Bool)
  /-- BAR2 reads not yet started, oldest first -/
  heldReads : List HeldRead
  deriving DecidableEq, Repr

end Sys2Proof.Machine
end

