-- ==== Sys2Proof/Machine/MgmtTypes.lean ====
section
/-! DEFINITION. The mailbox, PLDM, I3C, flash lock and JTAG beyond their registers (R409 to R417, R434 to R443). -/
namespace Sys2Proof.Machine

/-- Management beside the registers. -/
structure MgmtState where
  /-- the owner of the firmware update in progress: the mailbox (false) or PLDM type 5 (true) (R416, R440) -/
  update : Option Bool
  /-- the length of the image being written, and whether FW_VERIFY has passed it -/
  imgLen : Nat
  verified : Bool
  /-- PLDM effecter 2 (R438) -/
  capOrbit : Nat
  /-- MCTP endpoint ID; 0 until one is assigned (R437) -/
  eid : Nat
  /-- I3C dynamic address (R435, R436) -/
  dynAddr : Option Nat
  /-- the I/O die that holds the flash lock, and when it last made a transfer (R442) -/
  flash : Option (Nat × Nat)
  /-- the instruction in the TAP (R443) -/
  jtag : JtagInstr
  deriving DecidableEq, Repr

def MgmtState.reset : MgmtState := ⟨none, 0, false, 0, 0, none, none, .bypass⟩

end Sys2Proof.Machine
end

