-- ==== Sys2Proof/Machine/OrbitTypes.lean ====
section
/-! DEFINITION. Orbit timing and the timebase beyond their registers (R35 to R61). -/
namespace Sys2Proof.Machine

/-- The snapshot a requester's read of TIM_ORBIT_LO latches (R61). -/
structure TimLatch where
  orbitHi : Nat
  secLo : Nat
  secHi : Nat
  ns : Nat
  tickSecLo : Nat
  tickNs : Nat
  deriving DecidableEq, Repr

/-- A service-slice calibration in progress (R57): kind 0 link, 1 halyard row, 2 thermal sensors; its target; its end. -/
structure Calib where
  kind : Nat
  target : Nat
  until_ : Nat
  deriving DecidableEq, Repr

/-- The tick logic and the timebase. -/
structure OrbitState where
  /-- the orbit count (R46) -/
  count : Word64
  /-- a count load is pending (R46) -/
  loadPending : Bool
  /-- when the tick that began the open orbit was recognised, in CLK_ORB cycles; none before the first tick after a start -/
  tickAt : Option Nat
  /-- when RUN was last written from 0 to 1 -/
  startAt : Nat
  /-- length of the open orbit in CLK_ORB cycles, 48 bits, holding at its maximum (R41) -/
  len : Nat
  /-- the internal timer stands in for OTICK (R38) -/
  fallback : Bool
  /-- the miss of the open orbit has been counted (R38, SRC 1) -/
  missed : Bool
  /-- when the last OTICK edges were seen during fallback, newest first (R39) -/
  watch : List Nat
  /-- the service slice of the open orbit has opened (R56) -/
  sliceOpen : Bool
  calibs : List Calib
  /-- the seconds count (R58) -/
  sec : Word64
  /-- nanoseconds of the current second -/
  ns : Nat
  /-- when the last PPS edge was accepted -/
  ppsAt : Nat
  /-- consecutive PPS misses (R59) -/
  ppsMisses : Nat
  tickSec : Word64
  tickNs : Nat
  latches : Tab TimLatch
  /-- each requester's latched ORB_EN_TOTAL_HI (R305) -/
  totalLatch : Tab Nat
  deriving DecidableEq, Repr

end Sys2Proof.Machine
end

