-- ==== Sys2Proof/Machine/FlashTypes.lean ====
section
/-! DEFINITION. The flash that the part boots from and the quick-start record (R345 to R349), and the course of an orderly shutdown (R350). -/
namespace Sys2Proof.Machine

/-- A quick-start record by the fields of R346; the results of links, ports and pins are bytes that the spec leaves to the part, of one generation of free content. -/
structure QsRecord where
  magic : Nat
  version : Nat
  /-- 0xFF: not yet used -/
  consumed : Nat
  seq : Nat
  len : Nat
  /-- 16 and 48 bytes -/
  partSerial : List Nat
  dieSerial : List Nat
  /-- slices run, slices failed, milliseconds of budget used -/
  slices : Nat
  fails : Nat
  ms : Nat
  /-- bit n: link n passed; bit i: the halyard port of page index i passed -/
  linkPass : Nat
  portPass : Nat
  results : Nat
  crc : Nat
  deriving DecidableEq, Repr

/-- The first 64 MiB of the flash by its regions (R345): the chunks that firmware updates have written to each image slot by offset, and the record that each quick-start slot holds, none where it is erased or holds no record. Reserved offsets and the fuse overlay are the board's and the maker's, and no command writes them. -/
structure FlashState where
  image0 : Tab (List Byte)
  image1 : Tab (List Byte)
  slotA : Option QsRecord
  slotB : Option QsRecord
  /-- rows that retention screens have sent to the repair map: column, and bank × 12288 + row (R341) -/
  repairs : List (Nat × Nat)
  deriving DecidableEq, Repr

/-- A flash in which no update and no shutdown has written anything. -/
def FlashState.fresh : FlashState := ⟨[], [], none, none, []⟩

/-- A region of the flash: its first offset and its size in bytes (R345). -/
structure FlashRegion where
  base : Nat
  size : Nat
  deriving DecidableEq, Repr

def flashImage0 : FlashRegion := ⟨0x0000000, 0x1000000⟩
def flashImage1 : FlashRegion := ⟨0x1000000, 0x1000000⟩
def flashOverlay : FlashRegion := ⟨0x2000000, 0x100000⟩
def flashSlotA : FlashRegion := ⟨0x3E00000, 0x100000⟩
def flashSlotB : FlashRegion := ⟨0x3F00000, 0x100000⟩

/-- A slice of an orderly shutdown: a link in one direction, the 17 ports of a row, the scan-enable sequence, a land group (R349, R350). -/
inductive SdSlice where
  | link (n dir : Nat)
  | row (g : Nat)
  | scan
  | pin (k : Nat)
  deriving DecidableEq, Repr

/-- An orderly shutdown in progress (R349, R350). -/
structure Shutdown where
  /-- slices still to come -/
  todo : List SdSlice
  /-- when the first slice began -/
  from_ : Nat
  /-- results so far: links and ports that have not failed and not been left out, slices run and failed, whether the budget cut some off -/
  linkPass : Nat
  portPass : Nat
  slices : Nat
  fails : Nat
  cut : Bool
  /-- the record has been written (true) or not, and whether it read back -/
  written : Bool
  flashOk : Bool
  /-- what its slices meet -/
  meets : ShutIn
  deriving DecidableEq, Repr

end Sys2Proof.Machine
end

