-- ==== Sys2Proof/Machine/PowerTypes.lean ====
section
/-! DEFINITION. Domains, power gates, input fields and sense points beyond their registers (R265 to R286), and reliability beyond its registers (R362 to R390). -/
namespace Sys2Proof.Machine

/-- The ramp of a site's power gate: when it began and the segments closed (R271). -/
structure GateRamp where
  since : Nat
  seg : Nat
  deriving DecidableEq, Repr

/-- A sense point's consecutive samples at or above the two thresholds, whether it has reported each, and since when its excess drop has stayed low (R277). -/
structure SensePt where
  sus : Nat
  sev : Nat
  saidSus : Bool
  saidSev : Bool
  lowFrom : Option Nat
  deriving DecidableEq, Repr

/-- Power. -/
structure PowerState where
  /-- PWRGD is high -/
  pwrgd : Bool
  /-- VSB is in regulation -/
  vsb : Bool
  /-- towers whose fabric domain is on -/
  fabOn : List Nat
  /-- DRAM half-layer domains that are on: 16 × tower + 2 × layer + half -/
  dramOn : List Nat
  /-- clusters whose regulator is on -/
  cluOn : List Nat
  ramps : Tab GateRamp
  /-- when ramps outside waves began in the latest 50 µs -/
  rampTimes : List Nat
  /-- sites that a narrower fault of their cluster has just eclipsed: site, whether its ramp aborted, whether its latch was set before, when (R275) -/
  narrow : List (Nat × Bool × Bool × Nat)
  /-- the next power-up wave, and the earliest instant it begins -/
  waveNext : Option Nat
  waveAt : Nat
  /-- fields below warning -/
  warn : List Nat
  /-- since when every field has been above warning, while the release has not qualified -/
  clearAt : Option Nat
  /-- when ramps and waves may resume (R283) -/
  resumeAt : Option Nat
  /-- fields below reset, and since when -/
  low : Tab Nat
  /-- when the division began -/
  divAt : Nat
  points : Tab SensePt
  sampledAt : Nat
  /-- VAUX and VPHY are in regulation (R429) -/
  aux : Bool
  /-- the bring-up in progress, when PWRGD or the reset that began it came, the quick-start record it uses, and towers whose DRAM it keeps -/
  boot : Option BootIn
  bootAt : Nat
  quick : Option QsRecord
  kept : List Nat
  /-- what the I/O dies have sent each die, by 2 × place + I/O die: 2 × k + i (R159) -/
  idents : Tab Nat
  /-- the first of the generations of undefined content that this power-up's ports hold -/
  gen : Nat
  /-- FAULT_N stays low after a fault reset until it is read (R359) -/
  faultHeld : Bool
  /-- I3C_ADDR1 and I3C_ADDR0 as latched at VSB power-on (R427) -/
  strap : Nat
  /-- the orderly shutdown in progress -/
  sd : Option Shutdown
  deriving DecidableEq, Repr

/-- Reliability. -/
structure RelState where
  /-- when a site's latest corrected-error record was written -/
  ceAt : Tab Nat
  /-- sites whose first ghost since their eclipse has been logged -/
  ghosted : List Nat
  /-- latest beat of Ensign e at die d, by 2 × d + e -/
  beats : Tab Nat
  /-- an Ensign reboots, until when; by Ensign -/
  booting : Tab Nat
  /-- the self-test in progress: scope, index, since -/
  bist : Option (Nat × Nat × Nat)
  /-- next patrol scrub step of a column: bank × 12288 + row; and columns whose step is due -/
  scrubNext : Tab Nat
  scrubDue : List Nat
  /-- when each column's latest step fell due -/
  scrubAt : Tab Nat
  /-- Ensigns that have given up every role (R382) -/
  gaveUp : List Nat
  /-- version and slot of the image each Ensign loads -/
  images : Tab (Nat × Nat)
  deriving DecidableEq, Repr

end Sys2Proof.Machine
end

