-- ==== Sys2Proof/Machine/State.lean ====
section
/-! DEFINITION. The state of the part, its faults and refusals, and the state after reset. -/
namespace Sys2Proof.Machine

/-- No command of this model stops the part: every command of the spec has an effect, or none because its condition does not hold. -/
inductive Fault where
  /-- raised by no meaning; a name for a stop that no rule of the spec asks for (safe) -/
  | none
  deriving DecidableEq, Repr

/-- Commands without a meaning in this model. -/
inductive Refusal where
  /-- a command not modelled yet, by its mnemonic; raised by Dispatch alone (safe) -/
  | notModelled (mnemonic : String)
  deriving DecidableEq, Repr

/-- The whole part. -/
structure State where
  /-- commands waiting, first in, first out -/
  pending : List Instr
  /-- the model's own count of free values taken -/
  freeCtr : Nat
  /-- CLK_ORB cycles (10 ns) since the latest whole-part reset -/
  now : Nat
  /-- every register of every page by BAR0 address; an unlisted one holds its reset value (R10, R14) -/
  regs : Tab Word
  /-- values written to staged fields and not yet taken: mask and value (R11, R13) -/
  staged : Tab (Nat × Nat)
  /-- rw1 fields written since their reset, by address (R11) -/
  written1 : List Nat
  /-- the answer to the latest access -/
  reply : Option Reply
  /-- what has left the host ports, oldest first -/
  egress : List Egress
  orb : OrbitState
  gov : GovState
  therm : ThermState
  rings : Tab RingState
  cores : Tab CoreState
  clusters : Tab ClusterState
  /-- packets in the fabric, by number in order of injection (R149) -/
  packets : Tab Packet
  /-- input ports and arbiters of the routers -/
  mesh : MeshState
  /-- the number of the next packet -/
  nextPkt : Nat
  links : Tab LinkState
  /-- messages sent to the moonlet, oldest first (R165) -/
  mtOut : List MtOut
  /-- device DRAM by device physical address in SPACE 0 (R176) -/
  dram : Memory
  /-- memory requests outstanding, by tag, and the next tag; tag 0 names none (R147, R149) -/
  reqs : Tab MReq
  nextTag : Nat
  ports : Tab PortState
  cows : Tab Cow
  nextCow : Nat
  xinvs : List Xinv
  /-- translations of I/O dies (128, 129) and P8 gateways (130 to 133) (R231) -/
  unitTlb : Tab (List Xlat)
  host : HostState
  power : PowerState
  rel : RelState
  mgmt : MgmtState
  /-- the flash, which no reset clears (R345, R351) -/
  flash : FlashState
  deriving DecidableEq, Repr

/-- The tick logic after reset: no tick recognised, every count zero (R62, R63). -/
def OrbitState.reset : OrbitState := ⟨0, false, none, 0, 0, false, false, [], false, [], 0, 0, 0, 0, 0, 0, [], []⟩
/-- The governor after reset: level 0 and an empty account. -/
def GovState.reset : GovState :=
  ⟨0, 0, 0, 0, [], ⟨0, 0, 0⟩, 0, 0, false, none, 0, 0, false, 0, 0, false, false, 0, false, false, 0, 0, 0⟩
def ThermState.reset : ThermState := ⟨0, [], [], [], [], [], [], 0, 0, 0, false⟩
/-- Power after reset: VSB present, PWRGD low, every domain off (R340). -/
def PowerState.reset : PowerState := ⟨false, true, [], [], [], [], [], [], none, 0, [], none, none, [], 0, [], 0, true, none, 0, none, [], [], 0, false, 0, none⟩
def HostState.reset : HostState := ⟨[], 0, [], 0, [], [], [], [], [], [], [], [], [], []⟩
def RelState.reset : RelState := ⟨[], [], [], [], none, [], [], [], [], []⟩

/-- The part held in whole-part reset, before its first bring-up (R340, R351): every register at its reset value, every domain off, nothing in flight. -/
def State.reset : State where
  pending := []
  freeCtr := 4096
  now := 0
  regs := []
  staged := []
  written1 := []
  reply := none
  egress := []
  orb := OrbitState.reset
  gov := GovState.reset
  therm := ThermState.reset
  rings := []
  cores := []
  clusters := []
  packets := []
  mesh := ⟨[], []⟩
  nextPkt := 0
  links := []
  mtOut := []
  dram := ⟨[], [], []⟩
  reqs := []
  nextTag := 1
  ports := []
  cows := []
  nextCow := 0
  xinvs := []
  unitTlb := []
  host := HostState.reset
  power := PowerState.reset
  rel := RelState.reset
  mgmt := MgmtState.reset
  flash := FlashState.fresh

end Sys2Proof.Machine
end

