-- ==== Sys2Proof/Machine/Ops.lean ====
section
/-! DEFINITION. The named operations over registers, time, events and byte memory that every meaning is built from. -/
namespace Sys2Proof.Machine

/-- The outcome type of every meaning. -/
abbrev Out := Host.Outcome State Fault Refusal

/-! Registers -/

/-- The page kind and instance of a page number (R398, R399). -/
def pageKind (p : Nat) : Option (PageKind × Nat) :=
  if p = 0 then some (.ident, 0) else if p = 1 then some (.timebase, 0)
  else if p = 2 then some (.orbit, 0) else if p = 3 then some (.power, 0)
  else if p = 4 then some (.thermal, 0) else if p = 5 then some (.bringup, 0)
  else if p = 6 then some (.reliability, 0) else if p = 7 then some (.security, 0)
  else if p = 8 then some (.mailbox, 0)
  else if 16 ≤ p ∧ p < 20 then some (.die, p - 16)
  else if 64 ≤ p ∧ p < 128 then some (.queue, p - 64)
  else if 128 ≤ p ∧ p < 192 then some (.event, p - 128)
  else if 0x100 ≤ p ∧ p < 0x180 then some (.cluster, p - 0x100)
  else if 0x200 ≤ p ∧ p < 0x640 then some (.core, p - 0x200)
  else if 0x800 ≤ p ∧ p < 0xC40 then some (.halyard, p - 0x800)
  else if 0xE00 ≤ p ∧ p < 0xE18 then some (.link, p - 0xE00)
  else if 0xE20 ≤ p ∧ p < 0xE24 then some (.hostPort, p - 0xE20)
  else if 0xE40 ≤ p ∧ p < 0xE50 then some (.partition, p - 0xE40)
  else if p = 0xE60 then some (.moonlet, 0)
  else none

/-- The PG_IDENT.TYPE code (R400). -/
def PageKind.code : PageKind → Nat
  | .ident => 0x001 | .timebase => 0x002 | .orbit => 0x003 | .power => 0x004 | .thermal => 0x005
  | .bringup => 0x006 | .reliability => 0x007 | .security => 0x008 | .mailbox => 0x009
  | .die => 0x010 | .queue => 0x011 | .event => 0x012 | .cluster => 0x020 | .core => 0x021
  | .halyard => 0x022 | .link => 0x030 | .hostPort => 0x031 | .partition => 0x032 | .moonlet => 0x033

/-- PG_CTRL.ENABLE, QUIESCE_REQ and RESET_REQ act on pages of this type (R400). -/
def PageKind.acts : PageKind → Bool × Bool × Bool
  | .cluster | .core => (false, false, true)
  | .link => (true, false, false)
  | .partition => (true, true, true)
  | _ => (false, false, false)

/-- PG_STATE holds an enumeration on these types (R138, R160, R318 and the like). -/
def PageKind.hasState : PageKind → Bool
  | .cluster | .core | .halyard | .link | .partition | .moonlet => true
  | _ => false

/-- PG_ERRCAP0 to 3 capture on these types (R404). -/
def PageKind.hasErrcap : PageKind → Bool
  | .reliability | .power => true
  | _ => false

/-- The descriptor and copy number of the register at a byte offset of a page. -/
def findReg : List RegDesc → Nat → Option (RegDesc × Nat)
  | [], _ => none
  | d :: t, off =>
    if d.off ≤ off ∧ (if d.stride = 0 then off = d.off
        else (off - d.off) % d.stride = 0 ∧ (off - d.off) / d.stride < d.copies)
    then some (d, if d.stride = 0 then 0 else (off - d.off) / d.stride)
    else findReg t off

/-- The descriptor of an implemented register address. -/
def regAt (a : Nat) : Option (PageKind × Nat × RegDesc) :=
  if a % 4 ≠ 0 then none else
  match pageKind (a / 0x1000) with
  | none => none
  | some (k, n) => (findReg (regsOf k) (a % 0x1000)).map (fun d => (k, n, d.1))

/-- A number put into an ascending list. -/
def insertUp (x : Nat) : List Nat → List Nat
  | [] => [x]
  | y :: t => if x ≤ y then x :: y :: t else y :: insertUp x t

/-- Byte k of a fused word whose bytes ascend: P50 ≤ P99 ≤ P9999 ≤ MAX (R156). -/
def ascendingByte (w k : Nat) : Nat :=
  (((List.range 4).map (fun j => w / 256 ^ j % 256)).foldr insertUp []).getD k 0

/-- The value of a fused field (R14, entry f): what the spec fixes, and the fuses otherwise. PG_CTRL.GCOMPAT of a partition page is loaded from the strap at step 1 of bring-up; that it reads 0 until then is the model's choice (DESIGN CHOICE, log entry 157). -/
def fusedField (k : PageKind) (n a lsb width : Nat) : Nat :=
  let off := a % 0x1000
  let raw := bits (Config.fuse a).toNat lsb width
  if off = 0x0 then (if lsb = 0 then 1 else if lsb = 8 then n else k.code)
  else if off = 0x4 then
    (if lsb = 0 then b2n k.acts.2.1 else if lsb = 1 then b2n k.acts.2.2
     else if lsb = 2 then b2n (decide (k = .partition)) else if lsb = 3 then b2n k.hasState
     else if lsb = 4 then b2n k.hasErrcap else b2n k.acts.1)
  else if off = 0x8 then 0
  else match k with
    | .ident =>
      if off = 0x100 ∧ lsb = 0 then b2n Config.gradeB
      else if off = 0x100 ∧ lsb = 12 then 0x00A44
      else if off = 0x108 then (if Config.gradeB then 896 else 1024)
      else raw
    | .core =>
      if off = 0x100 then
        (if lsb = 0 then siteNum n else if lsb = 16 then b2n (isSpare n) else b2n (fusedActive n))
      else if off = 0x284 then b2n (fusedOff n)
      else raw
    | .cluster => if off = 0x2C0 then b2n (fusedServes n) else if off = 0x28C then Nat.lor raw 0xFFFFFF00 else raw
    | .die =>
      if off = 0x180 ∨ off = 0x184 then ascendingByte (Config.fuse a).toNat (lsb / 8)
      else if 0x300 ≤ off ∧ off ≤ 0x320 then
        ((List.range 32).filter (fun b => decide (8 * (off - 0x300) + b < 272) && fusedOff (272 * n + 8 * (off - 0x300) + b))).foldl (fun w b => w + 2 ^ b) 0
      else raw
    | .halyard => if off = 0x104 then b2n (decide (siteRow n ≤ 7)) else raw
    | .hostPort => if off = 0x100 then b2n (decide (n = 0)) else raw
    | _ => raw

/-- The value of a field after the reset that applies to its block (R14). A held field reads as if VSB had just come up: 0, and the COOLREQ duty the full demand of an undriven pin (R304). -/
def resetField (k : PageKind) (n a : Nat) (f : RField) : Nat :=
  match f.rst with
  | .val v => v
  | .undef => bits (Config.undefWord a).toNat f.lsb f.width
  | .fuse => fusedField k n a f.lsb f.width
  | .held => if a = 0x4144 then 100 else 0

/-- The reset value of the register at an address. -/
def resetWord (a : Nat) : Word :=
  match regAt a with
  | none => 0
  | some (k, n, d) => BitVec.ofNat 32 (d.fields.foldl (fun w f => setBits w f.lsb f.width (resetField k n a f)) 0)

/-- The word a register holds. -/
def State.word (s : State) (a : Nat) : Word :=
  match tabGet s.regs a with
  | some w => w
  | none => resetWord a

/-- The state with a register word set. -/
def State.setWord (s : State) (a : Nat) (w : Word) : State := { s with regs := tabPut s.regs a w }

/-- The value of a field. -/
def State.getF (s : State) (f : Fld) : Nat := bits (s.word f.addr).toNat f.lsb f.width

/-- The state with a field set. -/
def State.setF (s : State) (f : Fld) (v : Nat) : State :=
  s.setWord f.addr (BitVec.ofNat 32 (setBits (s.word f.addr).toNat f.lsb f.width v))

/-- A one-bit field is 1. -/
def State.on (s : State) (f : Fld) : Bool := s.getF f == 1

/-- The state with bits of a flag word set that were 0 or 1 before (a w1c bit that the part sets, R12). -/
def State.orF (s : State) (f : Fld) (v : Nat) : State := s.setF f (Nat.lor (s.getF f) v)

/-- A count that holds at its field's maximum. -/
def State.countF (s : State) (f : Fld) (n : Nat) : State := s.setF f (satAdd (s.getF f) n (2 ^ f.width - 1))

/-- A count modulo its field's range. -/
def State.wrapF (s : State) (f : Fld) (n : Nat) : State := s.setF f ((s.getF f + n) % 2 ^ f.width)

/-- Registers of a page return to their reset values, but for those that `keep` names; held fields keep their value (R14), and no staged value of the page remains (R446). -/
def State.resetPage (s : State) (pg : Nat) (keep : Nat → Bool) : State :=
  { s with
    regs := s.regs.filter (fun e => e.1 / 0x1000 != pg / 0x1000 || keep e.1)
    staged := s.staged.filter (fun e => e.1 / 0x1000 != pg / 0x1000 || keep e.1)
    written1 := s.written1.filter (fun a => a / 0x1000 != pg / 0x1000 || keep a) }

/-! Time -/

/-- The length count of an open orbit is 48 bits and holds (R41). -/
def lenTop : Nat := 2 ^ 48 - 1

/-- `n` CLK_ORB cycles pass. -/
def State.advance (s : State) (n : Nat) : State :=
  { s with
    now := s.now + n
    orb := { s.orb with
      ns := s.orb.ns + 10 * n
      len := if s.orb.tickAt.isSome then satAdd s.orb.len n lenTop else s.orb.len } }

/-- Time runs to an instant, if it has not passed. -/
def State.advanceTo (s : State) (t : Nat) : State := s.advance (t - s.now)

/-- The orbits run (ORB_CTRL.RUN). -/
def State.running (s : State) : Bool := s.on F.ORB_CTRL_RUN

/-- The orbit count as a number. -/
def State.orbit (s : State) : Nat := s.orb.count.toNat

/-- The orbit a 32-bit stamp means at count c (R47): the number congruent to it nearest to c; negative numbers name no orbit yet counted. -/
def stampOrbit (stamp c : Nat) : Int :=
  let lo : Int := (c : Int) - 2 ^ 31
  lo + (((stamp : Int) - lo) % 2 ^ 32)

/-! Partitions and functions -/

/-- The partition that owns a global row (R318). -/
def State.partOfRow (s : State) (g : Nat) : Option Nat :=
  (List.range 16).find? (fun p =>
    if g < 32 then bit (s.getF (F.PRT_ROWS_LO_ROWS p)) g else bit (s.getF (F.PRT_ROWS_HI_ROWS p)) (g - 32))

/-- The partition that owns a site. -/
def State.partOfSite (s : State) (i : Nat) : Option Nat := s.partOfRow (siteGRow i)

/-- The global rows of a partition. -/
def State.rowsOf (s : State) (p : Nat) : List Nat := (List.range 64).filter (fun g => s.partOfRow g == some p)

/-- The sites of a partition. -/
def State.sitesOf (s : State) (p : Nat) : List Nat :=
  (s.rowsOf p).flatMap (fun g => (List.range 17).map (fun c => 17 * g + c))

/-- The partition a function is bound to (R320). -/
def State.partOfFn (s : State) (f : Nat) : Option Nat :=
  if f < 256 ∧ s.on (F.HPT_FN_BOUND (f / 64) (f % 64)) then some (s.getF (F.HPT_FN_PART (f / 64) (f % 64))) else none

/-- States of a partition page (R318). -/
def prtOff : Nat := 0
def prtIdle : Nat := 1
def prtActive : Nat := 2
def prtQuiescing : Nat := 3
def prtReset : Nat := 4

/-- PG_STATE of a page. -/
def State.pgState (s : State) (pg : Nat) : Nat := s.getF (F.PG_STATE_STATE pg)
def State.setPgState (s : State) (pg v : Nat) : State := s.setF (F.PG_STATE_STATE pg) v

/-! Events -/

def RingState.fresh : RingState := ⟨[], none, 0, none, false⟩
def State.ring (s : State) (e : Nat) : RingState := (tabGet s.rings e).getD RingState.fresh
def State.setRing (s : State) (e : Nat) (r : RingState) : State :=
  { s with rings := tabPut s.rings e r }.setF (F.EVT_STAGED_COUNT e) r.staged.length

/-- The ring has no space for another record (R334). -/
def State.ringFull (s : State) (e : Nat) : Bool :=
  decide (2 ^ s.getF (F.EVT_CFG_LOG2 e) ≤ (s.getF (F.EVT_TAIL_COUNT e) + 2 ^ 32 - s.getF (F.EVT_HEAD_COUNT e)) % 2 ^ 32)

/-- The next record starts, where none is in progress and the ring has space: a summary first, then the oldest staged record (R334). -/
def State.ringKick (s : State) (e : Nat) : State :=
  let r := s.ring e
  if r.inProgress.isSome || s.ringFull e then s
  else
    let mask := s.getF (F.EVT_PENDING_MASK e)
    if mask ≠ 0 then
      (s.setRing e { r with
        inProgress := some ⟨0x0F, 0, e, mask, s.orbit, 0, r.lost, 15⟩
        lost := 0 }).setF (F.EVT_PENDING_MASK e) 0
    else match r.staged with
      | [] => s
      | ev :: t => s.setRing e { r with inProgress := some ev, staged := t }

/-- An event reaches a ring (R331, R334): staged, or counted in EVT_PENDING and EVT_FLOOD when the staging queue or the ring is full. A disabled ring takes nothing. -/
def State.postTo (s : State) (e : Nat) (ev : EvRec) : State :=
  if !s.on (F.EVT_CFG_EN e) then s
  else
    let r := s.ring e
    if 16 ≤ r.staged.length || s.ringFull e then
      ((s.setRing e { r with lost := r.lost + 1 }).orF (F.EVT_PENDING_MASK e) (2 ^ ev.cls)).countF (F.EVT_FLOOD_COUNT e) 1
    else (s.setRing e { r with staged := r.staged ++ [ev] }).ringKick e

/-- The event class of a block's PG_EVT bits (R334). -/
def evClass (k : PageKind) (mask : Nat) : Nat :=
  match k with
  | .queue => 0
  | .core => 1
  | .cluster => 4
  | .halyard => if bits mask 12 8 ≠ 0 then 2 else 5
  | .link => 6
  | .timebase | .orbit => 7
  | .power => 8
  | .thermal => 9
  | .hostPort => 10
  | .partition => if bit mask 10 then 3 else 11
  | .moonlet => 12
  | .reliability | .die => 13
  | .mailbox => 14
  | _ => 15

/-- A page's block event is posted to PG_EVT_ROUTE (R331, R332, R405). -/
def State.postBlock (s : State) (pg mask : Nat) : State :=
  match pageKind (pg / 0x1000) with
  | none => s
  | some (k, _) =>
    s.postTo (s.getF (F.PG_EVT_ROUTE_RING pg))
      ⟨0x05, 0, pg / 0x1000, mask, s.orbit, s.getF (F.PG_ERRCAP pg 0), 0, evClass k mask⟩

/-- Number of one bits among the low 32. -/
def popcount (n : Nat) : Nat := (List.range 32).foldl (fun a i => a + b2n (bit n i)) 0

/-- A block sets bits of its PG_EVT: each bit that goes from 0 to 1 is counted, and one event is posted when an enabled one does (R401, R405). -/
def State.raise (s : State) (pg mask : Nat) : State :=
  let old := (s.word (pg + 0x10)).toNat
  let newly := Nat.lor old mask - old
  let s1 := (s.setWord (pg + 0x10) (BitVec.ofNat 32 (Nat.lor old mask))).countF (F.PG_EVT_COUNT_COUNT pg) (popcount newly)
  if Nat.land newly (s.getF (F.PG_EVT_EN_EN pg)) ≠ 0 then s1.postBlock pg newly else s1

/-- A block sets one bit of its PG_EVT. -/
def State.raiseBit (s : State) (pg i : Nat) : State := s.raise pg (2 ^ i)

/-- An event of a partition's cores goes to PRT_DEFRING of the partition that owns the site (R331); an event of a site that no partition owns goes nowhere. -/
def State.postCore (s : State) (i : Nat) (ev : EvRec) : State :=
  match s.partOfSite i with
  | none => s
  | some p => s.postTo (s.getF (F.PRT_DEFRING_RING p)) ev

/-! Byte memory -/

def Memory.empty : Memory := ⟨[], [], []⟩

/-- What an unlisted byte reads as: zero, or the free byte of the newest undefined content that covers it. -/
def fillAt : List (Nat × Nat × Option Nat) → Nat → Byte
  | [], _ => 0
  | (lo, hi, g) :: t, a =>
    if lo ≤ a ∧ a < hi then (match g with | none => 0 | some n => Config.undefByte n a) else fillAt t a

/-- One byte of a memory. -/
def Memory.read (m : Memory) (a : Nat) : Byte :=
  match tabGet m.cells a with
  | some b => b
  | none => fillAt m.fill a

/-- One byte written: the entry goes when it is what the unlisted byte reads as. A write renews the byte's codeword (R362). -/
def Memory.write (m : Memory) (a : Nat) (b : Byte) : Memory :=
  { m with
    cells := if b = fillAt m.fill a then tabDel m.cells a else tabPut m.cells a b
    flips := tabDel m.flips a }

/-- Bytes `a` to `a + n - 1`. -/
def Memory.readN (m : Memory) (a : Nat) : Nat → List Byte
  | 0 => []
  | n + 1 => m.read a :: m.readN (a + 1) n

/-- A list of bytes written from `a` up. -/
def Memory.writeL (m : Memory) (a : Nat) : List Byte → Memory
  | [] => m
  | b :: t => (m.write a b).writeL (a + 1) t

/-- Bytes `lo` to `hi - 1` become zero, with valid check bits, or of undefined content of a generation. -/
def Memory.refill (m : Memory) (lo hi : Nat) (g : Option Nat) : Memory :=
  { cells := m.cells.filter (fun e => decide (e.1 < lo) || decide (hi ≤ e.1))
    fill := (lo, hi, g) :: m.fill
    flips := m.flips.filter (fun e => decide (e.1 < lo) || decide (hi ≤ e.1)) }

/-- The canonical form: addresses strictly rising, and no entry equal to what an unlisted address reads as. -/
def Memory.wf (m : Memory) : Bool :=
  tabSorted m.cells && m.cells.all (fun e => e.2 != fillAt m.fill e.1)

/-- Bytes of a memory as numbers. -/
def Memory.nats (m : Memory) (a n : Nat) : List Nat := (m.readN a n).map BitVec.toNat

/-- Numbers as bytes. -/
def toBytes (l : List Nat) : List Byte := l.map (BitVec.ofNat 8)

/-- A fresh generation of undefined content, or a fresh free value's number. -/
def State.takeFree (s : State) : Nat × State := (s.freeCtr, { s with freeCtr := s.freeCtr + 1 })

end Sys2Proof.Machine
end

