-- ==== Sys2Proof/Machine/CoreOps.lean ====
section
/-! DEFINITION. What the meanings of core instructions share: core state, issue, program faults, tallies (R113 to R119, R136, R138). -/
namespace Sys2Proof.Machine

def Quad.fresh : Quad := ⟨none, none, 0, 0, 0, none, []⟩
/-- The matrix engine after a core reset: nothing queued, no weights, no quarter gated (R112). -/
def MxState.fresh : MxState := ⟨[], 0, [], [], [], false, 0, 0, 0, .normal, false, false, 0, .none, 0, false⟩

/-- Every MX instruction that has left the queue has completed: no pass runs, no tile is still to be loaded (R52, R107). -/
def MxState.quiet (m : MxState) : Bool :=
  let whole (t : Option Tile) : Bool := match t with | some x => x.loaded | none => true
  m.runs.isEmpty && m.loads.isEmpty && m.quads.all (fun q => whole q.2.waiting && whole q.2.active)

def CoreState.fresh : CoreState := ⟨[], [], [], ⟨[], [], []⟩, [], .idle, .none, none, [], false, 0, false, MxState.fresh, [], 0, [], [], 0, [], [], 0, 0⟩

/-- States of a core-site page (R138). -/
def coreOff : Nat := 0
def coreIdle : Nat := 1
def coreLoaded : Nat := 2
def coreRunning : Nat := 3
def coreBerthed : Nat := 4
def coreEnded : Nat := 5
def coreFaulted : Nat := 6
def coreEclipsed : Nat := 7
def coreReset : Nat := 8

/-- Program fault causes (R138). -/
def causeClass : Nat := 0x01
def causeMx : Nat := 0x02
def causeVx : Nat := 0x03
def causeSt : Nat := 0x04
def causeConv : Nat := 0x05
def causeSy : Nat := 0x06
def causeCt : Nat := 0x07
def causeTally : Nat := 0x08
def causeHang : Nat := 0x09
def causeFetch : Nat := 0x0A
def causeBk : Nat := 0x0B
def causeXlate : Nat := 0x0C
def causeUncorr : Nat := 0x0D
def causeAbort : Nat := 0x0E

def State.core (s : State) (i : Nat) : CoreState := (tabGet s.cores i).getD CoreState.fresh
def State.setCore (s : State) (i : Nat) (c : CoreState) : State := { s with cores := tabPut s.cores i c }
/-- PG_STATE of a core site (R138). -/
def State.coreSt (s : State) (i : Nat) : Nat := s.pgState (pgCore i)
def State.setCoreSt (s : State) (i v : Nat) : State := s.setPgState (pgCore i) v

/-- The cluster a core works in: its own, or the one a spare is assigned to (R21). -/
def State.clusterOf (s : State) (i : Nat) : Option Nat :=
  if isSpare i then
    if s.on (F.CORE_SITE_ASSIGNED i) then some (clusterNum (siteDie i) (siteRow i) (s.getF (F.CORE_SITE_SIDE i))) else none
  else some (homeCluster i)

/-- The sites of a cluster, an assigned spare included (R93). -/
def State.sitesOfCluster (s : State) (c : Nat) : List Nat :=
  clusterSites c ++ (if s.clusterOf (spareOfRow (clusterGRow c)) == some c then [spareOfRow (clusterGRow c)] else [])

def ClusterState.fresh : ClusterState := ⟨[], 1, 0, [], [], [], [], [], [], [], [], [], []⟩
def State.cluster (s : State) (c : Nat) : ClusterState := (tabGet s.clusters c).getD ClusterState.fresh
def State.setCluster (s : State) (c : Nat) (x : ClusterState) : State := { s with clusters := tabPut s.clusters c x }

/-- The step limiter admits one more transition of the cluster at a CLK_CORE cycle: at most four in any 60 consecutive cycles (R269). -/
def State.limiterFree (s : State) (i cycle : Nat) : Bool :=
  match s.clusterOf i with
  | none => true
  | some c => decide (((s.cluster c).admits.filter (fun t => decide (cycle < t + 60))).length < 4)

/-- A transition at a cycle is counted by the step limiter. -/
def State.limiterTake (s : State) (i cycle : Nat) : State :=
  match s.clusterOf i with
  | none => s
  | some c => let x := s.cluster c; s.setCluster c { x with admits := (cycle :: x.admits).take 4 }

/-! Local-store banks (R132) -/

/-- The requester that a bank serves: the MX drain (1) before all, then a requester that has lost 16 cycles there, the longest first, then the order of the list, 2 to 8. -/
def bankServes (waited : Nat → Nat) (reqs : List Nat) : Nat :=
  if reqs.contains 1 then 1
  else reqs.foldl (fun best r =>
    let age (x : Nat) : Nat := if 16 ≤ waited x then waited x else 0
    if best = 0 ∨ age best < age r ∨ (age best = age r ∧ r < best) then r else best) 0

/-- One contest for a bank: the losers wait on and each counts in CORE_LS_CONFLICT; whoever is served or does not compete waits no more. -/
def State.lsContest (s : State) (i : Nat) (b : BankCycle) : State :=
  let c := s.core i
  let waited (r : Nat) : Nat := (tabGet c.lsWait (16 * b.bank + r)).getD 0
  let won := bankServes waited b.reqs
  let lost := b.reqs.filter (· != won)
  let other := c.lsWait.filter (fun e => decide (e.1 / 16 ≠ b.bank))
  (s.setCore i { c with lsWait := lost.foldl (fun t r => tabPut t (16 * b.bank + r) (waited r + 1)) other }).countF
    (F.CORE_LS_CONFLICT_COUNT i) lost.length

def State.lsContests (s : State) (i : Nat) (l : List BankCycle) : State := l.foldl (fun s b => s.lsContest i b) s

/-- The core is in a voyage that has been launched and has not ended (R93, R131). -/
def State.inVoyage (s : State) (i : Nat) : Bool :=
  let st := s.coreSt i
  decide (coreLoaded ≤ st) && decide (st ≤ coreFaulted) && st != coreEnded

/-- Sticky flags are set (R89). -/
def State.addFlags (s : State) (i : Nat) (f : FpFlags) : State :=
  s.setWord (pgCore i + 0x130) (BitVec.ofNat 32 (Nat.lor (s.word (pgCore i + 0x130)).toNat f.bits))

/-- The core has power and has not faulted: it can take a program fault, in a voyage or, by an increment that reaches it, outside one (R117, R136). -/
def State.canFault (s : State) (i : Nat) : Bool :=
  decide (coreIdle ≤ s.coreSt i) && decide (s.coreSt i ≤ coreEnded)

/-- A program fault (R136): the core stops issuing; its first fault counts. -/
def State.progFault (s : State) (i cause info : Nat) : State :=
  let c := s.core i
  if c.fault.isSome || !s.canFault i then s
  else s.setCore i { c with fault := some ⟨cause, s.getF (F.CORE_PC_PC i), s.getF (F.CORE_PROG_K_K i), info⟩ }

/-- The register field of tally t (R139). -/
def tallyFld (i t : Nat) : Fld := if t % 2 = 0 then F.CORE_TALLY_LOW i (t / 2) else F.CORE_TALLY_HIGH i (t / 2)

/-- An increment of a tally (R117): one that would pass 0xFFFF leaves it there and faults the core. -/
def State.tallyAdd (s : State) (i t n : Nat) : State :=
  let v := s.getF (tallyFld i t) + n
  if v ≤ 0xFFFF then s.setF (tallyFld i t) v
  else (s.setF (tallyFld i t) 0xFFFF).progFault i causeTally t

/-- Class field of an instruction word (R113). -/
def wClass (w : Word64) : Nat := bits w.toNat 60 4

/-- The queue of a class's engine is full: 8 MX and 8 VX entries, 16 ST entries behind 16 running streams, 4 BK entries (R113, R129). -/
def State.queueFull (s : State) (i cls : Nat) : Bool :=
  let c := s.core i
  match cls with
  | 1 => decide (8 ≤ c.mx.queue.length)
  | 2 => decide (8 ≤ c.vx.length)
  | 3 => decide (32 ≤ c.streams.length)
  | 5 => decide (4 ≤ c.bk.length)
  | _ => false

/-- The port of the core's site has its four broadcasts in flight, those of a core that has been reset since among them (R203, R353). -/
def State.sendsFull (s : State) (i : Nat) : Bool :=
  match tabGet s.ports i with
  | some q => decide (4 ≤ (q.collects.filter (fun k => k.head.isNone)).length)
  | none => false

/-- The core may issue a word: RUNNING, issue held neither by the core nor by a full engine queue, no fault taken, and the word is the one at its program counter (R114). -/
def State.issueOk (s : State) (i : Nat) (w : Word64) : Bool :=
  let c := s.core i
  s.coreSt i == coreRunning && decide (c.hold = .none) && c.fault.isNone &&
  decide (c.prog[s.getF (F.CORE_PC_PC i)]? = some w) && !s.queueFull i (wClass w) &&
  !(wClass w == 5 && (bits w.toNat 56 4 == 1 || bits w.toNat 56 4 == 2) && s.sendsFull i)
/-- Opcode of every class but VX (R113). -/
def wOp (w : Word64) : Nat := bits w.toNat 56 4
/-- Opcode of the VX class (R121). -/
def wVxOp (w : Word64) : Nat := bits w.toNat 54 6

/-- Every bit of the word outside the class, the opcode and `used` is zero; `used` lists (lowest bit, width). -/
def onlyBits (w : Word64) (opLsb : Nat) (used : List (Nat × Nat)) : Bool :=
  used.foldl (fun v f => setBits v f.1 f.2 0) (w.toNat % 2 ^ opLsb) == 0

/-- The program counter moves to an instruction index; reaching the program's length without a CTBERTH faults (R116). -/
def State.goTo (s : State) (i pc : Nat) : State :=
  let s1 := s.setF (F.CORE_PC_PC i) pc
  if (s.core i).prog.length ≤ pc then s1.progFault i causeCt 0 else s1

/-- The instruction has issued: on to the next. -/
def State.nextPc (s : State) (i : Nat) : State := s.goTo i (s.getF (F.CORE_PC_PC i) + 1)

/-- Scalar register r; S0 reads as zero (R115). -/
def State.scalar (s : State) (i r : Nat) : Word :=
  if r = 0 then 0 else (tabGet (s.core i).scalars r).getD 0

/-- A scalar register is written; writes to S0 are ignored (R115). -/
def State.setScalar (s : State) (i r : Nat) (v : Word) : State :=
  if r = 0 then s else
  let c := s.core i
  s.setCore i { c with scalars := if v = 0 then tabDel c.scalars r else tabPut c.scalars r v }

/-- Issue of a word with its effect, where the core may issue it; a reserved field faults with the class's cause (R116, R119, R123, R111). -/
def issue (s : State) (i : Nat) (w : Word64) (cls : Nat) (isOp legal : Bool) (cause : Nat) (eff : State → State) : Out :=
  if s.issueOk i w && wClass w == cls && isOp then
    .next (if legal then eff s else s.progFault i cause 0)
  else .next s

/-- First byte of the L1 part, and the size of the scratchpad in bytes (R131). -/
def State.scratchBytes (s : State) (i : Nat) : Nat := 0x200000 - 0x40000 * s.getF (F.CORE_LS_SPLIT_L1 i)

/-- k and the logical core number, as core events carry them in DATA0 (R332). -/
def State.coreData0 (s : State) (i : Nat) : Nat :=
  s.getF (F.CORE_PROG_K_K i) + 2 ^ 32 * s.getF (F.CORE_VOY_LCORE_LCORE i)

end Sys2Proof.Machine
end

