-- ==== Sys2Proof/Machine/Access.lean ====
section
/-! DEFINITION. Who may reach which register (R62, R309, R315, R395, R397, R402, R403) and what a write does to each field by its access code (R10 to R13). -/
namespace Sys2Proof.Machine

/-- The requester has the management view (R315, R395). -/
def State.mgmtView (s : State) : Requester → Bool
  | .ensign _ => true
  | .fn f => decide (f % 64 = 0) && decide (f < 256) && s.on (F.HPT_CTRL_MGMT (f / 64))
  | .i3c => false

/-- Pages that a function bound to a partition reaches (R315), and those open to every function (R62, R309). -/
def State.fnReach (s : State) (f a : Nat) (isWrite : Bool) : Bool :=
  let off := a % 0x1000
  let mine (g : Nat) : Bool := (s.partOfFn f).isSome && s.partOfFn f == s.partOfRow g
  let boundHere (g : Nat) : Bool := (s.partOfFn f).isSome && s.partOfFn f == s.partOfFn g
  match pageKind (a / 0x1000) with
  | some (.timebase, _) => !isWrite
  | some (.orbit, _) => !isWrite && decide (off < 0x400)
  | some (.thermal, _) =>
    !isWrite || (decide (0x200 ≤ off) && decide (off < 0x300) && s.partOfFn f == some ((off - 0x200) / 0x10))
  | some (.core, n) | some (.halyard, n) => mine (siteGRow n)
  | some (.cluster, n) => mine (clusterGRow n)
  | some (.partition, n) => s.partOfFn f == some n
  | some (.event, n) => boundHere (s.getF (F.EVT_CFG_FN n))
  | some (.queue, n) => decide (0x800 ≤ off) && boundHere (s.getF (F.QUE_CFG_FN n ((off - 0x800) / 0x20)))
  | _ => false

/-- The bits of a register that only the management view writes (R315, R318, R336 to R338, and the chapters that name them). -/
def mgmtOnlyBits (k : PageKind) (off : Nat) : Nat :=
  if off = 0x30 then 0xFFFFFFFF
  else if off = 0x8 then 0x1F00
  else match k with
    | .partition => if off = 0x100 ∨ off = 0x104 ∨ off = 0x108 then 0xFFFFFFFF else 0
    | .queue => if 0x800 ≤ off ∧ (off - 0x800) % 0x20 = 0x8 then 0x00FF0000 else 0
    | .event => if off = 0x100 then 0x00007F80 else 0
    | _ => 0

/-- Bits of PG_CTRL that no requester writes, because the field does not act on the type or the part sets it (R401, R402, R319). -/
def fixedCtrlBits (k : PageKind) : Nat :=
  (if k.acts.1 then 0 else 1) + (if k.acts.2.1 then 0 else 2) + (if k.acts.2.2 then 0 else 4) +
  (if k = .partition then 0 else 8) +
  (match k with | .core | .cluster | .halyard | .queue | .event | .partition => 0x1F00 | _ => 0)

/-- A dropped access of a function is counted and recorded (R315, R397). -/
def State.filtDrop (s : State) (who : Requester) (a : Nat) (isWrite : Bool) : State :=
  match who with
  | .fn f =>
    let p := f / 64
    ((((s.countF (F.HPT_FILT_DROP_COUNT p) 1).setF (F.HPT_FILT_LAST_PAGE p) (a / 0x1000)).setF
      (F.HPT_FILT_LAST_FN p) (f % 64)).setF (F.HPT_FILT_LAST_WRITE p) (b2n isWrite)).setF (F.HPT_FILT_LAST_DOORBELL p) 0
  | _ => s

/-- Ensign A (0) or B (1) is alive (R391). -/
def State.ensAlive (s : State) (e : Nat) : Bool := if e = 0 then s.on F.G_REL_STATUS_ENS_A else s.on F.G_REL_STATUS_ENS_B

/-- The active Ensign, where one is alive and holds its role (R381, R382). -/
def State.activeEns (s : State) : Option Nat :=
  let a := s.getF F.G_REL_STATUS_ACTIVE
  if s.ensAlive a && !s.rel.gaveUp.contains a then some a else none

/-- Bring-up has not reached READY (R344). -/
def State.beforeReady (s : State) : Bool :=
  let st := s.getF F.G_BOOT_STATE_STATE
  decide (st < 7) || st == 10

/-- BAR0 does not reach the page before READY (R344). -/
def State.shutOut (s : State) (who : Requester) (a : Nat) : Bool :=
  match who with
  | .fn _ => s.beforeReady && decide (5 < a / 0x1000)
  | _ => false

/-- PWRGD is low: the part is held in whole-part reset, and no access reaches a register (R340). -/
def State.heldInReset (s : State) : Bool := !s.power.pwrgd

/-- A read reaches the register (R62, R315, R344, R395, R397). -/
def State.readReach (s : State) (who : Requester) (k : PageKind) (a : Nat) : Bool :=
  match who with
  | .ensign _ => true
  | .i3c => k != .mailbox
  | .fn f => s.mgmtView who || s.fnReach f a false

/-- A read that does not reach its register: counted, and answered with zero (R315). -/
def State.readDropped (s : State) (who : Requester) (a : Nat) : State := { s.filtDrop who a false with reply := some (.word 0) }

/-- The bits of a register word that a write may change, where it reaches the register; the state counts a write that is refused, and one of a register with a field that only the management view writes, whatever its value (R315). -/
def State.admitted (s : State) (who : Requester) (a : Nat) (_v : Word) : State × Option Nat :=
  if s.heldInReset || s.shutOut who a then (s, none) else
  match regAt a with
  | none => (s.filtDrop who a true, none)
  | some (k, _, d) =>
    let ctrl := if a % 0x1000 = 0x8 then fixedCtrlBits k else 0
    if s.mgmtView who then
      (match who, k with
       | .fn f, .mailbox => if f % 64 = 0 then (s, some 0xFFFFFFFF) else (s, none)
       | _, _ => (s, some (0xFFFFFFFF - ctrl)))
    else match who with
      | .fn f =>
        if !s.fnReach f a true then (s.filtDrop who a true, none)
        else if s.on (F.PG_LOCK_LOCK (a / 0x1000 * 0x1000)) then
          ((s.raiseBit (a / 0x1000 * 0x1000) 1).filtDrop who a true, none)
        else
          let only := mgmtOnlyBits k (a % 0x1000)
          let s1 := if d.fields.any (fun f => bits only f.lsb f.width ≠ 0) then s.filtDrop who a true else s
          (s1, some (0xFFFFFFFF - Nat.lor ctrl only))
      | _ => (s, none)

/-- Some bit of a field may be written. -/
def fieldIn (mask : Nat) (f : RField) : Bool := bits mask f.lsb f.width != 0

/-- The value that a write of the bits in `mask` gives a field that holds `cur`: (current & ~MASK) | (VALUE & MASK) (R51). -/
def fieldWritten (mask : Nat) (f : RField) (v cur : Nat) : Nat :=
  let m := bits mask f.lsb f.width
  Nat.lor (Nat.land cur (2 ^ f.width - 1 - m)) (Nat.land (bits v f.lsb f.width) m)

/-- A value that the field accepts (fields whose other values the spec ignores). -/
def fieldLegal (f : RField) (v : Nat) : Bool :=
  match f.range with
  | none => true
  | some (lo, hi) => decide (lo ≤ v) && decide (v ≤ hi)

/-- The word after a write of the bits in `mask` by the fields' access codes (R11); `atOnce` writes staged fields too (R42, R51). -/
def writtenWord (s : State) (a mask : Nat) (v : Word) (atOnce : Bool) : List RField → Nat → Nat
  | [], w => w
  | f :: t, w =>
    let x := bits v.toNat f.lsb f.width
    let cur := bits w f.lsb f.width
    let new := fieldWritten mask f v.toNat cur
    let nx := match f.acc with
      | .rw => if fieldLegal f new then new else cur
      | .rw1 => if s.written1.contains a then cur else new
      | .stg => if atOnce && fieldLegal f new then new else cur
      | .w1c => Nat.land cur (2 ^ f.width - 1 - Nat.land x (bits mask f.lsb f.width))
      | .w1s => Nat.lor cur (Nat.land x (bits mask f.lsb f.width))
      | _ => cur
    writtenWord s a mask v atOnce t (setBits w f.lsb f.width nx)

/-- What a write leaves pending for the next tick: mask and value of its staged fields (R11, R13). -/
def stagedOf (mask : Nat) (v : Word) : List RField → Nat × Nat → Nat × Nat
  | [], p => p
  | f :: t, p =>
    let x := bits v.toNat f.lsb f.width
    if f.acc = .stg && fieldIn mask f && fieldLegal f x then
      stagedOf mask v t (setBits p.1 f.lsb f.width (2 ^ f.width - 1), setBits p.2 f.lsb f.width x)
    else stagedOf mask v t p

/-- A write of the bits in `mask` to a register, by the access codes (R10 to R13). -/
def State.store (s : State) (a mask : Nat) (v : Word) (atOnce : Bool) : State :=
  match regAt a with
  | none => s
  | some (_, _, d) =>
    let once := atOnce || !s.running
    let s1 := s.setWord a (BitVec.ofNat 32 (writtenWord s a mask v once d.fields (s.word a).toNat))
    let s2 := if d.fields.any (fun f => decide (f.acc = .rw1) && fieldIn mask f) && !s.written1.contains a
      then { s1 with written1 := a :: s1.written1 } else s1
    if once then s2 else
      let p := stagedOf mask v d.fields ((tabGet s2.staged a).getD (0, 0))
      if p.1 = 0 then s2 else { s2 with staged := tabPut s2.staged a p }

/-- Every staged value takes effect (R44 step 3, R42). -/
def State.applyStaged (s : State) (l : Tab (Nat × Nat)) : State :=
  l.foldl (fun s e => s.setWord e.1
    (BitVec.ofNat 32 (Nat.lor (Nat.land (s.word e.1).toNat (0xFFFFFFFF - e.2.1)) (Nat.land e.2.2 e.2.1)))) s

/-- The value of a staged field that the next tick would take. -/
def State.dueF (s : State) (f : Fld) : Nat :=
  match tabGet s.staged f.addr with
  | some (m, v) => if bits m f.lsb f.width = 2 ^ f.width - 1 then bits v f.lsb f.width else s.getF f
  | none => s.getF f

/-- A command that is a write of some bits of one register: where the write is admitted with all of `need`, its effect; otherwise only the counting of the refused access. -/
def trigger (s : State) (who : Requester) (a need : Nat) (v : Word) (eff : State → State) : Out :=
  let r := s.admitted who a v
  match r.2 with
  | none => .next r.1
  | some m => if Nat.land m need = need then .next (eff r.1) else .next r.1

/-- The same, with the bits of the word that the write may change. -/
def triggerM (s : State) (who : Requester) (a need : Nat) (v : Word) (eff : Nat → State → State) : Out :=
  let r := s.admitted who a v
  match r.2 with
  | none => .next r.1
  | some m => if Nat.land m need = need then .next (eff m r.1) else .next r.1

end Sys2Proof.Machine
end

