-- ==== Sys2Proof/Machine/Convert.lean ====
section
/-! DEFINITION. Conversion words and the conversion of a stream's elements (R70, R75, R81 to R86). -/
namespace Sys2Proof.Machine

/-- The kinds of element a stream moves (R66, R69, R81). -/
inductive Elem where
  | bytes
  | fp (f : Fmt)
  | t4b
  | intTable
  | intScale (bits : Nat)

/-- The bits of one element as it lies in memory (R70). -/
def Elem.width : Elem → Nat
  | .bytes => 8
  | .fp f => f.width
  | .t4b => 4
  | .intTable => 4
  | .intScale b => b

/-- Source and destination of each PAIR of R84; none where the code is reserved. -/
def pairOf : Nat → Option (Elem × Elem)
  | 0x00 => some (.bytes, .bytes)
  | 0x01 => some (.fp .b16, .fp .binary32)
  | 0x02 => some (.fp .binary16, .fp .binary32)
  | 0x03 => some (.fp .q8e4, .fp .b16)
  | 0x04 => some (.fp .q8e5, .fp .b16)
  | 0x05 => some (.fp .q8e4, .fp .binary32)
  | 0x06 => some (.fp .q8e5, .fp .binary32)
  | 0x07 => some (.t4b, .fp .b16)
  | 0x08 => some (.t4b, .fp .binary32)
  | 0x09 => some (.intTable, .fp .b16)
  | 0x0A => some (.intScale 4, .fp .b16)
  | 0x0B => some (.intScale 8, .fp .b16)
  | 0x10 => some (.fp .binary32, .fp .b16)
  | 0x11 => some (.fp .binary32, .fp .binary16)
  | 0x12 => some (.fp .binary32, .fp .q8e4)
  | 0x13 => some (.fp .binary32, .fp .q8e5)
  | 0x14 => some (.fp .binary32, .t4b)
  | 0x15 => some (.fp .b16, .fp .q8e4)
  | 0x16 => some (.fp .b16, .fp .q8e5)
  | 0x17 => some (.fp .b16, .t4b)
  | 0x18 => some (.fp .b16, .fp .binary16)
  | 0x19 => some (.fp .binary16, .fp .b16)
  | _ => none

/-- The Uses column of R84 names RND. -/
def pairUsesRnd (p : Nat) : Bool :=
  (decide (0x0A ≤ p) && decide (p ≤ 0x0B)) || (decide (0x10 ≤ p) && decide (p ≤ 0x13)) ||
  decide (p = 0x15) || decide (p = 0x16) || decide (p = 0x19)

/-- The fields of a conversion word (R84). -/
def cwPair (w : Nat) : Nat := bits w 0 6
def cwRnd (w : Nat) : Nat := bits w 6 3
def cwSat (w : Nat) : Bool := bit w 9
/-- G of the GROUP field (R84). -/
def cwGroup (w : Nat) : Nat := 32 * 2 ^ bits w 10 2
def cwZsign (w : Nat) : Bool := bit w 12

/-- The stream reads or writes T4B blocks. -/
def pairIsT4B (p : Nat) : Bool :=
  match pairOf p with
  | some (.t4b, _) | some (_, .t4b) => true
  | _ => false

/-- The stream expands integer groups (R81). -/
def pairIsInt (p : Nat) : Bool :=
  match pairOf p with
  | some (.intTable, _) | some (.intScale _, _) => true
  | _ => false

/-- The refusal case of R85 that a conversion word and CNT0 meet, the lowest-numbered where several apply. -/
def convRefusal (w cnt0 : Nat) : Option Nat :=
  let p := cwPair w
  if (pairOf p).isNone then some 1
  else if cwRnd w ≥ 5 then some 2
  else if cwRnd w = 4 && !pairUsesRnd p then some 3
  else if pairIsT4B p && cnt0 % 16 != 0 then some 4
  else if pairIsInt p && cnt0 % cwGroup w != 0 then some 5
  else if bits w 13 3 ≠ 0 then some 6
  else none

/-- The stream draws SR counters (R78). -/
def convUsesSr (w : Nat) : Bool := decide (cwRnd w = 4) && pairUsesRnd (cwPair w)

/-- Little-endian number of the first `n` bytes. -/
def leNat : List Nat → Nat
  | [] => 0
  | b :: t => b + 256 * leNat t

/-- `n` little-endian bytes of a number. -/
def leBytes : Nat → Nat → List Nat
  | 0, _ => []
  | n + 1, v => v % 256 :: leBytes n (v / 256)

/-- Element `i` of packed data (R70): two 4-bit elements to a byte, the even one low. -/
def elemCode (width : Nat) (data : List Nat) (i : Nat) : Nat :=
  if width = 4 then bits (data.getD (i / 2) 0) (4 * (i % 2)) 4
  else leNat ((data.drop (i * (width / 8))).take (width / 8))

/-- Bytes that `n` elements of a width take. -/
def elemBytes (width n : Nat) : Nat := (n * width + 7) / 8

/-- The bytes of a list of element codes (R70). -/
def packElems (width : Nat) : List Nat → List Nat
  | [] => []
  | [a] => if width = 4 then [a % 16] else leBytes (width / 8) a
  | a :: b :: t =>
    if width = 4 then (a % 16 + 16 * (b % 16)) :: packElems width t
    else leBytes (width / 8) a ++ packElems width (b :: t)

/-- Two's complement value of a `w`-bit code when signed (R81). -/
def intOf (w : Nat) (sgn : Bool) (c : Nat) : Int :=
  if sgn && bit c (w - 1) then (c : Int) - 2 ^ w else c

/-- Element `q` of an integer group under a scale-and-zero record (R82): its exact product with s, as a value. -/
def intScaleVal (w : Nat) (zsign : Bool) (rec : List Nat) (q : Nat) : Val × FpFlags :=
  let s := readFp .b16 false (leNat (rec.take 2))
  let z := intOf 8 zsign (rec.getD 2 0)
  let d := intOf w zsign q - z
  let p := mulVal (.fin (decide (d < 0)) d.natAbs 0) s.1
  (p.1, s.2.or p.2)

/-- Bytes of one metadata record (R81). -/
def recBytes : Elem → Nat
  | .intTable => 32
  | .intScale _ => 4
  | _ => 0

/-- The value of source element `i` (R67, R69, R81, R82); `aux` is the scale or metadata plane. -/
def sourceVal (src : Elem) (w : Nat) (data aux : List Nat) (i : Nat) : Val × FpFlags :=
  match src with
  | .bytes => (.fin false (data.getD i 0) 0, {})
  | .fp f => readFp f false (elemCode f.width data i)
  | .t4b =>
    match t4bVal (aux.getD (i / 16) 0) (elemCode 4 data i) with
    | .nan => (.nan, { nanin := true })
    | v => (v, {})
  | .intTable =>
    let r := (aux.drop (i / cwGroup w * 32)).take 32
    readFp .b16 false (elemCode 16 r (elemCode 4 data i))
  | .intScale b =>
    intScaleVal b (cwZsign w) ((aux.drop (i / cwGroup w * 4)).take 4) (elemCode b data i)

/-- The 16-element blocks of a list of values. -/
def blocksOf (vals : List Val) : Nat → List (List Val)
  | 0 => []
  | n + 1 => vals.take 16 :: blocksOf (vals.drop 16) n

/-- Conversion of `n` elements (R83, R84): element bytes, scale bytes (T4B only), flags; `draw` gives the SR draw of an element. -/
def convertElems (w n : Nat) (data aux : List Nat) (draw : Nat → Nat) : List Nat × List Nat × FpFlags :=
  match pairOf (cwPair w) with
  | none => ([], [], {})
  | some (.bytes, _) => (data.take n, [], {})
  | some (src, dst) =>
    let vs := (List.range n).map (sourceVal src w data aux)
    let fl := orFlags (vs.map Prod.snd)
    match dst with
    | .t4b =>
      let bs := (blocksOf (vs.map Prod.fst) (n / 16)).map packT4B
      (packElems 4 (bs.flatMap (fun b => b.1)), bs.map (fun b => b.2.1), fl.or (orFlags (bs.map (fun b => b.2.2))))
    | .fp f =>
      let rs := (vs.zip (List.range n)).map
        (fun v => convertVal f (if pairUsesRnd (cwPair w) then rndOf (cwRnd w) (draw v.2) else .rne) (cwSat w) v.1.1)
      (packElems f.width (rs.map Prod.fst), [], fl.or (orFlags (rs.map Prod.snd)))
    | _ => ([], [], fl)

end Sys2Proof.Machine
end

