-- ==== Sys2Proof/Machine/Fabric.lean ====
section
/-! DEFINITION. Device physical addresses, routes, packets and their hops (R141 to R155, R171, R172, R176 to R178). -/
namespace Sys2Proof.Machine

/-! Device physical addresses (R176 to R178) -/

def dpaXset (a : Nat) : Nat := bits a 43 2
def dpaSpace (a : Nat) : Nat := bits a 41 2
def dpaCol (a : Nat) : Nat := bits a 30 11
def dpaOff (a : Nat) : Nat := bits a 0 30
/-- The site whose column an address names; none where COLUMN names no site. -/
def dpaSite (a : Nat) : Option Nat := siteOfNum (dpaCol a * 32)
/-- DRAM row within the bank. -/
def dpaDrow (a : Nat) : Nat := bits a 16 14
/-- Physical bank index: BSEL XOR DROW[4:0] (R177). -/
def dpaBank (a : Nat) : Nat := Nat.xor (bits a 11 5) (bits a 16 5)
/-- Layer of a bank (R177). -/
def bankLayer (p : Nat) : Nat := p % 8
/-- The half-layer die of a site's bank: 16 × tower + 2 × layer, plus 1 north of the seam. -/
def halfLayer (i p : Nat) : Nat := 16 * siteDie i + 2 * bankLayer p + (if siteRow i ≤ 7 then 0 else 1)
/-- First device physical address of a site's column (R176). -/
def colBase (i : Nat) : Nat := siteNum i / 32 * 2 ^ 30

/-- The address is a hole (R178). -/
def isHole (a : Nat) : Bool :=
  decide (2 ^ 45 ≤ a) || dpaSpace a == 3 || (dpaXset a != 0 && dpaSpace a != 1) || (dpaSite a).isNone ||
  (decide (dpaSpace a ≤ 1) && decide (0x30000000 ≤ dpaOff a)) || (dpaSpace a == 2 && decide (0x10000 ≤ dpaOff a))

/-! Routes -/

/-- Segment s of a route word: OP and ARG (R143). -/
def seg (route s : Nat) : Nat × Nat := (bits route (7 * s + 4) 3, bits route (7 * s) 4)
def routeExit (route : Nat) : Nat := bits route 56 3

/-- A route word from segments and EXIT (R143). -/
def mkRoute (segs : List (Nat × Nat)) (exit : Nat) : Nat :=
  ((segs.zip (List.range 8)).foldl (fun w x => w + (x.1.1 * 16 + x.1.2) * 2 ^ (7 * x.2)) 0) + exit * 2 ^ 56

/-- Segments of a move of n hops, those of 16 first (R148). -/
def moveSegs (op n : Nat) : List (Nat × Nat) :=
  if n = 0 then [] else if n ≤ 16 then [(op, n - 1)] else (op, 15) :: (if n - 16 = 0 then [] else [(op, n - 17)])

/-- E or W to column c, then N or S to row r, from (r0, c0) (R148). -/
def xyMove (r0 c0 r c : Nat) : List (Nat × Nat) :=
  (if c0 ≤ c then moveSegs 2 (c - c0) else moveSegs 4 (c0 - c)) ++
  (if r0 ≤ r then moveSegs 1 (r - r0) else moveSegs 3 (r0 - r))

/-- Row and column of lane l of a compute-die port (R142). -/
def stripAt (p l : Nat) : Nat × Nat :=
  match p with
  | 0 => (l, 16)
  | 1 => (12 + l, 16)
  | 2 => (15, l)
  | 3 => (15, 9 + l)
  | 4 => (8 + l, 16)
  | 5 => (4 + l, 16)
  | 6 => (0, l)
  | 7 => (0, 9 + l)
  | _ => (6 + l, 0)

/-- The lane of port p whose router is at (r, c). -/
def laneOf (p r c : Nat) : Option Nat := (List.range 4).find? (fun l => stripAt p l == (r, c))

/-- The link of a port of a compute die (R158). -/
def linkOf (d p : Nat) : Nat :=
  (([[0, 1, 2, 3, 4, 5, 12, 13, 20], [0, 1, 8, 9, 6, 7, 14, 15, 21],
     [10, 11, 2, 3, 6, 7, 16, 17, 22], [10, 11, 8, 9, 4, 5, 18, 19, 23]] : List (List Nat)).getD d []).getD p 0

/-- Ends of a link (R30): end A is the lower-numbered compute die, or the compute die of an I/O or moonlet link; end B a compute die 0 to 3, I/O die 4 or 5, or the moonlet 6 (R168). -/
def linkEnds (n : Nat) : Nat × Nat :=
  if n < 2 then (0, 1) else if n < 4 then (0, 2) else if n < 6 then (0, 3)
  else if n < 8 then (1, 2) else if n < 10 then (1, 3) else if n < 12 then (2, 3)
  else if n < 20 then ((n - 12) / 2, 4 + n % 2) else (n - 20, 6)

/-- Compute-die port of a link at an end on die d. -/
def portOf (n d : Nat) : Nat := ((List.range 9).find? (fun p => linkOf d p == n)).getD 0

/-- Route from a site to a site with an EXIT (R148); `sel` is the LINKSEL in use. -/
def synthRoute (sel src dst exit : Nat) : Nat :=
  let rs := siteRow src
  let cs := siteCol src
  if siteDie src = siteDie dst then mkRoute (xyMove rs cs (siteRow dst) (siteCol dst)) exit
  else
    let j := Nat.xor (siteDie src) (siteDie dst)
    let p := if bit sel (j - 1) then 2 * j - 1 else 2 * j - 2
    let l := (rs + cs) % 4
    let a := stripAt p l
    mkRoute (xyMove rs cs a.1 a.2 ++ [(5, p)] ++ xyMove a.1 a.2 (siteRow dst) (siteCol dst)) exit

/-- Route from an I/O die (0 or 1) or the moonlet (2) to a site, entering at the lane of DPA bits [8:7] (R148). -/
def synthRouteExt (ext dst lane exit : Nat) : Nat :=
  let a := stripAt (6 + ext) lane
  mkRoute ((5, lane) :: xyMove a.1 a.2 (siteRow dst) (siteCol dst)) exit

/-- The opposite direction of a move segment. -/
def invDir (op : Nat) : Nat := if op = 1 then 3 else if op = 3 then 1 else if op = 2 then 4 else if op = 4 then 2 else op

/-- Segments of a route before its END. -/
def segsOf (route : Nat) : List (Nat × Nat) := ((List.range 8).map (seg route)).takeWhile (fun x => x.1 != 0)

/-- The reversed route of a response or acknowledgement (R147). -/
def reverseRoute (p : Packet) : Nat :=
  let segs := (segsOf p.route).reverse.map (fun x => (invDir x.1, x.2))
  let segs := if p.srcKind = 2 ∨ p.srcKind = 3 then
      segs.dropLast ++ [(5, if p.srcKind = 3 then 8 else 6 + p.src % 2)]
    else segs
  mkRoute segs (if p.clu then 2 else if p.srcKind = 0 then 0 else if p.srcKind = 1 then 1 else 3)

/-! Packets -/

def State.pkt (s : State) (id : Nat) : Option Packet := tabGet s.packets id
def State.setPkt (s : State) (id : Nat) (p : Packet) : State := { s with packets := tabPut s.packets id p }
def State.dropPkt (s : State) (id : Nat) : State :=
  { s with packets := tabDel s.packets id, mesh := { s.mesh with inp := tabDel s.mesh.inp id } }
/-- A packet is injected. -/
def State.inject (s : State) (p : Packet) : State :=
  { s with packets := tabPut s.packets s.nextPkt p, nextPkt := s.nextPkt + 1 }

/-- Flits of a packet: header, payload beyond the first 32 bytes, and a mask flit (R149). -/
def Packet.flits (p : Packet) : Nat := 1 + (p.data.length - 32 + 63) / 64 + b2n p.masked

/-- Bytes 0 to 31 of the header flit (R149). The model numbers requests without end; TAG carries the low 16 bits of the number. -/
def Packet.header (p : Packet) : List Nat :=
  leBytes 8 p.route ++
  [p.cur % 8 + 8 * (p.left % 16) + 128 * b2n p.xed, p.vc + 4 * p.srcKind + 16 * (p.flits - 1) + 128 * b2n p.masked] ++
  leBytes 2 p.src ++ [p.ty, p.part % 16 + 16 * b2n p.clu] ++ leBytes 2 p.tag ++ leBytes 8 p.addr ++
  leBytes 2 p.len ++ [0, 0] ++ leBytes 4 p.aux

/-- n bytes of a list from a place, zeros past its end. -/
def padTo (n : Nat) (l : List Nat) : List Nat := l.take n ++ List.replicate (n - l.length) 0

/-- The 64 bytes of flit k of a packet: header and first payload, then the mask flit of a masked write, then the rest of the payload (R149). -/
def Packet.flitBytes (p : Packet) (k : Nat) : List Nat :=
  let d := p.data.map BitVec.toNat
  if k = 0 then p.header ++ padTo 32 d
  else if k = 1 ∧ p.masked = true then padTo 64 (leBytes 32 p.mask)
  else padTo 64 (d.drop (32 + 64 * (k - 1 - b2n p.masked)))

/-- The link-selection bits of a router (R148). -/
def State.linkSel (s : State) (i : Nat) : Nat := s.getF (F.HYP_RT_LINKSEL_SEL i)

/-- Partition number carried in PART; 0 where the site belongs to none. -/
def State.partNum (s : State) (i : Nat) : Nat := (s.partOfSite i).getD 0

/-- A response or acknowledgement of a request, injected where the request ended, by a halyard port or through a CLU port: VC RSP, the request's tag (R147, R149, R181). -/
def State.respond (s : State) (p : Packet) (site ty aux : Nat) (d : List Byte) : State :=
  let clu := p.place == .clu site
  s.inject { p with
    place := .router site, route := reverseRoute p, cur := 0, left := 0, xed := false, vc := 2
    srcKind := b2n (!clu), masked := false, src := siteNum site, ty := ty, clu := clu, len := d.length, aux := aux
    data := d, mask := 0 }

/-- A die's fabric domain is on: its routers and ports run (R34, R155). -/
def State.fabricOn (s : State) (d : Nat) : Bool := s.power.fabOn.contains d

/-- The core of a site takes packets (R155). -/
def State.coreTakes (s : State) (i : Nat) : Bool :=
  let st := s.coreSt i
  !(st == coreOff || st == coreEclipsed || st == coreReset)

/-- PACKET_DROP (R145): counted, with its cause (R171). -/
def State.routerDrop (s : State) (i id cause : Nat) : State :=
  match s.pkt id with
  | none => s
  | some p =>
    ((((s.dropPkt id).countF (F.HYP_RT_DROP_COUNT i) 1).setF (F.HYP_RT_LASTDROP_SRC i) p.src).setF (F.HYP_RT_LASTDROP_CAUSE i) cause)

/-- PACKET_ABSORB (R155, R321): sunk at CORE and counted. -/
def State.routerAbsorb (s : State) (i id : Nat) : State := (s.dropPkt id).countF (F.HYP_RT_ABSORB_COUNT i) 1

/-- A move segment may follow the moves before it in this die (R144): E and W before N and S, or the mirror on RSP. -/
def turnOk (vc : Nat) (route cur op : Nat) : Bool :=
  let before := ((List.range cur).map (fun k => (seg route k).1)).reverse.takeWhile (fun o => o != 5)
  let ew (o : Nat) : Bool := o == 2 || o == 4
  let ns (o : Nat) : Bool := o == 1 || o == 3
  if vc = 2 then !(ns op && before.any ew) else !(ew op && before.any ns)

/-- The neighbour of a router in a direction; none off the die (R141). -/
def neighbour (i op : Nat) : Option Nat :=
  let r := siteRow i
  let c := siteCol i
  match op with
  | 1 => if r < 15 then some (i + 17) else none
  | 2 => if c < 16 then some (i + 1) else none
  | 3 => if 0 < r then some (i - 17) else none
  | 4 => if 0 < c then some (i - 1) else none
  | _ => none

/-- States of a link page (R160). -/
def lnkOff : Nat := 0
def lnkSbInit : Nat := 1
def lnkMbTrain : Nat := 2
def lnkParam : Nat := 3
def linkActive : Nat := 4
def lnkRecentre : Nat := 5
def lnkRetrain : Nat := 6
def lnkFailed : Nat := 7

def State.lnk (s : State) (n : Nat) : Nat := s.pgState (pgLnk n)

/-- PG_STATE of the moonlet page: EMPTY, DOWN, PARAM, ACTIVE with any link ACTIVE, FAILED with every link failed (R170). -/
def State.mnl (s : State) : Nat :=
  let ls := [20, 21, 22, 23]
  if !s.on F.MNL_STATUS_PRESENT then 0
  else if ls.any (fun n => s.lnk n == linkActive) then 3
  else if ls.all (fun n => s.lnk n == lnkFailed) then 4
  else if ls.any (fun n => s.lnk n == lnkParam) then 2 else 1

/-- A link takes packets into its gateways: it is ACTIVE, or in RECENTRE or RETRAIN, where they wait and none is lost (R57, R145, R162). -/
def State.linkTakes (s : State) (n : Nat) : Bool := [linkActive, lnkRecentre, lnkRetrain].contains (s.lnk n)
/-- Slots of a moonlet message: its 16-byte header and its payload (R165). -/
def mtSlots (bytes : Nat) : Nat := (16 + bytes + 63) / 64

def LinkDir.fresh : LinkDir := ⟨[], 0, [], none, 0, [], [8, 48, 96, 96, 8, 48, 96, 96], 4095, false, [], [0, 0, 0, 0, 0, 0, 0, 0]⟩
/-- A link at rest: LNK_CFG as it resets (R168). -/
def LinkState.fresh : LinkState := ⟨LinkDir.fresh, LinkDir.fresh, 0, 0, false, 3, 0x80B, none, [], false, false⟩
def State.linkSt (s : State) (n : Nat) : LinkState := (tabGet s.links n).getD LinkState.fresh
def State.setLink (s : State) (n : Nat) (l : LinkState) : State := { s with links := tabPut s.links n l }
def LinkState.dir (l : LinkState) (toB : Bool) : LinkDir := if toB then l.toB else l.toA
def LinkState.setDir (l : LinkState) (toB : Bool) (d : LinkDir) : LinkState := if toB then { l with toB := d } else { l with toA := d }

/-- A packet leaves the routers for a new place. -/
def State.leaveMesh (s : State) (id : Nat) (p : Packet) : State := (s.dropPkt id).setPkt id p

/-- A packet enters the gateway of a link (R146). -/
def State.toLink (s : State) (id n : Nat) (toB : Bool) (lane : Nat) (p : Packet) : State :=
  let l := s.linkSt n
  let d := l.dir toB
  (s.leaveMesh id { p with place := .link n toB lane }).setLink n (l.setDir toB { d with waiting := d.waiting ++ [(id, 0)] })

/-- A message to the moonlet enters the gateway of its link, to go out in slots (R161, R165): TYPE, TAG, status in ARG, data. -/
def State.mtSend (s : State) (o : MtOut) : State :=
  let p : Packet := ⟨.link o.link true 0, 0, 0, 0, false, 2, 3, false, 0, o.ty, 0, false, o.tag, 0, o.data.length, o.status, o.data, 0⟩
  (s.inject p).toLink s.nextPkt o.link true 0 p

/-- Bytes of slot k of an MT message: its 16-byte header, then its payload (R165). -/
def Packet.mtBytes (p : Packet) (k : Nat) : List Nat :=
  padTo 64 (([p.ty, 0] ++ leBytes 2 p.tag ++ leBytes 2 p.len ++ leBytes 2 p.aux ++ leBytes 8 p.addr ++ p.data.map BitVec.toNat).drop (64 * k))

/-- Segment s of the route on: nothing but END, or nothing. -/
def restEnds (route cur : Nat) : Bool := decide (8 ≤ cur) || (seg route cur).1 == 0

/-- Delivery of a packet at a router to its EXIT (R143, R144, R145, R155, R321). -/
def State.deliver (s : State) (id i : Nat) (p : Packet) : State :=
  match routeExit p.route with
  | 0 =>
    if !s.coreTakes i then s.routerAbsorb i id
    else if p.ty = 0x01 && s.partOfSite i != some p.part then s.routerAbsorb i id
    else s.leaveMesh id { p with place := .core i }
  | 1 => s.leaveMesh id { p with place := .hal i }
  | 2 => if siteCol i = 4 ∨ siteCol i = 12 then s.leaveMesh id { p with place := .clu i } else s.routerDrop i id 7
  | 3 => s.routerDrop i id 7
  | _ => s.routerDrop i id 6

/-- One router executes the current segment of a packet (R144, R145). At P8 an answer reaches the endpoint that turns it into the moonlet's message (R165). -/
def State.routerStep (s : State) (id i : Nat) (p : Packet) : State :=
  if restEnds p.route p.cur then s.deliver id i p
  else
    let op := (seg p.route p.cur).1
    let arg := (seg p.route p.cur).2
    if 1 ≤ op ∧ op ≤ 4 then
      if p.left = 0 && !turnOk p.vc p.route p.cur op then s.routerDrop i id 4
      else match neighbour i op with
        | none => s.routerDrop i id 1
        | some j =>
          let left := (if p.left = 0 then arg + 1 else p.left) - 1
          let s1 := s.setPkt id { p with place := .router j, left := left, cur := if left = 0 then p.cur + 1 else p.cur }
          { s1 with mesh := { s1.mesh with inp := tabPut s1.mesh.inp id (invDir op) } }
    else if op = 5 then
      if 8 < arg then s.routerDrop i id 6
      else match laneOf arg (siteRow i) (siteCol i) with
        | none => s.routerDrop i id 2
        | some lane =>
          let n := linkOf (siteDie i) arg
          if !s.linkTakes n then s.routerDrop i id 3
          else if arg ≤ 5 && p.xed then s.routerDrop i id 5
          else if 6 ≤ arg && !(restEnds p.route (p.cur + 1) && routeExit p.route == 3) then s.routerDrop i id 8
          else if 20 ≤ n then s.leaveMesh id { p with place := .ext n, cur := p.cur + 1, left := 0 }
          else s.toLink id n (decide ((linkEnds n).1 = siteDie i)) lane { p with cur := p.cur + 1, left := 0 }
    else s.routerDrop i id 6

/-- Packets with the same route word, VC and lane keep their order (R152): no earlier such packet is at the same place. -/
def State.inOrder (s : State) (id : Nat) (p : Packet) : Bool :=
  s.packets.all (fun e => decide (id ≤ e.1) || !(decide (e.2.place = p.place) && e.2.route == p.route && e.2.vc == p.vc && e.2.xed == p.xed))

/-! Buffers and arbitration (R150, R151, R153) -/

/-- The buffer flits a packet asks of an input port: all of it, or as much as its VC can hold there (wormhole). -/
def Packet.needs (p : Packet) : Nat :=
  min p.flits (match p.vc with | 0 => 2 | 2 => 8 | _ => 16)

/-- Flits of a VC and lane that stand in an input port's buffers. -/
def State.held (s : State) (j port vc : Nat) (xed : Bool) : Nat :=
  s.packets.foldl (fun n e =>
    if e.2.place = .router j ∧ tabGet s.mesh.inp e.1 = some port ∧ e.2.vc = vc ∧ e.2.xed = xed then n + e.2.needs else n) 0

/-- The buffers of an input port have room for a packet: 2 CTRL, 8 RSP, 4 REQ and 4 BULK of their own and 12 that REQ and BULK share, for each lane (R150). -/
def State.portRoom (s : State) (j port : Nat) (p : Packet) : Bool :=
  let h (vc : Nat) : Nat := s.held j port vc p.xed
  match p.vc with
  | 0 => decide (h 0 + p.needs ≤ 2)
  | 2 => decide (h 2 + p.needs ≤ 8)
  | 1 => decide (h 1 + p.needs - 4 + (h 3 - 4) ≤ 12)
  | _ => decide (h 3 + p.needs - 4 + (h 1 - 4) ≤ 12)

/-- The output of its router that a packet asks for: a direction 1 to 4, an exit from 8, an edge port from 16. -/
def Packet.output (p : Packet) : Nat :=
  if restEnds p.route p.cur then 8 + routeExit p.route
  else
    let x := seg p.route p.cur
    if 1 ≤ x.1 ∧ x.1 ≤ 4 then x.1 else 16 + 16 * (x.1 % 2) + x.2

/-- A packet at a router holds credit for its output; gateways and exits always take one. -/
def State.holdsCredit (s : State) (i : Nat) (p : Packet) : Bool :=
  match (if p.output < 8 then neighbour i p.output else none) with
  | some j => s.portRoom j (invDir p.output) p
  | none => true

/-- Rank of a candidate at an output, the lowest served first: CTRL, RSP, then REQ and BULK alternately; ARRIVED before LOCAL; input ports in turn after the one served last (R151). -/
def State.arbRank (s : State) (i id : Nat) (p : Packet) : Nat :=
  let last := (tabGet s.mesh.last (64 * i + p.output)).getD (0, true)
  let cls := if p.vc = 0 then 0 else if p.vc = 2 then 1 else if (p.vc == 3) == last.2 then 3 else 2
  let port := (tabGet s.mesh.inp id).getD 0
  (2 * cls + b2n (!p.xed)) * 8 + (port + 7 - last.1) % 8

/-- The packet is the one that its router's output serves next. -/
def State.winsOutput (s : State) (i id : Nat) (p : Packet) : Bool :=
  s.holdsCredit i p && s.packets.all (fun e =>
    e.1 == id || !(decide (e.2.place = .router i) && e.2.output == p.output && s.inOrder e.1 e.2 && s.holdsCredit i e.2) ||
    decide (s.arbRank i id p < s.arbRank i e.1 e.2) ||
    (s.arbRank i id p == s.arbRank i e.1 e.2 && decide (id < e.1)))

/-- The output has served a packet. -/
def State.served (s : State) (i id : Nat) (p : Packet) : State :=
  let last := (tabGet s.mesh.last (64 * i + p.output)).getD (0, true)
  { s with mesh := { s.mesh with
      last := tabPut s.mesh.last (64 * i + p.output)
        ((tabGet s.mesh.inp id).getD 0, if p.vc = 1 then false else if p.vc = 3 then true else last.2) } }

/-- PACKET_HOP: a packet passes its egress gate, or its router executes the current segment of the packet that the output serves next (R144, R150, R151). -/
def execPacketHop (id : Nat) (s : State) : Out :=
  match s.pkt id with
  | none => .next s
  | some p =>
    if !s.inOrder id p then .next s else
    match p.place with
    | .gate i => if s.coreSt i = coreEclipsed then .next s else .next (s.setPkt id { p with place := .router i })
    | .router i => if s.fabricOn (siteDie i) && s.winsOutput i id p then .next ((s.served i id p).routerStep id i p) else .next s
    | _ => .next s

/-- TALLY_ADD: the packet reaches its core and adds its count to the named tally (R149, R117). -/
def execTallyAdd (id : Nat) (s : State) : Out :=
  match s.pkt id with
  | some p =>
    match p.place with
    | .core i =>
      if p.ty = 0x01 && s.inOrder id p then .next ((s.dropPkt id).tallyAdd i (bits p.aux 0 6) (bits p.aux 16 16)) else .next s
    | _ => .next s
  | none => .next s

/-- A TALLY_ADD packet from a core through a route-table entry (R147, R149, R172): entry 0 is the core itself; an EXIT other than CORE is dropped at once with cause 7. -/
def State.signal (s : State) (i entry tally count : Nat) : State :=
  if entry = 0 then s.tallyAdd i tally count
  else
    let route := s.getF (F.HYP_RTAB_LO_ROUTE i entry) + 2 ^ 32 * s.getF (F.HYP_RTAB_HI_ROUTE i entry)
    let p : Packet := ⟨.gate i, route, 0, 0, false, 0, 0, false, siteNum i, 0x01, s.partNum i, false, 0, 0, 0, tally + 2 ^ 16 * count, [], 0⟩
    if routeExit route ≠ 0 then
      ((s.countF (F.HYP_RT_DROP_COUNT i) 1).setF (F.HYP_RT_LASTDROP_SRC i) p.src).setF (F.HYP_RT_LASTDROP_CAUSE i) 7
    else s.inject p

/-- A request from a core to its or another column's halyard port, on a synthesized route (R147, R148). -/
def State.coreRequest (s : State) (i ty vc tag addr len aux : Nat) (d : List Byte) (masked : Bool) (mask : Nat) : State :=
  match dpaSite addr with
  | none => s
  | some j =>
    s.inject ⟨.gate i, synthRoute (s.linkSel i) i j 1, 0, 0, false, vc, 0, masked, siteNum i, ty, s.partNum i, false, tag, addr, len, aux, d, mask⟩

end Sys2Proof.Machine
end

