-- ==== Sys2Proof/Machine/Codes.lean ====
section
/-! DEFINITION. The byte code, test flips, the error log, and reads and writes of DRAM and local stores through them (R362 to R371). -/
namespace Sys2Proof.Machine

/-- Syndrome of one codeword bit: d0 to d7, then c0 to c3 (R362). -/
def bitSyndrome (k : Nat) : Nat := ([0x3, 0x5, 0x6, 0x9, 0xA, 0xC, 0xD, 0xE, 0x1, 0x2, 0x4, 0x8] : List Nat).getD k 0

/-- Syndrome of a codeword whose bits in `mask` differ from a correct one. -/
def syndrome (mask : Nat) : Nat :=
  (List.range 12).foldl (fun x k => if bit mask k then Nat.xor x (bitSyndrome k) else x) 0

/-- The check bits of a byte (R362). -/
def checkBits (d : Nat) : Nat := (List.range 8).foldl (fun x k => if bit d k then Nat.xor x (bitSyndrome k) else x) 0

/-- What a read of one byte gives. -/
inductive CodeOut where
  | clean
  | corrected (synd : Nat) (flipped : Bool)
  | uncorr (synd : Nat) (flipped : Bool)
  deriving DecidableEq, Repr

/-- The byte delivered and the outcome, for a written byte whose codeword differs in `mask`; bit 12 of the mask marks a test flip (R362, R369). -/
def codeRead (b mask : Nat) : Nat × CodeOut :=
  let y := syndrome mask
  let stored := Nat.xor b (mask % 256)
  if y = 0 then (stored, .clean)
  else if y = 7 ∨ y = 0xB ∨ y = 0xF then (stored, .uncorr y (bit mask 12))
  else
    match (List.range 8).find? (fun k => bitSyndrome k == y) with
    | some k => (Nat.xor stored (2 ^ k), .corrected y (bit mask 12))
    | none => (stored, .corrected y (bit mask 12))

/-- The mask of a poisoned byte (R364). -/
def poisonMask : Nat := 0xF00

/-- Addresses in [a, a + n) whose codewords differ, with their outcomes. -/
def Memory.errors (m : Memory) (a n : Nat) : List (Nat × CodeOut) :=
  (m.flips.filter (fun e => decide (a ≤ e.1) && decide (e.1 < a + n))).filterMap
    (fun e => let o := (codeRead (m.read e.1).toNat e.2).2; if o = .clean then none else some (e.1, o))

/-- Bytes as the code delivers them. -/
def Memory.deliver (m : Memory) (a n : Nat) : List Nat :=
  if m.flips.isEmpty then m.nats a n
  else (List.range n).map (fun k =>
    match tabGet m.flips (a + k) with
    | some f => (codeRead (m.read (a + k)).toNat f).1
    | none => (m.read (a + k)).toNat)

def CodeOut.bad : CodeOut → Bool
  | .uncorr _ _ => true
  | _ => false

/-! The error log (R368, R369) -/

/-- A log record: written, or counted as lost while 64 wait; the first uncorrectable one is captured (R368, R370). -/
def State.logRecord (s : State) (kind flags site loc synd : Nat) : State :=
  let w0 := kind + 2 ^ 8 * flags + 2 ^ 16 * site
  let orb := s.orbit % 2 ^ 32
  let wr := s.getF F.G_ELOG_WR_COUNT
  let full := (wr + 2 ^ 32 - s.getF F.G_ELOG_RD_COUNT) % 2 ^ 32 = 64
  let s1 := if full then (s.countF F.G_ELOG_LOST_COUNT 1).raiseBit pgRel 10
    else
      let i := wr % 64
      ((((s.setF (F.G_ELOG_REC0 i) w0).setF (F.G_ELOG_REC1 i) loc).setF (F.G_ELOG_REC2 i) synd).setF (F.G_ELOG_REC3 i) orb).wrapF F.G_ELOG_WR_COUNT 1
  if flags % 2 = 1 then
    let first := !bit (s1.word (pgRel + 0x10)).toNat 8
    let s2 := if first then
        (((s1.setF (F.PG_ERRCAP pgRel 0) w0).setF (F.PG_ERRCAP pgRel 1) loc).setF (F.PG_ERRCAP pgRel 2) synd).setF (F.PG_ERRCAP pgRel 3) orb
      else s1
    s2.raise pgRel (if first then 0x101 else 0x100)
  else s1

/-- One code outcome is counted and logged: every uncorrectable error, and at most one corrected record per site per 1 ms (R368). -/
def State.logCode (s : State) (kind site loc : Nat) : CodeOut → State
  | .clean => s
  | .uncorr y fl =>
    (s.countF F.G_UE_COUNT_COUNT 1).logRecord kind (1 + (if y = 0xF then 2 else 0) + 4 * b2n fl) (siteNum site) loc y
  | .corrected y fl =>
    let s1 := (s.countF F.G_CE_COUNT_COUNT 1).raiseBit pgRel 9
    match tabGet s1.rel.ceAt site with
    | some t => if s1.now < t + 100000 then s1 else
        ({ s1 with rel := { s1.rel with ceAt := tabPut s1.rel.ceAt site s1.now } } : State).logRecord kind (4 * b2n fl) (siteNum site) loc y
    | none =>
        ({ s1 with rel := { s1.rel with ceAt := tabPut s1.rel.ceAt site s1.now } } : State).logRecord kind (4 * b2n fl) (siteNum site) loc y

/-! Test flips (R371) -/

/-- The byte that the armed flip names in a unit; none where no flip is armed for the unit. -/
def State.flipAt (s : State) (unit : Nat) : Option Nat :=
  if s.on F.G_FLIP_CTRL_ARM && s.getF F.G_FLIP_CTRL_UNIT == unit then
    let lo := s.getF F.G_FLIP_ADDR_LO_ADDR
    let b := s.getF F.G_FLIP_CTRL_BYTE
    match unit with
    | 0 => some (s.getF F.G_FLIP_ADDR_HI_ADDR * 2 ^ 32 + lo / 32 * 32 + b % 32)
    | 2 => some (s.getF F.G_FLIP_ADDR_HI_ADDR * 2 ^ 32 + lo / 128 * 128 + b)
    | _ => some (lo / 32 * 32 + b % 32)
  else none

/-- The site a flip of a local store or an expansion buffer names. -/
def State.flipSite (s : State) : Option Nat := siteOfNum (s.getF F.G_FLIP_ADDR_HI_ADDR % 2 ^ 16)

/-- The mask that an applied flip leaves, and the flip cleared. -/
def State.flipMask (s : State) : Nat := s.getF F.G_FLIP_CTRL_MASK + 2 ^ 12
def State.flipDone (s : State) : State := (s.setF F.G_FLIP_CTRL_ARM 0).setF F.G_FLIP_CTRL_DONE 1

/-! DRAM -/

/-- LOC of a DRAM byte in a log record (R369). -/
def dramLoc (a : Nat) : Nat := dpaDrow a + 2 ^ 14 * dpaBank a + 2 ^ 19 * bits a 5 6 + 2 ^ 25 * bits a 0 5

/-- Bytes of DRAM as a reader gets them. -/
def State.dramData (s : State) (a n : Nat) : List Nat := s.dram.deliver a n

/-- Some byte of DRAM in a range is uncorrectable. -/
def State.dramBad (s : State) (a n : Nat) : Bool := (s.dram.errors a n).any (fun e => e.2.bad)

/-- The outcomes of a read of DRAM are counted and logged with a kind (R365, R368). -/
def State.dramLog (s : State) (kind a n : Nat) : State :=
  (s.dram.errors a n).foldl (fun s e => s.logCode kind ((dpaSite a).getD 0) (dramLoc e.1) e.2) s

/-- Bytes written to DRAM, each with its own check bits; the armed flip is applied to the byte it names (R182, R371). -/
def State.dramPut (s : State) (l : List (Nat × Byte)) : State :=
  let s1 := { s with dram := l.foldl (fun m e => m.write e.1 e.2) s.dram }
  match s1.flipAt 0 with
  | none => s1
  | some a =>
    if l.any (fun e => e.1 == a) then
      ({ s1 with dram := { s1.dram with flips := tabPut s1.dram.flips a s1.flipMask } } : State).flipDone
    else s1

/-- Consecutive bytes with their addresses. -/
def addrsFrom (a : Nat) : List Byte → List (Nat × Byte)
  | [] => []
  | b :: t => (a, b) :: addrsFrom (a + 1) t

/-- The bytes that a mask enables. -/
def maskedFrom (a : Nat) (mask : Nat) : List Byte → List (Nat × Byte)
  | [] => []
  | b :: t => if mask % 2 = 1 then (a, b) :: maskedFrom (a + 1) (mask / 2) t else maskedFrom (a + 1) (mask / 2) t

/-- A byte of DRAM is poisoned (R364). -/
def State.dramPoison (s : State) (a : Nat) : State :=
  { s with dram := { s.dram with flips := tabPut s.dram.flips a poisonMask } }

/-! Local stores -/

/-- Bytes of a local store as an engine gets them. -/
def State.lsData (s : State) (i a n : Nat) : List Nat := (s.core i).ls.deliver a n

/-- A read of a local store: its outcomes are counted and logged, and an uncorrectable byte faults the core (R365, R366). -/
def State.lsNote (s : State) (i a n : Nat) : State :=
  let es := (s.core i).ls.errors a n
  let s1 := es.foldl (fun s e => s.logCode 4 i e.1 e.2) s
  match es.find? (fun e => e.2.bad) with
  | some e => s1.progFault i causeUncorr (3 + 2 ^ 16 * (e.1 / 64))
  | none => s1

/-- Bytes written to a local store; the armed flip is applied (R371). -/
def State.lsPut (s : State) (i a : Nat) (l : List Byte) : State :=
  let c := s.core i
  let s1 := s.setCore i { c with ls := c.ls.writeL a l }
  match s1.flipAt 1 with
  | none => s1
  | some b =>
    if s1.flipSite == some i && decide (a ≤ b) && decide (b < a + l.length) then
      let c1 := s1.core i
      (s1.setCore i { c1 with ls := { c1.ls with flips := tabPut c1.ls.flips b s1.flipMask } }).flipDone
    else s1

end Sys2Proof.Machine
end

