-- ==== Sys2Proof/Machine/Halyard.lean ====
section
/-! DEFINITION. Halyard ports: queues, reads and writes, latent expansion, open rows and refresh (R173 to R193). -/
namespace Sys2Proof.Machine

/-- A port after power-up: its expansion buffer and K slots are undefined, of generations that no other content has (R187, R194). -/
def PortState.fresh (gen : Nat) : PortState := ⟨[], 0, 0, [], [], [], ⟨[], [(0, 0x10000, some (gen + 1))], []⟩, [], [], [], none, [], 31, [], gen, false, [], [], 0⟩
/-- Generations that the ports of one power-up take. -/
def portGens : Nat := 2176
def State.port (s : State) (i : Nat) : PortState := (tabGet s.ports i).getD (PortState.fresh (s.power.gen + 2 * i))
def State.setPort (s : State) (i : Nat) (p : PortState) : State := { s with ports := tabPut s.ports i p }

/-- States of a halyard-port page (R183). -/
def halOff : Nat := 0
def halTraining : Nat := 1
def halActive : Nat := 2
def halRecentre : Nat := 3
def halFailed : Nat := 4
/-- PG_STATE of a halyard port: a port that is not in service trains while its tower's fabric domain is on (R183, R341). -/
def State.hal (s : State) (i : Nat) : Nat :=
  if s.pgState (pgHyp i) = halOff && s.power.fabOn.contains (siteDie i) then halTraining else s.pgState (pgHyp i)

/-- Response statuses of R181. -/
def stOk : Nat := 0
def stHole : Nat := 1
def stUncorr : Nat := 2
def stMalformed : Nat := 3
def stColFail : Nat := 4

/-- An answer of nonzero status is counted and recorded (R181, R193). -/
def State.portErr (s : State) (i ty addr status : Nat) : State :=
  ((((s.countF (F.HYP_ERR_COUNT i) 1).setF (F.HYP_LASTERR_TYPE i) ty).setF (F.HYP_LASTERR_STATUS i) status).setF
    (F.HYP_LASTERR_SPACE i) (dpaSpace addr)).setF (F.HYP_LASTERR_DROW i) (if dpaSpace addr = 2 then 0 else dpaDrow addr)

/-- The port answers a request; a nonzero status is counted and recorded (R181, R193). -/
def State.portAnswer (s : State) (i : Nat) (p : Packet) (status : Nat) (d : List Byte) : State :=
  let s1 := if status = 0 then s else s.portErr i p.ty p.addr status
  s1.respond p i (if p.ty = 0x10 then 0x12 else 0x13) status d

/-- A physical bank of a column is retired (R372). -/
def State.bankRetired (s : State) (i b : Nat) : Bool :=
  bit (s.getF (F.DIE_BRET (siteDie i) (i % 272))) b

/-! Expansion sets (R185, R187) -/

def State.xDin (s : State) (i n : Nat) : Nat := 32 * s.getF (F.HYP_XSET_DIN i n)
def State.xDout (s : State) (i n : Nat) : Nat := 32 * s.getF (F.HYP_XSET_DOUT i n)
def State.xOut32 (s : State) (i n : Nat) : Bool := s.on (F.HYP_XSET_OFMT i n)
def State.xBase (s : State) (i n : Nat) : Nat := 2048 * s.getF (F.HYP_XSET_BASE i n)
/-- Bytes an expanded vector takes. -/
def State.xLen (s : State) (i n : Nat) : Nat := s.xDout i n * (if s.xOut32 i n then 4 else 2)

/-- A HYP_XSET word is valid: DIN 1 to 16, DOUT 1 to 4 (2 for binary32), the matrix within the buffer (R193). -/
def xsetValid (w : Nat) : Bool :=
  let din := bits w 0 6
  let dout := bits w 6 6
  decide (1 ≤ din) && decide (din ≤ 16) && decide (1 ≤ dout) && decide (dout ≤ if bit w 12 then 2 else 4) &&
  decide (32 * din * (32 * dout) * 2 + 2048 * bits w 16 5 ≤ 65536)

/-- An expanding read meets R187. -/
def State.expandOk (s : State) (i : Nat) (p : Packet) : Bool :=
  let n := dpaXset p.addr
  decide (dpaOff p.addr % 64 = 0) && decide (dpaOff p.addr % 2048 + 2 * s.xDin i n ≤ 2048) &&
  decide (p.len = s.xLen i n) && s.on (F.HYP_XSET_VALID i n)

/-- A plain request meets R181: aligned, 32 to 256 bytes, within one 256-byte block. -/
def plainOk (p : Packet) : Bool :=
  decide (p.addr % 32 = 0) && decide (32 ≤ p.len) && decide (p.len ≤ 256) && decide (p.len % 32 = 0) &&
  decide (p.addr % 256 + p.len ≤ 256)

/-- What a request touches: SPACE 2 or not, first byte, bytes. -/
def State.touches (s : State) (i : Nat) (p : Packet) : Bool × Nat × Nat :=
  if dpaSpace p.addr = 2 then (true, dpaOff p.addr, p.len)
  else if dpaSpace p.addr = 1 then (false, colBase i + dpaOff p.addr, 2 * s.xDin i (dpaXset p.addr))
  else (false, p.addr, p.len)

def commonAtom (a b : Bool × Nat × Nat) : Bool :=
  a.1 == b.1 && decide (a.2.1 < b.2.1 + b.2.2) && decide (b.2.1 < a.2.1 + a.2.2)

/-! Arrival -/

/-- The next waiting requests take free places: OWN first, REMOTE when OWN is empty, at most 32 in flight, and at most 16 expanding reads with the `x` that the expansion unit holds (R179, R180, R189). -/
def grantNext (x : Nat) : Nat → Tab PortReq → Tab PortReq
  | 0, l => l
  | n + 1, l =>
    if 32 ≤ (l.filter (fun e => e.2.granted)).length then l
    else
      let full := decide (16 ≤ x + (l.filter (fun e => e.2.granted && dpaSpace e.2.pkt.addr == 1)).length)
      let may (e : Nat × PortReq) : Bool := !e.2.granted && !(full && dpaSpace e.2.pkt.addr == 1)
      match (l.find? (fun e => may e && e.2.own)).orElse (fun _ => l.find? may) with
      | some e => grantNext x n (tabPut l e.1 { e.2 with granted := true })
      | none => l

/-- A packet at a port, none before it in its order; held on credits unless the port serves or has failed (R152, R183). -/
def State.atPort (s : State) (id : Nat) (tys : List Nat) : Option (Nat × Packet) :=
  match s.pkt id with
  | some p =>
    match p.place with
    | .hal i => if tys.contains p.ty && s.inOrder id p && (s.hal i == halActive || s.hal i == halFailed) then some (i, p) else none
    | _ => none
  | none => none

/-! Service -/

/-- The broadcasts that a request waits behind at its bank: those that reached the port before it and have yet to complete there (R204, R210). -/
def PortState.aheadOf (q : PortState) (n b : Nat) : List Bcast :=
  q.bcasts.filter (fun c => c.setk.isNone && !c.before.contains n &&
    (c.todo.contains b || c.active.any (fun o => o.bank == b)))

/-- Source rows of a bank command (R196). -/
def srcRows (cmd : List Nat) : List Nat :=
  let bop := cmd.getD 0 0 % 16
  let n := cmd.getD 8 0
  let a := leNat ((cmd.drop 2).take 2)
  let b := leNat ((cmd.drop 4).take 2)
  if bop = 2 then [a]
  else (List.range n).map (a + ·) ++ (if 3 ≤ bop ∧ bop ≤ 5 then (List.range n).map (b + ·) else [])

/-- Destination rows a bank command writes. -/
def dstRows (cmd : List Nat) : List Nat :=
  let bop := cmd.getD 0 0 % 16
  let n := cmd.getD 8 0
  let d := leNat ((cmd.drop 6).take 2)
  if bop = 2 then []
  else if bop = 1 then (List.range ((n * (64 / cmd.getD 9 1) + 511) / 512)).map (d + ·)
  else (List.range n).map (d + ·)

/-- A request must wait until the operation completes (R210). -/
def mustWait (cmd : List Nat) (wr : Bool) (row : Nat) : Bool :=
  (dstRows cmd).contains row || (wr && (srcRows cmd).contains row)

/-- The request may be served now at its bank, apart from the order of common atoms: 0 now, 1 in a gap, 2 not before completion, 3 the bank is taken. -/
def State.bankVerdict (s : State) (i n : Nat) (p : Packet) : Nat :=
  let q := s.port i
  if dpaSpace p.addr = 2 then 0
  else
    let b := dpaBank p.addr
    let ahead := q.aheadOf n b
    if ahead.any (fun c => mustWait c.cmd (p.ty == 0x11) (dpaDrow p.addr)) then 2
    else if ahead.any (fun c => c.active.any (fun o => o.bank == b)) then 1
    else if q.bcasts.any (fun c => c.active.any (fun o => o.bank == b)) then 1
    else if q.refreshing.contains b || q.scrubbing.any (fun x => x.1 == b) then 3
    else 0

/-- A halyard request is judged on arrival: answered at once, or queued (R178, R181, R183, R187, R372). -/
def State.portTake (s : State) (i : Nat) (p : Packet) : State :=
  let sp := dpaSpace p.addr
  if s.hal i = halFailed then s.portAnswer i p stColFail []
  else if isHole p.addr then s.portAnswer i p stHole []
  else if (if sp = 1 then !(decide (p.ty = 0x10) && s.expandOk i p) else !plainOk p) then s.portAnswer i p stMalformed []
  else if sp ≠ 2 && s.bankRetired i (dpaBank p.addr) then s.portAnswer i p stColFail []
  else
    let q := s.port i
    let own := p.srcKind == 0 && !p.clu && p.src == siteNum i
    let l := tabPut q.reqs q.nextReq ⟨p, own, s.now, false⟩
    let s1 := s.setPort i { q with reqs := grantNext q.expand.length 1 l, nextReq := q.nextReq + 1 }
    if s1.bankVerdict i q.nextReq p = 2 then s1.countF (F.HYP_BK_HELD_COUNT i) 1 else s1

/-- Every earlier request on a common atom has been served (R180). -/
def State.firstOnAtom (s : State) (i n : Nat) (p : Packet) : Bool :=
  !((s.port i).reqs.any (fun e => decide (e.1 < n) && commonAtom (s.touches i e.2.pkt) (s.touches i p)))

/-- A bank's row is opened for a request: finding another one open is counted (R173, R193). -/
def State.openRow (s : State) (i a : Nat) : State :=
  let q := s.port i
  let b := dpaBank a
  let s1 := match tabGet q.openRows b with
    | some (r, _) => if r = dpaDrow a then s else s.countF (F.HYP_ROWMISS_COUNT i) 1
    | none => s
  let q1 := s1.port i
  s1.setPort i { q1 with openRows := tabPut q1.openRows b (dpaDrow a, s.now), idleFrom := tabPut q1.idleFrom b s.now }

/-- Atoms that have an enabled byte (R193). -/
def atomsOn (mask len : Nat) : Nat := ((List.range (len / 32)).filter (fun k => bits mask (32 * k) 32 ≠ 0)).length

/-- The offsets below n that a mask names. -/
def maskBytes (mask n : Nat) : List Nat := (List.range n).filter (bit mask)

/-- Enabled bytes of a write packet. -/
def writeMask (p : Packet) : Nat := if p.masked then p.mask else 2 ^ p.len - 1

/-- A byte of DRAM as a read that reaches the port now returns it: with the last write that waits there (R180). -/
def State.portByte (s : State) (i a : Nat) : Nat :=
  s.dramData a 1 |>.headD 0 |> fun old =>
  (s.port i).reqs.foldl (fun v e =>
    let p := e.2.pkt
    if p.ty = 0x11 ∧ dpaSpace p.addr = 0 ∧ p.addr ≤ a ∧ a < p.addr + p.len ∧ bit (writeMask p) (a - p.addr) = true
    then (p.data.getD (a - p.addr) 0).toNat else v) old

/-- Bytes written to the expansion buffer; the armed flip is applied (R186, R371). -/
def State.xbufPut (s : State) (i : Nat) (l : List (Nat × Byte)) : State :=
  let q := s.port i
  let s1 := s.setPort i { q with xbuf := l.foldl (fun m e => m.write e.1 e.2) q.xbuf }
  match s1.flipAt 3 with
  | none => s1
  | some b =>
    if s1.flipSite == some i && l.any (fun e => e.1 == b) then
      let q1 := s1.port i
      (s1.setPort i { q1 with xbuf := { q1.xbuf with flips := tabPut q1.xbuf.flips b s1.flipMask } }).flipDone
    else s1

/-- The access itself: data or status, counts, and the answer (R174, R181, R182, R186, R188). -/
def State.serve (s0 : State) (i n : Nat) (r : PortReq) : State :=
  let q := s0.port i
  let s := s0.setPort i { q with reqs := grantNext q.expand.length 32 (tabDel q.reqs n) }
  let p := r.pkt
  let a := p.addr
  let rd (s : State) (k : Nat) : State := s.countF (if r.own then F.HYP_RD_OWN_COUNT i else F.HYP_RD_REM_COUNT i) k
  if dpaSpace a = 2 then
    let o := dpaOff a
    if p.ty = 0x11 then
      (s.xbufPut i (maskedFrom o (writeMask p) p.data)).portAnswer i p stOk []
    else
      let x := (s.port i).xbuf
      let s1 := (x.errors o p.len).foldl (fun s e => s.logCode 7 i e.1 e.2) s
      if (x.errors o p.len).any (fun e => e.2.bad) then s1.portAnswer i p stUncorr []
      else s1.portAnswer i p stOk (toBytes (x.deliver o p.len))
  else if dpaSpace a = 1 then
    let n := dpaXset a
    let lat := colBase i + dpaOff a
    let len := 2 * s.xDin i n
    let s1 := ((rd (s.openRow i a) (len / 32)).countF (F.HYP_BUS_BUSY_COUNT i) (len / 32)).dramLog 1 lat len
    if s1.dramBad lat len then s1.portAnswer i p stUncorr []
    else
      let q1 := s1.port i
      s1.setPort i { q1 with expand := tabPut q1.expand q1.nextReq (r, s1.dramData lat len), nextReq := q1.nextReq + 1 }
  else if p.ty = 0x11 then
    let m := writeMask p
    let k := atomsOn m p.len
    let s1 := if k = 0 then s else
      let s1 := (((s.openRow i a).countF (F.HYP_WR_ATOMS_COUNT i) k).countF (F.HYP_BUS_BUSY_COUNT i) k).dramPut (maskedFrom a m p.data)
      if p.clu || p.srcKind == 1 then (maskBytes p.aux p.len).foldl (fun s o => s.dramPoison (a + o)) s1 else s1
    s1.portAnswer i p stOk []
  else
    let s1 := ((rd (s.openRow i a) (p.len / 32)).countF (F.HYP_BUS_BUSY_COUNT i) (p.len / 32)).dramLog 1 a p.len
    if s1.dramBad a p.len then s1.portAnswer i p stUncorr []
    else s1.portAnswer i p stOk (toBytes (s1.dramData a p.len))

/-- HALYARD_REQUEST_COMPLETE: the bank access of a request in flight completes, in the port's order (R179, R180, R189, R210). -/
def execHalyardRequestComplete (site req : Nat) (s : State) : Out :=
  match tabGet (s.port site).reqs req with
  | none => .next s
  | some r =>
    if s.hal site = halActive && r.granted && s.firstOnAtom site req r.pkt && s.bankVerdict site req r.pkt = 0 then
      .next (s.serve site req r)
    else .next s

/-- A write to DRAM that a reset completes (R352, R353), with bytes to poison (R364): at once, or in the port's queue where an earlier request on its atoms or a bank operation that names its row makes it wait (R180, R210). -/
def State.landWrite (s : State) (a : Nat) (d : List Byte) (mask bad : Nat) : State :=
  match dpaSite a with
  | none => s
  | some i =>
    let p : Packet := ⟨.hal i, mkRoute [] 1, 0, 0, false, 3, 1, true, siteNum i, 0x11, s.partNum i, false, s.nextTag, a, d.length, bad, d, mask⟩
    let n := (s.port i).nextReq
    if s.bankVerdict i n p = 2 || !s.firstOnAtom i n p then ({ s with nextTag := s.nextTag + 1 } : State).portTake i p
    else (maskBytes bad d.length).foldl (fun s o => s.dramPoison (a + o)) (s.dramPut (maskedFrom a mask d))

/-! Latent expansion (R188) -/

/-- acc + w × c with one rounding, in B16 operands and binary32. -/
def macB16 (acc w c : Nat) : Nat := (fmaCode false .rne false (w * 65536) (c * 65536) acc).1

/-- B16 value k of packed bytes. -/
def b16At (d : List Nat) (k : Nat) : Nat := d.getD (2 * k) 0 + 256 * d.getD (2 * k + 1) 0

/-- The expanded vector's bytes. -/
def expandVec (w lat : List Nat) (din dout : Nat) (out32 : Bool) : List Nat :=
  (List.range dout).flatMap (fun o =>
    let acc := (List.range din).foldl (fun a k => macB16 a (b16At w (o * din + k)) (b16At lat k)) 0
    if out32 then leBytes 4 acc
    else leBytes 2 (convertVal .b16 .rne false (readFp .binary32 false acc).1).1)

/-- EXPANSION_COMPLETE: the expansion unit finishes a vector (R188, R189); an uncorrectable byte of W is answered UNCORR (R365). -/
def execExpansionComplete (site slot : Nat) (s : State) : Out :=
  let q := s.port site
  match tabGet q.expand slot with
  | none => .next s
  | some (r, lat) =>
    let n := dpaXset r.pkt.addr
    let din := s.xDin site n
    let dout := s.xDout site n
    let base := s.xBase site n
    let left := tabDel q.expand slot
    let s1 := s.setPort site { q with expand := left, reqs := grantNext left.length 32 q.reqs }
    let s2 := (s1.countF (F.HYP_XVEC_COUNT site) 1).countF (F.HYP_XBUSY_COUNT site) ((din * dout + 1023) / 1024)
    let es := q.xbuf.errors base (2 * din * dout)
    let s3 := es.foldl (fun s e => s.logCode 7 site e.1 e.2) s2
    if es.any (fun e => e.2.bad) then .next (s3.portAnswer site r.pkt stUncorr [])
    else .next (s3.portAnswer site r.pkt stOk
      (toBytes (expandVec (q.xbuf.deliver base (2 * din * dout)) lat din dout (s.xOut32 site n))))

/-- AGED_REMOTE_GRANT: the oldest REMOTE request has waited AGE × 100 ns, since it came or since the last aged grant, and takes a free place ahead of OWN (R179, R180). -/
def execAgedRemoteGrant (site : Nat) (s0 : State) : Out :=
  match (s0.port site).reqs.find? (fun e => !e.2.own && !e.2.granted) with
  | none => .next s0
  | some e =>
    let q := s0.port site
    if decide (32 ≤ (q.reqs.filter (fun x => x.2.granted)).length) ||
        (dpaSpace e.2.pkt.addr == 1 && decide (16 ≤ q.expand.length + (q.reqs.filter (fun x => x.2.granted && dpaSpace x.2.pkt.addr == 1)).length)) then .next s0
    else
    let s := s0.advanceTo (max e.2.since (s0.port site).agedAt + 10 * s0.getF (F.HYP_ARB_AGE site))
    let s1 := s.setPort site { q with reqs := tabPut q.reqs e.1 { e.2 with granted := true }, agedAt := s.now }
    .next (if q.reqs.any (fun x => x.2.own && !x.2.granted) then s1.countF (F.HYP_ARB_AGED_COUNT site) 1 else s1)

/-- ROW_IDLE_CLOSE: a row that has been idle for 200 ns closes (R173). -/
def execRowIdleClose (site bank : Nat) (s : State) : Out :=
  match tabGet (s.port site).openRows bank with
  | none => .next s
  | some (_, t) =>
    let s1 := s.advanceTo (t + 20)
    let q := s1.port site
    .next (s1.setPort site { q with openRows := tabDel q.openRows bank })

/-! Refresh (R190, R191) -/

/-- A 12-bit two's complement temperature in eighths of a degree (R308). -/
def tempOf (v : Nat) : Int := if 2048 ≤ v then (v : Int) - 4096 else v

/-- Reading of DRAM sensor j (R309). -/
def State.dramTemp (s : State) (j : Nat) : Int :=
  tempOf (s.getF (if j % 2 = 0 then F.THM_DRAM_A (j / 2) else F.THM_DRAM_B (j / 2)))

/-- The die temperature of a half-layer die: the highest of its four sensors (R190). -/
def State.dieTemp (s : State) (h : Nat) : Int :=
  max (max (s.dramTemp (4 * h)) (s.dramTemp (4 * h + 1))) (max (s.dramTemp (4 * h + 2)) (s.dramTemp (4 * h + 3)))

/-- Debt limit of a bank (R191). -/
def State.debtLimit (s : State) (i b : Nat) : Nat :=
  let t := s.dieTemp (halfLayer i b)
  if t < 75 * 8 then 8 else if t < 85 * 8 then 4 else 1

/-- Operation interval of a bank in CLK_ORB cycles, to the nearest (R190). -/
def State.refInterval (s : State) (i b : Nat) : Nat := if s.therm.double.contains (halfLayer i b) then 521 else 1042

/-- Refresh debt of a bank. -/
def PortState.debtOf (q : PortState) (b : Nat) : Nat := (tabGet q.debt b).getD 0
def PortState.setDebt (q : PortState) (b n : Nat) : PortState :=
  { q with debt := if n = 0 then tabDel q.debt b else tabPut q.debt b n }

/-- Engine tokens in use, and all tokens in use, of a column (R206). -/
def PortState.engTokens (q : PortState) : Nat := (q.bcasts.map (fun c => c.active.length)).foldl (· + ·) 0
def PortState.tokens (q : PortState) : Nat := q.engTokens + q.refreshing.length + b2n q.scrubbing.isSome

/-- DIE_BK_PEAK follows the tokens in use in the tower (R214). -/
def State.tokenPeak (s : State) (d : Nat) : State :=
  let n := ((s.ports.filter (fun e => siteDie e.1 == d)).map (fun e => e.2.tokens)).foldl (· + ·) 0
  s.setF (F.DIE_BK_PEAK_TOK d) (max (s.getF (F.DIE_BK_PEAK_TOK d)) n)

/-- A bank is running an engine operation. -/
def PortState.inOp (q : PortState) (b : Nat) : Bool := q.bcasts.any (fun c => c.active.any (fun o => o.bank == b))

/-- The bank has a request in flight. -/
def PortState.busyBank (q : PortState) (b : Nat) : Bool :=
  q.reqs.any (fun e => e.2.granted && dpaSpace e.2.pkt.addr != 2 && dpaBank e.2.pkt.addr == b)

/-- A refresh operation of a bank outside an engine operation begins (R191, R206): its row closes, it takes a token. -/
def State.beginRefresh (s : State) (i b : Nat) (urgent : Bool) : State :=
  let q := s.port i
  let s1 := s.setPort i { q with refreshing := q.refreshing ++ [b], openRows := tabDel q.openRows b }
  let s2 := (s1.countF (F.HYP_REF_OPS_COUNT i) 1).countF (F.HYP_REF_URGENT_COUNT i) (b2n urgent)
  s2.tokenPeak (siteDie i)

/-- The bank's refresh logic runs: its DRAM domain is on. -/
def State.refreshOn (s : State) (i b : Nat) : Bool := s.power.dramOn.contains (halfLayer i b)

/-- REFRESH_DUE: a bank's operation interval elapses; the operation runs, is postponed into debt while its bank is busy, or, with the debt at its limit, runs at once (R190, R191). -/
def execRefreshDue (site bank : Nat) (s0 : State) : Out :=
  if !s0.refreshOn site bank then .next s0
  else
    let s := s0.advanceTo ((tabGet (s0.port site).refAt bank).getD 0 + s0.refInterval site bank)
    let q0 := s.port site
    let q := { q0 with refAt := tabPut q0.refAt bank s.now }
    let free := decide (q.tokens < 8)
    let d := q.debtOf bank
    let taken := q.inOp bank || q.refreshing.contains bank || q.scrubbing.any (fun x => x.1 == bank)
    if !taken && free && !q.busyBank bank then
      .next ((s.setPort site q).beginRefresh site bank (decide (s.debtLimit site bank ≤ d)))
    else if !taken && free && s.debtLimit site bank ≤ d + 1 then
      .next ((s.setPort site q).beginRefresh site bank true)
    else .next (s.setPort site (q.setDebt bank (d + 1)))

/-- REFRESH_PAYBACK: a bank idle for 200 ns, its row open or closed, or one whose debt is at its limit, pays back one postponed operation (R191). -/
def execRefreshPayback (site bank : Nat) (s0 : State) : Out :=
  let q0 := s0.port site
  if q0.debtOf bank = 0 || q0.inOp bank || q0.refreshing.contains bank || (q0.busyBank bank && decide (q0.debtOf bank < s0.debtLimit site bank)) ||
      q0.scrubbing.any (fun x => x.1 == bank) || decide (8 ≤ q0.tokens) || !s0.refreshOn site bank then .next s0
  else
    let s := if s0.debtLimit site bank ≤ q0.debtOf bank then s0
      else s0.advanceTo ((tabGet q0.idleFrom bank).getD 0 + 20)
    let q := s.port site
    let d := q.debtOf bank
    .next ((s.setPort site (q.setDebt bank (d - 1))).beginRefresh site bank (decide (s.debtLimit site bank ≤ d)))

/-- REFRESH_COMPLETE: the operation ends and its token is free; while the debt is at the limit the next urgent one follows directly (R191). -/
def execRefreshComplete (site bank : Nat) (s : State) : Out :=
  let q := s.port site
  if q.refreshing.contains bank then
    let s1 := s.setPort site { q with refreshing := q.refreshing.filter (· != bank), idleFrom := tabPut q.idleFrom bank s.now }
    let q1 := s1.port site
    let d := q1.debtOf bank
    if 0 < d && decide (s1.debtLimit site bank ≤ d) then
      .next ((s1.setPort site (q1.setDebt bank (d - 1))).beginRefresh site bank true)
    else .next s1
  else
    let drop (o : BankOp) : BankOp := if o.bank = bank then { o with refreshing := false } else o
    .next (s.setPort site { q with bcasts := q.bcasts.map (fun c => { c with active := c.active.map drop }) })

end Sys2Proof.Machine
end

