-- ==== Sys2Proof/Machine/Bank.lean ====
section
/-! DEFINITION. Bank engines: broadcasts, waves, steps and reports (R194 to R214). -/
namespace Sys2Proof.Machine

/-! Bank commands (R200, R202) -/

def cmdBop (c : List Nat) : Nat := c.getD 0 0 % 16
def cmdAcc (c : List Nat) : Bool := c.getD 1 0 % 2 == 1
def cmdChk (c : List Nat) : Bool := c.getD 1 0 / 2 % 2 == 1
def cmdSrc (c : List Nat) : Nat := leNat ((c.drop 2).take 2)
def cmdSrc2 (c : List Nat) : Nat := leNat ((c.drop 4).take 2)
def cmdDst (c : List Nat) : Nat := leNat ((c.drop 6).take 2)
def cmdRows (c : List Nat) : Nat := c.getD 8 0
def cmdVl (c : List Nat) : Nat := c.getD 9 0
def cmdAtom (c : List Nat) : Nat := c.getD 10 0
def cmdWmax (c : List Nat) : Nat := c.getD 11 0
def cmdBanks (c : List Nat) : Nat := leNat ((c.drop 12).take 4)
def cmdGrp (c : List Nat) : Nat := c.getD 16 0
def cmdTarget (c : List Nat) : Nat := leNat ((c.drop 18).take 2)

/-- Vectors of a row and destination rows of a DOT (R197). -/
def dotV (c : List Nat) : Nat := 64 / cmdVl c
def dotD (c : List Nat) : Nat := (cmdRows c * dotV c + 511) / 512

/-- The steps of an operation (R195 to R199). -/
inductive BkStep where
  | readSrc (row : Nat)
  | readDst (row : Nat)
  | write (k : Nat)
  | kload
  | scrub (row : Nat)
  | logic (i : Nat)
  deriving DecidableEq, Repr

/-- The steps of a command in one bank, in order (R196, R197, R199). -/
def bkSteps (c : List Nat) : List BkStep :=
  match cmdBop c with
  | 1 =>
    let per := 512 / dotV c
    (List.range (dotD c)).flatMap (fun k =>
      (if cmdAcc c then [.readDst (cmdDst c + k)] else []) ++
      ((List.range (cmdRows c)).filter (fun i => i / per == k)).map (fun i => .readSrc (cmdSrc c + i)) ++ [.write k])
  | 2 => [.kload]
  | b =>
    (List.range (cmdRows c)).flatMap (fun i =>
      (if cmdChk c then [.scrub (cmdSrc c + i)] ++ (if b = 6 then [] else [.scrub (cmdSrc2 c + i)]) else []) ++ [.logic i])

/-- Reserved fields of the instruction's descriptor that BKSETK checks too: bytes 0x11 and 0x14 to 0x3F. -/
def cmdTailZero (c : List Nat) : Bool := c.getD 0x11 0 == 0 && (c.drop 0x14).all (· == 0)

/-- Other reserved bits of a bank command. -/
def cmdHeadOk (c : List Nat) : Bool :=
  decide (c.getD 0 0 < 16) && decide (c.getD 1 0 < 4) && decide (cmdSrc c < 2 ^ 14) && decide (cmdSrc2 c < 2 ^ 14) && decide (cmdDst c < 2 ^ 14)

/-- TARGET's reserved bits by GRP (R200). -/
def cmdTargetOk (c : List Nat) : Bool :=
  if cmdGrp c = 1 then decide (cmdTarget c < 64) else if cmdGrp c = 2 then decide (cmdTarget c = 0) else true

/-- The highest rows that the operation names, after SO; a DOT names DDROW whatever its VL. -/
def cmdRowsUsed (c : List Nat) (so : Nat) : List Nat :=
  let n := cmdRows c
  match cmdBop c with
  | 1 => [cmdSrc c + so + n - 1, cmdDst c + so + (dotD c - 1)]
  | 2 => [cmdSrc c + so]
  | 6 => [cmdSrc c + so + n - 1, cmdDst c + so + n - 1]
  | _ => [cmdSrc c + so + n - 1, cmdSrc2 c + so + n - 1, cmdDst c + so + n - 1]

/-- The first and last row of a run lie in one segment pairwise, and a destination is no source of another i (R199). -/
def logicOk (c : List Nat) (so : Nat) : Bool :=
  let two := cmdBop c != 6
  let n := cmdRows c
  (List.range n).all (fun i =>
    let a := cmdSrc c + so + i
    let b := cmdSrc2 c + so + i
    let d := cmdDst c + so + i
    a / 512 == d / 512 && (!two || b / 512 == d / 512) &&
    (List.range n).all (fun j => j == i || (cmdSrc c + so + j != d && (!two || cmdSrc2 c + so + j != d))))

/-- DOT: a permitted VL, and no destination row a source row (R202). -/
def dotOk (c : List Nat) (so : Nat) : Bool :=
  [1, 2, 4, 8, 16].contains (cmdVl c) &&
  (List.range (dotD c)).all (fun k => (List.range (cmdRows c)).all (fun i => cmdDst c + so + k != cmdSrc c + so + i))

/-- TARGET lies within the core's partition (R202, case 3). -/
def State.targetIn (s : State) (i : Nat) (c : List Nat) : Bool :=
  match cmdGrp c with
  | 0 => match siteOfNum (cmdTarget c) with
         | some j => s.partOfSite j == s.partOfSite i
         | none => false
  | 1 => s.partOfRow (cmdTarget c % 64) == s.partOfSite i
  | _ => true

/-- The case of R202 that a BKCAST meets, after case 8; none where it may be sent. -/
def State.bkCase (s : State) (i : Nat) (c : List Nat) (so : Nat) (wordOk : Bool) : Option Nat :=
  let b := cmdBop c
  let n := cmdRows c
  if !(wordOk && cmdTailZero c && cmdHeadOk c && cmdTargetOk c) then some 1
  else if b = 0 ∨ 7 ≤ b ∨ 3 ≤ cmdGrp c then some 2
  else if !s.targetIn i c then some 3
  else if cmdBanks c = 0 then some 4
  else if b ≠ 2 && (n == 0 || decide (24 < n) || (decide (b = 1) && [1, 2, 4, 8, 16].contains (cmdVl c) && decide (24 < n + dotD c * (1 + b2n (cmdAcc c)))) ||
      (decide (3 ≤ b) && decide (24 < n * (1 + (if b = 6 then 1 else 2) * b2n (cmdChk c))))) then some 5
  else if (cmdRowsUsed c so).any (fun r => decide (12287 < r)) then some 6
  else if (if b = 1 then !dotOk c so else if b = 2 then decide (48 < cmdAtom c) else !logicOk c so) then some 7
  else none

/-- The case a BKSETK meets (R202). -/
def State.bkSetCase (s : State) (i : Nat) (c : List Nat) (wordOk : Bool) : Option Nat :=
  if !(wordOk && cmdTailZero c && cmdTargetOk c) then some 1
  else if 3 ≤ cmdGrp c then some 2
  else if !s.targetIn i c then some 3
  else if cmdBanks c = 0 then some 4
  else none

/-- The command with SO added to its rows (R201). -/
def cmdPlus (c : List Nat) (so : Nat) : List Nat :=
  c.take 2 ++ leBytes 2 (cmdSrc c + so) ++ leBytes 2 (cmdSrc2 c + so) ++ leBytes 2 (cmdDst c + so) ++ c.drop 8

/-! Reports (R205) -/

/-- AUX of a BKDONE, as HYP_BK_LASTDONE [26:0]: waves (at most 63), status bits 6 to 8, columns. -/
def doneAux (waves status columns : Nat) : Nat := min waves 63 + 64 * status + 2 ^ 16 * columns

/-- A broadcast completes at its issuing port (R205, R208). -/
def State.bkFinish (s : State) (i : Nat) (k : Collect) : State :=
  let c := s.core i
  let here := c.bk.any (fun o => o.tag == k.tag && o.op != 3)
  let s1 := if here then s.setCore i { c with bk := c.bk.filter (fun o => o.op == 3 || o.tag != k.tag) } else s
  let s2 := if k.setk then s1 else
    let ovr := bit k.status 0
    let unc := bit k.status 1
    let cf := bit k.status 2
    let s2 := ((((s1.setF (F.HYP_BK_LASTDONE_WAVES i) (min k.waves 63)).setF (F.HYP_BK_LASTDONE_WAVE_OVER i) (b2n ovr)).setF
      (F.HYP_BK_LASTDONE_UNCORR i) (b2n unc)).setF (F.HYP_BK_LASTDONE_COL_FAIL i) (b2n cf)).setF (F.HYP_BK_LASTDONE_COLUMNS i) k.columns
    let s3 := if ovr then
        let d := siteDie i
        let p := s2.partNum i
        let old := s2.getF (F.DIE_BK_WOVER_PART d)
        let s3 := (s2.countF (F.HYP_BK_WOVER_COUNT i) 1).setF (F.DIE_BK_WOVER_PART d) (Nat.lor old (2 ^ p))
        if bit old p then s3 else s3.setF (F.DIE_BK_WOVER_ORBIT_ORBIT d) (s3.orbit % 2 ^ 32)
      else s2
    let m := 2 ^ 8 * b2n unc + 2 ^ 9 * b2n cf + 2 ^ 10 * b2n ovr
    if m = 0 then s3 else s3.raise (pgHyp i) m
  if here && k.ten then s2.tallyAdd i k.tally 1 else s2

/-- A report joins a collection; when the last is in, a row head reports on and an issuer completes (R205). -/
def State.bkReport (s : State) (i : Nat) (tag src waves status columns : Nat) : State :=
  let q := s.port i
  match q.collects.find? (fun k => k.tag == tag && k.waits.contains src) with
  | none => s
  | some k =>
    let k1 := { k with waits := k.waits.filter (· != src), waves := max k.waves waves, status := Nat.lor k.status status, columns := k.columns + columns }
    let others := q.collects.filter (fun x => x.tag != tag)
    if !k1.waits.isEmpty then s.setPort i { q with collects := others ++ [k1] }
    else
      let s1 := s.setPort i { q with collects := others }
      match k1.head with
      | some p => s1.respond p i 0x22 (doneAux k1.waves k1.status k1.columns) []
      | none => s1.bkFinish i k1

/-- A column reports a broadcast: to its issuer or row head by BKDONE, or within its own port where it is the row head's own column. -/
def State.columnReport (s : State) (i : Nat) (p : Packet) (waves status : Nat) : State :=
  if p.src = siteNum i && p.aux == 2 then s.bkReport i p.tag i waves status 1
  else s.respond p i 0x22 (doneAux waves status 1) []

/-- A packet from a halyard port to another column's port (R203). -/
def State.portSend (s : State) (i j ty tag addr aux : Nat) (d : List Byte) : State :=
  s.inject ⟨.router i, synthRoute (s.linkSel i) i j 1, 0, 0, false, 0, 1, false, siteNum i, ty, s.partNum i, false, tag, addr, d.length, aux, d, 0⟩

/-- A tower is lost or off: its route units answer nothing (R205, R387). -/
def State.towerOff (s : State) (i : Nat) : Bool := !s.power.fabOn.contains (siteDie i)

/-! Issue (R201 to R203) -/

/-- Columns or row heads that a group sends to. -/
def State.bkTargets (s : State) (i : Nat) (c : List Nat) : List Nat :=
  match cmdGrp c with
  | 0 => (siteOfNum (cmdTarget c)).toList
  | 1 => [17 * (cmdTarget c % 64)]
  | _ => match s.partOfSite i with
         | some p => (s.rowsOf p).map (17 * ·)
         | none => []

/-- A broadcast leaves its issuing port: one packet to each target, and the reports of lost towers complete at once (R203, R205). -/
def State.bkSend (s : State) (i : Nat) (op : BkOp) (ty addr : Nat) (d : List Byte) : State :=
  let ts := s.bkTargets i op.cmd
  let fwd := b2n (cmdGrp op.cmd != 0)
  let k : Collect := ⟨none, op.tag, ts, if fwd = 1 then 17 else 1, 0, 0, 0, op.op == 2, op.ten, op.tally, cmdWmax op.cmd⟩
  let q := s.port i
  let s1 := s.setPort i { q with collects := q.collects ++ [k] }
  ts.foldl (fun s t =>
    if s.towerOff t then s.bkReport i op.tag t 0 4 k.each
    else s.portSend i t ty op.tag addr fwd d) s1

/-- A BK instruction's descriptor bytes, SO and place are within the scratchpad. -/
def State.inScratch (s : State) (i a n : Nat) : Bool := decide (a + n ≤ s.scratchBytes i)

/-- BKCAST (R201, R202). -/
def execBkcast (i : Nat) (w : Word64) (s : State) : Out :=
  if !(s.issueOk i w && wClass w == 5 && wOp w == 1) then .next s
  else
    let a := 64 * bits w.toNat 41 15
    let so := (s.scalar i (bits w.toNat 37 4)).toNat
    if !s.inScratch i a 64 then .next (s.progFault i causeBk 8)
    else
      let c := s.lsData i a 64
      let s0 := s.lsNote i a 64
      if (s0.core i).fault.isSome then .next s0 else
      match s0.bkCase i c so (onlyBits w 56 [(41, 15), (37, 4), (6, 1), (0, 6)]) with
      | some k => .next (s0.progFault i causeBk k)
      | none =>
        let cmd := cmdPlus c so
        let op : BkOp := ⟨1, cmd, [], false, bit w.toNat 6, bits w.toNat 0 6, s0.nextTag⟩
        let cs := s0.core i
        let s1 := ({ s0 with nextTag := s0.nextTag + 1 } : State).setCore i { cs with bk := cs.bk ++ [op] }
        .next (((s1.countF (F.HYP_BK_ISSUED_COUNT i) 1).bkSend i op 0x20 0 (toBytes cmd)).nextPc i)

/-- BKSETK (R201, R202). -/
def execBksetk (i : Nat) (w : Word64) (s : State) : Out :=
  if !(s.issueOk i w && wClass w == 5 && wOp w == 2) then .next s
  else
    let a := 64 * bits w.toNat 41 15
    let l := 64 * bits w.toNat 26 15
    if !(s.inScratch i a 64 && s.inScratch i l 256) then .next (s.progFault i causeBk 8)
    else
      let c := s.lsData i a 64
      let d := toBytes (s.lsData i l 256)
      let s0 := (s.lsNote i a 64).lsNote i l 256
      if (s0.core i).fault.isSome then .next s0 else
      match s0.bkSetCase i c (onlyBits w 56 [(41, 15), (26, 15), (25, 1), (6, 1), (0, 6)]) with
      | some k => .next (s0.progFault i causeBk k)
      | none =>
        let half := bit w.toNat 25
        let op : BkOp := ⟨2, c, d, half, bit w.toNat 6, bits w.toNat 0 6, s0.nextTag⟩
        let cs := s0.core i
        let s1 := ({ s0 with nextTag := s0.nextTag + 1 } : State).setCore i { cs with bk := cs.bk ++ [op] }
        .next ((s1.bkSend i op 0x21 (cmdBanks c + 2 ^ 32 * b2n half) d).nextPc i)

/-- BKMARK (R201). -/
def execBkmark (i : Nat) (w : Word64) (s : State) : Out :=
  if s.issueOk i w && wClass w == 5 && wOp w == 3 && !onlyBits w 56 [(0, 6)] then .next (s.progFault i causeBk 1)
  else issue s i w 5 (wOp w == 3) true causeBk (fun s =>
    let c := s.core i
    (s.setCore i { c with bk := c.bk ++ [⟨3, [], [], false, true, bits w.toNat 0 6, 0⟩] }).nextPc i)

/-- BKMARK_DONE: every earlier BK instruction has completed (R201, R117). -/
def execBkmarkDone (i : Nat) (s : State) : Out :=
  match (s.core i).bk with
  | o :: t => if o.op = 3 then .next ((s.setCore i { s.core i with bk := t }).tallyAdd i o.tally 1) else .next s
  | [] => .next s

/-! Waves (R206 to R209) -/

/-- A row's first DPA in a bank of a column (R177). -/
def rowAddr (i b r : Nat) : Nat := colBase i + r * 65536 + Nat.xor b (r % 32) * 2048

/-- The thermal cap is in force: a half-layer die on the column's side is at or above 95 °C (R209). -/
def State.thermCapped (s : State) (i : Nat) : Bool :=
  (List.range 8).any (fun l => decide (95 * 8 ≤ s.dieTemp (halfLayer i l)))

/-- A column's engine has held a token for `n` ns: its counter, and the package's (R213, R287). -/
def State.tokensSpent (s : State) (i n : Nat) : State :=
  let s1 := s.countF (F.HYP_BK_TOKNS_COUNT i) n
  { s1 with gov := { s1.gov with tokNs := s1.gov.tokNs + n } }

/-- A cap of 0 is overridden: the partition that owns the column's row is in reset, or an orderly shutdown runs (R209). -/
def State.capLifted (s : State) (i : Nat) : Bool :=
  s.getF F.G_BOOT_STATE_STATE == 8 || (match s.partOfSite i with | some p => s.pgState (pgPrt p) == prtReset | none => false)

/-- The effective cap of a column (R209). -/
def State.effCap (s : State) (i : Nat) : Nat :=
  let c := min (s.getF (F.DIE_BK_TOKCAP_CAP (siteDie i))) (if s.thermCapped i then 4 else 8)
  let c := if s.on F.ORB_EN_STATUS_PCAP then min c (s.getF F.ORB_PCAP_CFG_BKCAP) else c
  let c := if s.on F.ORB_EN_CTRL_EN then c else min c (8 - s.getF F.ORB_EN_STATUS_MEM)
  if s.capLifted i then max 1 c else c

/-- Banks in a mask, in the order of the round robin after `ptr`. -/
def robin (ptr : Nat) (l : List Nat) : List Nat :=
  l.filter (fun b => decide (ptr < b)) ++ l.filter (fun b => decide (b ≤ ptr))

/-- Reports of the front broadcasts that are complete, and K-slot data applied in its place (R201, R204, R205). A port that has failed reports COL_FAIL and a wave count of 0. -/
def State.bkSettle (s : State) (i : Nat) : Nat → State
  | 0 => s
  | n + 1 =>
    let q := s.port i
    match q.bcasts with
    | [] => s
    | c :: t =>
      match c.setk with
      | some (half, d) =>
        let put (m : Tab (List Nat)) (b : Nat) : Tab (List Nat) :=
          (List.range 8).foldl (fun m j => tabPut m (16 * b + (if half then 8 else 0) + j) (((d.drop (32 * j)).take 32).map BitVec.toNat)) m
        let bs := (List.range 32).filter (fun b => bit c.banks b && !s.bankRetired i b)
        ((s.setPort i { q with bcasts := t, kslots := bs.foldl put q.kslots }).columnReport i c.pkt 0 0).bkSettle i n
      | none =>
        if c.todo.isEmpty && c.active.isEmpty && s.hal i == halFailed then
          ((s.setPort i { q with bcasts := t }).columnReport i c.pkt 0 4).bkSettle i n
        else if c.todo.isEmpty && c.active.isEmpty then
          let wm := cmdWmax c.cmd
          let ovr := decide (0 < wm) && decide (wm < c.waves)
          ((s.setPort i { q with bcasts := t }).columnReport i c.pkt c.waves (b2n ovr + 2 * b2n c.uncorr)).bkSettle i n
        else s

/-- The next wave of the front broadcast starts, on as many banks as free tokens and a cap allow (R207). -/
def State.startWave (s : State) (i cap : Nat) : State :=
  let q := s.port i
  match q.bcasts with
  | [] => s
  | c :: t =>
    let f := 8 - q.tokens
    let h := b2n (!q.debt.isEmpty && decide (1 ≤ f))
    let n := min (f - h) cap
    let waits := q.reqs.any (fun e => c.before.contains e.1 && dpaSpace e.2.pkt.addr != 2 && bit c.banks (dpaBank e.2.pkt.addr))
    if c.setk.isSome || !c.active.isEmpty || c.todo.isEmpty || n == 0 || waits then s
    else
      let take := (robin q.ptr c.todo).take n
      let c1 := { c with
        todo := c.todo.filter (fun b => !take.contains b)
        active := take.map (fun b => ⟨b, 0, 0, false, false⟩)
        waves := c.waves + 1, started := true }
      let rows := q.openRows.filter (fun e => !take.contains e.1)
      let s1 := s.setPort i { q with bcasts := c1 :: t, ptr := take.getLastD q.ptr, openRows := rows }
      ((s1.countF (F.HYP_BK_WAVES_COUNT i) 1).setF (F.HYP_BK_STATUS_HOLDBACK i) h).tokenPeak (siteDie i)

/-- WAVE_START (R207). -/
def execWaveStart (site : Nat) (s : State) : Out :=
  if s.hal site = halActive then .next (s.startWave site (s.effCap site)) else .next s

/-! Steps (R197 to R199) -/

/-- A K slot's 32 bytes; undefined until written (R194). -/
def PortState.kslot (q : PortState) (b j : Nat) : List Nat :=
  match tabGet q.kslots (16 * b + j) with
  | some d => d
  | none => if q.kzero then List.replicate 32 0 else (List.range 32).map (fun k => (Config.undefByte q.kgen (32 * (16 * b + j) + k)).toNat)

/-- The check unit meets a run of atoms: corrected and uncorrectable atoms are counted, bytes logged (R194, R197, R213). -/
def State.checkUnit (s : State) (i b row a n kind logKind : Nat) : State × Bool :=
  let es := s.dram.errors a n
  let atoms (l : List (Nat × CodeOut)) : List Nat := (l.map (fun e => e.1 / 32)).eraseDups
  let bad := atoms (es.filter (fun e => e.2.bad))
  let ok := (atoms es).filter (fun x => !bad.contains x)
  let s1 := s.dramLog logKind a n
  let s2 := (s1.countF (F.HYP_BK_CORR_COUNT i) ok.length).countF (F.HYP_BK_UNCORR_COUNT i) bad.length
  if bad.isEmpty then (s2, false)
  else (((s2.setF (F.HYP_BK_LASTERR_DROW i) row).setF (F.HYP_BK_LASTERR_BANK i) b).setF (F.HYP_BK_LASTERR_KIND i) kind, true)

/-- The dot product of one vector against the K slots (R197). -/
def dotVec (ks : List (List Nat)) (atoms : List (List Nat)) : Nat :=
  let lanes := (List.range 16).map (fun l => (atoms.zip ks).foldl (fun a x => macB16 a (b16At x.2 l) (b16At x.1 l)) 0)
  let add (a b : Nat) : Nat := (addCode false .rne a b).1
  let rec level : List Nat → List Nat
    | a :: b :: t => add a b :: level t
    | l => l
  (level (level (level (level lanes)))).headD 0

/-- Output n of a DOT in bank b (R197). -/
def State.dotOut (s : State) (i b : Nat) (c : List Nat) (ks : List (List Nat)) (n : Nat) : Nat :=
  let row := rowAddr i b (cmdSrc c + n / dotV c)
  let a := row + 32 * cmdVl c * (n % dotV c)
  let old := rowAddr i b (cmdDst c + n / 512) + 4 * (n % 512)
  if s.dramBad a (32 * cmdVl c) || (cmdAcc c && s.dramBad (old / 32 * 32) 32) then 0x7FC00000
  else
    let atoms := (List.range (cmdVl c)).map (fun j => s.dramData (a + 32 * j) 32)
    let v := dotVec ks atoms
    if cmdAcc c then (addCode false .rne (leNat (s.dramData old 4)) v).1 else v

/-- The effect of one step of an operation in bank b; true where an uncorrectable atom was met. -/
def State.bkStep (s : State) (i b : Nat) (c : List Nat) : BkStep → State × Bool
  | .readSrc r => s.checkUnit i b r (rowAddr i b r) 2048 1 2
  | .readDst r => s.checkUnit i b r (rowAddr i b r) 2048 4 2
  | .write k =>
    let n := min 512 (cmdRows c * dotV c - 512 * k)
    let ks := (List.range (cmdVl c)).map (fun j => (s.port i).kslot b j)
    let outs := (List.range n).flatMap (fun x => leBytes 4 (s.dotOut i b c ks (512 * k + x)))
    let pad := List.replicate ((32 - outs.length % 32) % 32) 0
    (s.dramPut (addrsFrom (rowAddr i b (cmdDst c + k)) (toBytes (outs ++ pad))), false)
  | .kload =>
    let a := rowAddr i b (cmdSrc c) + 32 * cmdAtom c
    let r := s.checkUnit i b (cmdSrc c) a 512 2 2
    let q := r.1.port i
    let slot (j : Nat) : List Nat :=
      if s.dramBad (a + 32 * j) 32 then (List.replicate 16 [0xC0, 0x7F]).flatten else s.dramData (a + 32 * j) 32
    (r.1.setPort i { q with kslots := (List.range 16).foldl (fun m j => tabPut m (16 * b + j) (slot j)) q.kslots }, r.2)
  | .scrub r =>
    let a := rowAddr i b r
    let x := s.checkUnit i b r a 2048 3 3
    let fix := (s.dram.errors a 2048).filter (fun e => !e.2.bad)
    (x.1.dramPut (fix.map (fun e => (e.1, BitVec.ofNat 8 ((s.dramData e.1 1).headD 0)))), x.2)
  | .logic k =>
    let raw (r : Nat) : List Nat :=
      (List.range 2048).map (fun o =>
        let a := rowAddr i b r + o
        Nat.xor (s.dram.read a).toNat ((tabGet s.dram.flips a).getD 0 % 256))
    let x := raw (cmdSrc c + k)
    let res := match cmdBop c with
      | 3 => (x.zip (raw (cmdSrc2 c + k))).map (fun p => Nat.land p.1 p.2)
      | 4 => (x.zip (raw (cmdSrc2 c + k))).map (fun p => Nat.lor p.1 p.2)
      | 5 => (x.zip (raw (cmdSrc2 c + k))).map (fun p => Nat.xor p.1 p.2)
      | _ => x.map (fun v => 255 - v)
    (s.dramPut (addrsFrom (rowAddr i b (cmdDst c + k)) (toBytes res)), false)

/-- In a gap the bank serves its oldest request that may go (R210). -/
def State.serveGap (s : State) (i b : Nat) : State :=
  match (s.port i).reqs.find? (fun e => dpaSpace e.2.pkt.addr != 2 && dpaBank e.2.pkt.addr == b &&
      s.bankVerdict i e.1 e.2.pkt == 1 && s.firstOnAtom i e.1 e.2.pkt) with
  | some e => (s.serve i e.1 e.2).countF (F.HYP_BK_INSERTS_COUNT i) 1
  | none => s

/-- A bank's operation is complete: its token is free, the bank is idle from now, and urgent refreshes follow (R191, R210, R211). -/
def State.bankDone (s : State) (i b : Nat) : State :=
  let q0 := s.port i
  let q := { q0 with idleFrom := tabPut q0.idleFrom b s.now }
  let d := q.debtOf b
  if 0 < d && decide (s.debtLimit i b ≤ d) then (s.setPort i (q.setDebt b (d - 1))).beginRefresh i b true else s.setPort i q

/-- The engine claims its bank again after a gap: a row that a request opened there closes (R173). -/
def State.closeRow (s : State) (i b : Nat) : State :=
  let q := s.port i
  s.setPort i { q with openRows := tabDel q.openRows b }

/-- The front broadcast with bank b's operation changed; none drops it. -/
def State.setOp (s : State) (i b : Nat) (unc : Bool) (f : BankOp → Option BankOp) : State :=
  let q := s.port i
  match q.bcasts with
  | [] => s
  | c :: t => s.setPort i { q with bcasts := { c with
      active := c.active.filterMap (fun o => if o.bank = b then f o else some o), uncorr := c.uncorr || unc } :: t }

/-- The patrol scrub step of bank b ends after `cycles` CLK_HAL cycles: its row is scrubbed, the step and its token are counted, and the token is free (R195, R213, R367). -/
def State.endScrub (s : State) (i b cycles : Nat) : State :=
  match (s.port i).scrubbing with
  | none => s
  | some x =>
    let s1 := ((s.bkStep i b [] (.scrub x.2)).1.countF (F.HYP_BK_STEPS_COUNT i) 1).tokensSpent i cycles
    let q := s1.port i
    ((s1.setPort i { q with scrubbing := none }).bankDone i b).bkSettle i 64

/-- One step of bank b's operation ends, after `cycles` CLK_HAL cycles with its token (R195, R210, R211, R213). -/
def State.endStep (s : State) (i b cycles : Nat) : State :=
  if (s.port i).scrubbing.any (fun x => x.1 == b) then s.endScrub i b cycles
  else match (s.port i).bcasts with
  | [] => s
  | c :: _ =>
    match c.active.find? (fun o => o.bank == b) with
    | none => s
    | some o =>
      if o.refreshing || (s.port i).refreshing.contains b then s
      else
        let st := bkSteps c.cmd
        match st[o.step]? with
        | none => s
        | some x =>
          let r := s.bkStep i b c.cmd x
          let s1 := (r.1.countF (F.HYP_BK_STEPS_COUNT i) 1).tokensSpent i cycles
          if o.step + 1 = st.length then
            let s2 := (s1.setOp i b r.2 (fun _ => none)).countF (F.HYP_BK_OPS_COUNT i) 1
            (s2.bankDone i b).bkSettle i 64
          else
            let q := s1.port i
            let d := q.debtOf b
            let urgent := decide (0 < d) && decide (s1.debtLimit i b ≤ d) && decide (o.inserted < 2)
            let s2 := if urgent then
                ((s1.setPort i (q.setDebt b (d - 1))).countF (F.HYP_REF_OPS_COUNT i) 1).countF (F.HYP_REF_URGENT_COUNT i) 1 else s1
            ((s2.serveGap i b).closeRow i b).setOp i b r.2 (fun o => some { o with
              step := o.step + 1, refreshing := urgent, inserted := o.inserted + b2n urgent })

/-- ENGINE_STEP_COMPLETE (R195, R210, R211). -/
def execEngineStepComplete (site bank cycles : Nat) (s : State) : Out := .next (s.endStep site bank cycles)

/-! Packets (R203 to R205) -/

/-- A row head's forwarding of a packet to the columns of its row, its own first (R203). -/
def State.bkForward (s : State) (i : Nat) (p : Packet) (take : State → Packet → State) : State :=
  let tag := s.nextTag
  let cols := (List.range 17).map (17 * (i / 17) + ·)
  let k : Collect := ⟨some p, tag, cols, 1, 0, 0, 0, false, false, 0, 0⟩
  let q := s.port i
  let s1 := ({ s with nextTag := tag + 1 } : State).setPort i { q with collects := q.collects ++ [k] }
  let s2 := take s1 { p with src := siteNum i, tag := tag, aux := 2 }
  (cols.drop 1).foldl (fun s j => s.portSend i j p.ty tag p.addr 0 p.data) s2

/-- A column takes a broadcast: a FAILED one reports at once (R204, R205). -/
def State.bkTake (s : State) (i : Nat) (p : Packet) : State :=
  if s.hal i = halFailed then s.columnReport i p 0 4
  else
    let q := s.port i
    let cmd := p.data.map BitVec.toNat
    let banks := if p.ty = 0x21 then p.addr % 2 ^ 32 else cmdBanks cmd
    let sel := (List.range 32).filter (fun b => bit banks b && !s.bankRetired i b)
    let c : Bcast := ⟨if p.ty = 0x21 then some (bit p.addr 32, p.data) else none, cmd, banks, p,
      q.reqs.map (fun e => e.1), if p.ty = 0x21 then [] else sel, [], 0, false, false⟩
    (s.setPort i { q with bcasts := q.bcasts ++ [c] }).bkSettle i 64

/-- A bank packet reaches a port: taken by the column, or forwarded by a row head (R203). -/
def State.bkArrive (s : State) (id ty : Nat) : State :=
  match s.atPort id [ty] with
  | none => s
  | some (i, p) =>
    let s1 := s.dropPkt id
    if p.aux % 2 = 1 then s1.bkForward i p (fun s p => s.bkTake i p) else s1.bkTake i p

/-- BKCMD (R203, R204). -/
def execBkcmd (id : Nat) (s : State) : Out := .next (s.bkArrive id 0x20)

/-- BKSETK_PACKET (R201, R203, R204). -/
def execBksetkPacket (id : Nat) (s : State) : Out := .next (s.bkArrive id 0x21)

end Sys2Proof.Machine
end

