-- ==== Sys2Proof/Machine/Flash.lean ====
section
/-! DEFINITION. Quick-start records in the flash: layout, check, choice, target slot (R161, R345 to R349). -/
namespace Sys2Proof.Machine

/-! Layout (R346) -/

def qsMagic : Nat := 0x53515154
def qsLen : Nat := 0x11E04

/-- Byte k of a little-endian number. -/
def byteOf (v k : Nat) : Nat := v / 2 ^ (8 * k) % 256

/-- The byte of a record at an offset below 0x11E00, with CONSUMED taken as 0xFF (R346). Reserved bytes are 0 (DESIGN CHOICE, log entry 162). -/
def QsRecord.byteAt (r : QsRecord) (o : Nat) : Nat :=
  if o < 0x4 then byteOf r.magic o
  else if o < 0x6 then byteOf r.version (o - 4)
  else if o = 0x6 then 0xFF
  else if o < 0x8 then 0
  else if o < 0xC then byteOf r.seq (o - 0x8)
  else if o < 0x10 then byteOf r.len (o - 0xC)
  else if o < 0x20 then r.partSerial.getD (o - 0x10) 0
  else if o < 0x50 then r.dieSerial.getD (o - 0x20) 0
  else if o = 0x50 then r.slices % 256
  else if o = 0x51 then r.fails % 256
  else if o < 0x54 then byteOf r.ms (o - 0x52)
  else if o < 0x60 then 0
  else if o < 0x64 then byteOf r.linkPass (o - 0x60)
  else if o < 0x70 then 0
  else if o < 0xF8 then byteOf r.portPass (o - 0x70)
  else if o < 0x100 then 0
  else (Config.undefByte r.results o).toNat

/-- Regions of results: 128 bytes per link, 64 per halyard port, and those of the pin slices (R346). -/
def qsLinkRes (n : Nat) : Nat := 0x100 + 128 * n
def qsPortRes (i : Nat) : Nat := 0xD00 + 64 * i
def qsPinRes : Nat := 0x11D00

/-- CRC-32 of R161, a byte at a time from its most significant bit (DEDUCED, log entry 162). -/
def crcByte (c b : Nat) : Nat :=
  (List.range 8).foldl (fun c k =>
    let top := bit c 31 != bit b (7 - k)
    let c1 := c * 2 % 2 ^ 32
    if top then Nat.xor c1 0x04C11DB7 else c1) c

def crc32 (l : List Nat) : Nat := l.foldl crcByte 0xFFFFFFFF

/-- The CRC that a record should carry. -/
def QsRecord.crcDue (r : QsRecord) : Nat := crc32 ((List.range 0x11E00).map r.byteAt)

/-! Records (R347 to R349) -/

/-- Magic, length and CRC are correct, and with the version the record is intact, consumed or not. -/
def QsRecord.sound (r : QsRecord) : Bool := r.magic == qsMagic && r.len == qsLen && r.crc == r.crcDue
def QsRecord.intact (r : QsRecord) : Bool := r.sound && r.version == 1

/-- Record a is newer than b: its SEQ exceeds b's by less than 2^31, modulo 2^32. -/
def QsRecord.newer (a b : QsRecord) : Bool :=
  let d := (a.seq + 2 ^ 32 - b.seq % 2 ^ 32) % 2 ^ 32
  decide (0 < d) && decide (d < 2 ^ 31)

/-- Of two slots' records, where `ok` holds of them, the one used: the newer, or the only one; slot B is true. -/
def qsPick (ok : QsRecord → Bool) (a b : Option QsRecord) : Option (Bool × QsRecord) :=
  match a.filter ok, b.filter ok with
  | some x, some y => if y.newer x then some (true, y) else some (false, x)
  | some x, none => some (false, x)
  | none, some y => some (true, y)
  | none, none => none

/-- The part's serial number and those of its dies, as fuses hold them. -/
def State.partSerial (s : State) : List Nat := (List.range 16).map (fun k => byteOf (s.getF (F.G_SERIAL (k / 4))) (k % 4))
def State.dieSerial (s : State) : List Nat := (List.range 48).map (fun k => byteOf (s.getF (F.G_DIESER (k / 4))) (k % 4))

/-- PART_SERIAL and the serials of I0 and I1 are the part's. -/
def State.serialsMatch (s : State) (r : QsRecord) : Bool :=
  r.partSerial == s.partSerial && r.dieSerial.drop 32 == s.dieSerial.drop 32

/-- A record is valid (R347). -/
def State.qsValid (s : State) (r : QsRecord) : Bool := r.intact && r.consumed == 0xFF && s.serialsMatch r

/-- The valid record that bring-up uses. -/
def State.qsFound (s : State) : Option QsRecord := (qsPick s.qsValid s.flash.slotA s.flash.slotB).map (·.2)

/-- Why a record is not valid, by the codes of G_QS_STATUS.REASON (R360). -/
def State.qsReason (s : State) (r : QsRecord) : Nat :=
  if !r.sound then 2 else if r.version ≠ 1 then 3 else if r.consumed ≠ 0xFF then 5 else if !s.serialsMatch r then 4 else 0

/-- REASON where no record is valid: that of the newer intact record, else of slot A's, else of slot B's (DESIGN CHOICE, log entry 162). -/
def State.qsMissing (s : State) : Nat :=
  match qsPick QsRecord.intact s.flash.slotA s.flash.slotB with
  | some r => s.qsReason r.2
  | none => match s.flash.slotA, s.flash.slotB with
    | some r, _ => s.qsReason r
    | none, some r => s.qsReason r
    | none, none => 1

/-- CONSUMED is written to 0x00 in every valid record (R348). -/
def State.qsConsume (s : State) : State :=
  let used (o : Option QsRecord) : Option QsRecord := o.map (fun r => if s.qsValid r then { r with consumed := 0 } else r)
  { s with flash := { s.flash with slotA := used s.flash.slotA, slotB := used s.flash.slotB } }

/-- The slot that an orderly shutdown writes, B as true: the one that does not hold the newer intact record, or A (R349). -/
def State.qsTarget (s : State) : Bool :=
  match qsPick QsRecord.intact s.flash.slotA s.flash.slotB with
  | some r => !r.1
  | none => false

/-- The SEQ of the next record (R349). -/
def State.qsNextSeq (s : State) : Nat :=
  match qsPick QsRecord.intact s.flash.slotA s.flash.slotB with
  | some r => if r.2.seq + 1 < 2 ^ 32 then r.2.seq + 1 else 1
  | none => 1

/-- A slot's content is replaced. -/
def State.qsPut (s : State) (b : Bool) (o : Option QsRecord) : State :=
  { s with flash := if b then { s.flash with slotB := o } else { s.flash with slotA := o } }

end Sys2Proof.Machine
end

