-- ==== Sys2Proof/Machine/Xlate.lean ====
section
/-! DEFINITION. Address translation: walks of the page tables, translation caches, and what a failed translation leaves (R229 to R232). -/
namespace Sys2Proof.Machine

/-! Kinds of a failed translation (R232) -/

def kRange : Nat := 1
def kNotValid : Nat := 2
def kWrite : Nat := 3
def kMalformed : Nat := 4
def kForeign : Nat := 5
def kNoFree : Nat := 6
def kHole : Nat := 7
def kMalReq : Nat := 8
def kDisabled : Nat := 9

/-- How a memory access failed: a port's status (R181), or 0x100 + kind + 16 × level of a failed translation (R232); and the address the port's status names. -/
structure MemErr where
  status : Nat
  at_ : Nat
  deriving DecidableEq, Repr

/-- A failed translation of a kind at a level. -/
def xlErr (kind level : Nat) : MemErr := ⟨0x100 + kind + 16 * level, 0⟩

/-- The partition that owns the column of a DPA. -/
def State.partOfDpa (s : State) (a : Nat) : Option Nat :=
  match dpaSite a with
  | some j => s.partOfSite j
  | none => none

/-- A walker's read of one table entry by a plain read at the entry's halyard port (R231, R232). -/
def State.tableRead (s : State) (a level : Nat) : State × Except MemErr Nat :=
  match dpaSite a with
  | none => (s, .error (xlErr kHole level))
  | some j =>
    if s.towerOff j || s.hal j == halFailed || s.bankRetired j (dpaBank a) then
      (if s.towerOff j then s else s.portErr j 0x10 a stColFail, .error ⟨stColFail, a⟩)
    else if isHole a then (s.portErr j 0x10 a stHole, .error (xlErr kHole level))
    else
      let s1 := (((s.openRow j a).countF (F.HYP_RD_REM_COUNT j) 1).countF (F.HYP_BUS_BUSY_COUNT j) 1).dramLog 1 (a / 32 * 32) 32
      if s1.dramBad (a / 32 * 32) 32 then (s1.portErr j 0x10 a stUncorr, .error ⟨stUncorr, a⟩)
      else (s1, .ok (leNat ((List.range 8).map (fun k => s1.portByte j (a + k)))))

/-! Page-table entries (R230) -/

def pteV (e : Nat) : Bool := bit e 0
def pteLeaf (e : Nat) : Bool := bit e 1
def pteW (e : Nat) : Bool := bit e 2
def pteC (e : Nat) : Bool := bit e 3
def pteCow (e : Nat) : Bool := bit e 4
def pteCen (e : Nat) : Bool := bit e 5
/-- DPA of the next table or of the page. -/
def pteAddr (e : Nat) : Nat := bits e 8 37 * 256

/-- The kind of failure that an entry at a level meets; none where the walk may go on with it (R230, R232). -/
def State.pteFault (s : State) (p e level : Nat) : Option Nat :=
  let a := pteAddr e
  if !pteV e then some kNotValid
  else if bits e 6 2 ≠ 0 || bits e 45 3 ≠ 0 then some kMalformed
  else if (pteLeaf e && decide (level < 2)) || (!pteLeaf e && decide (level = 3)) then some kMalformed
  else if !pteLeaf e then
    if pteW e || pteC e || pteCow e || pteCen e || dpaSpace a != 0 || (decide (level < 2) && a % 4096 != 0) then some kMalformed
    else if s.partOfDpa a == some p then none else some kForeign
  else
    if a % (if level = 3 then 2 ^ 16 else 2 ^ 21) != 0 ||
        ((pteCow e || pteCen e) && !(decide (level = 3) && dpaSpace a == 0)) ||
        (pteCow e && !(pteW e && pteCen e)) ||
        (dpaSpace a == 2 && !(decide (level = 3) && dpaOff a == 0)) then some kMalformed
    else if s.partOfDpa a == some p then none else some kForeign

/-- Address of the entry of a VA in a table at a level (R229). -/
def pteAt (table level va : Nat) : Nat :=
  table + 8 * (if level = 3 then bits va 16 5 else bits va (39 - 9 * level) 9)

/-- A walk from a table at level 4 − n: the leaf's own address, the leaf, and whether it maps 2 MiB. -/
def walkFrom (p va : Nat) : Nat → Nat → State → State × Except MemErr (Nat × Nat × Bool)
  | 0, _, s => (s, .error (xlErr kMalformed 3))
  | n + 1, table, s =>
    let level := 3 - n
    let a := pteAt table level va
    match s.tableRead a level with
    | (s1, .error e) => (s1, .error e)
    | (s1, .ok e) =>
      match s1.pteFault p e level with
      | some k => (s1, .error (xlErr k level))
      | none => if pteLeaf e then (s1, .ok (a, e, decide (level = 2))) else walkFrom p va n (pteAddr e) s1

/-- A walk of a partition's tables from PRT_PT_ROOT (R229). -/
def State.walk (s : State) (p va : Nat) : State × Except MemErr (Nat × Nat × Bool) :=
  let root := s.getF (F.PRT_PT_ROOT_LO_ADDR p) * 4096 + s.getF (F.PRT_PT_ROOT_HI_ADDR p) * 2 ^ 32
  if dpaSpace root ≠ 0 then (s, .error (xlErr kMalformed 0))
  else if s.partOfDpa root ≠ some p then (s, .error (xlErr kForeign 0))
  else walkFrom p va 4 root s

/-! Translation caches (R231) -/

/-- Bytes of the page that a translation maps. -/
def Xlat.size (x : Xlat) : Nat := if x.big then 2 ^ 21 else 2 ^ 16
def Xlat.maps (x : Xlat) (p va : Nat) : Bool := x.part == p && decide (x.va ≤ va) && decide (va < x.va + x.size)
/-- Device physical address of a VA. -/
def Xlat.dpa (x : Xlat) (va : Nat) : Nat := pteAddr x.leaf + va % x.size
/-- Level of the leaf. -/
def Xlat.level (x : Xlat) : Nat := if x.big then 2 else 3

/-- A translation used: it becomes the most recent of at most `cap`. -/
def tlbUse (cap : Nat) (x : Xlat) (l : List Xlat) : List Xlat := (x :: l.filter (· != x)).take cap

def coreTlbCap : Nat := 64

/-- The set of a translation among the 256 sets of a cluster controller (R231 gives 2,048 in 8 ways; the index is the model's). -/
def Xlat.set (x : Xlat) : Nat := x.va / (if x.big then 2 ^ 21 else 2 ^ 16) % 256

/-- A cluster controller's translation used: it becomes the most recent of the eight of its set (R231). -/
def cluTlbUse (x : Xlat) (l : List Xlat) : List Xlat :=
  (tlbUse 8 x (l.filter (fun y => y.set == x.set))) ++ l.filter (fun y => y.set != x.set)

def unitTlbCap : Nat := 512

/-- A leaf that does not let a write pass (R232). -/
def wrFault (x : Xlat) (wr : Bool) : Option MemErr := if wr && !pteW x.leaf then some (xlErr kWrite x.level) else none

/-- The first tests of a translation: the range of the VA, and PRT_XCTRL.EN. -/
def State.xlPre (s : State) (p : Option Nat) (va : Nat) : Except MemErr Nat :=
  if 2 ^ 48 ≤ va then .error (xlErr kRange 0)
  else match p with
    | some p => if s.on (F.PRT_XCTRL_EN p) then .ok p else .error (xlErr kDisabled 0)
    | none => .error (xlErr kDisabled 0)

/-- A walk's leaf as a translation. -/
def xlOf (p va leaf : Nat) (big : Bool) : Xlat :=
  let x : Xlat := ⟨p, 0, big, leaf⟩
  { x with va := va / x.size * x.size }

/-- Translation for a cluster controller (128 clusters): its own translations, then a walk (R231). -/
def State.xlCluster (s : State) (c p va : Nat) : State × Except MemErr Xlat :=
  let k := s.cluster c
  match k.tlb.find? (fun x => x.maps p va) with
  | some x => (s.setCluster c { k with tlb := cluTlbUse x k.tlb }, .ok x)
  | none =>
    match s.walk p va with
    | (s1, .error e) => (s1, .error e)
    | (s1, .ok (_, leaf, big)) =>
      let x := xlOf p va leaf big
      let k1 := s1.cluster c
      (s1.setCluster c { k1 with tlb := cluTlbUse x k1.tlb }, .ok x)

/-- Translation of a core's access: its 64 translations, then its cluster controller (R231); a miss is counted. -/
def State.xlCore (s : State) (i va : Nat) (wr : Bool) : State × Except MemErr Xlat :=
  match s.xlPre (s.partOfSite i) va with
  | .error e => (s, .error e)
  | .ok p =>
    let c := s.core i
    let r : State × Except MemErr Xlat :=
      match c.tlb.find? (fun x => x.maps p va) with
      | some x => (s.setCore i { c with tlb := tlbUse coreTlbCap x c.tlb }, .ok x)
      | none =>
        match (s.countF (F.CORE_XL_MISS_COUNT i) 1).xlCluster ((s.clusterOf i).getD (homeCluster i)) p va with
        | (s1, .error e) => (s1, .error e)
        | (s1, .ok x) =>
          let c1 := s1.core i
          (s1.setCore i { c1 with tlb := tlbUse coreTlbCap x c1.tlb }, .ok x)
    match r with
    | (s1, .error e) => (s1, .error e)
    | (s1, .ok x) => match wrFault x wr with
      | some e => (s1, .error e)
      | none => (s1, .ok x)

/-- Translation for an I/O die (128, 129) or a P8 gateway (130 to 133) (R231). -/
def State.xlUnit (s : State) (u : Nat) (part : Option Nat) (va : Nat) (wr : Bool) : State × Except MemErr Xlat :=
  match s.xlPre part va with
  | .error e => (s, .error e)
  | .ok p =>
    let l := (tabGet s.unitTlb u).getD []
    let r : State × Except MemErr Xlat :=
      match l.find? (fun x => x.maps p va) with
      | some x => ({ s with unitTlb := tabPut s.unitTlb u (tlbUse unitTlbCap x l) }, .ok x)
      | none =>
        match s.walk p va with
        | (s1, .error e) => (s1, .error e)
        | (s1, .ok (_, leaf, big)) =>
          let x := xlOf p va leaf big
          ({ s1 with unitTlb := tabPut s1.unitTlb u (tlbUse unitTlbCap x l) }, .ok x)
    match r with
    | (s1, .error e) => (s1, .error e)
    | (s1, .ok x) => match wrFault x wr with
      | some e => (s1, .error e)
      | none => (s1, .ok x)

/-! Failures (R232) -/

/-- A translation fault of a partition is counted, and the first is recorded with its source and raised as XF (R232, R241, R336): SRCKIND and SRC as in R149. -/
def State.xfault (s : State) (p kind level : Nat) (wr : Bool) (srcKind src va : Nat) : State :=
  let s1 := s.countF (F.PRT_XF_COUNT_COUNT p) 1
  if s1.on (F.PRT_XF_STATUS_VALID p) then s1
  else
    ((((((((s1.setF (F.PRT_XF_STATUS_KIND p) kind).setF (F.PRT_XF_STATUS_LEVEL p) level).setF (F.PRT_XF_STATUS_WRITE p) (b2n wr)).setF
      (F.PRT_XF_STATUS_SRCKIND p) srcKind).setF (F.PRT_XF_STATUS_SRC p) src).setF (F.PRT_XF_STATUS_VALID p) 1).setF
      (F.PRT_XF_VA_LO_VA p) (va % 2 ^ 32)).setF (F.PRT_XF_VA_HI_VA p) (va / 2 ^ 32)).raiseBit (pgPrt p) 10

/-- Kind and level of a status that is a translation failure: a walk's, or a port's HOLE or MALFORMED (R232). -/
def xlKind (status : Nat) : Option (Nat × Nat) :=
  if 0x100 ≤ status then some (status % 16, bits status 4 2)
  else if status = stHole then some (kHole, 0)
  else if status = stMalformed then some (kMalReq, 0)
  else none

/-- A failed access is recorded in its partition where it is a translation fault (R232). -/
def State.xlRecord (s : State) (p : Option Nat) (e : MemErr) (wr : Bool) (srcKind src va : Nat) : State :=
  match p, xlKind e.status with
  | some p, some (k, l) => s.xfault p k l wr srcKind src va
  | _, _ => s

/-- A stream of a core fails: program fault XLATE, or MEM_UNCORR for UNCORR and COL_FAIL (R232, R366). -/
def State.coreMemFault (s : State) (i : Nat) (e : MemErr) (wr : Bool) (va : Nat) : State :=
  match xlKind e.status with
  | some (k, l) =>
    (s.xlRecord (s.partOfSite i) e wr 0 (siteNum i) va).progFault i causeXlate (k + 16 * l + 64 * b2n wr)
  | none =>
    s.progFault i causeUncorr ((if e.status = stUncorr then 1 else 2) + 2 ^ 16 * (bits e.at_ 30 11 * 32))

end Sys2Proof.Machine
end

