-- ==== Sys2Proof/Machine/Caches.lean ====
section
/-! DEFINITION. A core's L1 and a cluster's cache: lookups, merged misses, coherent lines (R215 to R224, R227, R238, R239). -/
namespace Sys2Proof.Machine

/-! Answers to streams -/

/-- A stream of a core by its number. -/
def State.streamOf (s : State) (i sid : Nat) : Option CoreStream := (s.core i).streams.find? (fun x => x.sid == sid)

/-- A stream of a core changed. -/
def State.setStream (s : State) (i : Nat) (x : CoreStream) : State :=
  let c := s.core i
  s.setCore i { c with streams := c.streams.map (fun y => if y.sid = x.sid then x else y) }

/-- A stream that faulted: it neither completes nor increments a tally (R232). -/
def State.killStream (s : State) (i sid : Nat) : State :=
  let c := s.core i
  s.setCore i { c with streams := c.streams.filter (fun y => y.sid != sid) }

/-- A failing stream leaves without completing, and an STMARK behind it can never increment its tally (R126, R232). -/
def State.failStream (s : State) (i sid : Nat) : State :=
  let c := s.core i
  let before := c.streams.takeWhile (fun y => y.sid != sid)
  let after := (c.streams.dropWhile (fun y => y.sid != sid)).drop 1
  s.setCore i { c with streams := before ++ after.filter (fun y => y.op != 4) }

/-- The sets of a core's L1 (R215). -/
def State.l1Sets (s : State) (i : Nat) : Nat := 256 * s.getF (F.CORE_LS_SPLIT_L1 i)

/-- A line allocated in L1 as RO; the least recently used of eight makes room (R215, R218). -/
def State.l1Put (s : State) (i line : Nat) (d : List Byte) : State :=
  let n := s.l1Sets i
  if n = 0 then s else
  let c := s.core i
  let same := c.l1.filter (fun e => e.1 % n == line % n && e.1 != line)
  let old := same.foldl (fun (m : Option (Nat × Nat)) e => match m with
    | some (_, t) => if e.2.stamp < t then some (e.1, e.2.stamp) else m
    | none => some (e.1, e.2.stamp)) none
  let l := if 8 ≤ same.length then (match old with | some (k, _) => tabDel c.l1 k | none => c.l1) else c.l1
  s.setCore i { c with l1 := tabPut l line ⟨d, c.l1Clock⟩, l1Clock := c.l1Clock + 1 }

/-- An L1 lookup: the line's data where it hits. -/
def State.l1Get (s : State) (i line : Nat) : State × Option (List Byte) :=
  let c := s.core i
  match tabGet c.l1 line with
  | some x => (s.setCore i { c with l1 := tabPut c.l1 line { x with stamp := c.l1Clock }, l1Clock := c.l1Clock + 1 }, some x.data)
  | none => (s, none)

/-- A request of a core is answered: data joins its stream, and a line allocated in L1 as ALLOC asks; a failure faults the core (R129, R218, R232). -/
def State.streamAnswer (s : State) (r : MReq) (dpa status : Nat) (d : List Byte) : State :=
  match r.org with
  | .stream i sid plane pos skip take =>
    match s.streamOf i sid with
    | none => s
    | some x =>
      if status ≠ 0 then (s.failStream i sid).coreMemFault i ⟨status, dpa⟩ r.wr r.va
      else
        let part := (d.drop skip).take take
        let y := { x with waiting := x.waiting - 1, out := x.out - take }
        let y := if r.wr || r.pf then y
          else if plane = 0 then { y with got := tabPut y.got pos part } else { y with gotAux := tabPut y.gotAux pos part }
        let s1 := s.setStream i y
        if !r.wr && bit r.alloc 0 then s1.l1Put i (dpa / 128) d else s1
  | _ => s

/-! Cluster caches: places -/

/-- PG_STATE of a cluster page (R240). -/
def cluUp : Nat := 1
def State.cluSt (s : State) (c : Nat) : Nat := s.pgState (pgClu c)
/-- The router of a cluster's CLU port (R141, R216). -/
def cluSite (c : Nat) : Nat := 17 * (c / 2) + (if c % 2 = 0 then 4 else 12)
/-- The cluster whose CLU port is at a site. -/
def cluOfSite (i : Nat) : Nat := homeCluster i
/-- The partition that owns a cluster. -/
def State.partOfClu (s : State) (c : Nat) : Option Nat := s.partOfRow (clusterGRow c)
/-- The home cluster of a DPA (R217). -/
def homeOf (a : Nat) : Option Nat := (dpaSite a).map homeCluster
/-- The set of a line (R216). -/
def cluSet (line : Nat) : Nat := Nat.xor (line % 2048) (line / 2048 % 2048)

/-- A packet injected through a CLU port: SRCKIND reads 0, CLU is set (R147, R149). -/
def State.cluSend (s : State) (c dst exit vc ty tag addr len aux : Nat) (d : List Byte) (masked : Bool) (mask : Nat) : State :=
  let i := cluSite c
  s.inject ⟨.router i, synthRoute (s.linkSel i) i dst exit, 0, 0, false, vc, 0, masked, siteNum i, ty,
    (s.partOfClu c).getD 0, true, tag, addr, len, aux, d, mask⟩

/-- A request takes the next tag. -/
def State.newTag (s : State) (r : MReq) : Nat × State :=
  (s.nextTag, { s with reqs := tabPut s.reqs s.nextTag r, nextTag := s.nextTag + 1 })

/-- The port of the address cannot answer at all: the status the route unit answers at once (R178, R387). -/
def State.routeStatus (s : State) (a : Nat) : Option Nat :=
  match dpaSite a with
  | none => some stHole
  | some j => if s.towerOff j then some stColFail else none

/-! Lines -/

/-- The codeword bits that an armed flip gives to a write of bytes of a line in a cluster cache (R371). -/
def State.lineFlip (s : State) (line mask : Nat) (old : Tab Nat) : Tab Nat × State :=
  let kept := old.filter (fun e => !bit mask e.1)
  match s.flipAt 2 with
  | none => (kept, s)
  | some a =>
    if a / 128 = line && bit mask (a % 128) then (tabPut kept (a % 128) s.flipMask, s.flipDone) else (kept, s)

/-- Outcomes of a read of bytes of a line. -/
def CLine.errors (x : CLine) (mask : Nat) : List (Nat × CodeOut) :=
  (x.flips.filter (fun e => bit mask e.1)).filterMap
    (fun e => let o := (codeRead ((x.data.getD e.1 0).toNat) e.2).2; if o = .clean then none else some (e.1, o))

/-- The bytes of a line as the code delivers them. -/
def CLine.deliver (x : CLine) : List Byte :=
  (List.range 128).map (fun k => match tabGet x.flips k with
    | some f => BitVec.ofNat 8 (codeRead (x.data.getD k 0).toNat f).1
    | none => x.data.getD k 0)

/-- Uncorrectable bytes of a line, as a mask. -/
def CLine.badMask (x : CLine) : Nat :=
  (x.flips.filter (fun e => (codeRead (x.data.getD e.1 0).toNat e.2).2.bad)).foldl (fun m e => m + 2 ^ e.1) 0

/-- The outcomes of a read of a line are counted and logged (R365, R368); of an RO line an uncorrectable byte is logged as corrected. -/
def State.lineLog (s : State) (c line : Nat) (ro : Bool) (es : List (Nat × CodeOut)) : State :=
  es.foldl (fun s e =>
    let o := match e.2 with
      | .uncorr y f => if ro then CodeOut.corrected y f else e.2
      | o => o
    s.logCode 5 (cluSite c) (line * 128 % 2 ^ 22 + e.1) o) s

/-- The line is marked as used. -/
def State.cluTouch (s : State) (c line : Nat) : State :=
  let k := s.cluster c
  match tabGet k.lines line with
  | some x => s.setCluster c { k with lines := tabPut k.lines line { x with stamp := k.clock }, clock := k.clock + 1 }
  | none => s

def State.cluDrop (s : State) (c line : Nat) : State :=
  let k := s.cluster c
  s.setCluster c { k with lines := tabDel k.lines line }

/-- A write-back of a line's dirty bytes to its home, kept in a buffer until CACK (R224, R227). -/
def State.writeBack (s : State) (c line : Nat) (x : CLine) : State :=
  match homeOf (line * 128) with
  | none => s.cluDrop c line
  | some h =>
    let bad := Nat.land x.badMask x.mask
    let k := s.cluster c
    let s1 := s.setCluster c { k with lines := tabDel k.lines line, wb := tabPut k.wb line (x.deliver, x.mask, bad) }
    (s1.countF (F.CLU_CC_WB_COUNT c) 1).cluSend c (cluSite h) 2 3 0x33 0 (line * 128) 128 bad x.deliver true x.mask

/-- The line of a list that was used least recently. -/
def oldest (l : Tab CLine) : Option (Nat × CLine) :=
  l.foldl (fun m e => match m with
    | some (_, y) => if e.2.stamp < y.stamp then some e else m
    | none => some e) none

/-- Room for a line among the data ways of its set: the least recently used line goes, one with no request of its own under way before any other, written back where it is dirty (R216, R224). -/
def State.cluRoom (s : State) (c line : Nat) : State :=
  let k := s.cluster c
  let same := k.lines.filter (fun e => cluSet e.1 == cluSet line && e.1 != line)
  if same.length < 16 - k.dirWays then s
  else
    match (oldest (same.filter (fun e => (tabGet k.pend e.1).isNone))).orElse (fun _ => oldest same) with
    | none => s
    | some (l, x) => if x.st = .m ∨ x.st = .p then s.writeBack c l x else s.cluDrop c l

/-- A line installed. -/
def State.cluPut (s : State) (c line : Nat) (st : CSt) (d : List Byte) (mask : Nat) : State :=
  let r := s.lineFlip line (2 ^ 128 - 1) []
  let k := r.2.cluster c
  r.2.setCluster c { k with lines := tabPut k.lines line ⟨st, d, mask, k.clock, r.1⟩, clock := k.clock + 1 }

/-! Non-coherent misses (R218, R221, R222) -/

/-- The cluster's partition runs in Gulier compatibility mode (R222). -/
def State.gcompat (s : State) (c : Nat) : Bool :=
  match s.partOfClu c with
  | some p => s.on (F.PG_CTRL_GCOMPAT (pgPrt p))
  | none => false

def waitersIn (l : Tab (List Waiter)) : Nat := (l.map (fun e => e.2.length)).foldl (· + ·) 0

/-- The miss can be taken now: it joins a fill, or starts one (R221, R222). -/
def State.missFits (s : State) (c line : Nat) : Bool :=
  let k := s.cluster c
  match tabGet k.fills line with
  | some ws => if s.gcompat c then decide (ws.length < 8) else decide (waitersIn k.fills < 512)
  | none => if s.gcompat c then decide (k.fills.length < 64) else decide (k.fills.length < 128) && decide (waitersIn k.fills < 512)

/-- A miss that fits is taken: merged, or sent to the line's halyard port. -/
def State.missTake (s : State) (c : Nat) (w : Waiter) : State :=
  let k := s.cluster c
  let line := w.dpa / 128
  match tabGet k.fills line with
  | some ws =>
    (s.setCluster c { k with fills := tabPut k.fills line (ws ++ [w]) }).countF (F.CLU_CC_MERGED_COUNT c) 1
  | none =>
    match s.routeStatus (line * 128) with
    | some st => s.streamAnswer w.req w.dpa st []
    | none =>
      let s1 := s.setCluster c { k with fills := tabPut k.fills line [w] }
      let r := s1.newTag { w.req with org := .fill c line }
      r.2.cluSend c ((dpaSite w.dpa).getD 0) 1 1 0x10 r.1 (line * 128) 128 0 [] false 0

/-- A miss: taken, or waiting at the CLU port; in Gulier compatibility mode each wait counts once. -/
def State.miss (s : State) (c : Nat) (w : Waiter) : State :=
  if s.missFits c (w.dpa / 128) then s.missTake c w
  else
    let k := s.cluster c
    let s1 := s.setCluster c { k with missQueue := k.missQueue ++ [w] }
    if s.gcompat c then s1.countF (F.CLU_CC_GSTALL_COUNT c) 1 else s1

/-- A read of a line by a core through its cluster cache (R218); a stale or faulty RO line is dropped and fetched again (R365). -/
def State.cluRead (s : State) (c : Nat) (w : Waiter) : State :=
  let s1 := s.countF (if w.req.pf then F.CLU_CC_PF_LOOK_COUNT c else F.CLU_CC_LD_LOOK_COUNT c) 1
  let line := w.dpa / 128
  match tabGet (s1.cluster c).lines line with
  | some x =>
    if x.st = .ro then
      let es := x.errors (2 ^ 128 - 1)
      let s2 := s1.lineLog c line true es
      if es.any (fun e => e.2.bad) then (s2.cluDrop c line).miss c w
      else ((s2.countF (if w.req.pf then F.CLU_CC_PF_HIT_COUNT c else F.CLU_CC_LD_HIT_COUNT c) 1).cluTouch c line).streamAnswer
        w.req (line * 128) 0 x.deliver
    else s1.miss c w
  | none => s1.miss c w

/-- LINE_FILL_RETURN's effect: every waiter is answered and the line allocated as RO (R221, R222). -/
def State.fillReturn (s : State) (c line status : Nat) (d : List Byte) : State :=
  let k := s.cluster c
  let ws := (tabGet k.fills line).getD []
  let s1 := s.setCluster c { k with fills := tabDel k.fills line }
  let s2 := if status ≠ 0 || (tabGet k.lines line).isSome then s1 else (s1.cluRoom c line).cluPut c line .ro d 0
  ws.foldl (fun s w => s.streamAnswer w.req (line * 128) status d) s2

/-- LINE_FILL_RETURN (R221). -/
def execLineFillReturn (id : Nat) (s : State) : Out :=
  match s.pkt id with
  | some p =>
    match p.place, tabGet s.reqs p.tag with
    | .clu _, some r =>
      match r.org with
      | .fill c line =>
        if p.ty = 0x12 && s.inOrder id p && s.cluSt c == cluUp then
          .next ((({ s with reqs := tabDel s.reqs p.tag } : State).dropPkt id).fillReturn c line (p.aux % 16) p.data)
        else .next s
      | _ => .next s
    | _, _ => .next s
  | none => .next s

/-- MISS_ADMIT: the oldest miss waiting at the CLU port that fits now is admitted (R221, R222). -/
def execMissAdmit (clu : Nat) (s : State) : Out :=
  let k := s.cluster clu
  match k.missQueue.findIdx? (fun w => s.missFits clu (w.dpa / 128)) with
  | none => .next s
  | some n =>
    match k.missQueue[n]? with
    | none => .next s
    | some w =>
      let s1 := s.setCluster clu { k with missQueue := dropAt k.missQueue n }
      match tabGet k.lines (w.dpa / 128) with
      | some x => if x.st = .ro then .next (s1.streamAnswer w.req (w.dpa / 128 * 128) 0 x.deliver) else .next (s1.missTake clu w)
      | none => .next (s1.missTake clu w)

/-! Coherent accesses of a core (R223, R224, R228) -/

/-- Bytes of an access within its line, as a mask. -/
def lineMask (dpa len : Nat) : Nat := (2 ^ len - 1) * 2 ^ (dpa % 128)

/-- A coherent request goes to the home; accesses to the line wait for its answer. -/
def State.cohAsk (s : State) (c line ty : Nat) (w : MReq × Nat) : State :=
  let k := s.cluster c
  let s1 := s.setCluster c { k with pend := tabPut k.pend line ⟨ty, [w], false⟩ }
  match homeOf (line * 128) with
  | none => s1
  | some h => s1.cluSend c (cluSite h) 2 1 ty 0 (line * 128) 0 0 [] false 0

/-- Bytes written into a line held in M or P: the mask grows, and P goes to M once it is full (R224). -/
def State.cohWrite (s : State) (c line : Nat) (x : CLine) (st : CSt) (r : MReq) (dpa : Nat) : State :=
  let o := dpa % 128
  let wmask := r.mask * 2 ^ o
  let data := (List.range 128).map (fun k => if bit wmask k then r.data.getD (k - o) 0 else x.data.getD k 0)
  let mask := Nat.lor (if x.st = .m ∨ x.st = .p then x.mask else 0) wmask
  let f := s.lineFlip line wmask x.flips
  let k := f.2.cluster c
  let st := if mask = 2 ^ 128 - 1 then CSt.m else st
  (f.2.setCluster c { k with lines := tabPut k.lines line ⟨st, data, mask, k.clock, f.1⟩, clock := k.clock + 1 }).streamAnswer r dpa 0 []

/-- A hit that reads: an uncorrectable byte of M or P answers UNCORR; a clean line is dropped and fetched again (R365). -/
def State.readLine (s : State) (hit : State → State) (c line : Nat) (x : CLine) (r : MReq) (dpa : Nat) : State :=
  let es := x.errors (lineMask dpa r.len)
  let dirty := decide (x.st = .m) || decide (x.st = .p)
  let s1 := (hit s).lineLog c line (!dirty) es
  if es.any (fun e => e.2.bad) then
    if dirty then s1.streamAnswer r dpa stUncorr [] else (s1.cluDrop c line).cohAsk c line 0x30 (r, dpa)
  else (s1.cluTouch c line).streamAnswer r dpa 0 ((x.deliver.drop (dpa % 128)).take r.len)

/-- One coherent access of a core at its cluster cache; `first` counts the lookup. -/
def State.cohAccess (s0 : State) (c : Nat) (r : MReq) (dpa : Nat) (first : Bool) : State :=
  let s := if first then s0.countF (F.CLU_CC_COH_LOOK_COUNT c) 1 else s0
  let hit (s : State) : State := if first then s.countF (F.CLU_CC_COH_HIT_COUNT c) 1 else s
  let line := dpa / 128
  let k := s.cluster c
  let join (q : CPend) : State := s.setCluster c { k with pend := tabPut k.pend line { q with waiters := q.waiters ++ [(r, dpa)] } }
  match tabGet k.pend line with
  | some q => join q
  | none =>
    if (tabGet k.wb line).isSome then join ⟨0x33, [], false⟩
    else
      match tabGet k.lines line with
      | none => s.cohAsk c line (if r.wr then 0x31 else 0x30) (r, dpa)
      | some x =>
        match x.st with
        | .ro => (s.cluDrop c line).cohAsk c line (if r.wr then 0x31 else 0x30) (r, dpa)
        | .s => if r.wr then s.cohAsk c line 0x31 (r, dpa) else s.readLine hit c line x r dpa
        | .e => if r.wr then (hit s).cohWrite c line x .m r dpa else s.readLine hit c line x r dpa
        | .m => if r.wr then (hit s).cohWrite c line x .m r dpa else s.readLine hit c line x r dpa
        | .p =>
          if r.wr then (hit s).cohWrite c line x .p r dpa
          else
            let need := lineMask dpa r.len
            if Nat.land need x.mask = need then s.readLine hit c line x r dpa
            else s.cohAsk c line 0x32 (r, dpa)

/-- The accesses that waited for a line go on, in order. -/
def State.cohResume (s : State) (c : Nat) (ws : List (MReq × Nat)) : State :=
  ws.foldl (fun s w => s.cohAccess c w.1 w.2 false) s

/-- CDATA for CRDS or CFILL reaches the cache (R224, R226, R227): a copy that an invalidation may have overtaken is used for the waiting reads and not kept. -/
def State.cohData (s : State) (c line aux : Nat) (d : List Byte) : State :=
  let k := s.cluster c
  match tabGet k.pend line with
  | none => s
  | some q =>
    let s1 := s.setCluster c { k with pend := tabDel k.pend line }
    if aux % 16 ≠ 0 then q.waiters.foldl (fun s w => s.streamAnswer w.1 w.2 (aux % 16) []) s1
    else if q.ty = 0x32 then
      match tabGet k.lines line with
      | some x =>
        if x.st = .p then
          let data := (List.range 128).map (fun n => if bit x.mask n then x.data.getD n 0 else d.getD n 0)
          let f := s1.lineFlip line (2 ^ 128 - 1 - x.mask) x.flips
          let k1 := f.2.cluster c
          (f.2.setCluster c { k1 with lines := tabPut k1.lines line { x with st := .m, data := data, flips := f.1 } }).cohResume c q.waiters
        else s1.cohResume c q.waiters
      | none => s1.cohResume c q.waiters
    else if q.kill then
      let reads := q.waiters.filter (fun w => !w.1.wr)
      let s2 := reads.foldl (fun s w => s.streamAnswer w.1 w.2 0 ((d.drop (w.2 % 128)).take w.1.len)) s1
      s2.cohResume c (q.waiters.filter (fun w => w.1.wr))
    else
      let s2 := (s1.cluRoom c line).cluPut c line (if bit aux 4 then .e else .s) d 0
      s2.cohResume c q.waiters

/-- CGRANT reaches the cache (R224, R226, R227): M with an S copy's data kept, else P; a grant that a recall may have overtaken is asked for again. -/
def State.cohGrant (s : State) (c line : Nat) : State :=
  let k := s.cluster c
  match tabGet k.pend line with
  | none => s
  | some q =>
    let s1 := s.setCluster c { k with pend := tabDel k.pend line }
    if q.kill then s1.cohResume c q.waiters
    else
      match tabGet k.lines line with
      | some x =>
        let k1 := s1.cluster c
        (s1.setCluster c { k1 with lines := tabPut k1.lines line { x with st := .m, mask := 0 } }).cohResume c q.waiters
      | none =>
        ((s1.cluRoom c line).cluPut c line .p (List.replicate 128 0) 0).cohResume c q.waiters

/-- CACK reaches the cache: the write-back buffer is free, and accesses that waited for it go on (R227). -/
def State.cohAck (s : State) (c line : Nat) : State :=
  let k := s.cluster c
  let s1 := s.setCluster c { k with wb := tabDel k.wb line }
  match tabGet k.pend line with
  | some q =>
    if q.ty = 0x33 then
      let k1 := s1.cluster c
      (s1.setCluster c { k1 with pend := tabDel k1.pend line }).cohResume c q.waiters
    else s1
  | none => s1

/-- CINV at a sharer: any copy is dropped, and CIACK answers (R226, R227). -/
def execCinv (id : Nat) (s : State) : Out :=
  match s.pkt id with
  | some p =>
    match p.place with
    | .clu i =>
      if p.ty = 0x34 && s.inOrder id p then
        let c := cluOfSite i
        let line := p.addr / 128
        let s1 := (s.dropPkt id).countF (F.CLU_CC_RECALL_COUNT c) 1
        let k := s1.cluster c
        let pend := match tabGet k.pend line with
          | some q => if q.ty = 0x30 then tabPut k.pend line { q with kill := true } else k.pend
          | none => k.pend
        let s2 := s1.setCluster c { k with lines := tabDel k.lines line, pend := pend }
        .next (s2.respond p (cluSite c) 0x3A 0 [])
      else .next s
    | _ => .next s
  | none => .next s

/-- CRECALL at an owner, or at one whose grant is still on its way: CWBR carries the dirty bytes of the line or of its write-back buffer, and the line is left in I (R226 to R228). -/
def execCrecall (id : Nat) (s : State) : Out :=
  match s.pkt id with
  | some p =>
    match p.place with
    | .clu i =>
      if p.ty = 0x35 && s.inOrder id p then
        let c := cluOfSite i
        let line := p.addr / 128
        let s1 := (s.dropPkt id).countF (F.CLU_CC_RECALL_COUNT c) 1
        let k := s1.cluster c
        let dirty : List Byte × Nat × Nat := match tabGet k.lines line, tabGet k.wb line with
          | some x, _ => if x.st = .m ∨ x.st = .p then (x.deliver, x.mask, Nat.land x.badMask x.mask) else ([], 0, 0)
          | none, some b => b
          | none, none => ([], 0, 0)
        let pend := match tabGet k.pend line with
          | some q => if q.ty = 0x30 ∨ q.ty = 0x31 then tabPut k.pend line { q with kill := true } else k.pend
          | none => k.pend
        let s2 := s1.setCluster c { k with lines := tabDel k.lines line, pend := pend }
        let r : Packet := { p with
          place := .router (cluSite c), route := reverseRoute p, cur := 0, left := 0, xed := false, vc := 2, srcKind := 0
          masked := dirty.2.1 != 0, src := siteNum (cluSite c), ty := 0x3B, clu := true, len := dirty.1.length
          aux := dirty.2.2, data := dirty.1, mask := dirty.2.1 }
        .next (s2.inject r)
      else .next s
    | _ => .next s
  | none => .next s

/-! Commands of CLU_CC_CMD (R239) -/

/-- A core of the cluster is LOADED, RUNNING or BERTHED. -/
def State.cluBusyCores (s : State) (c : Nat) : Bool :=
  (s.sitesOfCluster c).any (fun i => decide (coreLoaded ≤ s.coreSt i) && decide (s.coreSt i ≤ coreBerthed))

/-- The commands that a written word of CLU_CC_CMD names. -/
def State.cacheCmd (s : State) (c : Nat) (v : Word) : State :=
  let inval := bit v.toNat 0 && !s.cluBusyCores c
  let wb := bit v.toNat 1
  let s1 := if inval then
      let k := s.cluster c
      s.setCluster c { k with lines := k.lines.filter (fun e => e.2.st != .ro) }
    else s
  let s2 := if wb then
      ((s1.cluster c).lines.filter (fun e => e.2.st == .m || e.2.st == .p)).foldl (fun s e => s.writeBack c e.1 e.2) s1
    else s1
  if inval || wb then s2.setF (F.CLU_CC_STATUS_BUSY c) 1 else s

/-- INVAL_RO: a write of CLU_CC_CMD with INVAL_RO at 1 (R239). -/
def execInvalRo (who : Requester) (clu : Nat) (value : Word) (s : State) : Out :=
  if bit value.toNat 0 && s.cluSt clu == cluUp then trigger s who (pgClu clu + 0x204) 1 value (fun s => s.cacheCmd clu value) else .next s

/-- WB_ALL: a write of CLU_CC_CMD with WB_ALL at 1 (R239). -/
def execWbAll (who : Requester) (clu : Nat) (value : Word) (s : State) : Out :=
  if bit value.toNat 1 && s.cluSt clu == cluUp then trigger s who (pgClu clu + 0x204) 2 value (fun s => s.cacheCmd clu value) else .next s

/-- CACHE_COMMAND_COMPLETE: the command has ended, no write-back is outstanding (R239). -/
def execCacheCommandComplete (clu : Nat) (s : State) : Out :=
  if s.on (F.CLU_CC_STATUS_BUSY clu) && (s.cluster clu).wb.isEmpty then .next (s.setF (F.CLU_CC_STATUS_BUSY clu) 0) else .next s

end Sys2Proof.Machine
end

