-- ==== Sys2Proof/Machine/Directory.lean ====
section
/-! DEFINITION. The home of coherent lines: directory, transactions, census atomics (R217, R225 to R228, R233, R234). -/
namespace Sys2Proof.Machine

/-! The directory (R225) -/

/-- The cluster that a request comes from; none for hosts and the moonlet. -/
def reqClu (p : Packet) : Option Nat := if p.clu then (siteOfNum p.src).map cluOfSite else none

/-- Requests that need a directory entry. -/
def needsEntry (ty : Nat) : Bool := ty == 0x30 || ty == 0x31 || ty == 0x36

/-- A free entry exists in the line's set, or the line has one. -/
def ClusterState.dirRoom (k : ClusterState) (line : Nat) : Bool :=
  (tabGet k.dir line).isSome ||
  decide ((k.dir.filter (fun e => cluSet e.1 == cluSet line)).length +
    (k.txns.filter (fun e => cluSet e.1 == cluSet line && (tabGet k.dir e.1).isNone)).length < 16 * k.dirWays)

/-- The least recently used entry of a line's set, one without a transaction before any other (R225). -/
def ClusterState.dirVictim (k : ClusterState) (line : Nat) : Option (Nat × DirEnt) :=
  let l := k.dir.filter (fun e => cluSet e.1 == cluSet line)
  let pick (l : Tab DirEnt) : Option (Nat × DirEnt) := l.foldl (fun m e => match m with
    | some (_, y) => if e.2.stamp < y.stamp then some e else m
    | none => some e) none
  (pick (l.filter (fun e => (tabGet k.txns e.1).isNone))).orElse (fun _ => pick l)

/-- An entry set, or freed when it names no holder. -/
def State.setDir (s : State) (c line : Nat) (owned ovf : Bool) (ptrs : List Nat) : State :=
  let k := s.cluster c
  s.setCluster c { k with
    dir := if ptrs.isEmpty then tabDel k.dir line else tabPut k.dir line ⟨owned, ovf, ptrs, k.clock⟩
    clock := k.clock + 1 }

/-- The clusters that an invalidation goes to: the sharers, or every cluster of the partition (R225). -/
def State.sharers (s : State) (c : Nat) (d : DirEnt) : List Nat :=
  if d.ovf then
    match s.partOfClu c with
    | some p => (s.rowsOf p).flatMap (fun g => [2 * g, 2 * g + 1])
    | none => d.ptrs
  else d.ptrs

/-! Transactions (R227) -/

def State.txn (s : State) (c line : Nat) : Option Txn := tabGet (s.cluster c).txns line
def State.setTxn (s : State) (c line : Nat) (t : Txn) : State :=
  let k := s.cluster c
  s.setCluster c { k with txns := tabPut k.txns line t }
def State.dropTxn (s : State) (c line : Nat) : State :=
  let k := s.cluster c
  s.setCluster c { k with txns := tabDel k.txns line }

/-- The home reads DRAM for its transaction. -/
def State.homeRead (s : State) (c line a len : Nat) : State :=
  let r := s.newTag ⟨(s.partOfClu c).getD 0, 0, len, false, [], 0, 0, 0, false, .home c line⟩
  r.2.cluSend c ((dpaSite a).getD 0) 1 1 0x10 r.1 a len 0 [] false 0

/-- The home writes DRAM for its transaction, masked; `bad` names bytes to poison (R364). -/
def State.homeWrite (s : State) (c line a : Nat) (d : List Byte) (mask bad : Nat) : State :=
  let r := s.newTag ⟨(s.partOfClu c).getD 0, 0, d.length, true, [], 0, 0, 0, false, .home c line⟩
  r.2.cluSend c ((dpaSite a).getD 0) 1 3 0x11 r.1 a d.length bad d true mask

/-- An answer to a request, through the home's CLU port. -/
def State.homeReply (s : State) (c : Nat) (p : Packet) (ty aux : Nat) (d : List Byte) : State := s.respond p (cluSite c) ty aux d

/-! Census atomics (R234) -/

def cenRefs (e : Nat) : Nat := e % 2 ^ 30
def cenBusy (e : Nat) : Bool := bit e 31

/-- The operation waits at the home while the entry is BUSY. -/
def cenWaits (op e : Nat) : Bool := cenBusy e && decide (1 ≤ op) && decide (op ≤ 4)

/-- The new entry; none where the operation is refused. DECUNLOCK of an entry whose REFS is 0 leaves a REFS the spec does not give: `free`. -/
def cenApply (op e v free : Nat) : Option Nat :=
  match op with
  | 0 => some e
  | 1 => if cenRefs e = 2 ^ 30 - 1 then none else some (e + 1)
  | 2 => if cenRefs e = 0 then none else some (e - 1)
  | 3 => some (setBits e 0 30 v)
  | 4 => some (setBits e 31 1 1)
  | 5 => some (setBits (if cenRefs e = 0 then setBits e 0 30 free else e - 1) 31 1 0)
  | 6 => some (setBits e 31 1 0)
  | _ => none

/-! What a transaction does once no other holder stands in its way -/

/-- The transaction of request p goes on; true where it has ended. -/
def State.homeGo (s : State) (c line : Nat) (p : Packet) : State × Bool :=
  let t := (s.txn c line).getD ⟨some p, .acks, 0, 0, []⟩
  let wait (s : State) (ph : Phase) : State := s.setTxn c line { t with phase := ph, acks := 0 }
  if p.ty = 0x31 then
    match reqClu p with
    | some y => (((s.setDir c line true false [y]).homeReply c p 0x39 0 []), true)
    | none => (s, true)
  else if p.ty = 0x33 then
    let owner := match tabGet (s.cluster c).dir line with
      | some d => d.owned && d.ptrs.headD 128 == (reqClu p).getD 129
      | none => false
    if owner then ((wait s .put).homeWrite c line p.addr p.data p.mask p.aux, false)
    else (s.homeReply c p 0x3C 0 [], true)
  else if p.ty = 0x11 then ((wait s .put).homeWrite c line p.addr p.data (writeMask p) 0, false)
  else if p.ty = 0x10 then ((wait s .read).homeRead c line p.addr p.len, false)
  else if p.ty = 0x36 then ((wait s .read).homeRead c line (p.addr / 32 * 32) 32, false)
  else ((wait s .read).homeRead c line (line * 128) 128, false)

/-- Holders that a request must see off: to recall, or to invalidate (R226, R228). -/
def State.homeHolders (s : State) (c line : Nat) (p : Option Packet) : List (Nat × Bool) :=
  match tabGet (s.cluster c).dir line with
  | none => []
  | some d =>
    let me := match p with
      | some q => reqClu q
      | none => none
    let ty := match p with
      | some q => q.ty
      | none => 0x35
    if ty = 0x32 ∨ ty = 0x33 then []
    else
      let reads := match p with
        | some q => decide (q.aux % 8 = 0)
        | none => false
      let quiet : Bool := ty == 0x30 || ty == 0x10 || (ty == 0x36 && reads)
      let keep (y : Nat) : Bool := (ty == 0x30 || ty == 0x31) && me == some y
      if d.owned then (d.ptrs.filter (fun y => !keep y)).map (fun y => (y, true))
      else if quiet then []
      else ((s.sharers c d).filter (fun y => !keep y)).map (fun y => (y, false))

/-- CINV or CRECALL to a holder. -/
def State.homeAskOut (s : State) (c line : Nat) (y : Nat × Bool) : State :=
  s.cluSend c (cluSite y.1) 2 0 (if y.2 then 0x35 else 0x34) 0 (line * 128) 0 0 [] false 0

/-- A request starts its transaction: holders are asked first, and a full set of the directory frees its least recently used entry, which the request waits for; in a set whose entries are all yet to be made it waits for a transaction of the set (R225). -/
def State.homeTake (s : State) (c : Nat) (p : Packet) : State :=
  let line := p.addr / 128
  let k := s.cluster c
  match tabGet k.txns line with
  | some t => s.setTxn c line { t with queue := t.queue ++ [p] }
  | none =>
    if needsEntry p.ty && !k.dirRoom line then
      match k.dirVictim line with
      | none =>
        match k.txns.find? (fun e => cluSet e.1 == cluSet line) with
        | some (v, t) => s.setTxn c v { t with queue := t.queue ++ [p] }
        | none => s
      | some (v, _) =>
        match tabGet k.txns v with
        | some t => s.setTxn c v { t with queue := t.queue ++ [p] }
        | none =>
          let hs := s.homeHolders c v none
          let s1 := (s.setTxn c v ⟨none, .acks, hs.length, 0, [p]⟩).countF (F.CLU_CC_DIR_EVICT_COUNT c) 1
          hs.foldl (fun s y => s.homeAskOut c v y) s1
    else
      let hs := s.homeHolders c line (some p)
      if hs.isEmpty then
        match s.homeGo c line p with
        | (s1, true) => s1
        | (s1, false) => s1
      else hs.foldl (fun s y => s.homeAskOut c line y) (s.setTxn c line ⟨some p, .acks, hs.length, 0, []⟩)

/-- A transaction ends: the requests that waited for it are taken in order of arrival (R227). -/
def State.homeEnd (s : State) (c line : Nat) : State :=
  let q := match s.txn c line with
    | some t => t.queue
    | none => []
  q.foldl (fun s p => s.homeTake c p) (s.dropTxn c line)

/-- The census operations held for an entry are taken again once BUSY is clear (R234). -/
def State.homeUnhold (s : State) (c a : Nat) : State :=
  let k := s.cluster c
  let s1 := s.setCluster c { k with held := k.held.filter (fun p => p.addr != a) }
  (k.held.filter (fun p => p.addr == a)).foldl (fun s p => s.homeTake c p) s1

/-- A transaction goes on after its acknowledgements and the recalled bytes are in. -/
def State.homeNext (s : State) (c line : Nat) (t : Txn) : State :=
  match t.req with
  | none => (s.setDir c line false false []).homeEnd c line
  | some p =>
    match s.homeGo c line p with
    | (s1, true) => s1.homeEnd c line
    | (s1, false) => s1

/-- The last acknowledgement: holders are gone from the directory, and recalled bytes go to DRAM first (R225, R228). -/
def State.homeAcked (s : State) (c line : Nat) (t : Txn) : State :=
  let mine := match t.req with
    | some p => if p.ty = 0x31 then (match reqClu p, tabGet (s.cluster c).dir line with
        | some y, some d => d.ptrs.filter (· == y)
        | _, _ => []) else []
    | none => []
  let s1 := s.setDir c line false false mine
  let k := s1.cluster c
  match tabGet k.dirty line with
  | some (d, m, bad) =>
    let s2 := s1.setCluster c { k with dirty := tabDel k.dirty line }
    if m = 0 then s2.homeNext c line t
    else (s2.setTxn c line { t with phase := .write, acks := 0 }).homeWrite c line (line * 128) d m bad
  | none => s1.homeNext c line t

/-- One acknowledgement of a transaction. -/
def State.homeAck (s : State) (c line : Nat) (d : Option (List Byte × Nat × Nat)) : State :=
  match s.txn c line with
  | none => s
  | some t =>
    if t.phase = .acks && decide (0 < t.acks) then
      let k := s.cluster c
      let s1 := match d with
        | some x => s.setCluster c { k with dirty := tabPut k.dirty line x }
        | none => s
      let t1 := { t with acks := t.acks - 1 }
      if t1.acks = 0 then s1.homeAcked c line t1 else s1.setTxn c line t1
    else s

/-- A census atomic whose entry has been read (R234): performed, refused, or held. -/
def State.homeAtom (s : State) (c line : Nat) (t : Txn) (p : Packet) (d : List Byte) : State :=
  let e := leNat (((d.drop (p.addr % 32)).take 4).map BitVec.toNat)
  let op := p.aux % 8
  if cenWaits op e then
    let k := s.cluster c
    (s.setCluster c { k with held := k.held ++ [p] }).homeEnd c line
  else
    let old := toBytes (leBytes 4 e)
    let open5 := decide (op = 5) && decide (cenRefs e = 0)
    let r := if open5 then s.takeFree else (0, s)
    match cenApply op e (leNat (p.data.map BitVec.toNat)) (Config.freeValue r.1) with
    | none => (r.2.homeReply c p 0x38 stMalformed old).homeEnd c line
    | some e1 =>
      if e1 = e then ((r.2.homeReply c p 0x38 0 old).homeEnd c line).homeUnhold c p.addr
      else
        let o := p.addr % 32
        let bytes := List.replicate o 0 ++ toBytes (leBytes 4 e1) ++ List.replicate (28 - o) 0
        (r.2.setTxn c line { t with phase := .put, old := e }).homeWrite c line (p.addr / 32 * 32) bytes (15 * 2 ^ o) 0

/-- The answer to the home's own read or write (R228). -/
def State.homeAnswer (s : State) (c line status : Nat) (d : List Byte) : State :=
  match s.txn c line with
  | none => s
  | some t =>
    match t.phase, t.req with
    | .acks, _ => s
    | .write, _ => s.homeNext c line t
    | .put, some p =>
      if p.ty = 0x11 then (s.homeReply c p 0x13 status []).homeEnd c line
      else if p.ty = 0x33 then ((s.setDir c line false false []).homeReply c p 0x3C 0 []).homeEnd c line
      else
        let s1 := (s.homeReply c p 0x38 status (if status = 0 then toBytes (leBytes 4 t.old) else [])).homeEnd c line
        if status = 0 then s1.homeUnhold c p.addr else s1
    | .read, some p =>
      if p.ty = 0x10 then (s.homeReply c p 0x12 status d).homeEnd c line
      else if status ≠ 0 then (s.homeReply c p 0x38 status []).homeEnd c line
      else if p.ty = 0x36 then s.homeAtom c line t p d
      else if p.ty = 0x32 then (s.homeReply c p 0x38 0 d).homeEnd c line
      else
        match reqClu p with
        | none => s.homeEnd c line
        | some y =>
          let e := tabGet (s.cluster c).dir line
          let others := match e with
            | some x => if x.owned then [] else x.ptrs.filter (· != y)
            | none => []
          let ovf := match e with
            | some x => x.ovf
            | none => false
          if others.isEmpty && !ovf then
            ((s.setDir c line true false [y]).homeReply c p 0x38 16 d).homeEnd c line
          else
            ((s.setDir c line false (ovf || decide (4 ≤ others.length)) ((others ++ [y]).take 4)).homeReply c p 0x38 0 d).homeEnd c line
    | _, none => (s.setDir c line false false []).homeEnd c line

/-! Arrivals -/

/-- A coherent packet at a serving cluster's CLU port. -/
def State.atClu (s : State) (id : Nat) (ty : Nat) : Option (Nat × Packet) :=
  match s.pkt id with
  | some p =>
    match p.place with
    | .clu i => if p.ty = ty && s.inOrder id p && s.cluSt (cluOfSite i) == cluUp then some (cluOfSite i, p) else none
    | _ => none
  | none => none

/-- A request reaches its home (R226, R227). -/
def State.homeArrive (s : State) (id ty : Nat) : State :=
  match s.atClu id ty with
  | some (c, p) => (s.dropPkt id).homeTake c p
  | none => s

/-- CRDS (R226). -/
def execCrds (id : Nat) (s : State) : Out := .next (s.homeArrive id 0x30)
/-- CCLAIM (R226). -/
def execCclaim (id : Nat) (s : State) : Out := .next (s.homeArrive id 0x31)
/-- CFILL (R226). -/
def execCfill (id : Nat) (s : State) : Out := .next (s.homeArrive id 0x32)
/-- CWB (R226, R227). -/
def execCwb (id : Nat) (s : State) : Out := .next (s.homeArrive id 0x33)
/-- CATOM (R226, R234). -/
def execCatom (id : Nat) (s : State) : Out := .next (s.homeArrive id 0x36)

/-- CIACK: an invalidation is done (R226). -/
def execCiack (id : Nat) (s : State) : Out :=
  match s.atClu id 0x3A with
  | some (c, p) => .next ((s.dropPkt id).homeAck c (p.addr / 128) none)
  | none => .next s

/-- CWBR: the answer to a recall, with the dirty bytes (R226, R228). -/
def execCwbr (id : Nat) (s : State) : Out :=
  match s.atClu id 0x3B with
  | some (c, p) => .next ((s.dropPkt id).homeAck c (p.addr / 128) (some (p.data, p.mask, p.aux)))
  | none => .next s

/-- CGRANT: ownership is granted (R226). -/
def execCgrant (id : Nat) (s : State) : Out :=
  match s.atClu id 0x39 with
  | some (c, p) => .next ((s.dropPkt id).cohGrant c (p.addr / 128))
  | none => .next s

/-- CACK: a write-back is taken (R226). -/
def execCack (id : Nat) (s : State) : Out :=
  match s.atClu id 0x3C with
  | some (c, p) => .next ((s.dropPkt id).cohAck c (p.addr / 128))
  | none => .next s

end Sys2Proof.Machine
end

