-- ==== Sys2Proof/Machine/Requests.lean ====
section
/-! DEFINITION. Memory requests of cores, I/O dies and P8 gateways once translated, and the accesses of hosts and the moonlet (R147, R148, R166, R218, R220, R228, R316). -/
namespace Sys2Proof.Machine

/-! A core's requests -/

/-- The request with the place of its bytes in the data that comes back. -/
def MReq.skipped (r : MReq) (k : Nat) : MReq :=
  match r.org with
  | .stream i sid plane pos _ take => { r with org := .stream i sid plane pos k take }
  | .job j pos _ take => { r with org := .job j pos k take }
  | _ => r

/-- An HRD of a core to a halyard port; a column that no port answers for is answered at once (R178, R387). -/
def State.coreHrd (s : State) (i : Nat) (r : MReq) (a len : Nat) : State :=
  match s.routeStatus a with
  | some st => s.streamAnswer r a st []
  | none =>
    let t := s.newTag r
    t.2.coreRequest i 0x10 1 t.1 a len 0 [] false 0

/-- The cluster that serves a core. -/
def State.cluFor (s : State) (i : Nat) : Nat := (s.clusterOf i).getD (homeCluster i)

/-- The page is coherent: C on a page of SPACE 0 (R223). -/
def Xlat.coh (x : Xlat) : Bool := pteC x.leaf && dpaSpace (pteAddr x.leaf) == 0

/-- A translated read of a core finds memory (R218, R223): the bytes lie within one line, or with ALLOC 0 within one 256-byte block or in one expanded vector. -/
def State.coreLoad (s : State) (i : Nat) (x : Xlat) (r : MReq) : State :=
  let dpa := x.dpa r.va
  if x.coh then s.cohAccess (s.cluFor i) { r with alloc := 0 } dpa true
  else if r.alloc = 0 && dpaSpace dpa == 1 then s.coreHrd i r dpa r.len
  else if r.alloc = 0 then
    let a := dpa / 32 * 32
    s.coreHrd i (r.skipped (dpa - a)) a ((dpa + r.len + 31) / 32 * 32 - a)
  else
    let line := dpa / 128
    let r := r.skipped (dpa % 128)
    let l1 := bit r.alloc 0
    let s1 := if l1 then s.countF (if r.pf then F.CORE_L1_PF_LOOK_COUNT i else F.CORE_L1_LD_LOOK_COUNT i) 1 else s
    match (if l1 then s1.l1Get i line else (s1, none)) with
    | (s2, some d) =>
      (s2.countF (if r.pf then F.CORE_L1_PF_HIT_COUNT i else F.CORE_L1_LD_HIT_COUNT i) 1).streamAnswer { r with alloc := 0 } (line * 128) 0 d
    | (s2, none) =>
      if bit r.alloc 1 && r.path != 1 && !(r.path == 0 && dpaSite dpa == some i) then s2.cluRead (s2.cluFor i) ⟨i, r, dpa⟩
      else s2.coreHrd i r (line * 128) 128

/-- A translated write of a core (R220, R228): around both caches, MASKED where it covers part of an atom or line, or into the cluster cache on a coherent page. -/
def State.coreStore (s : State) (i : Nat) (x : Xlat) (r : MReq) : State :=
  let dpa := x.dpa r.va
  if x.coh then s.cohAccess (s.cluFor i) { r with alloc := 0 } dpa true
  else
    let lines := if dpaSpace dpa = 1 then [] else [dpa / 128, (dpa + r.len - 1) / 128].eraseDups
    let drop (s : State) (line : Nat) : State :=
      let c := s.core i
      let s1 := if (tabGet c.l1 line).isSome then (s.setCore i { c with l1 := tabDel c.l1 line }).countF (F.CORE_L1_DROP_COUNT i) 1 else s
      match tabGet (s1.cluster (s1.cluFor i)).lines line with
      | some l => if l.st = .ro then s1.cluDrop (s1.cluFor i) line else s1
      | none => s1
    let s1 := lines.foldl drop s
    match s1.routeStatus dpa with
    | some st => s1.streamAnswer r dpa st []
    | none =>
      let a := dpa / 32 * 32
      let n := (dpa + r.len + 31) / 32 * 32 - a
      let o := dpa - a
      let whole := dpa % 128 == 0 && r.len % 128 == 0 && r.mask == 2 ^ r.len - 1
      let t := s1.newTag r
      t.2.coreRequest i 0x11 3 t.1 a n 0 (List.replicate o 0 ++ r.data ++ List.replicate (n - o - r.len) 0) (!whole) (r.mask * 2 ^ o)

/-! Requests of I/O dies and P8 gateways -/

/-- A route from router a to a site, crossing to another die by `sel` (R148). -/
def moonletRoute (sel d dst lane exit : Nat) : Nat :=
  let a := stripAt 8 lane
  if siteDie dst = d then mkRoute ((5, lane) :: xyMove a.1 a.2 (siteRow dst) (siteCol dst)) exit
  else
    let j := Nat.xor d (siteDie dst)
    let p := if bit sel (j - 1) then 2 * j - 1 else 2 * j - 2
    let l := (a.1 + a.2) % 4
    let b := stripAt p l
    mkRoute ([(5, lane)] ++ xyMove a.1 a.2 b.1 b.2 ++ [(5, p)] ++ xyMove b.1 b.2 (siteRow dst) (siteCol dst)) exit

/-- A packet of an I/O die (128, 129), through its link to the destination's die, or of a P8 gateway (130 to 133), at its arrival router (R147, R148). -/
def State.extSend (s : State) (u part dst exit vc ty tag addr len aux : Nat) (d : List Byte) (masked : Bool) (mask : Nat) : State :=
  let lane := bits addr 7 2
  if u < 130 then
    let n := 12 + 2 * siteDie dst + (u - 128)
    let p : Packet := ⟨.ext n, synthRouteExt (u - 128) dst lane exit, 1, 0, false, vc, 2, masked, u - 128, ty, part, false, tag, addr, len, aux, d, mask⟩
    let id := s.nextPkt
    (s.inject p).toLink id n false lane p
  else
    let dd := u - 130
    let a := stripAt 8 lane
    s.inject ⟨.router (siteIdx dd a.1 a.2), moonletRoute (s.getF F.MNL_PORTSEL_SEL) dd dst lane exit, 1, 0, false, vc, 3, masked, 0, ty, part,
      false, tag, addr, len, aux, d, mask⟩

/-- A packet of any translating unit: a cluster controller (0 to 127), an I/O die or a P8 gateway. -/
def State.unitSend (s : State) (u part dst exit vc ty tag addr len aux : Nat) (d : List Byte) (masked : Bool) (mask : Nat) : State :=
  if u < 128 then s.cluSend u dst exit vc ty tag addr len aux d masked mask
  else s.extSend u part dst exit vc ty tag addr len aux d masked mask

/-- SRCKIND and SRC of a translating unit (R149, R241). -/
def unitSrc (u : Nat) : Nat × Nat := if u < 130 then (2, u - 128) else (3, 0)

/-- A piece of a job is answered: its data is kept, and the first failure (R166, R316); a translation fault is recorded. -/
def State.jobAnswer (s : State) (r : MReq) (dpa status : Nat) (d : List Byte) : State :=
  match r.org with
  | .job j pos skip take =>
    match tabGet s.host.jobs j with
    | none => s
    | some x =>
      let y := { x with
        waiting := x.waiting - 1
        got := if status = 0 && !r.wr then tabPut x.got pos ((d.drop skip).take take) else x.got
        err := if x.err.isSome || status = 0 then x.err else some status }
      let s1 := { s with host := { s.host with jobs := tabPut s.host.jobs j y } }
      if status = 0 then s1 else s1.xlRecord (some r.part) ⟨status, dpa⟩ r.wr (unitSrc x.unit).1 (unitSrc x.unit).2 r.va
  | _ => s

/-- A translated request of an I/O die or P8 gateway: to the home cluster of a coherent line, else to the halyard port (R223, R228, R316). -/
def State.unitGo (s : State) (u : Nat) (x : Xlat) (r : MReq) : State :=
  let dpa := x.dpa r.va
  match s.routeStatus dpa with
  | some st => s.jobAnswer r dpa st []
  | none =>
    let a := dpa / 32 * 32
    let n := (dpa + r.len + 31) / 32 * 32 - a
    let o := dpa - a
    let j := (dpaSite dpa).getD 0
    let dst := if x.coh then cluSite (homeCluster j) else j
    let exit := if x.coh then 2 else 1
    let t := s.newTag (r.skipped o)
    if r.wr then
      let whole := o == 0 && n == r.len && r.mask == 2 ^ r.len - 1
      t.2.unitSend u r.part dst exit 3 0x11 t.1 a n 0 (List.replicate o 0 ++ r.data ++ List.replicate (n - o - r.len) 0) (!whole) (r.mask * 2 ^ o)
    else t.2.unitSend u r.part dst exit 1 0x10 t.1 a n 0 [] false 0

/-! Reads without traffic of a page's bytes: ring entries, launch lists and programs -/

/-- Bytes of memory with every newer byte that a cluster cache or home holds (R224, R228): what a coherent read would return. -/
def State.coherentByte (s : State) (a : Nat) : Byte :=
  let line := a / 128
  let o := a % 128
  let base := BitVec.ofNat 8 (match dpaSite a with | some j => s.portByte j a | none => 0)
  match homeOf a with
  | none => base
  | some h =>
    let k := s.cluster h
    let rec? (b : Option (List Byte × Nat × Nat)) : Option Byte := match b with
      | some (d, m, _) => if bit m o then some (d.getD o 0) else none
      | none => none
    match rec? (tabGet k.dirty line) with
    | some b => b
    | none =>
      match tabGet k.dir line with
      | some e =>
        if e.owned then
          let y := s.cluster (e.ptrs.headD 0)
          match tabGet y.lines line with
          | some l => if (l.st = .m ∨ l.st = .p) ∧ bit l.mask o then l.deliver.getD o 0 else base
          | none => (rec? (tabGet y.wb line)).getD base
        else base
      | none => base

/-- Bytes of DRAM or of an expansion buffer at a DPA, or the status that reading them would give. -/
def State.peekDpa (s : State) (a n : Nat) : Except Nat (List Nat) :=
  match dpaSite a with
  | none => .error stHole
  | some j =>
    if s.towerOff j || s.hal j == halFailed then .error stColFail
    else if isHole a then .error stHole
    else if dpaSpace a = 2 then .ok ((s.port j).xbuf.deliver (dpaOff a) n)
    else if dpaSpace a ≠ 0 then .error stMalformed
    else if s.bankRetired j (dpaBank a) then .error stColFail
    else if s.dramBad a n then .error stUncorr
    else .ok ((List.range n).map (fun k => (s.coherentByte (a + k)).toNat))

/-- A read by the part itself at a DPA: the port counts its atoms as OWN or REMOTE, or its failing answer (R181, R193). -/
def State.readDpa (s : State) (own : Bool) (a n : Nat) : State × Except Nat (List Nat) :=
  match s.peekDpa a n, dpaSite a with
  | .ok d, some j =>
    if dpaSpace a ≠ 0 then (s, .ok d) else
    let k := (a % 32 + n + 31) / 32
    (((s.openRow j a).countF (if own then F.HYP_RD_OWN_COUNT j else F.HYP_RD_REM_COUNT j) k).countF (F.HYP_BUS_BUSY_COUNT j) k, .ok d)
  | .ok d, none => (s, .ok d)
  | .error st, some j => (if s.towerOff j then s else s.portErr j 0x10 a st, .error st)
  | .error st, none => (s, .error st)

/-- Pieces of a run of bytes within lines of 128: place and length. -/
def lineSplit : Nat → Nat → Nat → Nat → List (Nat × Nat)
  | 0, _, _, _ => []
  | f + 1, va, off, len =>
    if len = 0 then [] else
    let n := min len (128 - va % 128)
    (off, n) :: lineSplit f (va + n) (off + n) (len - n)

def pieces (va len : Nat) : List (Nat × Nat) := lineSplit (len / 128 + 2) va 0 len

/-- Bytes of a partition's virtual memory as an I/O die reads them, and whether every page is coherent. -/
def State.peek (s : State) (u p va len : Nat) : State × Except MemErr (List Nat × Bool) :=
  (pieces va len).foldl (fun (acc : State × Except MemErr (List Nat × Bool)) q =>
    match acc with
    | (s, .error e) => (s, .error e)
    | (s, .ok (l, coh)) =>
      match s.xlUnit u (some p) (va + q.1) false with
      | (s1, .error e) => (s1, .error e)
      | (s1, .ok x) =>
        match s1.readDpa false (x.dpa (va + q.1)) q.2 with
        | (s2, .error st) => (s2, .error ⟨st, x.dpa (va + q.1)⟩)
        | (s2, .ok d) => (s2, .ok (l ++ d, coh && x.coh))) (s, .ok ([], true))

end Sys2Proof.Machine
end

