-- ==== Sys2Proof/Machine/Cow.lean ====
section
/-! DEFINITION. Invalidation of translations, census operations, the free ring and copy on write (R231, R233 to R237, R241). -/
namespace Sys2Proof.Machine

/-! Translation invalidation (R231) -/

/-- A translation lies in an invalidation's range. -/
def Xinv.covers (v : Xinv) (x : Xlat) : Bool :=
  x.part == v.part && (v.all || (decide (x.va < v.va + v.pages * 65536) && decide (v.va < x.va + x.size)))

/-- No translation cache of the part holds a leaf of the range (R231). -/
def State.dropXlat (s : State) (v : Xinv) : State :=
  let keep (l : List Xlat) : List Xlat := l.filter (fun x => !v.covers x)
  { s with
    cores := s.cores.map (fun e => (e.1, { e.2 with tlb := keep e.2.tlb }))
    clusters := s.clusters.map (fun e => (e.1, { e.2 with tlb := keep e.2.tlb }))
    unitTlb := s.unitTlb.map (fun e => (e.1, keep e.2)) }

/-! The census (R233) -/

/-- The ordinal of a column in its partition (R233). -/
def State.colOrdinal (s : State) (p i : Nat) : Option Nat :=
  ((s.rowsOf p).findIdx? (· == siteGRow i)).map (fun k => 17 * k + siteCol i)

/-- PRT_CEN_BASE. -/
def State.cenBase (s : State) (p : Nat) : Nat := s.getF (F.PRT_CEN_BASE_LO_ADDR p) * 4096 + s.getF (F.PRT_CEN_BASE_HI_ADDR p) * 2 ^ 32

/-- DPA of the census entry of a page (R233). -/
def State.cenEntry (s : State) (p page : Nat) : Option Nat :=
  match dpaSite page with
  | none => none
  | some i => (s.colOrdinal p i).map (fun o => s.cenBase p + 4 * (o * 12288 + dpaDrow page))

/-! Copies on write (R236) -/

def State.setCow (s : State) (id : Nat) (c : Cow) : State := { s with cows := tabPut s.cows id c }
def State.dropCow (s : State) (id : Nat) : State := { s with cows := tabDel s.cows id }

/-- A request of the held write's own, by the unit's partition. -/
def cowReq (c : Cow) (id : Nat) : MReq := ⟨c.part, 0, 0, true, [], 0, 0, 0, false, .cow id⟩

/-- A census atomic of a unit on a page's entry (R226, R236); an entry that no home holds is answered as a hole. -/
def State.cowAtom (s : State) (id : Nat) (c : Cow) (page op v : Nat) : State :=
  match s.cenEntry c.part page with
  | none => s
  | some a =>
    match homeOf a with
    | none => s
    | some h =>
      let t := s.newTag (cowReq c id)
      t.2.unitSend c.unit c.part (cluSite h) 2 1 0x36 t.1 a 4 op (toBytes (leBytes 4 v)) false 0

/-- The held write is answered with a failure. -/
def State.cowFail (s : State) (c : Cow) (status : Nat) : State :=
  match c.req.org with
  | .stream _ _ _ _ _ _ => s.streamAnswer c.req c.old status []
  | _ => s.jobAnswer c.req c.old status []

/-- A write meets a leaf with COW = 1: it is held, and the unit locks the old page's census entry (step 1); a census that no column holds fails it at once. -/
def State.cowStart (s : State) (u : Nat) (x : Xlat) (r : MReq) : State :=
  let id := s.nextCow
  let c : Cow := ⟨u, x.part, r, pteAddr x.leaf, 0, 0, 0, x.leaf, .lock, s.now, none⟩
  let bad := match s.cenEntry c.part c.old with
    | none => some stHole
    | some a => s.routeStatus a
  match bad with
  | some st => s.cowFail c st
  | none => (({ s with nextCow := id + 1 } : State).setCow id c).cowAtom id c c.old 4 0

/-- A piece of a write job may go; it waits for the others (R166, R167). -/
def State.jobReady (s : State) (r : MReq) : State :=
  match r.org with
  | .job j _ _ _ =>
    match tabGet s.host.jobs j with
    | some x => { s with host := { s.host with jobs := tabPut s.host.jobs j { x with ready := x.ready ++ [r] } } }
    | none => s
  | _ => s

/-- Step 8: the held write is translated afresh, performed and acknowledged; a piece of a job goes with the job's other pieces. -/
def State.cowLeave (s : State) (id : Nat) (c : Cow) : State :=
  let s1 := s.dropCow id
  let v : Xinv := ⟨c.part, false, c.req.va / 65536 * 65536, 1, none⟩
  let keep (l : List Xlat) : List Xlat := l.filter (fun x => !v.covers x)
  match c.req.org with
  | .stream i _ _ _ _ _ =>
    let k := s1.core i
    let s2 := s1.setCore i { k with tlb := keep k.tlb }
    let cl := s2.cluster c.unit
    match (s2.setCluster c.unit { cl with tlb := keep cl.tlb }).xlCore i c.req.va true with
    | (s3, .error e) => s3.streamAnswer c.req e.at_ e.status []
    | (s3, .ok x) => if pteCow x.leaf then s3.cowStart c.unit x c.req else s3.coreStore i x c.req
  | _ =>
    let s2 := { s1 with unitTlb := tabPut s1.unitTlb c.unit (keep ((tabGet s1.unitTlb c.unit).getD [])) }
    match s2.xlUnit c.unit (some c.part) c.req.va true with
    | (s3, .error e) => s3.jobAnswer c.req e.at_ e.status []
    | (s3, .ok x) => if pteCow x.leaf then s3.cowStart c.unit x c.req else s3.jobReady c.req

/-- UNLOCK is sent, and the held write fails. -/
def State.cowGiveUp (s : State) (id : Nat) (c : Cow) (status : Nat) : State :=
  ((s.cowAtom id c c.old 6 0).dropCow id).cowFail c status

/-- The leaf is rewritten (steps 3 and 6). -/
def State.cowLeafPut (s : State) (c : Cow) (leaf : Nat) : State := s.dramPut (addrsFrom c.leafAt (toBytes (leBytes 8 leaf)))

/-! The free ring (R235) -/

/-- An entry of the ring is a page that the part may take. -/
def State.freeOk (s : State) (p e : Nat) : Bool :=
  e % 65536 == 0 && dpaSpace e == 0 && !isHole e && s.partOfDpa e == some p &&
  match s.cenEntry p e with
  | none => false
  | some a => match s.peekDpa a 4 with
    | .ok d => leNat d == 0
    | .error _ => false

/-- HEAD advances past an entry; TAIL − HEAD falling below PRT_FREE_LOW raises FREE_LOW. -/
def State.freeAdvance (s : State) (p : Nat) : State :=
  let left (s : State) : Nat := (s.getF (F.PRT_FREE_TAIL_COUNT p) + 2 ^ 32 - s.getF (F.PRT_FREE_HEAD_COUNT p)) % 2 ^ 32
  let s1 := s.wrapF (F.PRT_FREE_HEAD_COUNT p) 1
  let low := s.getF (F.PRT_FREE_LOW_LOW p)
  if low ≤ left s && left s1 < low then s1.raiseBit (pgPrt p) 8 else s1

/-- The next free page, bad entries skipped and counted; none where the ring is empty. `n` bounds the entries announced. -/
def State.freeTake (p : Nat) : Nat → State → State × Option Nat
  | 0, s => (s, none)
  | n + 1, s =>
    if s.getF (F.PRT_FREE_TAIL_COUNT p) = s.getF (F.PRT_FREE_HEAD_COUNT p) then (s, none)
    else
      let base := s.getF (F.PRT_FREE_BASE_LO_ADDR p) * 8 + s.getF (F.PRT_FREE_BASE_HI_ADDR p) * 2 ^ 32
      let k := s.getF (F.PRT_FREE_HEAD_COUNT p) % 2 ^ s.getF (F.PRT_FREE_SIZE_LOG2 p)
      let e := match s.peekDpa (base + 8 * k) 8 with
        | .ok d => leNat d
        | .error _ => 1
      let s1 := s.freeAdvance p
      if s.freeOk p e then (s1, some e) else State.freeTake p n (s1.countF (F.PRT_FREE_BAD_COUNT p) 1)

/-- Step 4: a free page is taken and copied into, or the unit waits for one. -/
def State.cowFree (s : State) (id : Nat) (c : Cow) : State :=
  let n := (s.getF (F.PRT_FREE_TAIL_COUNT c.part) + 2 ^ 32 - s.getF (F.PRT_FREE_HEAD_COUNT c.part)) % 2 ^ 32
  match State.freeTake c.part n s with
  | (s1, some f) =>
    let c1 := { c with fresh := f, step := .copy }
    let t := (s1.setCow id c1).newTag (cowReq c id)
    match dpaSite f with
    | none => s1
    | some j => t.2.unitSend c.unit c.part j 1 1 0x14 t.1 f 8 0 (toBytes (leBytes 8 c.old)) false 0
  | (s1, none) =>
    let s2 := s1.raiseBit (pgPrt c.part) 9
    if s2.getF (F.PRT_FREE_LOW_WAIT_US c.part) = 0 then s2.cowGiveUp id c (0x100 + kNoFree + 16 * 3)
    else s2.setCow id { c with step := .freePage, since := s2.now }

/-- The answer to LOCK, SET or HCOPY of a copy on write (R236, R237). -/
def State.cowAnswer (s : State) (id status : Nat) (d : List Byte) : State :=
  match tabGet s.cows id with
  | none => s
  | some c =>
    match c.step with
    | .lock =>
      if status ≠ 0 then (s.dropCow id).cowFail c status
      else
        let refs := cenRefs (leNat (d.map BitVec.toNat))
        match s.walk c.part c.req.va with
        | (s1, .error _) => (s1.cowAtom id c c.old 6 0).cowLeave id c
        | (s1, .ok (at_, leaf, _)) =>
          let c := { c with refs := refs, leafAt := at_, leaf := leaf }
          if !pteCow leaf || pteAddr leaf ≠ c.old then (s1.cowAtom id c c.old 6 0).cowLeave id c
          else if refs = 1 then
            ((((s1.cowLeafPut c (leaf - 16)).cowAtom id c c.old 6 0).countF (F.PRT_COW_SOLE_COUNT c.part) 1)).cowLeave id c
          else s1.cowFree id c
    | .copy =>
      if status ≠ 0 then
        let s1 := (s.setF (F.PRT_COW_FAIL_LO_ADDR c.part) (bits c.fresh 16 16)).setF (F.PRT_COW_FAIL_HI_ADDR c.part) (bits c.fresh 32 13)
        (s1.raiseBit (pgPrt c.part) 13).cowGiveUp id c status
      else
        let c1 := { c with step := .set }
        (s.setCow id c1).cowAtom id c1 c.fresh 3 1
    | .set =>
      if status ≠ 0 then s.cowGiveUp id c status
      else
        let leaf := setBits (setBits c.leaf 8 37 (c.fresh / 256)) 4 1 0
        let s1 := ((s.cowLeafPut c leaf).cowAtom id c c.old 5 0).countF (F.PRT_COW_COPIES_COUNT c.part) 1
        let c1 := { c with step := .shoot }
        let s2 := s1.setCow id c1
        { s2 with xinvs := s2.xinvs ++ [⟨c.part, false, c.req.va / 65536 * 65536, 1, some id⟩] }
    | _ => s

/-! Jobs of hosts, the moonlet and queue engines -/

/-- An access through an I/O die or P8 gateway: every piece is translated first, and where one fails nothing of it is done; the pieces of a write wait for each other (R166, R316). -/
def State.startJob (s : State) (kind : JobKind) (u : Nat) (part : Option Nat) (wr : Bool) (va len : Nat) (d : List Byte) (mask : Nat) : State :=
  let j := s.host.nextJob
  let ps := pieces va len
  let req (q : Nat × Nat) : MReq :=
    ⟨part.getD 0, va + q.1, q.2, wr, (d.drop q.1).take q.2, mask / 2 ^ q.1 % 2 ^ q.2, 0, 0, false, .job j q.1 0 q.2⟩
  let mk (s : State) (n : Nat) : State :=
    { s with host := { s.host with nextJob := j + 1, jobs := tabPut s.host.jobs j ⟨kind, u, wr, len, n, [], none, [], !wr⟩ } }
  let r := ps.foldl (fun (acc : State × Except (MReq × MemErr) (List (MReq × Xlat))) q =>
    match acc with
    | (s, .error e) => (s, .error e)
    | (s, .ok l) =>
      match s.xlUnit u part (va + q.1) wr with
      | (s1, .error e) => (s1, .error (req q, e))
      | (s1, .ok x) => (s1, .ok (l ++ [(req q, x)]))) (s, .ok [])
  match r with
  | (s1, .error (q, e)) => (mk s1 1).jobAnswer q e.at_ e.status []
  | (s1, .ok l) =>
    l.foldl (fun s e => if !wr then s.unitGo u e.2 e.1 else if pteCow e.2.leaf then s.cowStart u e.2 e.1 else s.jobReady e.1) (mk s1 l.length)

/-- The answer that a write's piece would get at once at its end: from the route unit, or at a port that serves no such write (R178, R181, R387). -/
def State.refusedAt (s : State) (x : Xlat) (va : Nat) : Option Nat :=
  let a := x.dpa va
  match s.routeStatus a, dpaSite a with
  | some st, _ => some st
  | none, some j =>
    if x.coh then none
    else if s.hal j = halFailed then some stColFail
    else if isHole a then some stHole
    else if dpaSpace a = 1 then some stMalformed
    else if dpaSpace a = 0 && s.bankRetired j (dpaBank a) then some stColFail else none
  | none, none => some stHole

/-- Writes of one moonlet link go in order of arrival (R167): no earlier one has pieces that have yet to go. -/
def State.jobFirst (s : State) (j : Nat) (x : MemJob) : Bool :=
  match x.kind with
  | .moonlet link _ _ _ => s.host.jobs.all (fun e => decide (j ≤ e.1) || !e.2.wr || e.2.waiting == 0 || e.2.sent ||
      (match e.2.kind with | .moonlet l _ _ _ => l != link | _ => true))
  | _ => true

/-- The pieces of a write job go once every one may: all of them, or none where one has failed or would be refused (R166). -/
def State.jobRelease (s : State) (j : Nat) : State :=
  match tabGet s.host.jobs j with
  | none => s
  | some x =>
    if x.ready.isEmpty || x.ready.length ≠ x.waiting || !s.jobFirst j x then s
    else
      let put (s : State) (x : MemJob) : State := { s with host := { s.host with jobs := tabPut s.host.jobs j x } }
      if x.err.isSome then put s { x with waiting := 0, ready := [] }
      else
        let r := x.ready.foldl (fun (acc : State × Except (MReq × MemErr) (List (MReq × Xlat))) q =>
          match acc with
          | (s, .error e) => (s, .error e)
          | (s, .ok l) =>
            match s.xlUnit x.unit (some q.part) q.va true with
            | (s1, .error e) => (s1, .error (q, e))
            | (s1, .ok t) =>
              match s1.refusedAt t q.va with
              | some st => (match dpaSite (t.dpa q.va) with
                  | some i => if s1.towerOff i then s1 else s1.portErr i 0x11 (t.dpa q.va) st
                  | none => s1, .error (q, ⟨st, t.dpa q.va⟩))
              | none => (s1, .ok (l ++ [(q, t)]))) (s, .ok [])
        match r with
        | (s1, .error (q, e)) => (put s1 { x with waiting := 1, ready := [] }).jobAnswer q e.at_ e.status []
        | (s1, .ok l) => l.foldl (fun s e => s.unitGo x.unit e.2 e.1) (put s1 { x with ready := [], sent := true })

end Sys2Proof.Machine
end

