-- ==== Sys2Proof/Machine/Streams.lean ====
section
/-! DEFINITION. The stream engine (R78, R83 to R88, R126 to R130). -/
namespace Sys2Proof.Machine

/-! Descriptors (R127, R128) -/

/-- A 32-bit two's complement stride. -/
def stride32 (v : Nat) : Int := if 2 ^ 31 ≤ v then (v : Int) - 2 ^ 32 else v

/-- Element width of a side of a stream. -/
def elemW (e : Elem) : Nat := e.width

/-- Source and destination element widths of a conversion word; bytes where the pair is reserved. -/
def convWidths (w : Nat) : Nat × Nat :=
  match pairOf (cwPair w) with
  | some (a, b) => (a.width, b.width)
  | none => (8, 8)

def srcIsT4B (w : Nat) : Bool := match pairOf (cwPair w) with | some (.t4b, _) => true | _ => false
def dstIsT4B (w : Nat) : Bool := match pairOf (cwPair w) with | some (_, .t4b) => true | _ => false
/-- Bytes of group records that a row takes from META (R81). -/
def recRow (w cnt0 : Nat) : Nat :=
  match pairOf (cwPair w) with
  | some (e, _) => if pairIsInt (cwPair w) then cnt0 / cwGroup w * recBytes e else 0
  | none => 0

/-- The fields of a descriptor's bytes, with the scalar registers added: MADDR in bytes, LADDR as a byte address. -/
def descOf (b : List Nat) (sb sl : Nat) : StDesc :=
  let f (o n : Nat) : Nat := leNat ((b.drop o).take n)
  let fl := f 0xC 4
  { maddr := (f 0 8 + sb) % 2 ^ 64
    laddr := 64 * (f 8 2 % 2 ^ 15 + sl)
    conv := f 0xA 2
    path := bits fl 0 2
    alloc := bits fl 2 2
    pfd := bits fl 4 3
    rsig := bit fl 7
    rroute := bits fl 8 8
    rtally := bits fl 16 6
    cnt := [f 0x10 4, f 0x14 2, f 0x16 2, f 0x18 2]
    mstr := [stride32 (f 0x1C 4), stride32 (f 0x20 4), stride32 (f 0x24 4)]
    lstr := [f 0x28 4, f 0x2C 4, f 0x30 4]
    meta_ := f 0x38 8 }

def StDesc.n (d : StDesc) (k : Nat) : Nat := d.cnt.getD k 0
/-- Rows: the three outer axes. -/
def StDesc.rows (d : StDesc) : Nat := d.n 1 * d.n 2 * d.n 3
/-- Indices of row r on axes 1 to 3, axis 1 fastest. -/
def StDesc.at_ (d : StDesc) (r : Nat) : List Nat := [r % d.n 1, r / d.n 1 % d.n 2, r / (d.n 1 * d.n 2)]
/-- First memory byte of row r, modulo 2^64. -/
def StDesc.mrow (d : StDesc) (r : Nat) : Nat :=
  (((d.maddr : Int) + (((d.at_ r).zip d.mstr).foldl (fun (a : Int) (x : Nat × Int) => a + x.1 * x.2) 0)) % 2 ^ 64).toNat
/-- First scratchpad byte of row r. -/
def StDesc.lrow (d : StDesc) (r : Nat) : Nat := d.laddr + ((d.at_ r).zip d.lstr).foldl (fun a x => a + x.1 * x.2) 0
/-- Bytes of a row on the source and on the destination side. -/
def StDesc.srcRow (d : StDesc) : Nat := elemBytes (convWidths d.conv).1 (d.n 0)
def StDesc.dstRow (d : StDesc) : Nat := elemBytes (convWidths d.conv).2 (d.n 0)
/-- Scale bytes of a T4B row. -/
def StDesc.scaleRow (d : StDesc) : Nat := d.n 0 / 16

/-- The scratchpad side of a stream: bytes of a row, and whether it has a T4B scale plane. -/
def StDesc.lside (d : StDesc) (load : Bool) : Nat × Bool :=
  if load then (d.dstRow, dstIsT4B d.conv) else (d.srcRow, srcIsT4B d.conv)
/-- The memory side. -/
def StDesc.mside (d : StDesc) (load : Bool) : Nat × Bool :=
  if load then (d.srcRow, srcIsT4B d.conv) else (d.dstRow, dstIsT4B d.conv)

/-- End of the last scratchpad row. -/
def StDesc.lend (d : StDesc) (load : Bool) : Nat :=
  d.laddr + ((d.cnt.drop 1).zip d.lstr).foldl (fun a x => a + (x.1 - 1) * x.2) 0 + (d.lside load).1
/-- First byte of the scratchpad's T4B scale plane: the next 64-byte boundary (DESIGN CHOICE). -/
def StDesc.lplane (d : StDesc) (load : Bool) : Nat := (d.lend load + 63) / 64 * 64

/-- The first failing field of a descriptor, numbered from 1 in the order of R127: MADDR 1, LADDR 2, CONV 3, FLAGS 4, CNT0 to CNT3 5 to 8 (with 0x1A), MSTR1 to MSTR3 9 to 11, LSTR1 to LSTR3 12 to 14 (with 0x34), META 15; none where R128 refuses nothing. -/
def StDesc.illegal (d : StDesc) (b : List Nat) (load scratch : Bool) (top : Nat) : Option Nat :=
  let f (o n : Nat) : Nat := leNat ((b.drop o).take n)
  let fl := f 0xC 4
  let last := if (d.lside load).2 then d.lplane load + d.rows * d.scaleRow else d.lend load
  let lbad (k : Nat) : Bool := decide (2 ^ 24 ≤ d.lstr.getD k 0) || (scratch && d.lstr.getD k 0 % 4 != 0 && decide (1 < d.n (k + 1)))
  if bit (f 8 2) 15 || (scratch && decide (top < last)) then some 2
  else if bits fl 0 2 = 3 || 6 ≤ bits fl 4 3 || bits fl 22 10 ≠ 0 then some 4
  else if d.n 0 = 0 || 2 ^ 24 ≤ d.n 0 then some 5
  else if d.n 1 = 0 then some 6
  else if d.n 2 = 0 then some 7
  else if d.n 3 = 0 || f 0x1A 2 ≠ 0 then some 8
  else if lbad 0 then some 12
  else if lbad 1 then some 13
  else if lbad 2 || f 0x34 4 ≠ 0 then some 14
  else none

/-! Runs of bytes -/

/-- The rows of the memory side as runs to request. -/
def StDesc.mruns (d : StDesc) (load : Bool) : List Piece :=
  let n := (d.mside load).1
  (List.range d.rows).map (fun r => ⟨0, r * n, d.mrow r, n⟩)

/-- The second plane in memory: T4B scales or group records, contiguous from META. R88 reads a record as one atom; where META places records across atoms, which no rule refuses, such a record takes two requests (DESIGN CHOICE, log entry 168). -/
def StDesc.auxRuns (d : StDesc) (load : Bool) : List Piece :=
  let n := if (d.mside load).2 then d.scaleRow else recRow d.conv (d.n 0)
  if n = 0 then [] else [⟨1, 0, d.meta_, d.rows * n⟩]

/-- Pieces of a plane joined in order of their places. -/
def joined (l : Tab (List Byte)) : List Nat := (l.flatMap (fun e => e.2)).map BitVec.toNat

/-- The draw of element e of a stream (R78). -/
def CoreStream.draw (x : CoreStream) (e : Nat) : Nat := srDrawAt x.srBase (x.srFrom + e)

/-- Place of row r among the rows in ascending destination order, rows of one address in descriptor order (R78). -/
def StDesc.rank (d : StDesc) (load : Bool) (r : Nat) : Nat :=
  let at' (r : Nat) : Nat := if load then d.lrow r else d.mrow r
  ((List.range d.rows).filter (fun q => decide (at' q < at' r) || (at' q == at' r && decide (q < r)))).length

/-- Conversion of every row: element bytes, second-plane bytes, flags (R83). -/
def CoreStream.convert (x : CoreStream) (src aux : List Nat) : List Nat × List Nat × FpFlags :=
  let d := x.desc
  let m := d.n 0
  let an := if srcIsT4B d.conv then d.scaleRow else recRow d.conv m
  let rs := (List.range d.rows).map (fun r =>
    convertElems d.conv m ((src.drop (r * d.srcRow)).take d.srcRow) ((aux.drop (r * an)).take an) (fun e => x.draw (d.rank (x.op != 2) r * m + e)))
  (rs.flatMap (fun r => r.1), rs.flatMap (fun r => r.2.1), orFlags (rs.map (fun r => r.2.2)))

/-- The writes of a store, formed from its source bytes. -/
def CoreStream.form (x : CoreStream) : CoreStream :=
  let r := x.convert x.src (if srcIsT4B x.desc.conv then x.srcAux else joined x.gotAux)
  let todo := x.desc.mruns false ++ (if dstIsT4B x.desc.conv then [⟨1, 0, x.desc.meta_, x.desc.rows * x.desc.scaleRow⟩] else [])
  { x with dst := r.1, dstAux := r.2.1, flags := r.2.2, writing := true, todo := todo }

/-! Requests -/

/-- Bytes of a run that one request takes, from its address (R181, R218). -/
def chunk (va len unit : Nat) : Nat := min len (unit - va % unit)

/-- The bytes of a store from a place of a plane. -/
def CoreStream.bytes (x : CoreStream) (plane pos n : Nat) : List Byte :=
  toBytes (((if plane = 0 then x.dst else x.dstAux).drop pos).take n)

/-- The stream's next request, where its prefetch depth allows one (R130); false where it does not, or the stream has none. -/
def State.pumpOne (s : State) (i sid : Nat) : State × Bool :=
  match s.streamOf i sid with
  | none => (s, false)
  | some x =>
    match x.todo with
    | [] =>
      if x.op = 2 && !x.writing && x.waiting == 0 then (s.setStream i x.form, true) else (s, false)
    | p :: rest =>
      let wr := x.writing
      if !wr && decide (0 < x.out) && decide (2048 * 2 ^ x.desc.pfd < x.out + min p.len 256) then (s, false)
      else
        match s.xlCore i p.va wr with
        | (s1, .error e) => ((s1.failStream i sid).coreMemFault i e wr p.va, false)
        | (s1, .ok t) =>
          let dpa := t.dpa p.va
          if x.desc.path = 1 && !t.coh && dpaSite dpa != some i then ((s1.failStream i sid).progFault i causeSt 1, false)
          else
            let whole := dpaSpace dpa == 1 && !wr && x.desc.alloc == 0
            let n := if whole then p.len
              else chunk p.va p.len (if t.coh || (!wr && x.desc.alloc != 0) then 128 else 256)
            let todo := if n = p.len then rest else ⟨p.plane, p.pos + n, (p.va + n) % 2 ^ 64, p.len - n⟩ :: rest
            let r : MReq := ⟨t.part, p.va, n, wr, if wr then x.bytes p.plane p.pos n else [], 2 ^ n - 1, x.desc.alloc, x.desc.path,
              x.op == 3, .stream i sid p.plane p.pos 0 n⟩
            let s2 := s1.setStream i { x with todo := todo, waiting := x.waiting + 1, out := x.out + n }
            (if wr then (if pteCow t.leaf then s2.cowStart (s2.cluFor i) t r else s2.coreStore i t r) else s2.coreLoad i t r, true)

/-- Requests go out until the stream may send no more; `n` bounds them. -/
def pumpStream (i sid : Nat) : Nat → State → State
  | 0, s => s
  | n + 1, s =>
    match s.pumpOne i sid with
    | (s1, true) => pumpStream i sid n s1
    | (s1, false) => s1

/-- A bound on the requests that a stream may still send. -/
def CoreStream.bound (x : CoreStream) : Nat :=
  x.todo.foldl (fun a p => a + p.len / 128 + 3) 0 +
  (if x.op = 2 && !x.writing then x.desc.rows * (x.desc.dstRow / 128 + 3) + x.desc.rows * x.desc.scaleRow / 128 + 4 else 0)

/-- The running streams of a core, at most 16, send what they may (R129). -/
def State.pumpCore (s : State) (i : Nat) : State :=
  ((s.core i).streams.take 16).foldl (fun s x => if x.op = 4 then s else pumpStream i x.sid x.bound s) s

/-- Every core's streams go on. -/
def State.pumpAll (s : State) : State :=
  (s.cores.filter (fun e => !e.2.streams.isEmpty)).foldl (fun s e => s.pumpCore e.1) s

/-! Issue (R126 to R128) -/

/-- Reserved bits of an ST word are zero. -/
def stWordOk (w : Word64) : Bool := onlyBits w 56 [(41, 15), (37, 4), (33, 4), (6, 1), (0, 6)]

/-- PATH 1 with a memory side that leaves the own column: each piece is translated, and nothing of that stays where the stream is refused (R128). -/
def State.leavesColumn (s : State) (i : Nat) (d : StDesc) (load : Bool) : Bool :=
  d.path == 1 && (d.mruns load).any (fun p => (pieces p.va p.len).any (fun q =>
    match (s.xlCore i ((p.va + q.1) % 2 ^ 64) (!load)).2 with
    | .ok t => !t.coh && dpaSite (t.dpa ((p.va + q.1) % 2 ^ 64)) != some i
    | .error _ => false))

/-- A stream enters the stream engine: stochastic counters taken, source bytes of a store read. -/
def State.stEnter (s : State) (i : Nat) (w : Word64) (op : Nat) (d : StDesc) : State :=
  let sr := convUsesSr d.conv
  let n0 := s.getF (F.CORE_SR_N_N i)
  let s1 := if sr then s.setF (F.CORE_SR_N_N i) ((n0 + d.n 0 * d.rows) % 2 ^ 32) else s
  let base := srBaseOf (s.getF (F.CORE_VOY_SEED_SEED i)) (s.getF (F.CORE_VOY_LCORE_LCORE i)) (s.getF (F.CORE_PROG_K_K i))
  let src := if op = 2 then (List.range d.rows).flatMap (fun r => s1.lsData i (d.lrow r) d.srcRow) else []
  let aux := if op = 2 && srcIsT4B d.conv then s1.lsData i (d.lplane false) (d.rows * d.scaleRow) else []
  let s2 := if op = 2 then
      let s2 := (List.range d.rows).foldl (fun s r => s.lsNote i (d.lrow r) d.srcRow) s1
      if srcIsT4B d.conv then s2.lsNote i (d.lplane false) (d.rows * d.scaleRow) else s2
    else s1
  let c := s2.core i
  let x : CoreStream := ⟨c.nextStream, op, bit w.toNat 6, bits w.toNat 0 6, d, n0, base,
    if op = 2 then d.auxRuns false |>.filter (fun _ => pairIsInt (cwPair d.conv)) else d.mruns true ++ d.auxRuns true,
    0, 0, [], [], src, aux, [], [], false, {}⟩
  let x := if op = 2 && x.todo.isEmpty then x.form else x
  (s2.setCore i { c with streams := c.streams ++ [x], nextStream := c.nextStream + 1 }).pumpCore i

/-- STLD, STST and STPF at issue (R114, R126 to R128). -/
def stIssue (i : Nat) (w : Word64) (s : State) (op : Nat) : Out :=
  if !(s.issueOk i w && wClass w == 3 && wOp w == op) then .next s
  else
    let a := 64 * bits w.toNat 41 15
    let top := s.scratchBytes i
    if !stWordOk w || decide (top < a + 64) then .next (s.progFault i causeSt 0)
    else
      let b := s.lsData i a 64
      let s0 := s.lsNote i a 64
      if (s0.core i).fault.isSome then .next s0 else
      let d := descOf b (s.scalar i (bits w.toNat 37 4)).toNat (s.scalar i (bits w.toNat 33 4)).toNat
      match if s0.leavesColumn i d (op != 2) then some 1 else d.illegal b (op != 2) (op != 3) top with
      | some f => .next (s0.progFault i causeSt f)
      | none =>
        match convRefusal d.conv (d.n 0) with
        | some k => .next (s0.progFault i causeConv (d.conv + 2 ^ 16 * k))
        | none =>
          .next ((s0.stEnter i w op d).nextPc i)

/-- STLD (R126). -/
def execStld (i : Nat) (w : Word64) (s : State) : Out := stIssue i w s 1
/-- STST (R126). -/
def execStst (i : Nat) (w : Word64) (s : State) : Out := stIssue i w s 2
/-- STPF (R126). -/
def execStpf (i : Nat) (w : Word64) (s : State) : Out := stIssue i w s 3

/-- STMARK (R126): every field but TALLY is reserved. A waiting mark takes a place in the order of streams, so it holds one of the 16 running places or of the 16 queue entries (DESIGN CHOICE, log entry 169). -/
def execStmark (i : Nat) (w : Word64) (s : State) : Out :=
  issue s i w 3 (wOp w == 4) (onlyBits w 56 [(0, 6)]) causeSt (fun s =>
    let c := s.core i
    let x : CoreStream := ⟨c.nextStream, 4, true, bits w.toNat 0 6, ⟨0, 0, 0, 0, 0, 0, false, 0, 0, [], [], [], 0⟩, 0, 0, [], 0, 0, [], [], [], [], [], [], false, {}⟩
    (s.setCore i { c with streams := c.streams ++ [x], nextStream := c.nextStream + 1 }).nextPc i)

/-- STMARK_DONE: every earlier stream has completed (R126, R117). -/
def execStmarkDone (i : Nat) (s : State) : Out :=
  match (s.core i).streams with
  | x :: t => if x.op = 4 then .next (((s.setCore i { s.core i with streams := t }).tallyAdd i x.tally 1).pumpCore i) else .next s
  | [] => .next s

/-! Completion (R89, R118, R129) -/

/-- The scratchpad bytes of a load: rows at their addresses, the scale plane after them. -/
def State.stLand (s : State) (i : Nat) (x : CoreStream) (d aux : List Nat) : State :=
  let n := x.desc.dstRow
  let s1 := (List.range x.desc.rows).foldl (fun s r => s.lsPut i (x.desc.lrow r) (toBytes ((d.drop (r * n)).take n))) s
  if dstIsT4B x.desc.conv then s1.lsPut i (x.desc.lplane true) (toBytes aux) else s1

/-- STREAM_COMPLETE: a load's bytes are in the scratchpad, a store's writes acknowledged, an STPF's lines allocated; flags, tally and remote signal follow. -/
def execStreamComplete (i sid : Nat) (s : State) : Out :=
  match s.streamOf i sid with
  | none => .next s
  | some x =>
    if x.op = 4 || !x.todo.isEmpty || x.waiting != 0 || (x.op == 2 && !x.writing) then .next s
    else
      let s1 := s.killStream i sid
      let s2 := if x.op = 1 then
          let r := x.convert (joined x.got) (joined x.gotAux)
          (s1.stLand i x r.1 r.2.1).addFlags i r.2.2
        else if x.op = 2 then s1.addFlags i x.flags else s1
      let s3 := s2.countF (F.CORE_ST_DONE_COUNT i) 1
      let s4 := if x.ten then s3.tallyAdd i x.tally 1 else s3
      let s5 := if x.desc.rsig then s4.signal i x.desc.rroute x.desc.rtally 1 else s4
      .next (s5.pumpCore i)

end Sys2Proof.Machine
end

