-- ==== Sys2Proof/Machine/Transcend.lean ====
section
/-! DEFINITION. The transcendentals of the vector engine (R125): exact rational references, the accuracy bounds, and the free function within them. -/
namespace Sys2Proof.Machine

/-- Fixed-point unit of the references: 2^320. -/
def fxOne : Nat := 2 ^ 320
/-- ln 2 in units of 2^-320. -/
def fxLn2 : Nat := 0xb17217f7d1cf79abc9e3b39803f2f6af40f343267298b62d8a0d175b8baafa2be7b876206debac98

/-- Sum of y^k / k! for k = 1 to n, y in fixed point below 1. -/
def fxExpm1Small (y : Nat) : Nat → Nat → Nat → Nat
  | 0, _, _ => 0
  | n + 1, k, term =>
    let t := term * y / fxOne / k
    t + fxExpm1Small y n (k + 1) t

/-- e^(2y) - 1 from e^y - 1. -/
def fxDouble (v : Nat) : Nat → Nat
  | 0 => v
  | n + 1 => fxDouble (v * (v + 2 * fxOne) / fxOne) n

/-- e^y - 1 in fixed point. -/
def fxExpm1 (y : Nat) : Nat := fxDouble (fxExpm1Small (y / 2 ^ 7) 70 1 fxOne) 7

/-- Sum of z^(2j+1) / (2j+1). -/
def fxAtanh (z2 : Nat) : Nat → Nat → Nat → Nat
  | 0, _, _ => 0
  | n + 1, j, p => p / (2 * j + 1) + fxAtanh z2 n (j + 1) (p * z2 / fxOne)

/-- A reference result: sign, and the magnitude n/d × 2^e. -/
structure Ref where
  neg : Bool
  n : Nat
  d : Nat
  e : Int

/-- 2^x for finite x = (-1)^s × m × 2^e with |x| below 2^12. -/
def refExp2 (s : Bool) (m : Nat) (e : Int) : Ref :=
  let fx := m * 2 ^ (e + 320).toNat / 2 ^ (-(e + 320)).toNat
  let k : Int := if s then -((fx + fxOne - 1) / fxOne : Nat) else (fx / fxOne : Nat)
  let f := ((if s then -(fx : Int) else fx) - k * fxOne).toNat
  ⟨false, fxOne + fxExpm1 (f * fxLn2 / fxOne), fxOne, k⟩

/-- log2 of m × 2^e, m above 0. -/
def refLog2 (m : Nat) (e : Int) : Ref :=
  let k := Nat.log2 m
  let z := (m - 2 ^ k) * fxOne / (m + 2 ^ k)
  let l := 2 * fxAtanh (z * z / fxOne) 110 0 z * fxOne / fxLn2
  let v : Int := ((k : Int) + e) * fxOne + l
  ⟨decide (v < 0), v.natAbs, fxOne, 0⟩

/-- 1/x. -/
def refRcp (s : Bool) (m : Nat) (e : Int) : Ref := ⟨s, 1, m, -e⟩

/-- Square root of n × 2^(2h) with the root's low bit made sticky. -/
def rootSticky (n : Nat) : Nat :=
  let r := Nat.sqrt n
  2 * r + (if r * r = n then 0 else 1)

/-- √(m × 2^e) for m above 0, enough bits to round once. -/
def refSqrt (m : Nat) (e : Int) : Ref :=
  let m' := if e % 2 = 0 then m else 2 * m
  let e' := if e % 2 = 0 then e else e - 1
  ⟨false, rootSticky (m' * 2 ^ 128), 1, e' / 2 - 65⟩

/-- 1/√(m × 2^e). -/
def refRsq (m : Nat) (e : Int) : Ref :=
  let r := refSqrt m e
  ⟨false, 2 ^ 320, r.n * 2 ^ 64, -r.e - 256⟩

/-- tanh of (-1)^s × m × 2^e. -/
def refTanh (s : Bool) (m : Nat) (e : Int) : Ref :=
  if !leMag m e 20 0 then ⟨s, 1, 1, 0⟩
  else
    let y := 2 * m * 2 ^ (e + 320).toNat / 2 ^ (-(e + 320)).toNat
    let v := fxExpm1 y
    ⟨s, v, v + 2 * fxOne, 0⟩

/-- A finite candidate within `bound` units in the last place of the reference, or within 2^-24 where `small` holds (R125). -/
def withinUlp (strict : Bool) (r : Ref) (bound : Nat) (small : Bool) (code : Nat) : Bool :=
  if isSubnormal .binary32 code && !strict then false else
  if code ≥ 2 ^ 32 then false else
  match decodeFp .binary32 code with
  | .fin s m e =>
    let rn := scaleNum r.n r.e
    let rd := scaleDen r.d r.e
    let q : Int := max (ratExp rn rd - 23) (-149)
    let k := min e (min q (-24))
    let c : Int := (m * rd * 2 ^ (e - k).toNat : Nat)
    let x : Int := (rn * 2 ^ (-k).toNat : Nat)
    let diff := ((if s = r.neg then c else -c) - x).natAbs
    decide (diff ≤ bound * rd * 2 ^ (q - k).toNat) || (small && decide (diff ≤ rd * 2 ^ (-24 - k).toNat))
  | _ => false

/-- A finite transcendental result: the published function where it lies within the bound, and the correctly rounded result where it does not, overflows or is flushed. -/
def boundedResult (op : Nat) (strict : Bool) (mode : Rnd) (x bound : Nat) (small : Bool) (r : Ref) : Nat × FpFlags :=
  let c0 := packRat .binary32 strict .arith mode r.neg r.n r.d r.e
  let c := Config.transcendental op strict x
  if c0.2.ovf || c0.2.unf || r.n = 0 then c0
  else if withinUlp strict r bound small c then (c, {}) else c0

/-- A transcendental of one lane (R125): special operands as IEEE 754-2019 has them, the flush rule of R71 outside strict mode. -/
def transcend (op : Nat) (strict : Bool) (mode : Rnd) (x : Nat) : Nat × FpFlags :=
  let r := readFp .binary32 strict x
  let nan := Fmt.nanCode .binary32
  let inf := Fmt.infCode .binary32
  let one := 0x3F800000
  let withF (p : Nat × FpFlags) : Nat × FpFlags := (p.1, r.2.or p.2)
  match r.1 with
  | .nan => (nan, r.2)
  | .inf s =>
    if op = 0x10 then (if s then 0 else inf, {})
    else if op = 0x11 ∨ op = 0x14 then (if s then (nan, { inv := true }) else (inf, {}))
    else if op = 0x12 then (signed .binary32 s 0, {})
    else if op = 0x13 then (if s then (nan, { inv := true }) else (0, {}))
    else (signed .binary32 s one, {})
  | .fin s m e =>
    if op = 0x10 then
      if m = 0 then withF (one, {})
      else if leMag 4096 0 m e then withF (packRat .binary32 strict .arith mode false 1 1 (if s then -4096 else 4096))
      else withF (boundedResult op strict mode x 2 false (refExp2 s m e))
    else if op = 0x11 then
      if m = 0 then withF (signed .binary32 true inf, {})
      else if s then withF (nan, { inv := true })
      else withF (boundedResult op strict mode x 2 false (refLog2 m e))
    else if op = 0x12 then
      if m = 0 then withF (signed .binary32 s inf, {}) else withF (boundedResult op strict mode x 1 false (refRcp s m e))
    else if op = 0x13 then
      if m = 0 then withF (signed .binary32 s inf, {})
      else if s then withF (nan, { inv := true })
      else withF (boundedResult op strict mode x 1 false (refRsq m e))
    else if op = 0x14 then
      if m = 0 then withF (signed .binary32 s 0, {})
      else if s then withF (nan, { inv := true })
      else
        let q := refSqrt m e
        withF (packRat .binary32 strict .arith mode false q.n q.d q.e)
    else
      if m = 0 then withF (signed .binary32 s 0, {})
      else withF (boundedResult op strict mode x 2 (!leMag 1 (-4) m e) (refTanh s m e))

end Sys2Proof.Machine
end

