-- ==== Sys2Proof/Machine/Vector.lean ====
section
/-! DEFINITION. The vector engine (R121 to R125): issue, hazards, lane results, retirement. -/
namespace Sys2Proof.Machine

/-- Fields of a VX word (R121). -/
def vD (w : Word64) : Nat := bits w.toNat 49 5
def vA (w : Word64) : Nat := bits w.toNat 44 5
def vB (w : Word64) : Nat := bits w.toNat 39 5
def vC (w : Word64) : Nat := bits w.toNat 34 5
def vMsk (w : Word64) : Nat := bits w.toNat 31 3
def vRnd (w : Word64) : Nat := bits w.toNat 28 3
def vStrict (w : Word64) : Bool := bit w.toNat 27
def vLs (w : Word64) : Nat := bits w.toNat 12 15
def vSb (w : Word64) : Nat := bits w.toNat 8 4
def vImm (w : Word64) : Nat := bits w.toNat 0 32

/-- The fields each opcode uses (R121, R122); the rest are reserved. -/
def vxUsed (op : Nat) : List (Nat × Nat) :=
  if op = 0x0C then [(49, 5), (44, 5), (39, 5), (34, 5), (31, 3)]
  else if op = 0x0D then [(49, 5), (0, 32)]
  else if op = 0x04 ∨ op = 0x05 then [(49, 5), (44, 5), (39, 5), (34, 5), (31, 3), (28, 3), (27, 1)]
  else if op = 0x08 ∨ op = 0x09 ∨ (0x10 ≤ op ∧ op ≤ 0x21) then [(49, 5), (44, 5), (31, 3), (28, 3), (27, 1)]
  else if op = 0x30 ∨ op = 0x32 then [(49, 5), (31, 3), (12, 15), (8, 4)]
  else if op = 0x31 then [(44, 5), (12, 15), (8, 4)]
  else if op = 0x3F then [(0, 6)]
  else [(49, 5), (44, 5), (39, 5), (31, 3), (28, 3), (27, 1)]

/-- The local-store byte address of VLD, VST and VLDB, its scalar operand read now (R114, R121). -/
def vxAddr (s : State) (i : Nat) (w : Word64) : Nat := 64 * (vLs w + (s.scalar i (vSb w)).toNat)

/-- The bytes that VLD, VST and VLDB touch. -/
def vxSpan (op : Nat) : Nat := if op = 0x32 then 4 else 256

/-- No rule of R121 or R123 is broken: reserved fields zero, codes not reserved, the address in the scratchpad and aligned. -/
def vxLegal (s : State) (i : Nat) (w : Word64) : Bool :=
  let op := wVxOp w
  onlyBits w 54 (vxUsed op) &&
  (decide (op = 0x0D) || decide (vRnd w ≤ 3) || decide (0x30 ≤ op)) &&
  ((decide (op ≠ 0x0A) && decide (op ≠ 0x0B)) || (decide (1 ≤ vD w) && decide (vD w ≤ 7))) &&
  (decide (op ≠ 0x0C) || decide (vC w ≤ 7)) &&
  (decide (op < 0x30) || decide (op = 0x3F) ||
    (decide (vxAddr s i w + vxSpan op ≤ s.scratchBytes i) && (decide (op = 0x32) || decide (vxAddr s i w % 256 = 0))))

/-- Issue of a VX word of one opcode: into the queue of eight, or held while it is full (R113, R114). -/
def vxIssue (op : Nat) (i : Nat) (w : Word64) (s : State) : Out :=
  issue s i w 2 (wVxOp w == op) (vxLegal s i w) causeVx
    (fun s =>
      let c := s.core i
      (s.setCore i { c with vx := c.vx ++ [⟨w, if 0x30 ≤ op ∧ op ≤ 0x32 then vxAddr s i w else 0⟩] }).nextPc i)

def execVadd (i : Nat) (w : Word64) (s : State) : Out := vxIssue 0x01 i w s
def execVsub (i : Nat) (w : Word64) (s : State) : Out := vxIssue 0x02 i w s
def execVmul (i : Nat) (w : Word64) (s : State) : Out := vxIssue 0x03 i w s
def execVfma (i : Nat) (w : Word64) (s : State) : Out := vxIssue 0x04 i w s
def execVfms (i : Nat) (w : Word64) (s : State) : Out := vxIssue 0x05 i w s
def execVmax (i : Nat) (w : Word64) (s : State) : Out := vxIssue 0x06 i w s
def execVmin (i : Nat) (w : Word64) (s : State) : Out := vxIssue 0x07 i w s
def execVabs (i : Nat) (w : Word64) (s : State) : Out := vxIssue 0x08 i w s
def execVneg (i : Nat) (w : Word64) (s : State) : Out := vxIssue 0x09 i w s
def execVcmplt (i : Nat) (w : Word64) (s : State) : Out := vxIssue 0x0A i w s
def execVcmpeq (i : Nat) (w : Word64) (s : State) : Out := vxIssue 0x0B i w s
def execVsel (i : Nat) (w : Word64) (s : State) : Out := vxIssue 0x0C i w s
def execVbci (i : Nat) (w : Word64) (s : State) : Out := vxIssue 0x0D i w s
def execVexp2 (i : Nat) (w : Word64) (s : State) : Out := vxIssue 0x10 i w s
def execVlog2 (i : Nat) (w : Word64) (s : State) : Out := vxIssue 0x11 i w s
def execVrcp (i : Nat) (w : Word64) (s : State) : Out := vxIssue 0x12 i w s
def execVrsq (i : Nat) (w : Word64) (s : State) : Out := vxIssue 0x13 i w s
def execVsqrt (i : Nat) (w : Word64) (s : State) : Out := vxIssue 0x14 i w s
def execVtanh (i : Nat) (w : Word64) (s : State) : Out := vxIssue 0x15 i w s
def execVredsum (i : Nat) (w : Word64) (s : State) : Out := vxIssue 0x20 i w s
def execVredmax (i : Nat) (w : Word64) (s : State) : Out := vxIssue 0x21 i w s
def execVld (i : Nat) (w : Word64) (s : State) : Out := vxIssue 0x30 i w s
def execVst (i : Nat) (w : Word64) (s : State) : Out := vxIssue 0x31 i w s
def execVldb (i : Nat) (w : Word64) (s : State) : Out := vxIssue 0x32 i w s
def execVmark (i : Nat) (w : Word64) (s : State) : Out := vxIssue 0x3F i w s

/-! Lane results -/

/-- x < y among values that are no NaN. -/
def ltVal : Val → Val → Bool
  | .inf true, .inf true => false
  | .inf true, .nan => false
  | .inf true, _ => true
  | .inf false, _ => false
  | .fin _ _ _, .inf false => true
  | .fin s m e, .fin t n x =>
    if m = 0 ∧ n = 0 then false
    else if s = t then (if s then !(leMag m e n x) else !(leMag n x m e))
    else if m = 0 then !t else s
  | _, _ => false

/-- Sign of a value. -/
def Val.isNeg : Val → Bool
  | .inf s => s
  | .fin s _ _ => s
  | .nan => false

/-- The larger (or, with `low`, the smaller) of two operands; a NaN operand gives NaN; +0 is above -0 (R121). -/
def maxCode (low strict : Bool) (a b : Nat) : Nat × FpFlags :=
  let ra := readFp .binary32 strict a
  let rb := readFp .binary32 strict b
  let fl := ra.2.or rb.2
  if ra.1 = .nan ∨ rb.1 = .nan then (Fmt.nanCode .binary32, fl)
  else
    let aLess := ltVal ra.1 rb.1 || (!(ltVal rb.1 ra.1) && ra.1.isNeg)
    ((packArith strict .rne (if aLess = low then ra.1 else rb.1)).1, fl)

/-- A value with its sign set to plus (`abs`) or inverted. -/
def signCode (abs strict : Bool) (a : Nat) : Nat × FpFlags :=
  let r := readFp .binary32 strict a
  match r.1 with
  | .nan => (Fmt.nanCode .binary32, r.2)
  | v => ((packArith strict .rne (if abs && !v.isNeg then v else v.neg)).1, r.2)

/-- The arithmetic result of one lane (R121, R125). -/
def laneResult (op : Nat) (strict : Bool) (mode : Rnd) (a b c : Nat) : Nat × FpFlags :=
  if op = 0x01 then addCode strict mode a b
  else if op = 0x02 then addCode strict mode a (flipSign b)
  else if op = 0x03 then mulCode strict mode a b
  else if op = 0x04 then fmaCode strict mode false a b c
  else if op = 0x05 then fmaCode strict mode false a b (flipSign c)
  else if op = 0x06 then maxCode false strict a b
  else if op = 0x07 then maxCode true strict a b
  else if op = 0x08 then signCode true strict a
  else if op = 0x09 then signCode false strict a
  else transcend op strict mode a

/-- The comparison result of one lane: a NaN compares false, with NANIN alone. Whether such a comparison is also an invalid operation (INV) is not in R79 (DESIGN CHOICE, log entry 168). -/
def laneCompare (op : Nat) (strict : Bool) (a b : Nat) : Bool × FpFlags :=
  let ra := readFp .binary32 strict a
  let rb := readFp .binary32 strict b
  let fl := ra.2.or rb.2
  if ra.1 = .nan ∨ rb.1 = .nan then (false, fl)
  else if op = 0x0A then (ltVal ra.1 rb.1, fl)
  else (!(ltVal ra.1 rb.1) && !(ltVal rb.1 ra.1), fl)

/-- Vector register r of a core; unlisted registers are zero. -/
def CoreState.vreg (c : CoreState) (r : Nat) : List Word := (tabGet c.vregs r).getD (List.replicate 64 0)
def CoreState.setVreg (c : CoreState) (r : Nat) (v : List Word) : CoreState := { c with vregs := tabPut c.vregs r v }
/-- Lane mask m; M0 reads all ones. -/
def CoreState.mask (c : CoreState) (m : Nat) : Word64 := if m = 0 then BitVec.allOnes 64 else (tabGet c.masks m).getD 0
def CoreState.setMask (c : CoreState) (m : Nat) (v : Word64) : CoreState := { c with masks := tabPut c.masks m v }

/-- Lane l of a register, as a code. -/
def lane (v : List Word) (l : Nat) : Nat := (v.getD l 0).toNat

/-- One level of the reduction tree (R124). -/
def pairUp (f : Nat → Nat → Nat × FpFlags) : List Nat → List Nat × FpFlags
  | a :: b :: t =>
    let r := f a b
    let q := pairUp f t
    (r.1 :: q.1, r.2.or q.2)
  | l => (l, {})

/-- The reduction tree of `n` levels (R124). A NaN that a level forms is a NaN operand of the next, so it raises NANIN there beside INV (DESIGN CHOICE, log entry 168). -/
def reduceTree (f : Nat → Nat → Nat × FpFlags) : Nat → List Nat → Nat × FpFlags
  | 0, l => (l.headD 0, {})
  | n + 1, l =>
    let p := pairUp f l
    let r := reduceTree f n p.1
    (r.1, p.2.or r.2)

/-- The lanes that a VX instruction writes to VD, with its flags; `ls` are the bytes it loads (R121 to R125). -/
def vxResult (c : CoreState) (w : Word64) (ls : List Nat) : List Word × FpFlags :=
  let op := wVxOp w
  let strict := vStrict w
  let mode := rndOf (vRnd w) 0
  let m := (c.mask (vMsk w)).toNat
  let old := c.vreg (vD w)
  let a := c.vreg (vA w)
  let b := c.vreg (vB w)
  let cc := c.vreg (vC w)
  let keep (f : Nat → Nat) : List Word :=
    (List.range 64).map (fun l => if bit m l then BitVec.ofNat 32 (f l) else old.getD l 0)
  if op = 0x0D then (List.replicate 64 (BitVec.ofNat 32 (vImm w)), {})
  else if op = 0x0C then
    (keep (fun l => if bit (c.mask (vC w)).toNat l then lane a l else lane b l), {})
  else if op = 0x30 then (keep (fun l => leNat ((ls.drop (4 * l)).take 4)), {})
  else if op = 0x32 then (keep (fun _ => leNat (ls.take 4)), {})
  else if op = 0x20 ∨ op = 0x21 then
    let xs := (List.range 64).map (fun l => if bit m l then lane a l else (if op = 0x20 then 0 else 0xFF800000))
    let r := reduceTree (fun x y => if op = 0x20 then addCode strict mode x y else maxCode false strict x y) 6 xs
    (List.replicate 64 (BitVec.ofNat 32 r.1), r.2)
  else
    let rs := (List.range 64).map (fun l =>
      if bit m l then laneResult op strict mode (lane a l) (lane b l) (lane cc l) else (lane old l, {}))
    (rs.map (fun r => BitVec.ofNat 32 r.1), orFlags (rs.map Prod.snd))

/-- The mask that a compare writes: lanes outside MSK keep their old bit (R121). -/
def vxCompare (c : CoreState) (w : Word64) : Word64 × FpFlags :=
  let m := (c.mask (vMsk w)).toNat
  let old := (c.mask (vD w)).toNat
  let rs := (List.range 64).map (fun l =>
    if bit m l then laneCompare (wVxOp w) (vStrict w) (lane (c.vreg (vA w)) l) (lane (c.vreg (vB w)) l)
    else (bit old l, {}))
  (BitVec.ofNat 64 ((rs.zip (List.range 64)).foldl (fun acc r => acc + b2n r.1.1 * 2 ^ r.2) 0),
   orFlags (rs.map Prod.snd))

/-- Registers a VX word reads: V0 to V31 as 0 to 31, M1 to M7 as 33 to 39. -/
def vxReads (w : Word64) : List Nat :=
  let op := wVxOp w
  let u := vxUsed op
  let has (f : Nat × Nat) : Bool := u.contains f
  (if has (44, 5) then [vA w] else []) ++
  (if has (39, 5) then [vB w] else []) ++
  (if op = 0x0C then (if vC w = 0 then [] else [32 + vC w]) else if has (34, 5) then [vC w] else []) ++
  (if has (31, 3) && vMsk w != 0 then [32 + vMsk w] else []) ++
  (if has (31, 3) && has (49, 5) && op != 0x0A && op != 0x0B then [vD w] else [])

/-- Registers a VX word writes. -/
def vxWrites (w : Word64) : List Nat :=
  let op := wVxOp w
  if op = 0x31 ∨ op = 0x3F then [] else if op = 0x0A ∨ op = 0x0B then [32 + vD w] else [vD w]

/-- Two VX entries in program order whose registers or local-store bytes interlock (R123). -/
def vxClash (e f : VxEntry) : Bool :=
  let oe := wVxOp e.word
  let of' := wVxOp f.word
  let mem (o : Nat) : Bool := decide (0x30 ≤ o) && decide (o ≤ 0x32)
  decide (oe = 0x3F) && decide (of' = 0x3F) ||
  (vxWrites e.word).any (fun r => (vxReads f.word).contains r || (vxWrites f.word).contains r) ||
  (vxReads e.word).any (fun r => (vxWrites f.word).contains r) ||
  (mem oe && mem of' && (oe == 0x31 || of' == 0x31) &&
    decide (e.addr < f.addr + vxSpan of') && decide (f.addr < e.addr + vxSpan oe))

/-- No instruction of a queue's beginning waits on an earlier one: all of them have started (R123). -/
def vxStarted : List VxEntry → Bool
  | [] => true
  | e :: t => t.all (fun f => !(vxClash e f)) && vxStarted t

/-- Issue interval of an opcode, doubled in strict mode (R123). -/
def vxInterval (w : Word64) : Nat :=
  let op := wVxOp w
  (if 0x10 ≤ op ∧ op ≤ 0x15 then 4 else 1) * (if vStrict w && !(decide (op = 0x0D)) then 2 else 1)

/-- The effect of the VX entry at `slot`: its result written, its flags raised, the entry gone (R121, R123). -/
def vxRetire (i slot : Nat) (e : VxEntry) (s : State) : State :=
  let c := s.core i
  let c1 := { c with vx := dropAt c.vx slot }
  let op := wVxOp e.word
  let s1 := (s.countF (F.CORE_VX_BUSY_COUNT i) (vxInterval e.word))
  if op = 0x31 then
    (s1.setCore i c1).lsPut i e.addr ((c.vreg (vA e.word)).flatMap (fun x => toBytes (leBytes 4 x.toNat)))
  else if op = 0x0A ∨ op = 0x0B then
    let r := vxCompare c e.word
    (s1.setCore i (c1.setMask (vD e.word) r.1)).addFlags i r.2
  else
    let r := vxResult c e.word (s.lsData i e.addr (vxSpan op))
    let s2 := (s1.setCore i (c1.setVreg (vD e.word) r.1)).addFlags i r.2
    if op = 0x30 ∨ op = 0x32 then s2.lsNote i e.addr (vxSpan op) else s2

end Sys2Proof.Machine
end

