-- ==== Sys2Proof/Machine/CoreLife.lean ====
section
/-! DEFINITION. A core's voyage: launch, program fetch and start, berth, sync instructions, faults, and retirement in the vector engine (R52, R53, R117 to R123, R131 to R137). -/
namespace Sys2Proof.Machine

/-! Idle engines (R52) -/

/-- The core's engines hold nothing that has issued. -/
def State.enginesDone (s : State) (i : Nat) : Bool :=
  let c := s.core i
  c.vx.isEmpty && c.streams.isEmpty && c.bk.isEmpty && c.mx.queue.isEmpty && c.mx.quiet

/-- Everything issued has retired, and every outgoing transfer has passed the egress gate (R52). -/
def State.berthTest (s : State) (i : Nat) : Bool :=
  s.enginesDone i && s.packets.all (fun e => decide (e.2.place ≠ .gate i))

/-! SY class (R119) -/

/-- SYWAIT: issue is held until the tally reaches COUNT. -/
def execSywait (i : Nat) (w : Word64) (s : State) : Out :=
  issue s i w 4 (wOp w == 1) (onlyBits w 56 [(50, 6), (0, 16)] && bits w.toNat 0 16 != 0) causeSy
    (fun s => s.setCore i { s.core i with hold := .sywait (bits w.toNat 50 6) (bits w.toNat 0 16) })

/-- SYWAIT_SATISFIED: T ≥ COUNT; COUNT is subtracted and issue goes on, after `cycles` held cycles. -/
def execSywaitSatisfied (i cycles : Nat) (s : State) : Out :=
  let c := s.core i
  match c.hold with
  | .sywait t n =>
    let v := s.getF (tallyFld i t)
    if s.coreSt i = coreRunning && c.fault.isNone && n ≤ v then
      .next ((((s.setF (tallyFld i t) (v - n)).setCore i { c with hold := .none }).countF (F.CORE_SYWAIT_CYC_COUNT i) cycles).nextPc i)
    else .next s
  | _ => .next s

/-- SYSIG: COUNT is added to a tally of the core that a route-table entry reaches. -/
def execSysig (i : Nat) (w : Word64) (s : State) : Out :=
  issue s i w 4 (wOp w == 2) (onlyBits w 56 [(50, 6), (42, 8), (0, 16)]) causeSy
    (fun s => (s.signal i (bits w.toNat 42 8) (bits w.toNat 50 6) (bits w.toNat 0 16)).nextPc i)

/-- SYFENCE: issue is held until the test of R52 is met. -/
def execSyfence (i : Nat) (w : Word64) (s : State) : Out :=
  issue s i w 4 (wOp w == 3) (onlyBits w 56 []) causeSy (fun s => s.setCore i { s.core i with hold := .fence })

/-- SYFENCE_SATISFIED: the test of R52 is met, after `cycles` held cycles. -/
def execSyfenceSatisfied (i cycles : Nat) (s : State) : Out :=
  let c := s.core i
  if c.hold = .fence && s.coreSt i == coreRunning && c.fault.isNone && s.berthTest i then
    .next (((s.setCore i { c with hold := .none }).countF (F.CORE_SYWAIT_CYC_COUNT i) cycles).nextPc i)
  else .next s

/-- SYSET: the own tally is set. -/
def execSyset (i : Nat) (w : Word64) (s : State) : Out :=
  issue s i w 4 (wOp w == 4) (onlyBits w 56 [(50, 6), (0, 16)]) causeSy
    (fun s => (s.setF (tallyFld i (bits w.toNat 50 6)) (bits w.toNat 0 16)).nextPc i)

/-! The vector engine (R122, R123, R269) -/

/-- VMARK_DONE: every earlier VX instruction has retired. -/
def execVmarkDone (i : Nat) (s : State) : Out :=
  let c := s.core i
  match c.vx with
  | e :: t => if wVxOp e.word = 0x3F then .next ((s.setCore i { c with vx := t }).tallyAdd i (bits e.word.toNat 0 6) 1) else .next s
  | [] => .next s

/-- VX_INSTRUCTION_RETIRE: the instruction at a place of the queue retires at a CLK_CORE cycle, where neither it nor one before it waits on an operand; a start after 64 idle cycles takes a place in the step limiter first, or waits for one. `banks` are contests for the local store's banks (R132). -/
def execVxInstructionRetire (i slot cycle : Nat) (banks : List BankCycle) (s : State) : Out :=
  let c := s.core i
  match c.vx[slot]? with
  | none => .next s
  | some e =>
    if wVxOp e.word = 0x3F || s.gov.pcapHold || s.coreSt i == coreEclipsed || !(vxStarted (c.vx.take (slot + 1))) then .next s
    else if !c.vxOn && decide (c.vxMark + 64 ≤ cycle) && !s.limiterFree i cycle then .next (s.setCore i { c with vxWait := true })
    else
      let s1 := if c.vxOn then s
        else
          let s1 := s.setCore i { c with vxOn := true, vxMark := cycle, vxWait := false }
          if c.vxMark + 64 ≤ cycle then s1.limiterTake i cycle else s1
      .next ((vxRetire i slot e s1).lsContests i banks)

/-! Launch (R133) -/


/-- Launch of a core: acts in IDLE and ENDED alone, and not where the core is on its way to FAULTED (R117, R136). -/
def State.launch (s : State) (i : Nat) : State :=
  let st := s.coreSt i
  if (st ≠ coreIdle ∧ st ≠ coreEnded) ∨ (s.core i).fault.isSome = true then s
  else
    let c := s.core i
    let s1 := s.setCore i { c with
      scalars := [], vregs := [], masks := [], prog := [], fetch := .running 0, hold := .none, fault := none, l1 := [], wdog := 0, kTurns := 0 }
    let s2 := (List.range 64).foldl (fun s t => s.setF (tallyFld i t) 0) s1
    ((((s2.setWord (pgCore i + 0x130) 0).setF (F.CORE_SR_N_N i) 0).setF (F.CORE_PROG_K_K i) 0).setF (F.CORE_PC_PC i) 0).setCoreSt i coreLoaded

/-- VOYAGE_LAUNCH: a write of CORE_VOY_CMD with LAUNCH at 1 (R133). -/
def execVoyageLaunch (who : Requester) (i : Nat) (value : Word) (s : State) : Out :=
  if bit value.toNat 0 then trigger s who (pgCore i + 0x124) 1 value (fun s =>
      if bit value.toNat 1 && (s.coreSt i == coreLoaded || s.coreSt i == coreRunning || s.coreSt i == coreBerthed) then s.progFault i causeAbort 0
      else s.launch i)
  else .next s

/-- VOYAGE_ABORT: a write of CORE_VOY_CMD with ABORT at 1 in LOADED, RUNNING or BERTHED has the effect of a program fault with cause ABORT (R136). -/
def execVoyageAbort (who : Requester) (i : Nat) (value : Word) (s : State) : Out :=
  if bit value.toNat 1 then trigger s who (pgCore i + 0x124) 2 value (fun s =>
      if bit value.toNat 0 && (s.coreSt i == coreIdle || s.coreSt i == coreEnded) then s.launch i
      else if s.coreSt i == coreLoaded || s.coreSt i == coreRunning || s.coreSt i == coreBerthed then s.progFault i causeAbort 0 else s)
  else .next s

/-- Cycles of a hold that a fault ended are counted: of SYWAIT or SYFENCE, or of waiting for a program fetch (R134, R139). -/
def State.countHeld (s : State) (i held : Nat) : State :=
  let c := s.core i
  let s1 := match c.hold with
    | .sywait _ _ | .fence => s.countF (F.CORE_SYWAIT_CYC_COUNT i) held
    | _ => s
  match c.fetch with
  | .running _ => if s.coreSt i == coreLoaded || s.coreSt i == coreBerthed then s1.countF (F.CORE_FETCH_STALL_COUNT i) held else s1
  | _ => s1

/-- CORE_FAULTED: the engines have finished what was queued, and the core enters FAULTED, records the fault and posts its event (R136); `held` cycles of a hold ended with the fault. -/
def execCoreFaulted (i held : Nat) (s0 : State) : Out :=
  let s := s0.countHeld i held
  let c := s.core i
  match c.fault with
  | none => .next s0
  | some f =>
    if !(s.enginesDone i) || !s.canFault i then .next s0
    else
      let s1 := ((((s.setCoreSt i coreFaulted).setF (F.CORE_FAULT_CAUSE i) f.cause).setF (F.CORE_FAULT_PC_PC i) f.pc).setF
        (F.CORE_FAULT_PC_K i) (f.k % 2 ^ 20)).setF (F.CORE_FAULT_INFO_INFO i) f.info
      .next (s1.postCore i ⟨0x04, 2, siteNum i, f.cause, s.orbit, s.coreData0 i, f.info, 1⟩)

/-- WATCHDOG_HANG: the count of ticks in one program has reached CORE_WDOG.ORBITS (R137). -/
def execWatchdogHang (i : Nat) (s : State) : Out :=
  let n := s.getF (F.CORE_WDOG_ORBITS i)
  if s.coreSt i = coreRunning && n != 0 && n ≤ (s.core i).wdog then .next (s.progFault i causeHang 0) else .next s

/-! Programs (R53, R134, R135) -/

/-- Length of the tick window in CLK_ORB cycles (R44). -/
def tickWindow : Nat := 400

/-- A tick window is in progress. -/
def State.inWindow (s : State) : Bool :=
  match s.orb.tickAt with
  | some t => decide (s.now < t + tickWindow)
  | none => false

/-- Time runs to step 6 of the tick whose window is in progress. -/
def State.toStep6 (s : State) : State :=
  match s.orb.tickAt with
  | some t => s.advanceTo (t + tickWindow)
  | none => s

/-- Bytes of a partition's virtual memory as a core reads them for its program buffers. -/
def State.corePeek (s : State) (i va len : Nat) : State × Except MemErr (List Nat) :=
  (pieces va len).foldl (fun (acc : State × Except MemErr (List Nat)) q =>
    match acc with
    | (s, .error e) => (s, .error e)
    | (s, .ok l) =>
      match s.xlCore i (va + q.1) false with
      | (s1, .error e) => (s1, .error e)
      | (s1, .ok x) =>
        match s1.readDpa (dpaSite (x.dpa (va + q.1)) == some i) (x.dpa (va + q.1)) q.2 with
        | (s2, .error st) => (s2, .error ⟨st, x.dpa (va + q.1)⟩)
        | (s2, .ok d) => (s2, .ok (l ++ d))) (s, .ok [])

/-- 64-bit words of bytes. -/
def wordsOf : Nat → List Nat → List Word64
  | 0, _ => []
  | n + 1, l => BitVec.ofNat 64 (leNat (l.take 8)) :: wordsOf n (l.drop 8)

/-- The program of table entry k, or none where its entry or its bytes cannot be had (R134). -/
def State.fetchProgram (s : State) (i k : Nat) : State × Option (List Word64) :=
  let n := s.getF (F.CORE_VOY_PROGS_COUNT i)
  let entry := if s.on (F.CORE_VOY_PROGS_REPEAT i) then k % n else k
  let table := s.getF (F.CORE_VOY_TABLE_LO_ADDR i) * 64 + s.getF (F.CORE_VOY_TABLE_HI_ADDR i) * 2 ^ 32
  match s.corePeek i (table + 16 * entry) 16 with
  | (s1, .error _) => (s1, none)
  | (s1, .ok e) =>
    let a := leNat (e.take 8)
    let len := leNat ((e.drop 8).take 2)
    if a % 64 ≠ 0 ∨ len = 0 ∨ 4096 < len ∨ leNat (e.drop 10) ≠ 0 then (s1, none)
    else match s1.corePeek i a (8 * len) with
      | (s2, .error _) => (s2, none)
      | (s2, .ok d) => (s2, some (wordsOf len d))

/-- PROGRAM_FETCH_COMPLETE: the fetch of the next program ends (R134). -/
def execProgramFetchComplete (i : Nat) (s : State) : Out :=
  match (s.core i).fetch with
  | .running k =>
    let r := s.fetchProgram i k
    .next (r.1.setCore i { r.1.core i with fetch := match r.2 with | some ws => .ready k ws | none => .failed k })
  | _ => .next s

/-- The orbit whose program k is: L + k, k counted on past 2^32 (R53, R134). -/
def State.programOrbit (s : State) (i : Nat) : Nat :=
  s.getF (F.CORE_VOY_LAUNCH_LO_ORBIT i) + 2 ^ 32 * (s.getF (F.CORE_VOY_LAUNCH_HI_ORBIT i) + (s.core i).kTurns) + s.getF (F.CORE_PROG_K_K i)

/-- The program after k exists (R134, R135). -/
def State.hasNext (s : State) (i k : Nat) : Bool :=
  s.on (F.CORE_VOY_PROGS_REPEAT i) || decide (k + 1 < s.getF (F.CORE_VOY_PROGS_COUNT i))

/-- PROGRAM_START: a loaded or berthed core starts its next program, at once or at step 6 of the tick whose window is in progress, after `stall` cycles of waiting for the fetch (R53, R134). Where its orbit lies above the count it waits for it, in a tick window too: R53 names step 6 of that tick there, and of two readings the model takes the one that starts no program before its orbit (DESIGN CHOICE, log entry 158). -/
def execProgramStart (i stall : Nat) (s0 : State) : Out :=
  let st := s0.coreSt i
  if !(st == coreLoaded || st == coreBerthed) || (s0.core i).fault.isSome || decide (s0.orbit < s0.programOrbit i) then .next s0
  else
    let k := s0.getF (F.CORE_PROG_K_K i)
    match (s0.core i).fetch with
    | .failed j =>
      if j = k then .next (((s0.toStep6.countF (F.CORE_FETCH_STALL_COUNT i) stall).setF (F.CORE_PC_PC i) 0).progFault i causeFetch 0) else .next s0
    | .ready j ws =>
      if j ≠ k then .next s0
      else
        let s := s0.toStep6
        let c := s.core i
        let s1 := s.setCore i { c with
          prog := ws, hold := .none, wdog := 0
          fetch := if s.hasNext i k then .running ((k + 1) % 2 ^ 32) else .idle }
        .next (((s1.countF (F.CORE_FETCH_STALL_COUNT i) stall).setF (F.CORE_PC_PC i) 0).setCoreSt i coreRunning)
    | _ => .next s0

/-- BERTH_COMPLETE: the test of R52 is met; k increments, and the voyage ends or the core is berthed (R135). -/
def execBerthComplete (i : Nat) (s : State) : Out :=
  let c := s.core i
  match c.hold with
  | .berth last =>
    if s.coreSt i = coreRunning && c.fault.isNone && s.berthTest i then
      let k := s.getF (F.CORE_PROG_K_K i)
      let ends := last || !s.hasNext i k
      let s1 := ((s.setCore i { c with hold := .none, kTurns := c.kTurns + (k + 1) / 2 ^ 32 }).setF (F.CORE_SR_N_N i) 0).setF (F.CORE_PROG_K_K i) ((k + 1) % 2 ^ 32)
      if ends then
        .next (((s1.setCore i { s1.core i with fetch := .idle }).setCoreSt i coreEnded).postCore i
          ⟨0x03, 0, siteNum i, 0, s.orbit, s1.coreData0 i, 0, 1⟩)
      else .next (s1.setCoreSt i coreBerthed)
    else .next s
  | _ => .next s

/-! The local store's split (R131) -/

/-- The L1 size takes a new value: what was scratchpad below the new boundary stays, the rest is undefined, the L1 is invalid. -/
def State.setSplit (s : State) (i v : Nat) : State :=
  if s.inVoyage i || decide (4 < v) || s.getF (F.CORE_LS_SPLIT_L1 i) == v then s
  else
    let below := s.scratchBytes i
    let s1 := s.setF (F.CORE_LS_SPLIT_L1 i) v
    let g := s1.takeFree
    let c := g.2.core i
    g.2.setCore i { c with ls := c.ls.refill (min below (g.2.scratchBytes i)) 0x200000 (some g.1), l1 := [] }

/-- LOCAL_STORE_SPLIT_CHANGE: a write of CORE_LS_SPLIT (R131). -/
def execLocalStoreSplitChange (who : Requester) (i : Nat) (value : Word) (s : State) : Out :=
  trigger s who (pgCore i + 0x104) 7 value (fun s => s.setSplit i (bits value.toNat 0 3))

end Sys2Proof.Machine
end

