-- ==== Sys2Proof/Machine/Pcie.lean ====
section
/-! DEFINITION. PCIe functions: configuration spaces, AER, MSI-X and ATS (R310, R313, R314, R316, R317, R325, R333). Offsets in a configuration space beyond the type 0 header, and the bits of AER and ATS, are the standard's or the model's own (log entry 108). -/
namespace Sys2Proof.Machine

/-! Configuration spaces (R310, R313) -/

/-- A function's configuration space after a reset of it: nothing enabled, BAR2 of 16 GiB (R313). -/
def FnCfg.fresh : FnCfg := ⟨0, [0, 0, 0], 34, false, false, false, 0, 0, 0, []⟩

def State.cfg (s : State) (f : Nat) : FnCfg := (tabGet s.host.cfg f).getD FnCfg.fresh
def State.setCfg (s : State) (f : Nat) (c : FnCfg) : State := { s with host := { s.host with cfg := tabPut s.host.cfg f c } }

/-- The function may issue requests: Bus Master Enable (PCIe). -/
def State.busMaster (s : State) (f : Nat) : Bool := bit (s.cfg f).command 2

/-! AER (R310, R314, R316) -/

/-- The header that AER logs of a memory request, four words (PCIe). -/
def tlpHeader (wr : Bool) (addr len : Nat) : List Nat :=
  [(if wr then 0x60000000 else 0x20000000) + (len + 3) / 4 % 1024, 0, addr / 2 ^ 32 % 2 ^ 32, addr % 2 ^ 32]

/-- The header of the first error is kept. -/
def FnCfg.firstHdr (c : FnCfg) (wr : Bool) (bar off len : Nat) : FnCfg :=
  if c.aerHdr.isEmpty then { c with aerHdr := tlpHeader wr (c.bars.getD bar 0 + off) len } else c

/-- AER records an Unsupported Request: the write of `len` bytes at `off` in BAR 2 × `bar`. -/
def State.aerUr (s : State) (f bar off len : Nat) : State :=
  let c := (s.cfg f).firstHdr true bar off len
  s.setCfg f { c with aerUncorr := Nat.lor c.aerUncorr (2 ^ 20) }

/-- AER records an advisory non-fatal error of a write. -/
def State.aerAdvisory (s : State) (f bar off len : Nat) : State :=
  let c := (s.cfg f).firstHdr true bar off len
  s.setCfg f { c with aerCorr := Nat.lor c.aerCorr (2 ^ 13) }

/-! MSI-X (R310, R313, R333) -/

/-- A vector's table entry. -/
def State.msixEntry (s : State) (f v : Nat) : Nat × Nat × Bool := (tabGet s.host.msix (64 * f + v)).getD (0, 0, true)

/-- The vector may be sent now. -/
def State.msixOpen (s : State) (f v : Nat) : Bool :=
  (s.cfg f).msixOn && !(s.cfg f).msixMask && s.busMaster f && !(s.msixEntry f v).2.2

/-- The message of a vector that may be sent. -/
def State.msixOut (s : State) (f v : Nat) : State :=
  { s with egress := s.egress ++ [.msix f v (s.msixEntry f v).1 (s.msixEntry f v).2.1] }

/-- A vector is signalled: sent, or kept pending while it is masked; with MSI-X disabled nothing is sent. -/
def State.sendMsix (s : State) (f v : Nat) : State :=
  if !(s.cfg f).msixOn then s
  else if s.msixOpen f v then s.msixOut f v
  else if s.host.pba.contains (64 * f + v) then s
  else { s with host := { s.host with pba := s.host.pba ++ [64 * f + v] } }

/-- Pending vectors of a function that may be sent now are sent. -/
def State.msixFlush (s : State) (f : Nat) : State :=
  (s.host.pba.filter (fun n => n / 64 == f && s.msixOpen f (n % 64))).foldl
    (fun s n => ({ s with host := { s.host with pba := s.host.pba.erase n } } : State).msixOut f (n % 64)) s

/-- A word of a function's MSI-X table, at a byte offset in it (PCIe: address, address high, data, control). -/
def State.msixRead (s : State) (f off : Nat) : Nat :=
  let e := s.msixEntry f (off / 16)
  match off % 16 / 4 with
  | 0 => e.1 % 2 ^ 32
  | 1 => e.1 / 2 ^ 32
  | 2 => e.2.1
  | _ => b2n e.2.2

def State.msixWrite (s : State) (f off v : Nat) : State :=
  let e := s.msixEntry f (off / 16)
  let e1 := match off % 16 / 4 with
    | 0 => (e.1 / 2 ^ 32 * 2 ^ 32 + v / 4 * 4, e.2)
    | 1 => (e.1 % 2 ^ 32 + v * 2 ^ 32, e.2)
    | 2 => (e.1, v, e.2.2)
    | _ => (e.1, e.2.1, bit v 0)
  ({ s with host := { s.host with msix := tabPut s.host.msix (64 * f + off / 16) e1 } } : State).msixFlush f

/-- A word of a function's pending bits. -/
def State.pbaRead (s : State) (f k : Nat) : Nat :=
  ((List.range 32).filter (fun b => s.host.pba.contains (64 * f + 32 * k + b))).foldl (fun w b => w + 2 ^ b) 0

/-! Accesses to a configuration space -/

/-- A word of a configuration space: command, base addresses, MSI-X control, AER status and header, ATS control, BAR size, number of VFs. -/
def State.cfgRead (s : State) (f a : Nat) : Nat :=
  let c := s.cfg f
  if a = 0x04 then c.command
  else if 0x10 ≤ a ∧ a < 0x28 then
    let b := c.bars.getD ((a - 0x10) / 8) 0
    if a % 8 = 0 then b % 2 ^ 32 + (if a = 0x18 then 0xC else 4) else b / 2 ^ 32
  else if a = 0xB0 then 63 * 2 ^ 16 + b2n c.msixMask * 2 ^ 30 + b2n c.msixOn * 2 ^ 31
  else if a = 0x104 then c.aerUncorr
  else if a = 0x110 then c.aerCorr
  else if 0x11C ≤ a ∧ a < 0x12C then c.aerHdr.getD ((a - 0x11C) / 4) 0
  else if a = 0x204 then b2n c.ats * 2 ^ 31
  else if a = 0x308 then 2 + 2 ^ 5 + (c.bar2Log2 - 20) * 2 ^ 8
  else if a = 0x410 then c.vfs
  else 0

/-- log2 of the size of a BAR register: BAR0 256 MiB, BAR2 as it is set, BAR4 128 KiB (R313). -/
def FnCfg.barLog2 (c : FnCfg) (k : Nat) : Nat := if k = 0 then 28 else if k = 1 then c.bar2Log2 else 17

/-- What a write leaves of the AER record; the header is logged anew once every status bit is clear. -/
def FnCfg.aerClear (c : FnCfg) : FnCfg := if c.aerUncorr = 0 ∧ c.aerCorr = 0 then { c with aerHdr := [] } else c

def FnCfg.write (c : FnCfg) (pf : Bool) (a v : Nat) : FnCfg :=
  if a = 0x04 then { c with command := Nat.land v 6 }
  else if 0x10 ≤ a ∧ a < 0x28 then
    let k := (a - 0x10) / 8
    let b := c.bars.getD k 0
    let n := if a % 8 = 0 then b / 2 ^ 32 * 2 ^ 32 + v else b % 2 ^ 32 + v * 2 ^ 32
    { c with bars := c.bars.set k (n / 2 ^ c.barLog2 k * 2 ^ c.barLog2 k) }
  else if a = 0xB0 then { c with msixMask := bit v 30, msixOn := bit v 31 }
  else if a = 0x104 then ({ c with aerUncorr := c.aerUncorr - Nat.land c.aerUncorr v } : FnCfg).aerClear
  else if a = 0x110 then ({ c with aerCorr := c.aerCorr - Nat.land c.aerCorr v } : FnCfg).aerClear
  else if a = 0x204 then { c with ats := bit v 31 }
  else if a = 0x308 then
    let n := bits v 8 6 + 20
    if 30 ≤ n ∧ n ≤ 40 then { c with bar2Log2 := n } else c
  else if a = 0x410 then (if pf && decide (v % 2 ^ 16 ≤ 63) then { c with vfs := v % 2 ^ 16 } else c)
  else c

/-- Translations and translation requests of functions end (R310, R317). -/
def State.atcDrop (s : State) (mine : Nat → Bool) : State :=
  { s with host := { s.host with
      atc := (s.host.atc.map (fun e => (e.1, e.2.filter (fun x => !mine x.fn)))).filter (fun e => !e.2.isEmpty)
      atsReqs := s.host.atsReqs.filter (fun e => !mine e.2.1) } }

def State.cfgWrite (s : State) (f a v : Nat) : State :=
  let s1 := s.setCfg f ((s.cfg f).write (f % 64 == 0) a v)
  (if (s1.cfg f).ats then s1 else s1.atcDrop (· == f)).msixFlush f

/-- The configuration spaces of functions are cleared, with their MSI-X tables and translations (R317, R351). -/
def State.cfgClear (s : State) (mine : Nat → Bool) : State :=
  ({ s with host := { s.host with
      cfg := s.host.cfg.filter (fun e => !mine e.1)
      msix := s.host.msix.filter (fun e => !mine (e.1 / 64))
      pba := s.host.pba.filter (fun n => !mine (n / 64)) } } : State).atcDrop mine

/-! ATS (R310, R325) -/

/-- Translations that a port's ATC holds (R310). -/
def atcCap : Nat := 1024

/-- How a host address of a work order may be issued now. -/
inductive HostXl where
  /-- at this address, translated or not -/
  | go (a : Nat) (xl : Bool)
  /-- its translation is to be asked for -/
  | ask
  /-- not yet: no bus mastering, or its translation is under way -/
  | wait
  deriving DecidableEq, Repr

/-- A function's host address, translated by ATS where the function has it enabled (R325). -/
def State.hostXl (s : State) (order f a : Nat) (wr : Bool) : HostXl :=
  if !s.busMaster f then .wait
  else if !(s.cfg f).ats then .go a false
  else
    match ((tabGet s.host.atc (f / 64)).getD []).find? (fun e => e.fn == f && e.page == a / 4096 && (if wr then e.wr else e.rd)) with
    | some e => .go (e.frame * 4096 + a % 4096) true
    | none => if s.host.atsReqs.any (fun e => e.2.2.2.1 == order) then .wait else .ask

/-- A translation request leaves. -/
def State.atsAsk (s : State) (order f a : Nat) (wr : Bool) : State :=
  let tag := s.nextTag
  { s with
    nextTag := tag + 1
    egress := s.egress ++ [.atsRequest f (a / 4096) tag]
    host := { s.host with atsReqs := tabPut s.host.atsReqs tag (f, a / 4096, order, wr) } }

/-- A translation comes: the newest of at most 1,024 of its port. -/
def State.atcPut (s : State) (e : AtcEntry) : State :=
  let l := ((tabGet s.host.atc (e.fn / 64)).getD []).filter (fun x => !(x.fn == e.fn && x.page == e.page))
  { s with host := { s.host with atc := tabPut s.host.atc (e.fn / 64) ((e :: l).take atcCap) } }

end Sys2Proof.Machine
end

