-- ==== Sys2Proof/Machine/HostQueues.lean ====
section
/-! DEFINITION. Queues, doorbells and work orders (R322 to R330). -/
namespace Sys2Proof.Machine

/-! Queue contexts (R322, R337) -/

def State.quOn (s : State) (q : Nat) : Bool := s.on (F.QUE_CFG_EN (q / 64) (q % 64))
def State.quFn (s : State) (q : Nat) : Nat := s.getF (F.QUE_CFG_FN (q / 64) (q % 64))
def State.quTail (s : State) (q : Nat) : Nat := s.getF (F.QUE_TAIL_COUNT (q / 64) (q % 64))
def State.quHead (s : State) (q : Nat) : Nat := s.getF (F.QUE_HEAD_COUNT (q / 64) (q % 64))
def State.quDone (s : State) (q : Nat) : Nat := s.getF (F.QUE_DONE_COUNT (q / 64) (q % 64))
def State.quLog2 (s : State) (q : Nat) : Nat := s.getF (F.QUE_CFG_LOG2 (q / 64) (q % 64))
/-- The partition of a queue: that of its function. -/
def State.quPart (s : State) (q : Nat) : Option Nat := s.partOfFn (s.quFn q)

/-- Values of QUE_STATUS.STATE. STOPPED is held in the register; the others follow from the queue (R337). -/
def quStopped : Nat := 4
def State.quStop (s : State) (q err : Nat) : State :=
  let s1 := (s.setF (F.QUE_STATUS_STATE (q / 64) (q % 64)) quStopped).setF (F.QUE_STATUS_ERR (q / 64) (q % 64)) err
  match s.quPart q with
  | some p => s1.raiseBit (pgPrt p) 11
  | none => s1
def State.quIsStopped (s : State) (q : Nat) : Bool := s.getF (F.QUE_STATUS_STATE (q / 64) (q % 64)) == quStopped

/-- The I/O die that carries a function's port (R28, R312). -/
def ioOf (fn : Nat) : Nat := fn / 128

/-- The queue's orders in execution. -/
def State.executing (s : State) (q : Nat) : Nat := (s.host.orders.filter (fun e => e.2.queue == q)).length

/-- QUE_STATUS.STATE as it reads (R337). -/
def State.quState (s : State) (q : Nat) : Nat :=
  if !s.quOn q then 0
  else if s.quIsStopped q then quStopped
  else if 0 < s.executing q then 3
  else if s.quHead q ≠ s.quTail q then 2 else 1

/-- The queue's partition uses the Gulier format (R319). -/
def State.quCompat (s : State) (q : Nat) : Bool :=
  match s.quPart q with
  | some p => s.on (F.PG_CTRL_GCOMPAT (pgPrt p))
  | none => false

/-- Bytes of the ring entry of an index, as the queue engine reads it (R322); a page with C = 0 gives NONCOH, status 9. -/
def State.ringEntry (s : State) (q idx : Nat) : State × Except (Nat × Nat) (List Nat) :=
  match s.quPart q with
  | none => (s, .error (2, kDisabled))
  | some p =>
    let size := if s.quCompat q then 64 else 128
    let base := s.getF (F.QUE_BASE_LO_VA (q / 64) (q % 64)) * 128 + s.getF (F.QUE_BASE_HI_VA (q / 64) (q % 64)) * 2 ^ 32
    match s.peek (128 + ioOf (s.quFn q)) p (base + size * (idx % 2 ^ s.quLog2 q)) size with
    | (s1, .error e) => (s1, .error (match xlKind e.status with | some (k, _) => (2, k) | none => (3, 0)))
    | (s1, .ok (d, coh)) => if coh then (s1, .ok d) else (s1, .error (9, 0))

/-! Orders (R324, R325) -/

def ordOp (r : List Nat) : Nat := r.getD 0 0
def ordFlag (r : List Nat) (k : Nat) : Bool := bit (r.getD 1 0) k
def ordStamp (r : List Nat) : Nat := leNat ((r.drop 4).take 4)
def ordTag (r : List Nat) : Nat := leNat ((r.drop 8).take 8)
/-- Little-endian field of n bytes at an offset. -/
def ordF (r : List Nat) (o n : Nat) : Nat := leNat ((r.drop o).take n)

/-- Fields an operation uses, beyond the header: (offset, bytes), in the native or Gulier format (R325). -/
def ordUsed (g : Bool) (r : List Nat) : List (Nat × Nat) :=
  match ordOp r with
  | 1 => [(0x10, 8), (0x18, 2), if g then (0x1C, 4) else (0x20, 8)]
  | 2 => [(0x10, 8), (0x18, 8), if g then (0x20, 4) else (0x20, 8), if g then (0x24, 1) else (0x28, 1)]
  | 3 => [(0x10, 2), (0x12, 1), (0x14, 2)]
  | 4 => [(0x10, 8), (0x18, 1), (0x20, r.getD 0x18 0)]
  | 5 => [(0x10, 2)]
  | _ => []

def copyLen (g : Bool) (r : List Nat) : Nat := if g then ordF r 0x20 4 else ordF r 0x20 8
def copySpaces (g : Bool) (r : List Nat) : Nat := if g then r.getD 0x24 0 else r.getD 0x28 0

/-- The order breaks no rule of R324 and R325: operation, reserved bytes, field values. -/
def ordOk (g : Bool) (r : List Nat) : Bool :=
  let used := ordUsed g r
  let clear := (List.range r.length).all (fun k =>
    decide (k < 2) || (decide (4 ≤ k) && decide (k < 16)) || used.any (fun u => decide (u.1 ≤ k) && decide (k < u.1 + u.2)) || r.getD k 0 == 0)
  decide (ordOp r ≤ 5) && decide (r.getD 1 0 < 16) && clear &&
  match ordOp r with
  | 1 => let n := ordF r 0x18 2; decide (1 ≤ n) && decide (n ≤ 1024)
  | 2 => let n := copyLen g r; decide (1 ≤ n) && (g || decide (n ≤ 2 ^ 40)) && decide (copySpaces g r < 4)
  | 3 => decide (r.getD 0x12 0 < 64) && (siteOfNum (ordF r 0x10 2)).isSome
  | 4 => let n := r.getD 0x18 0; decide (1 ≤ n) && decide (n ≤ if g then 32 else 64)
  | _ => true

def State.setOrder (s : State) (id : Nat) (o : Order) : State := { s with host := { s.host with orders := tabPut s.host.orders id o } }

/-! Readiness and dispatch (R327, R328) -/

/-- Every posted write of the queue's function ahead of its latest doorbell is acknowledged (R323). -/
def State.ringSettled (s : State) (q : Nat) : Bool :=
  let m := (tabGet s.host.marks q).getD 0
  s.host.jobs.all (fun e => decide (m ≤ e.1) || !e.2.wr || (match e.2.kind with | .bar2 f _ => f != s.quFn q | _ => true))

/-- The head order of a queue is ready; the state reached by reading it, its bytes or the failure of reading it, and whether its orbit had begun before the tick of count `s.orbit` (R327, R328). -/
def State.headReady (s : State) (q : Nat) : Option (State × Except (Nat × Nat) (List Nat) × Bool) :=
  match s.quPart q with
  | none => none
  | some p =>
    let io := ioOf (s.quFn q)
    if s.beforeReady || s.getF F.SEC_STATUS_SCAN == 2 || !s.quOn q || s.quIsStopped q || s.pgState (pgPrt p) != prtActive || s.quHead q == s.quTail q || !s.ringSettled q ||
        decide (8 ≤ s.executing q) || decide (256 ≤ (s.host.orders.filter (fun e => ioOf e.2.fn == io)).length) then none
    else
      match s.ringEntry q (s.quHead q) with
      | (s1, .error e) => some (s1, .error e, false)
      | (s1, .ok r) =>
        let a := stampOrbit (ordStamp r) s.orbit
        if (ordFlag r 0 || decide (a ≤ (s.orbit : Int))) && (!ordFlag r 1 || s.executing q == 0) then
          some (s1, .ok r, !ordFlag r 0 && decide (a < (s.orbit : Int)))
        else none

/-! Completion (R329, R332, R354) -/

/-- The address of a ring's record of an index (R333). -/
def State.recordAt (s : State) (e tail : Nat) : Nat :=
  s.getF (F.EVT_BASE_LO_ADDR e) * 4096 + s.getF (F.EVT_BASE_HI_ADDR e) * 2 ^ 32 + 32 * (tail % 2 ^ s.getF (F.EVT_CFG_LOG2 e))

/-- The record that a ring takes next would lie in a page with C = 0 (status NONCOH). -/
def State.ringNoncoh (s : State) (e : Nat) : Bool :=
  if s.on (F.EVT_CFG_EN e) && s.on (F.EVT_CFG_DEV e) then
    let fn := s.getF (F.EVT_CFG_FN e)
    let r := s.ring e
    let a := s.recordAt e (s.getF (F.EVT_TAIL_COUNT e) + b2n r.inProgress.isSome + r.staged.length)
    match (s.xlUnit (128 + ioOf fn) (s.partOfFn fn) a false).2 with
    | .ok x => !x.coh
    | .error _ => false
  else false

/-- No order of the partition executes any more: a QUIESCING partition raises QUIESCED (R354). -/
def State.quiesceCheck (s : State) (p : Nat) : State :=
  if s.pgState (pgPrt p) = prtQuiescing && s.host.orders.all (fun e => e.2.part != p) then s.raiseBit (pgPrt p) 12 else s

/-- An order that has ended leaves: its record, its queue's count, and the queue's stop (R329). -/
def State.orderEnd (s : State) (id : Nat) (o : Order) (st0 kind : Nat) : State :=
  let q := o.queue
  let ring := s.getF (F.QUE_CFG_RING (q / 64) (q % 64))
  let ev := ordOp o.raw == 5 && st0 == 0
  let wants := !o.quiet && (st0 % 256 != 0 || ordFlag o.raw 2 || ev)
  let st := if wants && st0 % 256 == 0 && s.ringNoncoh ring then 9 else st0
  let err := st % 256 != 0
  let s1 := ({ s with host := { s.host with orders := tabDel s.host.orders id } } : State).wrapF (F.QUE_DONE_COUNT (q / 64) (q % 64)) 1
  let s2 := if err && !ordFlag o.raw 3 && !o.quiet then s1.quStop q (st % 16) else s1
  let s3 := if wants then s2.postTo ring ⟨0x01, b2n o.late + 2 * b2n err, q, if ev && !err then ordF o.raw 0x10 2 else st, s2.orbit,
      ordTag o.raw, if st % 256 = 2 then kind else o.idx, 0⟩ else s2
  s3.quiesceCheck o.part

/-- The head order is dispatched; NOP and EVENT complete as they are (R325, R327, R328). -/
def State.dispatch (s : State) (q : Nat) (r : Except (Nat × Nat) (List Nat)) (late : Bool) : State :=
  let g := s.quCompat q
  let raw := match r with
    | .ok d => d
    | .error _ => []
  let done := match r with
    | .ok d => if ordOk g d then none else some (1, 0)
    | .error e => some e
  let o : Order := ⟨q, s.quHead q, (s.quPart q).getD 0, s.quFn q, raw, g, late, false, false, 0, [], 0, none, [], done⟩
  let id := s.host.nextOrder
  let s1 := (({ s with host := { s.host with nextOrder := id + 1 } } : State).setOrder id o).wrapF (F.QUE_HEAD_COUNT (q / 64) (q % 64)) 1
  let s2 := if late then s1.countF (F.QUE_LATE_COUNT (q / 64) (q % 64)) 1 else s1
  let s3 : State := { s2 with host := { s2.host with served := tabPut s2.host.served (ioOf o.fn) (q + 1) } }
  if done.isNone && (ordOp raw == 0 || ordOp raw == 5) then s3.orderEnd id o 0 0 else s3

/-- Enabled queues of an engine, in ascending order starting after the one it served last (R328). -/
def State.engineQueues (s : State) (io : Nat) : List Nat :=
  let l := (s.regs.filter (fun e => decide (0x40000 ≤ e.1) && decide (e.1 < 0x80000) && decide (0x800 ≤ e.1 % 0x1000) && e.1 % 0x20 == 8 && e.2.toNat % 2 == 1)).map
    (fun e => 64 * (e.1 / 0x1000 - 64) + (e.1 % 0x1000 - 0x800) / 0x20)
  let l := l.filter (fun q => ioOf (s.quFn q) == io)
  let a := (tabGet s.host.served io).getD 0
  l.filter (fun q => decide (a ≤ q)) ++ l.filter (fun q => decide (q < a))

/-- The first ready queue of a list, dispatched. -/
def State.dispatchFirst (s : State) : List Nat → Option State
  | [] => none
  | q :: t =>
    match s.headReady q with
    | some (s1, r, late) => some (s1.dispatch q r late)
    | none => s.dispatchFirst t

/-- A dispatch round of an engine: ready heads until none is ready; `n` bounds them (R328). -/
def dispatchRound (io : Nat) : Nat → State → State
  | 0, s => s
  | n + 1, s =>
    match s.dispatchFirst (s.engineQueues io) with
    | some s1 => dispatchRound io n s1
    | none => s

/-- Orders announced to an engine and not yet dispatched: a bound of its round. -/
def State.announced (s : State) (io : Nat) : Nat :=
  ((s.engineQueues io).map (fun q => (s.quTail q + 2 ^ 32 - s.quHead q) % 2 ^ 32)).foldl (· + ·) 0

/-- An engine's round (R328). -/
def State.roundOf (s : State) (io : Nat) : State := dispatchRound io (s.announced io) s

/-- Step 6 of a tick: both engines' rounds (R328). -/
def State.dispatchRounds (s : State) : State := (s.roundOf 0).roundOf 1

/-- Between rounds the head of a queue that is ready is dispatched, if it is of the kind wanted; within a tick window it waits for the round of step 6. -/
def State.dispatchNow (s0 : State) (queue : Nat) (want : Except (Nat × Nat) (List Nat) → Bool) : State :=
  let s := if s0.inWindow then s0.toStep6 else s0
  match s.headReady queue with
  | none => s0
  | some (s1, r, before) =>
    let late := match r with
      | .ok d => !ordFlag d 0 && (before || !s0.inWindow)
      | .error _ => false
    if want r then s1.dispatch queue r late else s0

/-- WORK_ORDER_DISPATCH: a head that becomes ready between rounds is dispatched at once, late unless NOW is set. -/
def execWorkOrderDispatch (queue : Nat) (s : State) : Out := .next (s.dispatchNow queue (fun _ => true))

/-! Operations (R325, R326) -/

/-- An order in execution whose operation has not begun. -/
def State.freshOrder (s : State) (id op : Nat) : Option Order :=
  match tabGet s.host.orders id with
  | some o => if o.done.isNone && !o.begun && ordOp o.raw == op then some o else none
  | none => none

/-- The head of a queue is a good order of an operation. -/
def headIs (g : Bool) (op : Nat) : Except (Nat × Nat) (List Nat) → Bool
  | .ok d => ordOk g d && ordOp d == op
  | .error _ => false

/-- NOP: the ready head of a queue that is a NOP is dispatched and completes at dispatch. -/
def execNop (queue : Nat) (s : State) : Out := .next (s.dispatchNow queue (headIs (s.quCompat queue) 0))

/-- EVENT: the ready head of a queue that is an EVENT is dispatched, completes at dispatch and always writes a record with CODE. -/
def execEvent (queue : Nat) (s : State) : Out := .next (s.dispatchNow queue (headIs (s.quCompat queue) 5))

/-- SIGNAL: a TALLY_ADD to a site of the partition, on the CTRL channel from the engine's I/O die, on lane 0. -/
def execSignal (order : Nat) (s : State) : Out :=
  match s.freshOrder order 3 with
  | some o =>
    match siteOfNum (ordF o.raw 0x10 2) with
    | none => .next (s.setOrder order { o with begun := true, done := some (1, 0) })
    | some i =>
      if s.partOfSite i ≠ some o.part then .next (s.setOrder order { o with begun := true, done := some (4, 0) })
      else
        let s1 := s.extSend (128 + ioOf o.fn) o.part i 0 0 0x01 0 0 0 (o.raw.getD 0x12 0 + 2 ^ 16 * ordF o.raw 0x14 2) [] false 0
        .next (s1.setOrder order { o with begun := true, done := some (0, 0) })
  | none => .next s

/-- A launch record's fields are in range, and its core may be launched (R326); `seen` are earlier records' LCOREs. -/
def State.recordOk (s : State) (p : Nat) (r : List Nat) (seen : List Nat) : Bool :=
  match siteOfNum (ordF r 0 2) with
  | none => false
  | some i =>
    s.partOfSite i == some p && (s.coreSt i == coreIdle || s.coreSt i == coreEnded) &&
    decide (ordF r 2 2 < 1024) && !seen.contains (ordF r 2 2) && ordF r 8 8 % 64 == 0 && ordF r 0x10 2 != 0 &&
    decide (r.getD 0x12 0 < 2) && decide (r.getD 0x13 0 ≤ 4) && (r.drop 0x15).all (· == 0)

/-- The first record that fails the check. -/
def State.badRecord (s : State) (p : Nat) : List (List Nat) → Nat → List Nat → Option Nat
  | [], _, _ => none
  | r :: t, n, seen => if s.recordOk p r seen then s.badRecord p t (n + 1) (ordF r 2 2 :: seen) else some n

/-- Records of 32 bytes. -/
def recordsOf : Nat → List Nat → List (List Nat)
  | 0, _ => []
  | n + 1, l => l.take 32 :: recordsOf n (l.drop 32)

/-- The engine writes a core's registers from its record, and its CORE_VOY_CMD.LAUNCH (R326, R133). For a core that another agent has launched, the writes of the voyage's registers and of the split are ignored as R131 and R140 say, and the launch as R133 says: CORE_WDOG alone is written. -/
def State.launchRecord (s : State) (i : Nat) (r : List Nat) (l : Nat) : State :=
  let wdog (s : State) : State := s.store (pgCore i + 0x140) 0xFF (BitVec.ofNat 32 (r.getD 0x14 0)) false
  if s.coreSt i = coreIdle ∨ s.coreSt i = coreEnded then
    let s1 := (((((((s.setF (F.CORE_VOY_LCORE_LCORE i) (ordF r 2 2)).setF (F.CORE_VOY_SEED_SEED i) (ordF r 4 4)).setF
      (F.CORE_VOY_TABLE_LO_ADDR i) (ordF r 8 4 / 64)).setF (F.CORE_VOY_TABLE_HI_ADDR i) (ordF r 0xC 4)).setF
      (F.CORE_VOY_PROGS_COUNT i) (ordF r 0x10 2)).setF (F.CORE_VOY_PROGS_REPEAT i) (r.getD 0x12 0)).setF
      (F.CORE_VOY_LAUNCH_LO_ORBIT i) (l % 2 ^ 32)).setF (F.CORE_VOY_LAUNCH_HI_ORBIT i) (l / 2 ^ 32)
    (wdog (s1.setSplit i (r.getD 0x13 0))).launch i
  else wdog s

/-- Orbit L of a LAUNCH: 64 bits, or a stamp read by R47. A stamp that means an orbit below 0 (a count under 2^31) gives that number modulo 2^64 (DESIGN CHOICE, log entry 159). -/
def State.launchOrbit (s : State) (o : Order) : Nat :=
  if o.gcompat then (stampOrbit (ordF o.raw 0x1C 4) s.orbit % 2 ^ 64).toNat else ordF o.raw 0x20 8

/-- LAUNCH: first every record is read and checked; then, given again, the engine writes and launches every listed core in order, and a core launched by another agent meanwhile makes it PARTIAL. -/
def execLaunch (order : Nat) (s : State) : Out :=
  match tabGet s.host.orders order with
  | none => .next s
  | some o =>
    if o.done.isSome || ordOp o.raw != 1 then .next s
    else if o.begun then
      let r := o.cores.foldl (fun (acc : State × Bool) e =>
        (acc.1.launchRecord e.1 e.2 (s.launchOrbit o), acc.2 || !(acc.1.coreSt e.1 == coreIdle || acc.1.coreSt e.1 == coreEnded))) (s, false)
      .next (r.1.setOrder order { o with cores := [], done := some (if r.2 then 6 else 0, 0) })
    else
      let n := ordF o.raw 0x18 2
      match s.peek (128 + ioOf o.fn) o.part (ordF o.raw 0x10 8) (32 * n) with
      | (s1, .error e) => .next (s1.setOrder order { o with begun := true, done := some (match xlKind e.status with | some (k, _) => (2, k) | none => (3, 0)) })
      | (s1, .ok (d, _)) =>
        let rs := recordsOf n d
        match s1.badRecord o.part rs 0 [] with
        | some k => .next (s1.setOrder order { o with begun := true, done := some (5 + 2 ^ 8 * k, 0) })
        | none => .next (s1.setOrder order { o with
            begun := true, cores := rs.map (fun r => ((siteOfNum (ordF r 0 2)).getD 0, r)) })

/-! Bytes of COPY and WRITE -/

/-- An access of an order through its engine. -/
def State.orderJob (s : State) (id : Nat) (o : Order) (off : Nat) (wr : Bool) (va : Nat) (d : List Byte) (len : Nat) : State :=
  s.startJob (.order id off) (128 + ioOf o.fn) (some o.part) wr va len d (2 ^ len - 1)

/-- One move of a COPY: a piece written, or a piece read; false where it has nothing to do now. Pieces end at 128-byte lines of both sides. -/
def State.copyMove (s : State) (id : Nat) : State × Bool :=
  match tabGet s.host.orders id with
  | none => (s, false)
  | some o =>
    if o.done.isSome || !o.begun || ordOp o.raw != 2 then (s, false)
    else if o.failed.isSome then
      if o.inflight = 0 then (s.setOrder id { o with done := o.failed, writes := [] }, false) else (s, false)
    else
      let src := ordF o.raw 0x10 8
      let dst := ordF o.raw 0x18 8
      let len := copyLen o.gcompat o.raw
      let sp := copySpaces o.gcompat o.raw
      match o.writes with
      | (off, d) :: t =>
        let dest := (dst + off) % 2 ^ 64
        if bit sp 1 then
          match s.hostXl id o.fn dest true with
          | .go a xl => ({ s.setOrder id { o with writes := t } with egress := s.egress ++ [.hostWrite o.fn a xl d] }, true)
          | .ask => (s.atsAsk id o.fn dest true, false)
          | .wait => (s, false)
        else ((s.setOrder id { o with writes := t, inflight := o.inflight + 1 }).orderJob id o off true dest d d.length, true)
      | [] =>
        if o.next < len ∧ o.inflight < 32 then
          let n := min (len - o.next) (min (128 - (src + o.next) % 128) (128 - (dst + o.next) % 128))
          let s1 := s.setOrder id { o with next := o.next + n, inflight := o.inflight + 1 }
          let from_ := (src + o.next) % 2 ^ 64
          if bit sp 0 then
            match s.hostXl id o.fn from_ false with
            | .go a xl =>
              let tag := s1.nextTag
              ({ s1 with
                nextTag := tag + 1, egress := s1.egress ++ [.hostRead o.fn a xl n tag]
                host := { s1.host with reads := tabPut s1.host.reads tag (id, o.next, n, o.fn) } }, true)
            | .ask => (s.atsAsk id o.fn from_ false, false)
            | .wait => (s, false)
          else (s1.orderJob id o o.next false from_ [] n, true)
        else if o.next = len ∧ o.inflight = 0 then (s.setOrder id { o with done := some (0, 0) }, false)
        else (s, false)

/-- A WRITE that has been acknowledged, or failed. -/
def State.writeMove (s : State) (id : Nat) : State :=
  match tabGet s.host.orders id with
  | some o => if o.begun && o.done.isNone && ordOp o.raw == 4 && o.inflight == 0 then s.setOrder id { o with done := some (o.failed.getD (0, 0)) } else s
  | none => s

/-- A job with every piece answered ends: a completion leaves, a moonlet message is answered, or a work order goes on (R165, R166, R316). -/
def State.jobSettle (s0 : State) (j : Nat) : State :=
  let s := s0.jobRelease j
  match tabGet s.host.jobs j with
  | none => s
  | some x =>
    if x.waiting ≠ 0 then s
    else
      let s1 := { s with host := { s.host with jobs := tabDel s.host.jobs j } }
      let d := (x.got.flatMap (fun e => e.2)).take x.len
      match x.kind with
      | .bar2 fn tag =>
        let s2 := if x.err.isSome then s1.countF (F.HPT_XLATE_ERR_COUNT (fn / 64)) 1 else s1
        if x.wr then (if x.err.isSome then s2.aerAdvisory fn 1 tag x.len else s2)
        else
          let r : Reply := match x.err with
            | none => .bytes d
            | some st => if (xlKind st).isSome then .aborted else .poisoned
          { s2 with egress := s2.egress ++ [.completion fn tag r] }
      | .moonlet link ty win tag =>
        let st := match x.err with
          | none => 0
          | some st => if st = stMalformed then 5 else if (xlKind st).isSome then 3 else 4
        let s2 := if st = 0 then s1 else
          ((((s1.countF F.MNL_ERR_COUNT 1).setF F.MNL_LASTERR_TYPE ty).setF F.MNL_LASTERR_WIN win).setF F.MNL_LASTERR_STATUS st).setF F.MNL_LASTERR_DIE (link - 20)
        s2.mtSend ⟨link, if x.wr then 0x82 else 0x81, tag, st, if x.wr || st != 0 then [] else d⟩
      | .event _ => s1
      | .order id off =>
        match tabGet s1.host.orders id with
        | none => s1
        | some o =>
          let o1 := { o with inflight := o.inflight - 1 }
          match x.err with
          | some st => s1.setOrder id { o1 with failed := some (o1.failed.getD (match xlKind st with | some (k, _) => (2, k) | none => (3, 0))) }
          | none => s1.setOrder id (if x.wr then o1 else { o1 with writes := o1.writes ++ [(off, d)] })

/-- Jobs with every piece answered end. -/
def State.jobsSettle (s : State) : State := s.host.jobs.foldl (fun s e => s.jobSettle e.1) s

/-- Moves of a COPY until it waits; `n` bounds them. -/
def copyPump (id : Nat) : Nat → State → State
  | 0, s => s
  | n + 1, s =>
    match s.copyMove id with
    | (s1, true) => copyPump id n s1.jobsSettle
    | (s1, false) => s1

/-- A posted write of a function through BAR2 is under way. -/
def State.bar2Writing (s : State) (fn : Nat) : Bool :=
  s.host.jobs.any (fun e => e.2.wr && (match e.2.kind with | .bar2 f _ => f == fn | _ => false))

/-- BAR2 reads whose function has no posted write under way start (R249). -/
def State.startHeld (s : State) : State :=
  let go := s.host.heldReads.filter (fun r => !s.bar2Writing r.fn)
  go.foldl (fun s r => s.startJob (.bar2 r.fn r.tag) (128 + ioOf r.fn) r.part false r.va r.len [] 0)
    { s with host := { s.host with heldReads := s.host.heldReads.filter (fun r => s.bar2Writing r.fn) } }

/-- What an answer sets free: jobs end, reads that waited start, work orders go on, streams send. -/
def State.settle (s : State) : State :=
  let s1 := s.jobsSettle.startHeld.jobsSettle
  (s1.host.orders.foldl (fun s e => (copyPump e.1 128 s).writeMove e.1) s1).pumpAll

/-- COPY: bytes move between device and host addresses. -/
def execCopy (order : Nat) (s : State) : Out :=
  match s.freshOrder order 2 with
  | some o => .next (s.setOrder order { o with begun := true }).settle
  | none => .next s

/-- WRITE: up to 64 bytes to a virtual address. -/
def execWrite (order : Nat) (s : State) : Out :=
  match s.freshOrder order 4 with
  | some o =>
    let n := o.raw.getD 0x18 0
    let s1 := s.setOrder order { o with begun := true, inflight := 1 }
    .next (s1.orderJob order o 0 true (ordF o.raw 0x10 8) (toBytes ((o.raw.drop 0x20).take n)) n).settle
  | none => .next s

/-- WORK_ORDER_COMPLETE (R329). -/
def execWorkOrderComplete (order : Nat) (s : State) : Out :=
  match tabGet s.host.orders order with
  | some o =>
    match o.done with
    | some (st, kind) => .next (s.orderEnd order o st kind)
    | none => .next s
  | none => .next s

/-- An order in execution fails with a status. -/
def State.orderFail (s : State) (id st : Nat) : State :=
  match tabGet s.host.orders id with
  | some o => s.setOrder id { o with failed := some (o.failed.getD (st, 0)) }
  | none => s

/-- The answer to a translation request (R310): bits 63:12 of eight little-endian bytes, with Read and Write in bits 0 and 1. One that fails, or does not allow the access, fails its order with HOST_ERR. -/
def State.atsAnswer (s0 : State) (tag fn page order : Nat) (wr ok : Bool) (data : List Byte) : State :=
  let s : State := { s0 with host := { s0.host with atsReqs := tabDel s0.host.atsReqs tag } }
  if !ok then (s.countF (F.HPT_DMA_ERR_COUNT (fn / 64)) 1).orderFail order 7
  else
    let w := leNat ((data.take 8).map BitVec.toNat)
    let s1 := s.atcPut ⟨fn, page, w / 4096, bit w 0, bit w 1⟩
    if bit w (if wr then 1 else 0) then s1 else s1.orderFail order 7

/-- HOST_COMPLETION: a completion for a read, or for a translation request, that the part issued to a host (R310, R330, R329). -/
def execHostCompletion (tag : Nat) (ok : Bool) (data : List Byte) (s : State) : Out :=
  match tabGet s.host.atsReqs tag with
  | some (fn, page, order, wr) => .next (s.atsAnswer tag fn page order wr ok data).settle
  | none =>
    match tabGet s.host.reads tag with
    | none => .next s
    | some (id, off, n, fn) =>
      let s0 := { s with host := { s.host with reads := tabDel s.host.reads tag } }
      let s1 := if ok then s0 else s0.countF (F.HPT_DMA_ERR_COUNT (fn / 64)) 1
      match tabGet s1.host.orders id with
      | none => .next s1
      | some o =>
        let o1 := { o with inflight := o.inflight - 1 }
        if ok then .next (s1.setOrder id { o1 with writes := o1.writes ++ [(off, (data ++ List.replicate (n - data.length) 0).take n)] }).settle
        else .next (s1.setOrder id { o1 with failed := some (o1.failed.getD (7, 0)) }).settle

/-! Doorbells and queues (R323, R329) -/

/-- A refused doorbell is counted and recorded (R323, R335). -/
def State.doorbellDrop (s : State) (fn q : Nat) : State :=
  let p := fn / 64
  ((((s.countF (F.HPT_FILT_DROP_COUNT p) 1).setF (F.HPT_FILT_LAST_PAGE p) q).setF (F.HPT_FILT_LAST_FN p) (fn % 64)).setF
    (F.HPT_FILT_LAST_WRITE p) 1).setF (F.HPT_FILT_LAST_DOORBELL p) 1

/-- DOORBELL (R323): discarded and counted from another function, for a disabled queue, or during the partition's reset; DB_OVER stops the queue. -/
def execDoorbell (fn queue : Nat) (value : Word) (s : State) : Out :=
  let reset := match s.quPart queue with
    | some p => s.pgState (pgPrt p) == prtReset
    | none => false
  if 4096 ≤ queue || decide (256 ≤ fn) || s.beforeReady then .next s
  else if !(s.quOn queue) || s.quFn queue != fn || reset then .next (s.doorbellDrop fn queue)
  else if 2 ^ s.quLog2 queue < (value.toNat + 2 ^ 32 - s.quHead queue) % 2 ^ 32 then .next (s.quStop queue 0xF)
  else
    let s1 := s.setF (F.QUE_TAIL_COUNT (queue / 64) (queue % 64)) value.toNat
    .next { s1 with host := { s1.host with marks := tabPut s1.host.marks queue s1.host.nextJob } }

/-- QUEUE_RESUME: a write of QUE_STATUS.RESUME takes a queue out of STOPPED (R329). -/
def execQueueResume (who : Requester) (queue : Nat) (value : Word) (s : State) : Out :=
  if 4096 ≤ queue then .next s
  else trigger s who (pgQue (queue / 64) + 0x818 + 0x20 * (queue % 64)) (2 ^ 31) value (fun s =>
    if bit value.toNat 31 && s.quIsStopped queue then
      (s.setF (F.QUE_STATUS_STATE (queue / 64) (queue % 64)) 0).setF (F.QUE_STATUS_ERR (queue / 64) (queue % 64)) 0
    else s)

end Sys2Proof.Machine
end

