-- ==== Sys2Proof/Machine/Envelope.lean ====
section
/-! DEFINITION. The energy account, the governor, frequencies, setpoints and the emergency cap (R287 to R300, R447). -/
namespace Sys2Proof.Machine

def Energy.zero : Energy := ⟨0, 0, 0⟩
def Energy.add (a b : Energy) : Energy := ⟨a.links + b.links, a.mem + b.mem, a.comp + b.comp⟩
/-- Package energy is the sum of the three consumers (R287). -/
def Energy.sum (a : Energy) : Nat := a.links + a.mem + a.comp

/-- The 48-bit energy count of 100 µJ units holds at its maximum (R41). -/
def energyTop : Nat := (2 ^ 48 - 1) * 100

/-- The orbit period in CLK_ORB cycles (R36). -/
def State.period (s : State) : Nat := 100 * s.getF F.ORB_PERIOD_PERIOD_US

/-! The governor's level -/

/-- Highest trim of a consumer: 0 LINKS, 1 MEM, 2 COMP (R291). -/
def trimMaxOf (consumer : Nat) : Nat := if consumer = 2 then 8 else 7
/-- The highest level of all (R292). -/
def trimMax : Nat := 22

/-- Trim of a consumer at a level, the consumers taken from the last of ORB_EN_ORDER to the first (R291). -/
def trimAt (order : Nat) (level : Int) (consumer : Nat) : Nat :=
  let third := bits order 4 2
  let second := bits order 2 2
  let g := level.toNat
  let before := if consumer = third then 0 else if consumer = second then trimMaxOf third else trimMaxOf third + trimMaxOf second
  min (g - before) (trimMaxOf consumer)

/-- The governor's own trim of a consumer. -/
def State.govTrim (s : State) (consumer : Nat) : Nat := trimAt (s.getF F.ORB_EN_ORDER_ORDER) s.gov.level consumer

/-- The fill level, 0 to 3. -/
def State.fill (s : State) : Nat := (-s.gov.level).toNat

/-- COMP trim of a tower's actuators: the governor's, and at least 4 while the thermal hold is on (R301). -/
def State.compTrim (s : State) (tower : Nat) : Nat :=
  if s.therm.held.contains tower then max 4 (s.govTrim 2) else s.govTrim 2

/-- LINKS trim; its maximum while the hold of step 1 of the emergency cap lasts (R299). -/
def State.linksTrim (s : State) : Nat := if s.gov.pcapHold then 7 else s.govTrim 0

/-- DIE_BK_TOKCAP of every die as R293 writes it. -/
def State.writeTokCap (s : State) : State :=
  if s.on F.ORB_EN_CTRL_EN then
    (List.range 4).foldl (fun s d => s.setF (F.DIE_BK_TOKCAP_CAP d) (min (s.getF F.ORB_EN_BKMAX_CAP) (8 - s.govTrim 1))) s
  else s

/-- Time at the present level is accounted for R296. -/
def State.markLevel (s : State) : State :=
  let g := s.gov
  { s with gov := { g with
      markAt := s.now
      trim2 := g.trim2 + (if s.govTrim 2 ≥ 2 then s.now - g.markAt else 0)
      anyTrim := g.anyTrim || decide (0 < g.level) } }

/-- ORB_EN_STATUS follows the level (R305). -/
def State.showLevel (s : State) : State :=
  (((s.setF F.ORB_EN_STATUS_COMP (s.govTrim 2)).setF F.ORB_EN_STATUS_FILL s.fill).setF
    F.ORB_EN_STATUS_MEM (s.govTrim 1)).setF F.ORB_EN_STATUS_LINKS s.linksTrim

/-- ORB_EN_ORDER has changed, so that the level acts on other consumers; a change of the MEM trim writes the token caps (R291, R293). -/
def State.showOrder (s : State) (oldMem : Nat) : State :=
  let s1 := s.showLevel
  if s1.govTrim 1 = oldMem then s1 else s1.writeTokCap

/-- The governor moves to a level; a change of the MEM trim writes the token caps (R293). -/
def State.setLevel (s : State) (g : Int) : State :=
  let old := s.govTrim 1
  let s0 := s.markLevel
  let s1 := { s0 with gov := { s0.gov with level := g, anyTrim := s0.gov.anyTrim || decide (0 < g) } }
  let s2 := s1.showLevel
  if s1.govTrim 1 = old then s2 else s2.writeTokCap

/-- The lowest enabled fill level (R291). -/
def State.lowestFill (s : State) : Int :=
  if !s.on F.ORB_EN_CTRL_FILL_EN then 0 else if s.on F.ORB_EN_CTRL_BALLAST_EN then -3 else -2

/-! Windows -/

/-- A window of `len` cycles and energy e (µJ) exceeds w watts. -/
def winAbove (e len w : Nat) : Bool := decide (w * len < e * 100)

/-- What every window counts for, however it ends: run above PPL, peak, SHORT_OVER; then a new window begins (R292, R447). -/
def State.closeWindow (s : State) : State :=
  let g := s.gov
  let len := s.now - g.winFrom
  if len = 0 then s else
  let above := winAbove g.winE len (s.getF F.ORB_PPL_WATTS)
  let ovr := winAbove g.winE len 3800
  { s with gov := { g with
      run := if above then g.run + 1 else 0
      winFrom := s.now
      winE := 0
      peak := max g.peak (g.winE * 100 / len)
      short := g.short || ovr
      roll := if s.running then [] else (g.winE :: g.roll).take 100 } }

/-- The short limits take trim_max (R290). -/
def shortLimit (e len run : Nat) : Bool := winAbove e len 3800 || decide (1000 ≤ run)

/-- Where R292 moves the level at the end of a full window of energy e and length len: the orbit has drawn `drawn` µJ over t cycles of period p, H and L in 100 µJ. -/
def governorMove (g : Int) (low : Int) (e len drawn t p high lowB : Nat) (lowOn : Bool) : Int :=
  let tEnd := max p (t + 1000)
  let num := (drawn * len + e * (tEnd - t)) * p
  let den := tEnd * len
  if num > high * 100 * den then min (g + 1) trimMax
  else if lowOn && decide (num < lowB * 100 * den) then max (g - 1) (min low g)
  else if g > 0 && decide (num * 100 < 98 * (high * 100 * den)) then g - 1
  else if g < 0 && (!lowOn || decide (102 * (lowB * 100 * den) < num * 100)) then g + 1
  else g

/-- The level after a window that has just been closed; while orbits are stopped the average of the last 1 ms is held to PPL, and to 1,200 W under the emergency cap (R289, R292, R300). -/
def State.govern (s : State) (e len : Nat) : State :=
  let g := s.gov
  if shortLimit e len g.run then s.setLevel trimMax
  else if s.running && s.orb.tickAt.isSome then
    s.setLevel (governorMove g.level s.lowestFill e len g.orbE.sum s.orb.len s.period g.high g.low g.lowOn)
  else
    let sum := g.roll.foldl (· + ·) 0
    let n := g.roll.length * 1000
    let ppl := if g.pcapBound then min (s.getF F.ORB_PPL_WATTS) 1200 else s.getF F.ORB_PPL_WATTS
    s.setLevel
      (if sum * 100 > ppl * n then min (g.level + 1) trimMax
       else if g.level > 0 && decide (sum * 10000 < 98 * ppl * n) then g.level - 1
       else if g.level < 0 then g.level + 1 else g.level)

/-- GOVERNOR_WINDOW: a 10 µs window ends and the governor moves its level (R292). -/
def execGovernorWindow (s : State) : Out :=
  let s1 := s.advanceTo (s.gov.winFrom + 1000)
  let e := s1.gov.winE
  let len := s1.now - s1.gov.winFrom
  .next (s1.closeWindow.govern e len)

/-- The part of a sample that a count with `room` left takes: links first, then memory, then arrays. -/
def Energy.upTo (e : Energy) (room : Nat) : Energy :=
  let l := min e.links room
  let m := min e.mem (room - l)
  ⟨l, m, min e.comp (room - l - m)⟩

/-- ENERGY_SAMPLE: the 1 µs sample of every consumer enters the account (R287); package energy is counted always, an orbit's only while one is open (R42). At its maximum the orbit's count holds; which consumers' energy the last sample still adds is the model's choice (R41 says nothing of it; DESIGN CHOICE, log entry 158). -/
def execEnergySample (links mem comp : Nat) (s : State) : Out :=
  let s1 := s.advanceTo (s.gov.sampledAt + 100)
  let g := s1.gov
  let e : Energy := ⟨links, mem, comp⟩
  let openOrbit := s1.running && s1.orb.tickAt.isSome
  let g' := { g with
    sampledAt := s1.now
    winE := g.winE + e.sum
    total := g.total + e.sum
    orbE := if openOrbit then g.orbE.add (e.upTo (energyTop - g.orbE.sum)) else g.orbE }
  .next ((({ s1 with gov := g' } : State).setF F.ORB_EN_TOTAL_LO ((g'.total / 100) % 2 ^ 32)).setF F.ORB_EN_TOTAL_HI (g'.total / 100 / 2 ^ 32))

/-- The number of a requester. -/
def reqIndex : Requester → Nat
  | .fn f => f
  | .ensign b => 256 + b2n b
  | .i3c => 258

/-- ENERGY_TOTAL_READ: ORB_EN_TOTAL_LO, latching ORB_EN_TOTAL_HI for the requester (R305), which a function reaches with the management view alone (R62). -/
def execEnergyTotalRead (who : Requester) (s : State) : Out :=
  if s.heldInReset then .next s
  else if !s.readReach who .orbit F.ORB_EN_TOTAL_LO.addr then .next (s.readDropped who F.ORB_EN_TOTAL_LO.addr)
  else .next { s with
    reply := some (.word (s.word F.ORB_EN_TOTAL_LO.addr))
    orb := { s.orb with totalLatch := tabPut s.orb.totalLatch (reqIndex who) (s.getF F.ORB_EN_TOTAL_HI) } }

/-! Frequency and voltage -/

/-- Vmin code of a cluster at a step (R307). -/
def State.vminCode (s : State) (c f : Nat) : Nat := bits (s.getF (F.CLU_VMIN c (f / 4))) (8 * (f % 4)) 8

/-- The least multiple of 5 mV at or above 1.06 × Vmin, in mV (R297). -/
def baseSetpoint (code : Nat) : Nat := (106 * (500 + 2 * code) + 499) / 500 * 5

/-- The step is usable for the cluster (R297). -/
def usableStep (code : Nat) : Bool := code != 0xFF && decide (baseSetpoint code ≤ 950)

/-- VSEL of a cluster's setpoint for a step: EXTRA added and clamped at 0.95 V; 0.95 V where the step is unusable (R297, R307). -/
def State.vselFor (s : State) (c f : Nat) : Nat :=
  let code := s.vminCode c f
  if usableStep code then (min (baseSetpoint code + 5 * s.getF (F.CLU_PSTATE_EXTRA c)) 950 - 600) / 5 else 70

/-- Clusters of a die. -/
def clustersOf (d : Nat) : List Nat := (List.range 32).map (fun k => 32 * d + k)

/-- A cluster's regulator is given a target (R298). -/
def State.aim (s : State) (c v : Nat) : State :=
  if s.getF (F.CLU_PSTATE_VSEL c) = v then s
  else (s.setF (F.CLU_PSTATE_VSEL c) v).setF (F.CLU_PSTATE_SLEWING c) 1

/-- The requested step under the die's ceilings; step 0 while no Ensign stewards it (R295, R383). -/
def State.ceilStep (s : State) (d fsel : Nat) : Nat :=
  if bit (s.getF F.G_REL_STATUS_STEWARDLESS) d then 0
  else min (min fsel (s.getF (F.DIE_FREQ_CEIL_GOV d))) (min (s.getF (F.DIE_FREQ_CEIL_THM d)) (s.getF (F.DIE_FREQ_CEIL_FUSE d)))

/-- The step due for a die, from a requested step (R295); step 0 under the emergency cap. -/
def State.dueStep (s : State) (d fsel : Nat) : Nat :=
  if s.on F.ORB_EN_STATUS_PCAP then 0 else s.ceilStep d fsel

/-- The step due at the next tick for a die with FSEL as then staged: the emergency cap holds step 0 until PCAP_N has been high for 100 µs (R298, R300). -/
def State.nextStep (s : State) (d : Nat) : Nat :=
  if s.on F.ORB_EN_STATUS_PCAP && s.gov.pinLow then 0 else s.ceilStep d (s.dueF (F.DIE_FREQ_FSEL d))

/-- Setpoints follow the step in force or due: they are raised ahead of a rise due for the die, and return where it is withdrawn (R297, R298). -/
def State.leadRise (s : State) (d f : Nat) : State :=
  let g := max f (s.getF (F.DIE_FREQ_CUR d))
  (clustersOf d).foldl (fun s c => s.aim c (s.vselFor c g)) s

/-- Setpoints of a die lead what is due at its next tick. -/
def State.lead (s : State) (d : Nat) : State := s.leadRise d (s.nextStep d)

/-- Every cluster of the die has reached the setpoint of a step. -/
def State.voltReady (s : State) (d f : Nat) : Bool :=
  (clustersOf d).all (fun c => !s.on (F.CLU_PSTATE_SLEWING c) && decide (s.vselFor c f ≤ s.getF (F.CLU_PSTATE_VSEL c)))

/-- A die's frequency changes to a step; setpoints fall after a fall (R295, R298). -/
def State.setStep (s : State) (d f : Nat) : State :=
  let cur := s.getF (F.DIE_FREQ_CUR d)
  let s1 := s.setF (F.DIE_FREQ_CUR d) f
  if f < cur then (clustersOf d).foldl (fun s c => s.aim c (s.vselFor c f)) s1 else s1

/-- Step 5 of a tick for one die: the due frequency, or a deferral (R298). -/
def State.freqAtTick (s : State) (d : Nat) : State :=
  let cur := s.getF (F.DIE_FREQ_CUR d)
  let due := s.dueStep d (s.getF (F.DIE_FREQ_FSEL d))
  if due ≤ cur then s.setStep d due
  else if s.voltReady d due then s.setStep d due
  else ((s.orF F.ORB_EN_FLAGS_FREQ_DEFER 1).countF (F.DIE_FREQ_DEFER_COUNT d) 1).leadRise d due

/-- The die takes writes to its regulators and frequency controls from the requester: from its steward alone of the two Ensigns, and from no one while stewardless (R381, R383). -/
def State.steeredBy (s : State) (who : Requester) (d : Nat) : Bool :=
  !bit (s.getF F.G_REL_STATUS_STEWARDLESS) d &&
    (match who with
    | .ensign b => bit (s.getF F.G_REL_STATUS_STEWARD) d == b
    | _ => true)

/-- FREQ_REQUEST: DIE_FREQ.FSEL is staged, and a rise due at the next tick starts raising setpoints (R298); while orbits are stopped it takes effect at once (R42). -/
def execFreqRequest (who : Requester) (die : Nat) (value : Word) (s : State) : Out :=
  if !s.steeredBy who die then .next s
  else trigger s who (F.DIE_FREQ_FSEL die).addr 0xF value (fun s =>
    let s1 := s.store (F.DIE_FREQ_FSEL die).addr 0xF value false
    s1.lead die)

/-- SETPOINT_REACHED: a cluster regulator finishes slewing (R266, R298). -/
def execSetpointReached (cluster : Nat) (s : State) : Out :=
  .next (s.setF (F.CLU_PSTATE_SLEWING cluster) 0)

/-- STOPPED_FREQUENCY_CHANGE: while orbits are stopped a die takes its due frequency without a tick, a rise once voltages are ready (R295). -/
def execStoppedFrequencyChange (die : Nat) (s : State) : Out :=
  if s.running then .next s
  else
    let cur := s.getF (F.DIE_FREQ_CUR die)
    let due := s.dueStep die (s.getF (F.DIE_FREQ_FSEL die))
    if due ≤ cur ∨ s.voltReady die due then .next (s.setStep die due) else .next (s.leadRise die due)

/-! The tick's part -/

/-- E × P / Lₒ (R288). -/
def normalized (e p len : Nat) : Nat := if len = 0 then e else e * p / len

/-- A 24-bit register value that holds at its maximum. -/
def hold24 (n : Nat) : Nat := min n (2 ^ 24 - 1)

/-- The bank engines' share in 100 µJ: 110 mW for each token-ns (R287). -/
def bankShare (tokNs : Nat) : Nat := tokNs * 110 / 10 ^ 8

/-- Step 2 of a tick, or a stop: the account of the open orbit closes (R288, R294, R41). -/
def State.accountClose (s0 : State) : State :=
  let s := s0.closeWindow.markLevel
  let g := s.gov
  let p := s.period
  let e := g.orbE.sum / 100
  let nrm := normalized e p s.orb.len
  let ramp := s.getF F.ORB_EN_RAMP_E
  let prev := g.norm
  let above := decide (g.high < nrm)
  let below := g.lowOn && decide (nrm < g.low)
  let rampHit := decide (ramp ≠ 0) && (match prev with | some q => decide (ramp < nrm - q) || decide (ramp < q - nrm) | none => false)
  let capOver := decide (s.getF F.ORB_PPL_WATTS * s.orb.len < g.orbE.sum * 100)
  let s1 := s.orF F.ORB_EN_FLAGS_ABOVE (b2n above)
  let s2 := s1.orF F.ORB_EN_FLAGS_BELOW (b2n below)
  let s3 := s2.orF F.ORB_EN_FLAGS_RAMP (b2n rampHit)
  let s4 := s3.orF F.ORB_EN_FLAGS_CAP_OVER (b2n capOver)
  let s5 := s4.orF F.ORB_EN_FLAGS_SHORT_OVER (b2n g.short)
  let s6 := (s5.countF F.ORB_EN_ABOVE_CNT_COUNT (b2n above)).countF F.ORB_EN_BELOW_CNT_COUNT (b2n below)
  let s7 := (((s6.setF F.ORB_EN_RAW_E (hold24 e)).setF F.ORB_EN_NORM_E (hold24 nrm)).setF
    F.ORB_EN_LINKS_E (hold24 (g.orbE.links / 100))).setF F.ORB_EN_MEM_E (hold24 (g.orbE.mem / 100))
  let s8 := (((s7.setF F.ORB_EN_COMP_E (hold24 (g.orbE.comp / 100))).setF F.ORB_EN_BK_E (hold24 (bankShare (g.tokNs - g.tokFrom)))).setF
    F.ORB_EN_PEAK_WATTS (min g.peak 0xFFF)).setF F.ORB_EN_ORBIT_LO_ORBIT (s.orbit % 2 ^ 32)
  let s9 := s8.setF F.ORB_ORBIT_LEN_LAST_LEN (min s.orb.len (2 ^ 32 - 1))
  { s9 with gov := { s9.gov with
      norm := some nrm, orbE := Energy.zero, tokFrom := g.tokNs, peak := 0, short := false } }

/-- End of step 4: the bounds of the new orbit (R289); under the emergency cap H is at most 1,200 W × P (R299). `ramps` is false for the first orbit after a start, which drops both ramp terms (R42). -/
def State.orbitBounds (s : State) (ramps : Bool) : State :=
  let g := s.gov
  let last := if ramps then g.norm else none
  let p := s.getF F.ORB_PERIOD_PERIOD_US
  let ppl := s.getF F.ORB_PPL_WATTS * p / 100
  let ppl := if g.pcapBound then min ppl (1200 * p / 100) else ppl
  if s.on F.ORB_EN_CTRL_EN then
    let ramp := s.getF F.ORB_EN_RAMP_E
    let hi := min (s.getF F.ORB_EN_HIGH_E) ppl
    let hi := match last with | some q => if ramp = 0 then hi else min hi (q + ramp) | none => hi
    let lo := s.getF F.ORB_EN_LOW_E
    let lo := match last with | some q => if ramp = 0 then lo else max lo (q - ramp) | none => lo
    let on := decide (lo ≤ hi)
    let s1 := { s with gov := { g with high := hi, low := lo, lowOn := on } }
    let s2 := ((s1.setF F.ORB_EN_LIM_HIGH_E (min hi 0xFFFFF)).setF F.ORB_EN_LIM_LOW_E (min lo 0xFFFFF)).setF F.ORB_EN_LIM_LOW_OFF (b2n !on)
    if on then s2 else s2.orF F.ORB_EN_FLAGS_LOW_YIELD 1
  else
    let lo := s.getF F.ORB_EN_LOW_E
    let s1 := { s with gov := { g with high := ppl, low := lo, lowOn := false } }
    ((s1.setF F.ORB_EN_LIM_HIGH_E (min ppl 0xFFFFF)).setF F.ORB_EN_LIM_LOW_E (min lo 0xFFFFF)).setF F.ORB_EN_LIM_LOW_OFF 1

/-- ENERGY_CTRL_WRITE: ORB_EN_CTRL takes effect; a fill level no longer allowed is left at once (R291), and without EN the open orbit's H is PPL × P and its L is not enforced (R289). -/
def execEnergyCtrlWrite (who : Requester) (value : Word) (s : State) : Out :=
  trigger s who F.ORB_EN_CTRL_EN.addr 7 value (fun s =>
    let s1 := s.store F.ORB_EN_CTRL_EN.addr 7 value true
    let s2 := if s1.gov.level < s1.lowestFill then s1.setLevel s1.lowestFill else s1
    if s2.running && s2.orb.tickAt.isSome && !s2.on F.ORB_EN_CTRL_EN then s2.orbitBounds true else s2)

/-- The highest frequency in force among the dies. -/
def State.topStep (s : State) : Nat := (List.range 4).foldl (fun m d => max m (s.getF (F.DIE_FREQ_CUR d))) 0

/-- CEIL_GOV of every die. -/
def State.setCeilGov (s : State) (v : Nat) : State := (List.range 4).foldl (fun s d => s.setF (F.DIE_FREQ_CEIL_GOV d) v) s

/-- Falls of the ceilings at step 5 (R296, R301): `trim2` cycles of `len` at COMP trim 2 or more, throttling towers. -/
def State.ceilDown (s : State) (trim2 len : Nat) : State :=
  let s1 := if len < 2 * trim2 then s.setCeilGov (s.topStep - 1) else s
  (List.range 4).foldl (fun s d =>
    if bit (s.getF F.THM_STATUS_LTHR) d || bit (s.getF F.THM_STATUS_DTHR) d then
      s.setF (F.DIE_FREQ_CEIL_THM d) (s.getF (F.DIE_FREQ_CUR d) - 1) else s) s1

/-- The latest sample finds the tower throttling. -/
def State.towerHot (s : State) (d : Nat) : Bool := bit (s.getF F.THM_STATUS_LTHR) d || bit (s.getF F.THM_STATUS_DTHR) d

/-- Rises of the ceilings at step 5, which take effect no earlier than the next tick (R296, R301). -/
def State.ceilUp (s : State) (anyTrim : Bool) : State :=
  let nrm := s.gov.norm.getD 0
  let lone := s.getF F.G_REL_STATUS_STEWARDLESS
  let s1 := if !anyTrim && lone == 0 && s.gov.norm.isSome && decide (10 * nrm ≤ 9 * s.gov.high)
    then s.setCeilGov (min 8 (s.getF (F.DIE_FREQ_CEIL_GOV 0) + 1)) else s
  let s2 := (List.range 4).foldl (fun s d =>
    if s.therm.released.contains d && !bit lone d then s.setF (F.DIE_FREQ_CEIL_THM d) (min 8 (s.getF (F.DIE_FREQ_CEIL_THM d) + 1)) else s) s1
  (List.range 4).foldl (fun s d => s.lead d) s2

/-! The emergency cap -/

/-- PCAP_ASSERT: PCAP_N has been low for 0.5 µs, `dt` cycles after the previous command, and stays low for `low` cycles more (R299, R305). -/
def execPcapAssert (dt low : Nat) (s : State) : Out :=
  let s1 := s.advance dt
  let s2 : State := { s1 with gov := { s1.gov with pinLow := true, pinHighAt := s1.now + low } }
  if s2.heldInReset || s2.on F.ORB_EN_STATUS_PCAP then .next s2
  else
    let s3 := (s2.setF F.ORB_EN_STATUS_PCAP 1).orF F.ORB_EN_FLAGS_PCAP_ENTER 1
    .next ({ s3 with gov := { s3.gov with pcapHold := true, pcapBound := true } }.showLevel)

/-- The end of the response: hold, token cap and bound are lifted (R300). -/
def State.pcapEnd (s : State) : State :=
  let s1 := (s.setF F.ORB_EN_STATUS_PCAP 0).orF F.ORB_EN_FLAGS_PCAP_EXIT 1
  let s2 := ({ s1 with gov := { s1.gov with pcapHold := false, pcapBound := false } }).showLevel
  (List.range 4).foldl (fun s d => s.lead d) s2

/-- PCAP_RELEASE: PCAP_N has been high for 100 µs, at least `dt` cycles after the previous command; the response ends at the next tick, or at once while orbits are stopped (R300). -/
def execPcapRelease (dt : Nat) (s : State) : Out :=
  let s1 := (s.advance dt).advanceTo (s.gov.pinHighAt + 10000)
  let s2 : State := { s1 with gov := { s1.gov with pinLow := false } }
  if !s2.on F.ORB_EN_STATUS_PCAP then .next s2
  else if s2.running then
    .next ((List.range 4).foldl (fun s d => s.lead d) s2)
  else .next s2.pcapEnd

/-- Step 4 of a tick: the response ends where PCAP_N has been high for 100 µs (R300). -/
def State.pcapAtTick4 (s : State) : State :=
  if s.on F.ORB_EN_STATUS_PCAP && !s.gov.pinLow then s.pcapEnd else s

/-- Step 5 of the first tick of a response: the hold of step 1 is lifted and the governor goes on from trim_max (R299). -/
def State.pcapAtTick5 (s : State) : State :=
  if s.on F.ORB_EN_STATUS_PCAP && s.gov.pcapHold then
    ({ s with gov := { s.gov with pcapHold := false } }).setLevel trimMax
  else s

end Sys2Proof.Machine
end

