-- ==== Sys2Proof/Machine/HostRows.lean ====
section
/-! DEFINITION. Hosts' memory accesses, event rings, functions, ports and partitions (R310 to R321, R331 to R338, R344, R351, R354, R402, R405). -/
namespace Sys2Proof.Machine

/-! BAR2 (R316) -/

/-- The window of a function: first virtual address and bytes. -/
def State.winBase (s : State) (f : Nat) : Nat :=
  s.getF (F.HPT_WIN_VBASE_LO_ADDR (f / 64) (f % 64)) * 2 ^ 21 + s.getF (F.HPT_WIN_VBASE_HI_ADDR (f / 64) (f % 64)) * 2 ^ 32
def State.winBytes (s : State) (f : Nat) : Nat := s.getF (F.HPT_WIN_SIZE_SIZE (f / 64) (f % 64)) * 2 ^ 21

/-- An access lies in BAR2 as it is sized (R313) and meets a bound function's window. -/
def State.bar2Ok (s : State) (f off len : Nat) : Bool :=
  (match s.partOfFn f with | some p => s.pgState (pgPrt p) != prtReset | none => false) && decide (off + len ≤ s.winBytes f) && decide (off + len ≤ 2 ^ (s.cfg f).bar2Log2) && decide (0 < len)

/-- BAR2_READ: up to 4,096 bytes, started once the function's earlier posted writes have arrived (R249), and answered with data, poisoned data, Completer Abort or Unsupported Request. -/
def execBar2Read (fn tag off len : Nat) (s : State) : Out :=
  if 256 ≤ fn then .next s
  else if s.bar2Ok fn off len then
    .next ({ s with host := { s.host with heldReads := s.host.heldReads ++ [⟨fn, tag, s.partOfFn fn, s.winBase fn + off, len⟩] } } : State).settle
  else
    let s1 := s.countF (F.HPT_XLATE_ERR_COUNT (fn / 64)) 1
    .next { s1 with egress := s1.egress ++ [.completion fn tag .unsupported] }

/-- BAR2_WRITE: a posted write under its byte enables, performed, held or discarded. -/
def execBar2Write (fn off : Nat) (data : List Byte) (mask : Nat) (s : State) : Out :=
  if 256 ≤ fn then .next s
  else if s.bar2Ok fn off data.length then
    .next ((s.startJob (.bar2 fn off) (128 + ioOf fn) (s.partOfFn fn) true (s.winBase fn + off) data.length data (mask % 2 ^ data.length)).settle)
  else .next ((s.countF (F.HPT_XLATE_ERR_COUNT (fn / 64)) 1).aerUr fn 1 off data.length)

/-! Queues (R323) -/

/-- QUEUE_ENABLE: a write of QUE_CFG that takes EN from 0 to 1 zeroes the queue's counts and takes it out of STOPPED. -/
def execQueueEnable (who : Requester) (queue : Nat) (value : Word) (s : State) : Out :=
  if decide (queue < 4096) && bit value.toNat 0 && !s.quOn queue then
    triggerM s who (pgQue (queue / 64) + 0x808 + 0x20 * (queue % 64)) 1 value (fun m s =>
      let s1 := s.store (pgQue (queue / 64) + 0x808 + 0x20 * (queue % 64)) m value true
      let q := queue / 64
      let j := queue % 64
      ((((s1.setF (F.QUE_TAIL_COUNT q j) 0).setF (F.QUE_HEAD_COUNT q j) 0).setF (F.QUE_DONE_COUNT q j) 0).setF
        (F.QUE_STATUS_STATE q j) 0).setF (F.QUE_STATUS_ERR q j) 0)
  else .next s

/-! Event rings (R332 to R334) -/

/-- The 32 bytes of a record (R332); PHASE is 1 on the ring's first pass. -/
def recordBytes (r : EvRec) (log2 tail : Nat) : List Byte :=
  let phase := (tail / 2 ^ log2 + 1) % 2
  toBytes ([r.kind % 256, (r.flags + 128 * phase) % 256] ++ leBytes 2 r.src ++ leBytes 4 r.code ++ leBytes 8 r.orbit ++
    leBytes 8 r.data0 ++ leBytes 4 r.data1 ++ leBytes 4 tail)

/-- The message of a ring: vector VEC of FN (R333). -/
def State.ringMsg (s : State) (e : Nat) : State := s.sendMsix (s.getF (F.EVT_CFG_FN e)) (s.getF (F.EVT_CFG_VEC e))

/-- The MSI-X message of a record: at once, or owed at the end of the holdoff (R333). -/
def State.ringIrq (s : State) (e : Nat) : State :=
  if s.getF (F.EVT_IRQ_HOLDOFF_US e) = 0 then s.ringMsg e
  else
    let r := s.ring e
    match r.holdFrom with
    | some _ => s.setRing e { r with owed := true }
    | none => (s.setRing e { r with holdFrom := some s.now }).ringMsg e

/-- EVENT_HEAD_ADVANCE: a write of EVT_HEAD; a record that waited for space starts (R334). -/
def execEventHeadAdvance (who : Requester) (ring : Nat) (value : Word) (s : State) : Out :=
  if ring < 64 then
    trigger s who (pgEvt ring + 0x10C) 0xFFFFFFFF value (fun s =>
      let s1 := s.store (pgEvt ring + 0x10C) 0xFFFFFFFF value true
      if s1.on (F.EVT_CFG_EN ring) then s1.ringKick ring else s1)
  else .next s

/-- MSIX_HOLDOFF_EXPIRY: the holdoff ends; one message more, and a new holdoff with it, if records were written meanwhile (R333). -/
def execMsixHoldoffExpiry (ring : Nat) (s : State) : Out :=
  let r := s.ring ring
  match r.holdFrom with
  | none => .next s
  | some t =>
    let s1 := s.advanceTo (t + 100 * s.getF (F.EVT_IRQ_HOLDOFF_US ring))
    if r.owed && s1.on (F.EVT_CFG_EN ring) then
      .next ((s1.setRing ring { r with holdFrom := some s1.now, owed := false }).ringMsg ring)
    else .next (s1.setRing ring { r with holdFrom := none, owed := false })

/-- EVENT_ENABLE_WRITE: a write of a page's PG_EVT_EN; an event that it enables and that is already set is posted once (R405). -/
def execEventEnableWrite (who : Requester) (page : Nat) (value : Word) (s : State) : Out :=
  let a := 0x1000 * page + 0x14
  trigger s who a 0xFFFFFFFF value (fun s =>
    let newly := Nat.land (value.toNat - Nat.land value.toNat (s.word a).toNat) (s.word (a - 4)).toNat
    let s1 := s.store a 0xFFFFFFFF value true
    if newly ≠ 0 then s1.postBlock (0x1000 * page) newly else s1)

/-! Functions and ports (R311, R317, R335, R344, R351) -/

/-- A ring is disabled: what it staged is discarded (DESIGN CHOICE). -/
def State.ringOff (s : State) (e : Nat) : State :=
  let s1 := s.setF (F.EVT_CFG_EN e) 0
  ({ s1 with rings := tabDel s1.rings e } : State).setF (F.EVT_STAGED_COUNT e) 0

/-- Queues and rings of the functions that `mine` names are disabled; orders already dispatched run on and write no record (R317). -/
def State.dropFunctions (s : State) (mine : Nat → Bool) : State :=
  let qs := (s.engineQueues 0 ++ s.engineQueues 1).filter (fun q => mine (s.quFn q))
  let es := (List.range 64).filter (fun e => s.on (F.EVT_CFG_EN e) && mine (s.getF (F.EVT_CFG_FN e)))
  let s1 := qs.foldl (fun s q => s.setF (F.QUE_CFG_EN (q / 64) (q % 64)) 0) s
  let s2 := es.foldl (fun s e => s.ringOff e) s1
  { s2 with host := { s2.host with
      orders := s2.host.orders.map (fun e => (e.1, if mine e.2.fn then { e.2 with quiet := true } else e.2)) } }

/-- FLR of a function: its configuration space is cleared, its queues and rings are disabled (R317). -/
def execFlr (fn : Nat) (s : State) : Out :=
  if fn < 256 then .next ((s.dropFunctions (· == fn)).cfgClear (· == fn)) else .next s

/-- HOST_PORT_RESET: PERST_N of a port falls: its controller and its functions' configuration are reset, their queues and rings disabled (R351). -/
def execHostPortReset (port : Nat) (s : State) : Out :=
  if 4 ≤ port then .next s
  else
    let s1 := ((s.dropFunctions (fun f => f / 64 == port)).cfgClear (fun f => f / 64 == port)).setWord (pgHpt port + 0x104) 0
    .next { s1 with host := { s1.host with perst := tabDel s1.host.perst port } }

/-- Ensign boot has ended (R344): bring-up is past step 2, where it may also have failed since. -/
def State.ensBooted (s : State) : Bool :=
  let st := s.getF F.G_BOOT_STATE_STATE
  decide (2 ≤ st) && (st != 10 || s.getF F.G_BOOT_CAUSE_FAIL != 1)

/-- A port whose PERST_N is high trains, once Ensign boot has ended (R311, R344). -/
def State.portTrain (s : State) (port : Nat) : State :=
  match tabGet s.host.perst port with
  | some (rate, x8) =>
    if s.ensBooted && !s.on (F.HPT_LINK_UP port) then
      ((s.setF (F.HPT_LINK_UP port) 1).setF (F.HPT_LINK_RATE port) rate).setF (F.HPT_LINK_X8 port) (b2n x8)
    else s
  | none => s

/-- Every port whose PERST_N is high trains as Ensign boot ends. -/
def State.portsTrain (s : State) : State := (List.range 4).foldl (fun s n => s.portTrain n) s

/-- PERST_RELEASE: PERST_N of a port rises; the port trains at a rate, ×16 or ×8, now or as Ensign boot ends (R311, R344, R335). -/
def execPerstRelease (port rate : Nat) (x8 : Bool) (s : State) : Out :=
  if port < 4 && decide (1 ≤ rate) && decide (rate ≤ 6) then
    .next (({ s with host := { s.host with perst := tabPut s.host.perst port (rate, x8) } } : State).portTrain port)
  else .next s

/-- MGMT: a write of HPT_CTRL.MGMT = 1 moves the management view to this port's PF (R335). -/
def execMgmt (who : Requester) (port : Nat) (value : Word) (s : State) : Out :=
  if port < 4 && bit value.toNat 0 then
    trigger s who (pgHpt port + 0x100) 1 value (fun s =>
      (List.range 4).foldl (fun s n => s.setF (F.HPT_CTRL_MGMT n) (b2n (n == port))) s)
  else .next s

/-- ATS_INVALIDATION: a port drops the translations of a function's range of 4 KiB pages from its ATC, and completes the invalidation (R310). -/
def execAtsInvalidation (port fn addr pages tag : Nat) (s : State) : Out :=
  if port < 4 && fn / 64 == port then
    let l := (tabGet s.host.atc port).getD []
    let keep := l.filter (fun e => !(e.fn == fn && decide (addr / 4096 ≤ e.page) && decide (e.page < addr / 4096 + pages)))
    .next { s with
      host := { s.host with atc := if keep.isEmpty then tabDel s.host.atc port else tabPut s.host.atc port keep }
      egress := s.egress ++ [.atsDone port tag] }
  else .next s

/-! Accesses to BAR4 and to configuration spaces (R313, R314, R323, R344) -/

/-- A read of a function's BAR4: the count of orders dispatched of a queue at its doorbell (R323), its MSI-X table and pending bits. Before READY, and of another function's queue, a doorbell reads 0 (DESIGN CHOICE, log entry 110). -/
def State.bar4Read (s : State) (f a : Nat) : Nat :=
  if a < 0x10000 then
    (if a % 16 = 0 ∧ !s.beforeReady ∧ s.quFn (a / 16) = f then s.quHead (a / 16) else 0)
  else if a < 0x10400 then s.msixRead f (a - 0x10000)
  else if a = 0x18000 then s.pbaRead f 0
  else if a = 0x18004 then s.pbaRead f 1
  else 0

/-- A write to a function's BAR4: a doorbell, or its MSI-X table. -/
def State.bar4Write (s : State) (f a : Nat) (v : Word) : State :=
  if a < 0x10000 then (if a % 16 = 0 then (match execDoorbell f (a / 16) v s with | .next t => t | _ => s) else s)
  else if a < 0x10400 then s.msixWrite f (a - 0x10000) v.toNat
  else s

/-- Configuration requests of a port are answered: it has trained (R344). -/
def State.cfgAnswers (s : State) (f : Nat) : Bool := s.on (F.HPT_LINK_UP (f / 64))

/-! Partitions (R318 to R320, R354) -/

/-- The state of a partition outside RESET follows its rows, ENABLE and QUIESCE_REQ (R318, R354). -/
def State.prtShow (s : State) (p : Nat) : State :=
  if s.pgState (pgPrt p) = prtReset then s
  else
    let st := if s.getF (F.PRT_ROWS_LO_ROWS p) = 0 ∧ s.getF (F.PRT_ROWS_HI_ROWS p) = 0 then prtOff
      else if !s.on (F.PG_CTRL_ENABLE (pgPrt p)) then prtIdle
      else if s.on (F.PG_CTRL_QUIESCE_REQ (pgPrt p)) then prtQuiescing else prtActive
    let was := s.pgState (pgPrt p)
    let s1 := s.setPgState (pgPrt p) st
    if st = prtQuiescing && was != prtQuiescing then s1.quiesceCheck p else s1

/-- PARTITION_ROWS_WRITE: PRT_ROWS_LO, or with `high` PRT_ROWS_HI, in OFF and IDLE alone; ignored as a whole where it names a row of another partition (R318). -/
def execPartitionRowsWrite (who : Requester) (part : Nat) (high : Bool) (value : Word) (s : State) : Out :=
  if 16 ≤ part then .next s
  else
    let a := pgPrt part + (if high then 0x104 else 0x100)
    trigger s who a 0xFFFFFFFF value (fun s =>
      let st := s.pgState (pgPrt part)
      let taken := (List.range 16).any (fun p => p != part && Nat.land value.toNat (s.word (pgPrt p + (if high then 0x104 else 0x100))).toNat != 0)
      if (st = prtOff ∨ st = prtIdle) ∧ !taken then (s.store a 0xFFFFFFFF value true).prtShow part else s)

/-- PARTITION_ENABLE: a write of a partition's PG_CTRL.ENABLE (R318). -/
def execPartitionEnable (who : Requester) (part : Nat) (value : Word) (s : State) : Out :=
  if 16 ≤ part then .next s
  else trigger s who (pgPrt part + 0x8) 1 value (fun s => (s.store (pgPrt part + 0x8) 1 value true).prtShow part)

/-- QUIESCE_REQ: a write of a partition's PG_CTRL.QUIESCE_REQ (R354). -/
def execQuiesceReq (who : Requester) (part : Nat) (value : Word) (s : State) : Out :=
  if 16 ≤ part then .next s
  else trigger s who (pgPrt part + 0x8) 2 value (fun s => (s.store (pgPrt part + 0x8) 2 value true).prtShow part)

end Sys2Proof.Machine
end

