-- ==== Sys2Proof/Machine/Links.lean ====
section
/-! DEFINITION. Die-to-die links: training, frames, replay and delays (R157 to R164, R168, R169). -/
namespace Sys2Proof.Machine

/-- A link enters a state; a delay measurement begins at entry to ACTIVE (R169). -/
def State.toLnk (s : State) (n st : Nat) : State :=
  let l := s.linkSt n
  let s1 := (s.setPgState (pgLnk n) st).setLink n { l with
    since := s.now, probe := if st = linkActive then some ⟨0, []⟩ else l.probe, echo := if st = linkActive then [] else l.echo }
  if 20 ≤ n then s1.setF F.MNL_STATUS_ACTIVE (setBits (s1.getF F.MNL_STATUS_ACTIVE) (n - 20) 1 (b2n (st == linkActive))) else s1

/-- Flits of a packet on a link, or slots of a message to the moonlet (R149, R165). -/
def linkFlits (n : Nat) (p : Packet) : Nat := if 20 ≤ n then mtSlots p.data.length else p.flits

/-- The packets a link holds are sunk, their flits counted (R162). -/
def State.sinkLink (s : State) (n : Nat) : State :=
  let held := s.packets.filter (fun e => match e.2.place with | .link m _ _ => m == n | _ => false)
  let s1 := held.foldl (fun s e => s.countF (F.LNK_LOST_COUNT n) (linkFlits n e.2)) s
  let s2 := { s1 with packets := s1.packets.filter (fun e => match e.2.place with | .link m _ _ => m != n | _ => true) }
  s2.setLink n { s2.linkSt n with toB := LinkDir.fresh, toA := LinkDir.fresh, probe := none, echo := [], asking := false }

/-- A link enters FAILED with a cause (R160, R162). -/
def State.linkFail (s : State) (n cause : Nat) : State :=
  (((s.sinkLink n).setF (F.LNK_CAUSE_CAUSE n) cause).toLnk n lnkFailed)

/-- An end of a link is powered: end A, then end B (R160). -/
def State.endPowered (s : State) (e : Nat) : Bool :=
  if e < 4 then s.power.fabOn.contains e else if e < 6 then s.power.pwrgd else s.on F.MNL_STATUS_PRESENT

/-- A link in OFF leaves for SB_INIT once PG_CTRL.ENABLE is 1 and both ends are powered, whichever comes last (R160). -/
def State.linkWake (s : State) (n : Nat) : State :=
  if s.lnk n = lnkOff && s.on ⟨pgLnk n + 0x8, 0, 1⟩ && s.endPowered (linkEnds n).1 && s.endPowered (linkEnds n).2 then
    (s.setF (F.LNK_CAUSE_CAUSE n) 0).toLnk n lnkSbInit
  else s

/-- LINK_ENABLE: OFF is left for SB_INIT where both ends are powered (R160); FAILED is not left by a 1 that follows no 0. -/
def execLinkEnable (who : Requester) (link : Nat) (value : Word) (s : State) : Out :=
  trigger s who (pgLnk link + 0x8) 1 value (fun s => (s.store (pgLnk link + 0x8) 1 value true).linkWake link)

/-- LINK_DISABLE: PG_CTRL.ENABLE = 0 takes the link to OFF (R160); packets it holds are sunk as at FAILED (DESIGN CHOICE). -/
def execLinkDisable (who : Requester) (link : Nat) (value : Word) (s : State) : Out :=
  trigger s who (pgLnk link + 0x8) 1 value (fun s =>
    let s1 := s.store (pgLnk link + 0x8) 1 value true
    if value.toNat % 2 = 1 then s1 else (s1.sinkLink link).toLnk link lnkOff)

/-- Training begins at the width and rate of LNK_CFG, which takes effect at entry to MB_TRAIN (R168). -/
def State.startTraining (s : State) (n : Nat) : State :=
  let s1 := s.toLnk n lnkMbTrain
  let cfg := (s1.word (pgLnk n + 0x100)).toNat
  s1.setLink n { s1.linkSt n with attempts := 0, tryX32 := false, tryRate := cfg % 4, cfg := cfg }

/-- Fields of LNK_CFG as taken at the latest entry to MB_TRAIN (R168). -/
def LinkState.noX32 (l : LinkState) : Bool := bit l.cfg 2
def LinkState.useRecord (l : LinkState) : Bool := bit l.cfg 3
def LinkState.replayLimit (l : LinkState) : Nat := bits l.cfg 8 4

/-- SIDEBAND_UP (R160). -/
def execSidebandUp (link : Nat) (s : State) : Out :=
  if s.lnk link = lnkSbInit then .next (s.startTraining link) else .next s

/-- SB_TIMEOUT: 8 ms in SB_INIT (R160). -/
def execSbTimeout (link : Nat) (s : State) : Out :=
  if s.lnk link = lnkSbInit then
    .next ((s.advanceTo ((s.linkSt link).since + 800000)).linkFail link 1)
  else .next s

/-- MAINBAND_TRAINED: width, rate and repaired lanes are those of the attempt (R157, R160, R168). -/
def execMainbandTrained (link : Nat) (fromRecord : Bool) (repaired : Nat) (s : State) : Out :=
  if s.lnk link = lnkMbTrain then
    let l := s.linkSt link
    let ea := (linkEnds link).1
    let eb := (linkEnds link).2
    let rec_ := fromRecord && l.useRecord && s.on F.G_QS_STATUS_USED
    let s1 := ((s.setF (F.LNK_STATUS_RATE link) l.tryRate).setF (F.LNK_STATUS_X32 link) (b2n l.tryX32)).setF
      (F.LNK_STATUS_FROM_RECORD link) (b2n rec_)
    let s2 := ((s1.setF (F.LNK_STATUS_PORT_A link) (portOf link ea)).setF (F.LNK_STATUS_PORT_B link)
      (if eb < 4 then portOf link eb else if eb < 6 then (link - 12) / 2 else 0)).setF (F.LNK_STATUS_REPAIRED link) repaired
    .next ((s2.setLink link { s2.linkSt link with identDone := false }).toLnk link lnkParam)
  else .next s

/-- The next width and rate after three failed attempts: ×32 first unless NO_X32, then each lower rate (R160). -/
def nextTry (noX32 x32 : Bool) (rate : Nat) : Option (Bool × Nat) :=
  if !x32 && !noX32 then some (true, rate) else if 0 < rate then some (x32, rate - 1) else none

/-- MB_TRAIN_TIMEOUT: a 20 ms attempt fails (R160). -/
def execMbTrainTimeout (link : Nat) (s0 : State) : Out :=
  if s0.lnk link = lnkMbTrain then
    let s := s0.advanceTo ((s0.linkSt link).since + 2000000)
    let l := s.linkSt link
    if l.attempts + 1 < 3 then .next (s.setLink link { l with attempts := l.attempts + 1, since := s.now })
    else match nextTry l.noX32 l.tryX32 l.tryRate with
      | some (x, r) => .next (s.setLink link { l with attempts := 0, since := s.now, tryX32 := x, tryRate := r })
      | none => .next (s.linkFail link 2)
  else .next s0

/-- A link enters ACTIVE: credits as R163 gives them, and a delay measurement (R169). -/
def State.linkUp (s : State) (n : Nat) : State :=
  let s1 := s.setLink n { s.linkSt n with toB := LinkDir.fresh, toA := LinkDir.fresh, asking := false, identDone := true }
  s1.toLnk n linkActive

/-- The part's own capability record (R164): MT version 1, every rate, the buffers of R163. -/
def ownRecord : List Nat :=
  let v := (Config.fuse (pgMnl + 0x110)).toNat
  [v % 256, v / 256 % 256, v / 2 ^ 16 % 256, v / 2 ^ 24, 1, 0xF, 8, 0, 48, 0, 96, 0, 96, 0, 0, 0]

/-- A little-endian word of a record. -/
def recWord (l : List Nat) (i : Nat) : Nat :=
  l.getD (4 * i) 0 + 2 ^ 8 * l.getD (4 * i + 1) 0 + 2 ^ 16 * l.getD (4 * i + 2) 0 + 2 ^ 24 * l.getD (4 * i + 3) 0

/-- CAPABILITY_RECORD: the moonlet's record is kept and answered, or ends PARAM; its CRED fields are the slots that the part may send (R163, R164, R170). -/
def execCapabilityRecord (link : Nat) (record : List Nat) (s : State) : Out :=
  if 20 ≤ link && s.lnk link == lnkParam then
    let s1 := (List.range 4).foldl (fun s i => s.setF (F.MNL_CAP i) (recWord record i)) s
    if record.getD 4 0 ≠ 1 ∨ record.getD 10 0 + 256 * record.getD 11 0 < 8 then .next (s1.linkFail link 4)
    else
      let cr (k : Nat) : Nat := record.getD (6 + 2 * k) 0 + 256 * record.getD (7 + 2 * k) 0
      let s2 := ({ s1 with mtOut := s1.mtOut ++ [⟨link, 0, 0, 0, toBytes ownRecord⟩] } : State).linkUp link
      let l := s2.linkSt link
      .next (s2.setLink link { l with toB := { l.toB with credits := (List.range 4).map cr ++ [0, 0, 0, 0] } })
  else .next s

/-- PARAM_TIMEOUT: 10 ms in PARAM (R160). -/
def execParamTimeout (link : Nat) (s : State) : Out :=
  if s.lnk link = lnkParam then
    .next ((s.advanceTo ((s.linkSt link).since + 1000000)).linkFail link 4)
  else .next s

/-- Entry to RETRAIN from ACTIVE: the ends agree by a retrain request, and the page counts and shows the one state (R160, R161, R168). -/
def State.enterRetrain (s : State) (n : Nat) : State :=
  if s.lnk n = linkActive then
    let s1 := (s.countF (F.LNK_RETRAINS_COUNT n) 1).toLnk n lnkRetrain
    s1.setLink n { s1.linkSt n with asking := true }
  else s

/-- LANE_FAILURE (R160). -/
def execLaneFailure (link : Nat) (s : State) : Out := .next (s.enterRetrain link)

/-- RETRAIN: LNK_CMD.RETRAIN (R168). -/
def execRetrain (who : Requester) (link : Nat) (value : Word) (s : State) : Out :=
  trigger s who (F.LNK_CMD_RETRAIN link).addr 1 value (fun s => if value.toNat % 2 = 1 then s.enterRetrain link else s)

/-- A sender goes back to the oldest frame not acknowledged (R162). -/
def LinkDir.rewind (d : LinkDir) : LinkDir := { d with wire := [], again := if d.replay.isEmpty then none else some 0 }

/-- RETRAIN_COMPLETE: ACTIVE again; frames not acknowledged are sent again (R160, R162, R169). -/
def execRetrainComplete (link : Nat) (s : State) : Out :=
  if s.lnk link = lnkRetrain then
    let l := s.linkSt link
    .next ((s.setLink link { l with toB := { l.toB.rewind with tries := 0 }, toA := { l.toA.rewind with tries := 0 }, asking := false }).toLnk link linkActive)
  else .next s

/-- RETRAIN_TIMEOUT: 2 ms in RETRAIN (R160, R162). -/
def execRetrainTimeout (link : Nat) (s : State) : Out :=
  if s.lnk link = lnkRetrain then
    .next ((s.advanceTo ((s.linkSt link).since + 200000)).linkFail link 2)
  else .next s

/-- PROBE: LNK_CMD.PROBE starts a measurement on an ACTIVE link (R169). -/
def execProbe (who : Requester) (link : Nat) (value : Word) (s : State) : Out :=
  trigger s who (F.LNK_CMD_PROBE link).addr 2 value (fun s =>
    if bit value.toNat 1 && s.lnk link == linkActive then s.setLink link { s.linkSt link with probe := some ⟨0, []⟩ } else s)

/-- The value of a sample that at least n of 10,000 parts of the samples do not exceed. -/
def quantile (l : List Nat) (n : Nat) : Nat := (l.foldr insertUp []).getD ((l.length * n + 9999) / 10000 - 1) 0

/-- Half a round trip of CLK_D2D cycles at a rate code, in units of 0.25 ns, to the nearest above: a cycle is 1 / (8 × (rate + 1)) ns (R31, R169). -/
def halfTrip (rate trip : Nat) : Nat := (trip + 4 * (rate + 1) - 1) / (4 * (rate + 1))

/-- LINK_DELAY_MEASURED: the 1,024 echoes have come back, and LNK_DLY takes the distribution of half their round trips (R169). -/
def execLinkDelayMeasured (link : Nat) (s : State) : Out :=
  let l := s.linkSt link
  match l.probe with
  | some p =>
    if s.lnk link == linkActive && decide (1024 ≤ p.trips.length) then
      let d := p.trips.map (fun x => min 255 (halfTrip (s.getF (F.LNK_STATUS_RATE link)) x))
      let s1 := s.setLink link { l with probe := none }
      .next ((((s1.setF (F.LNK_DLY_P50 link) (quantile d 5000)).setF (F.LNK_DLY_P99 link) (quantile d 9900)).setF
        (F.LNK_DLY_P9999 link) (quantile d 9999)).setF (F.LNK_DLY_MAX link) (quantile d 10000))
    else .next s
  | none => .next s

/-! Frames -/

/-- Credit class of a packet at the far end of a link: its VC in LOCAL, or in ARRIVED once it crosses or has crossed a compute-to-compute link (R161, R163). -/
def linkClass (n : Nat) (p : Packet) : Nat := p.vc + (if n < 12 || p.xed then 4 else 0)

/-- Entry k of a list counted up or down. -/
def bump (l : List Nat) (k : Nat) (f : Nat → Nat) : List Nat := l.set k (f (l.getD k 0))

/-- The slot that carries flit k of a packet or message. -/
def slotOf (n id k : Nat) (p : Packet) : Slot :=
  ⟨id, k, p.vc, decide (linkClass n p ≥ 4), k == 0, if 20 ≤ n then p.mtBytes k else p.flitBytes k⟩

/-- Slots of a frame: up to seven flits, packet by packet in order, where credits allow; a packet without credit holds those of its class behind it. -/
def fillSlots (pk : Nat → Option Packet) (n : Nat) : Nat → List (Nat × Nat) → List Nat → List Nat → List Slot × List (Nat × Nat) × List Nat
  | 0, w, cr, _ => ([], w, cr)
  | _ + 1, [], cr, _ => ([], [], cr)
  | k + 1, (id, sent) :: t, cr, stop =>
    match pk id with
    | none => fillSlots pk n k t cr stop
    | some p =>
      let c := linkClass n p
      if stop.contains c || cr.getD c 0 == 0 then
        let r := fillSlots pk n k t cr (c :: stop)
        (r.1, (id, sent) :: r.2.1, r.2.2)
      else if sent + 1 = linkFlits n p then
        let r := fillSlots pk n k t (bump cr c (· - 1)) stop
        (slotOf n id sent p :: r.1, r.2.1, r.2.2)
      else
        let r := fillSlots pk n k ((id, sent + 1) :: t) (bump cr c (· - 1)) stop
        (slotOf n id sent p :: r.1, r.2.1, r.2.2)

/-- The 508 bytes of a frame that its CRC covers (R161): seven slots, SEQ, ACK with NAK, the SLOT bytes, CRED, LCTL. -/
def Frame.body (f : Frame) : List Nat :=
  let slot (k : Nat) : List Nat := match f.slots[k]? with
    | some x => padTo 64 x.bytes
    | none => List.replicate 64 0
  let info (k : Nat) : Nat := match f.slots[k]? with
    | some x => 1 + 2 * (x.vc % 4) + 8 * b2n x.xed + 16 * b2n x.start
    | none => 0
  (List.range 7).flatMap slot ++ leBytes 2 f.seq ++ leBytes 2 (f.ack + 2 ^ 15 * b2n f.nak) ++ (List.range 7).map info ++ [0] ++
  (List.range 8).map (fun k => f.cred.getD k 0 % 256) ++ leBytes 8 (f.lctl.1 + 256 * (f.lctl.2 % 2 ^ 56)) ++ List.replicate 32 0

/-- The bytes with the bits that errors on the mainband have inverted: bit b of the frame is bit b mod 8 of byte b / 8. -/
def flipBits (l : List Nat) (flips : List Nat) : List Nat :=
  flips.foldl (fun l b => bump l (b / 8) (fun x => Nat.xor x (2 ^ (b % 8)))) l

/-- The receiver finds a bad CRC: bytes 0x1FC to 0x1FF of what it receives are not the CRC of the bytes before them (R161). -/
def Frame.badCrc (f : Frame) (flips : List Nat) : Bool :=
  let got := flipBits (f.body ++ leBytes 4 (crc32 f.body)) flips
  leNat (got.drop 508) != crc32 (got.take 508)

/-- BULK flits are held at a gateway in this frame time: k of every 8 at LINKS trim k (R291). -/
def State.bulkHeld (s : State) (link seq : Nat) : Bool := decide ((seq + Config.trimPhase (1088 + link)) % 8 < s.linksTrim)

/-- The link control of a new frame: end A's next probe, or end B's next echo (R161, R169). -/
def LinkState.control (l : LinkState) (toB : Bool) (stamp : Nat) : (Nat × Nat) × LinkState :=
  if toB then
    match l.probe with
    | some p => if p.sent < 1024 then ((1, stamp), { l with probe := some { p with sent := p.sent + 1 } }) else ((0, 0), l)
    | none => ((0, 0), l)
  else
    match l.echo with
    | t :: rest => ((2, t), { l with echo := rest })
    | [] => ((0, 0), l)

/-- FRAME_SEND: a sender in ACTIVE sends the next frame of a replay, or a new one where the replay buffer has room (R161, R162); `stamp` is its CLK_D2D cycle. An end that has entered RETRAIN sends one frame more, its retrain request. -/
def execFrameSend (link : Nat) (toB : Bool) (stamp : Nat) (s : State) : Out :=
  let l0 := s.linkSt link
  if s.lnk link = lnkRetrain && l0.asking then
    let d := l0.dir toB
    .next (s.setLink link ({ l0 with asking := false }.setDir toB { d with
      wire := d.wire ++ [(⟨d.seq, [], (l0.dir (!toB)).good, false, [0, 0, 0, 0, 0, 0, 0, 0], (3, stamp)⟩ : Frame)] }))
  else if s.lnk link ≠ linkActive then .next s
  else
    let d := l0.dir toB
    match d.again with
    | some i =>
      match d.replay[i]? with
      | some f =>
        .next (s.setLink link (l0.setDir toB { d with
          wire := d.wire ++ [f], again := if i + 1 < d.replay.length then some (i + 1) else none }))
      | none => .next (s.setLink link (l0.setDir toB { d with again := none }))
    | none =>
      if 64 ≤ d.replay.length then .next s
      else
        let r := fillSlots s.pkt link 7 d.waiting d.credits (if s.bulkHeld link d.seq then [3, 7] else [])
        let ctl := l0.control toB stamp
        let l := ctl.2
        let back := l.dir (!toB)
        let f : Frame := ⟨d.seq, r.1, back.good, back.bad, back.freed, ctl.1⟩
        let d1 := { d with waiting := r.2.1, credits := r.2.2, seq := (d.seq + 1) % 4096, replay := d.replay ++ [f], wire := d.wire ++ [f] }
        let l1 := (l.setDir toB d1).setDir (!toB) { back with freed := [0, 0, 0, 0, 0, 0, 0, 0], bad := false }
        .next ((s.setLink link l1).countF (if toB then F.LNK_FLITS_AB_COUNT link else F.LNK_FLITS_BA_COUNT link) r.1.length)

/-- A packet whose last flit has been received leaves the gateway at the far end (R142, R146); a message has reached the moonlet (R165). -/
def State.leaveLink (s : State) (n : Nat) (toB : Bool) (id : Nat) : State :=
  match s.pkt id with
  | none => s
  | some p =>
    match p.place with
    | .link _ _ lane =>
      let d := if toB then (linkEnds n).2 else (linkEnds n).1
      if d < 4 then
        let a := stripAt (portOf n d) lane
        s.setPkt id { p with place := .router (siteIdx d a.1 a.2), xed := p.xed || decide (n < 12) }
      else if n < 20 then s.setPkt id { p with place := .ext n }
      else
        let s1 := s.dropPkt id
        { s1 with mtOut := s1.mtOut ++ [⟨n, p.ty, p.tag, p.aux, p.data⟩] }
    | _ => s

/-- The slots of a good frame are taken; flits of a whole packet free their buffers (R163). -/
def State.takeSlots (s : State) (n : Nat) (toB : Bool) : List Slot → State
  | [] => s
  | x :: t =>
    let id := x.pkt
    let l := s.linkSt n
    let d := l.dir toB
    let g := (tabGet d.got id).getD 0 + 1
    match s.pkt id with
    | none => s.takeSlots n toB t
    | some p =>
      if g < linkFlits n p then
        (s.setLink n (l.setDir toB { d with got := tabPut d.got id g })).takeSlots n toB t
      else
        ((s.setLink n (l.setDir toB { d with got := tabDel d.got id, freed := bump d.freed (linkClass n p) (· + linkFlits n p) })).leaveLink n toB id).takeSlots n toB t

/-- Frames up to an acknowledged sequence number leave the replay buffer (R162). -/
def dropAcked (ack : Nat) : List Frame → List Frame
  | [] => []
  | f :: t => if (ack + 4096 - f.seq) % 4096 < 64 then dropAcked ack t else f :: t

/-- ACK, NAK and credits of a received frame reach the sender of the other direction (R161 to R163); a NAK after the limit of replays of one frame enters RETRAIN. -/
def State.takeAck (s : State) (n : Nat) (toB : Bool) (f : Frame) : State :=
  let l := s.linkSt n
  let d := l.dir toB
  let rest := dropAcked f.ack d.replay
  let moved := rest.length ≠ d.replay.length
  let cr := (d.credits.zip f.cred).map (fun x => x.1 + x.2)
  if f.nak && !rest.isEmpty then
    let tries := if moved then 0 else d.tries
    if l.replayLimit ≤ tries then (s.setLink n (l.setDir toB { d with replay := rest, credits := cr })).enterRetrain n
    else (s.setLink n (l.setDir toB { d with replay := rest, credits := cr, again := some 0, tries := tries + 1 })).countF (F.LNK_REPLAYS_COUNT n) 1
  else
    let again := match d.again with
      | some i => if moved then (let j := i - (d.replay.length - rest.length); if j < rest.length then some j else none) else some i
      | none => none
    s.setLink n (l.setDir toB { d with replay := rest, credits := cr, again := again, tries := if moved then 0 else d.tries })

/-- Link control of a good frame: end B keeps a probe to echo, end A takes the round trip of an echo (R161, R169). -/
def State.takeControl (s : State) (n : Nat) (toB : Bool) (stamp : Nat) (f : Frame) : State :=
  let l := s.linkSt n
  if toB && f.lctl.1 == 1 then s.setLink n { l with echo := l.echo ++ [f.lctl.2] }
  else if !toB && f.lctl.1 == 2 then
    match l.probe with
    | some p => s.setLink n { l with probe := some { p with trips := p.trips ++ [stamp - f.lctl.2] } }
    | none => s
  else s

/-- FRAME_RECEIVE: the oldest frame on the mainband arrives, with the bits at `flips` inverted on the way, at a CLK_D2D cycle of the receiver (R161, R162). -/
def execFrameReceive (link : Nat) (toB : Bool) (flips : List Nat) (stamp : Nat) (s : State) : Out :=
  if s.lnk link ≠ linkActive then .next s
  else
    let l := s.linkSt link
    let d := l.dir toB
    match d.wire with
    | [] => .next s
    | f :: t =>
      let s1 := s.setLink link (l.setDir toB { d with wire := t })
      if f.badCrc flips then
        let l1 := s1.linkSt link
        .next ((s1.setLink link (l1.setDir toB { l1.dir toB with bad := true })).countF (F.LNK_CRC_ERR_COUNT link) 1)
      else if f.seq ≠ (d.good + 1) % 4096 then .next s1
      else
        let l1 := s1.linkSt link
        let s2 := s1.setLink link (l1.setDir toB { l1.dir toB with good := f.seq, bad := false })
        .next (((s2.takeSlots link toB f.slots).takeControl link toB stamp f).takeAck link (!toB) f)

end Sys2Proof.Machine
end

