-- ==== Sys2Proof/Machine/Eclipse.lean ====
section
/-! DEFINITION. Eclipse, core and cluster reset, loss of a tower, and power-gate ramps (R271, R272, R351 to R353, R375 to R379, R387). -/
namespace Sys2Proof.Machine

/-! Bits per site, bank and cluster -/

/-- The eclipse, release and port-failure bits of a site in its die page (R392). -/
def eclWord (i : Nat) : Fld := F.DIE_ECL (siteDie i) (i % 272 / 32)
def relWord (i : Nat) : Fld := F.DIE_ECL_REL (siteDie i) (i % 272 / 32)
def pfailWord (i : Nat) : Fld := F.DIE_PFAIL (siteDie i) (i % 272 / 32)
/-- The bit of a site in those words. -/
def siteBit (i : Nat) : Nat := i % 272 % 32

/-- A bit of a word of flags is set, or cleared. -/
def State.setBit (s : State) (f : Fld) (b : Nat) : State := s.orF f (2 ^ b)
def State.clrBit (s : State) (f : Fld) (b : Nat) : State := s.setF f (setBits (s.getF f) b 1 0)

/-- The site's latch, and the cluster's (R272, R274). -/
def State.siteLatched (s : State) (i : Nat) : Bool := bit (s.getF (F.PWR_SITE_LATCH (i / 32))) (i % 32)
def State.cluLatched (s : State) (c : Nat) : Bool := bit (s.getF (F.PWR_CLU_LATCH (c / 32))) (c % 32)
def State.latchSite (s : State) (i : Nat) : State := s.setBit (F.PWR_SITE_LATCH (i / 32)) (i % 32)

/-- PWR_LASTFAULT of a fault (R285). -/
def State.lastFault (s : State) (site cause detail where_ : Nat) : State :=
  ((((s.setF F.PWR_LASTFAULT_SITE site).setF F.PWR_LASTFAULT_CAUSE cause).setF F.PWR_LASTFAULT_DETAIL detail).setF
    F.PWR_LASTFAULT_WHERE where_).setF F.PWR_LASTFAULT_ORB_ORBIT (s.orbit % 2 ^ 32)

/-! A core's work ends (R353, R376) -/

/-- Destination bytes of a store that is cut are undefined (R353). -/
def State.cutBytes (s : State) (p g : Nat) (x : CoreStream) : State :=
  if x.op ≠ 2 then s else
  let runs := x.desc.mruns false ++ (if dstIsT4B x.desc.conv then [⟨1, 0, x.desc.meta_, x.desc.rows * x.desc.scaleRow⟩] else [])
  let ps : List (Nat × Nat) := runs.flatMap (fun r => (pieces r.va r.len).map (fun q => (r.va + q.1, q.2)))
  ps.foldl (fun s q =>
    match (s.walk p q.1).2 with
    | .ok (_, leaf, big) =>
      let a := (xlOf p q.1 leaf big).dpa q.1
      { s with dram := s.dram.refill a (a + q.2) (some g) }
    | .error _ => s) s

/-- What a core had issued and not sent is discarded; nothing waits for its answers any more (R353). -/
def State.corePurge (s : State) (i : Nat) : State :=
  let g := s.takeFree
  let s1 : State := match s.partOfSite i with
    | some p => (s.core i).streams.foldl (fun s x => s.cutBytes p g.1 x) g.2
    | none => g.2
  let q := s1.port i
  let s2 : State := { s1 with
    packets := s1.packets.filter (fun e => decide (e.2.place ≠ .gate i))
    reqs := s1.reqs.filter (fun e => match e.2.org with | .stream j _ _ _ _ _ => j != i | _ => true) }
  if q.collects.isEmpty then s2
  else s2.setPort i { q with collects := q.collects.map (fun (c : Collect) => if c.head.isNone then ({ c with ten := false } : Collect) else c) }

/-- A core whose local store holds content of a fresh undefined generation. -/
def State.coreLost (s : State) (i : Nat) : State :=
  let g := s.takeFree
  g.2.setCore i { CoreState.fresh with ls := ⟨[], [(0, 0x200000, some g.1)], []⟩ }

/-- The gate of a site is open: no ramp runs. -/
def State.stopRamp (s : State) (i : Nat) : State := { s with power := { s.power with ramps := tabDel s.power.ramps i } }

/-- The cluster whose CLU_SPARE command is ramping a row spare (R379). -/
def State.spareBusy (s : State) (i : Nat) : Option Nat :=
  if isSpare i then [2 * siteGRow i, 2 * siteGRow i + 1].find? (fun c => s.on (F.CLU_SPARE_BUSY c)) else none

/-- A site is eclipsed with a cause (R375, R376); the first cause stays, except that a lost tower is recorded on every site of it. -/
def State.eclipse (s : State) (i cause : Nat) : State :=
  let was := s.coreSt i == coreEclipsed
  if was && cause != 7 then s
  else
    let s1 := ((s.setF (F.CORE_ECL_CAUSE i) cause).setF (F.CORE_ECL_ORBIT i) (s.orbit % 2 ^ 28)).setBit (eclWord i) (siteBit i)
    if was then s1
    else
      let s2 := ((s1.corePurge i).coreLost i).setCoreSt i coreEclipsed
      let s3 := { s2.stopRamp i with rel := { s2.rel with ghosted := s2.rel.ghosted.filter (· != i) } }
      let s4 := match s3.spareBusy i with
        | some c => (s3.setF (F.CLU_SPARE_BUSY c) 0).setF (F.CLU_SPARE_RESULT c) 5
        | none => s3
      s4.raiseBit (pgCore i) 8

/-! Core reset (R140, R351, R353) -/

/-- Registers of a core-site page that a core reset leaves unchanged: PG_LOCK, CORE_SITE, CORE_TEMP, CORE_ECL, CORE_GHOST. -/
def coreKeeps (a : Nat) : Bool :=
  let o := a % 0x1000
  o == 0x30 || o == 0x100 || o == 0x280 || o == 0x284 || o == 0x288

/-- A core reset: in IDLE, or in OFF or ECLIPSED where the gate is off or the core eclipsed; a powered local store is zeroed. -/
def State.coreReset (s : State) (i : Nat) : State :=
  let st := s.coreSt i
  let s1 := (s.corePurge i).resetPage (pgCore i) coreKeeps
  let s2 := if st = coreOff ∨ st = coreEclipsed then s1.setCore i { CoreState.fresh with ls := (s1.core i).ls }
    else s1.setCore i CoreState.fresh
  let s3 := s2.setCoreSt i (if st = coreOff ∨ st = coreEclipsed then st else coreIdle)
  match s3.clusterOf i with
  | some c => s3.setF (F.CORE_MX_STATUS_SHAPE i) (s3.getF (F.CLU_MXCFG_SHAPE c))
  | none => s3

/-- CORE_RESET: a write of a core page's RESET_REQ (R351). -/
def execCoreReset (who : Requester) (core : Nat) (value : Word) (s : State) : Out :=
  if core < nSites && bit value.toNat 2 then
    trigger s who (pgCore core + 0x8) 4 value (fun s => s.coreReset core)
  else .next s

/-! Ramps (R271) -/

/-- Cycles of a whole ramp. -/
def rampLen : Nat := 800

/-- The rail that a site's ramp works on: its cluster's. -/
def State.rampClu (s : State) (i : Nat) : Nat := (s.spareBusy i).getD ((s.clusterOf i).getD (homeCluster i))

/-- A ramp outside the waves is begun, or put behind the cluster's other ramps and the 64 starts of any 50 µs. -/
def State.rampAsk (s : State) (i : Nat) : State :=
  let mine := s.power.ramps.filter (fun e => s.rampClu e.1 == s.rampClu i)
  let t0 := mine.foldl (fun t e => max t (e.2.since + rampLen)) s.now
  let recent := s.power.rampTimes.filter (fun t => decide (t0 < t + 5000))
  let t1 := if recent.length < 64 then t0 else max t0 ((recent.getD 63 0) + 5000)
  { s with power := { s.power with ramps := tabPut s.power.ramps i ⟨t1, 0⟩, rampTimes := t1 :: recent } }

/-! Cluster reset (R351 to R353, R378) -/

/-- Dirty bytes go to DRAM, with the bytes already found uncorrectable poisoned (R364). -/
def State.putDirty (s : State) (line : Nat) (x : List Byte × Nat × Nat) : State :=
  s.landWrite (line * 128) x.1 x.2.1 x.2.2

/-- Every line that a cluster holds and `sel` names is written back and dropped. -/
def State.flushLines (s : State) (c : Nat) (sel : Nat → Bool) : State :=
  let k := s.cluster c
  let ls := k.lines.filter (fun e => sel e.1)
  let wbs := k.wb.filter (fun e => sel e.1)
  let s1 := ls.foldl (fun s e => if e.2.st = .m ∨ e.2.st = .p then s.putDirty e.1 (e.2.deliver, e.2.mask, Nat.land e.2.badMask e.2.mask) else s) s
  let s2 := wbs.foldl (fun s e => s.putDirty e.1 e.2) s1
  let k2 := s2.cluster c
  if ls.isEmpty && wbs.isEmpty then s2
  else s2.setCluster c { k2 with lines := k2.lines.filter (fun e => !sel e.1), wb := k2.wb.filter (fun e => !sel e.1) }

/-- Writes to DRAM that a home has sent and that are still under way complete in full (R353). -/
def State.homeLand (s : State) (c : Nat) : State :=
  let mine (tag : Nat) : Bool := match tabGet s.reqs tag with
    | some r => (match r.org with | .home d _ => d == c | _ => false)
    | none => false
  let w := s.packets.filter (fun e => e.2.ty == 0x11 && mine e.2.tag)
  let s1 := w.foldl (fun s e => s.landWrite e.2.addr e.2.data (writeMask e.2) e.2.aux) s
  { s1 with
    packets := s1.packets.filter (fun e => !(mine e.2.tag && (e.2.ty == 0x10 || e.2.ty == 0x11)))
    reqs := s1.reqs.filter (fun e => !mine e.1) }

/-- Every coherent line homed at a cluster, and every line that it holds, is back in DRAM; invalidations and recalls of it under way are void. -/
def State.flushHome (s : State) (c : Nat) : State :=
  let homed (line : Nat) : Bool := homeOf (line * 128) == some c
  let s1 := s.homeLand c
  let s2 := (s1.clusters.map (fun e => e.1)).foldl (fun s y => s.flushLines y (fun l => homed l || y == c)) s1
  { s2 with
    clusters := s2.clusters.map (fun e => (e.1, { e.2 with
      dir := e.2.dir.filterMap (fun d =>
        let ps := d.2.ptrs.filter (· != c)
        if ps.isEmpty then none else some (d.1, { d.2 with ptrs := ps })) }))
    packets := s2.packets.filter (fun e => !((e.2.ty == 0x34 || e.2.ty == 0x35 || e.2.ty == 0x3A || e.2.ty == 0x3B) && homed (e.2.addr / 128))) }

/-- Registers of a cluster page that a cluster reset leaves unchanged: PG_LOCK, CLU_CC_CFG, CLU_PSTATE, CLU_VMIN, CLU_SPARE. -/
def cluKeeps (a : Nat) : Bool :=
  let o := a % 0x1000
  o == 0x30 || o == 0x200 || (decide (0x280 ≤ o) && decide (o ≤ 0x28C)) || o == 0x2C0

/-- A released site is readmitted (R378): it is ramped and enters IDLE. -/
def State.readmit (s : State) (c i : Nat) : State :=
  let cause := s.getF (F.CORE_ECL_CAUSE i)
  if bit (s.getF (relWord i)) (siteBit i) && !s.siteLatched i && !s.cluLatched c && cause != 1 && cause != 7 then
    let s1 := (((s.clrBit (eclWord i) (siteBit i)).clrBit (relWord i) (siteBit i)).setWord (pgCore i + 0x284) 0).setWord (pgCore i + 0x288) 0
    (s1.setCoreSt i coreOff).rampAsk i
  else s

/-- A cluster reset; a pending DIRW takes effect: 2^DIRW ways (R216, R352). -/
def State.clusterReset (s : State) (c : Nat) : State :=
  let k := s.cluster c
  let again := k.txns.flatMap (fun e => e.2.req.toList ++ e.2.queue) ++ k.held
  let s1 := (s.sitesOfCluster c).foldl (fun s i => s.coreReset i) (s.flushHome c)
  let dirw := s1.getF (F.CLU_CC_CFG_DIRW c)
  let up := s1.cluSt c
  let s2 := (s1.setCluster c { ClusterState.fresh with dirWays := 2 ^ dirw, admits := k.admits }).resetPage (pgClu c) cluKeeps
  let s3 := (s2.sitesOfCluster c).foldl (fun s i => s.setF (F.CORE_MX_STATUS_SHAPE i) (s.getF (F.CLU_MXCFG_SHAPE c)))
    (s2.setPgState (pgClu c) (if up = 2 then cluUp else up))
  let s4 := (s3.sitesOfCluster c).foldl (fun s i => s.readmit c i) s3
  again.foldl (fun s p => s.homeTake c p) s4

/-- CLUSTER_RESET: a write of a cluster page's RESET_REQ (R351). -/
def execClusterReset (who : Requester) (clu : Nat) (value : Word) (s : State) : Out :=
  if clu < 128 && bit value.toNat 2 then
    trigger s who (pgClu clu + 0x8) 4 value (fun s => (s.clusterReset clu).settle)
  else .next s

/-! Partition reset (R355) -/

/-- Registers of a partition page that its reset leaves unchanged: PG_LOCK, PRT_ROWS, PRT_GRANT. -/
def prtKeeps (a : Nat) : Bool :=
  let o := a % 0x1000
  o == 0x30 || o == 0x100 || o == 0x104 || o == 0x108

/-- A context of a queue, but for QUE_CFG.FN, returns to its reset values. -/
def State.resetQueue (s : State) (q : Nat) : State :=
  let base := pgQue (q / 64) + 0x800 + 0x20 * (q % 64)
  let fn := s.quFn q
  let s1 : State := { s with
    regs := s.regs.filter (fun e => !(decide (base ≤ e.1) && decide (e.1 < base + 0x20)))
    host := { s.host with marks := tabDel s.host.marks q } }
  s1.setF (F.QUE_CFG_FN (q / 64) (q % 64)) fn

/-- A ring's page, but for EVT_CFG.FN and PG_LOCK, returns to its reset values. -/
def State.resetRing (s : State) (e : Nat) : State :=
  let fn := s.getF (F.EVT_CFG_FN e)
  let s1 := s.resetPage (pgEvt e) (fun a => a % 0x1000 == 0x30)
  ({ s1 with rings := tabDel s1.rings e } : State).setF (F.EVT_CFG_FN e) fn

/-- Executing orders end ABORTED, with one record each; requests already issued drain (R355 step 2). -/
def State.abortOrders (s : State) (p : Nat) : State :=
  (s.host.orders.filter (fun e => e.2.part == p)).foldl (fun s e => s.orderEnd e.1 e.2 8 0) s

/-- Event rings of a partition's functions. -/
def State.ringsOf (s : State) (p : Nat) : List Nat := (List.range 64).filter (fun e => s.partOfFn (s.getF (F.EVT_CFG_FN e)) == some p)

/-- The ring has a record that its function can write (R333). -/
def State.ringWrites (s : State) (e : Nat) : Bool :=
  (s.ring e).inProgress.isSome && s.on (F.EVT_CFG_EN e) && (s.on (F.EVT_CFG_DEV e) || s.busMaster (s.getF (F.EVT_CFG_FN e)))

/-- Steps 2 and 4 of a partition's reset are done: records that can be written have been, and no broadcast that its ports have sent, or that waits in them, is left. -/
def State.resetDrained (s : State) (p : Nat) : Bool :=
  (s.ringsOf p).all (fun e => !s.ringWrites e) &&
  s.ports.all (fun e => s.partOfSite e.1 != some p || (e.2.collects.isEmpty && e.2.bcasts.isEmpty))

/-- Steps 1 to 3 of a partition reset (R355): BAR2, doorbells and moonlet messages find it in RESET, its orders end, its cores are reset. -/
def State.resetBegin (s : State) (p : Nat) : State :=
  let s2 := (s.setPgState (pgPrt p) prtReset).abortOrders p
  (s2.sitesOf p).foldl (fun s i => s.coreReset i) s2

/-- Steps 5 and 6 of a partition reset (R355). -/
def State.resetEnd (s3 : State) (p : Nat) : State :=
  let clus := (s3.rowsOf p).flatMap (fun g => [2 * g, 2 * g + 1])
  let s4 := clus.foldl (fun s c => s.flushHome c) s3
  let s5 : State := { s4.dropXlat ⟨p, true, 0, 0, none⟩ with
    cows := s4.cows.filter (fun e => e.2.part != p)
    xinvs := s4.xinvs.filter (fun v => v.part != p)
    reqs := s4.reqs.filter (fun e => match e.2.org with | .census q => q != p | .cow id => (match tabGet s4.cows id with | some c => c.part != p | none => true) | _ => true) }
  let s6 := clus.foldl (fun s c => s.clusterReset c) s5
  let used := s6.regs.filterMap (fun e =>
    if 0x40000 ≤ e.1 ∧ e.1 < 0x80000 ∧ 0x800 ≤ e.1 % 0x1000 then some (64 * (e.1 / 0x1000 - 64) + (e.1 % 0x1000 - 0x800) / 0x20) else none)
  let qs := used.eraseDups.filter (fun q => s6.quPart q == some p)
  let s7 := (s6.ringsOf p).foldl (fun s e => s.resetRing e) (qs.foldl (fun s q => s.resetQueue q) s6)
  let s8 := s7.resetPage (pgPrt p) prtKeeps
  let s9 := s8.setF (F.PG_CTRL_GCOMPAT (pgPrt p)) (s8.getF F.G_STRAPS_GCOMPAT)
  (s9.setPgState (pgPrt p) prtOff).prtShow p

/-- Partition resets whose steps 2 and 4 are done come to their end. -/
def State.resetsGo (s : State) : State :=
  (List.range 16).foldl (fun s p => if s.pgState (pgPrt p) = prtReset && s.resetDrained p then (s.resetEnd p).settle else s) s

/-- A partition reset: it ends at once where nothing is to drain, and otherwise with the last report or record (R355). -/
def State.partitionReset (s : State) (p : Nat) : State := (s.resetBegin p).resetsGo

/-- PARTITION_RESET: a write of a partition page's RESET_REQ (R355). -/
def execPartitionReset (who : Requester) (part : Nat) (value : Word) (s : State) : Out :=
  if part < 16 && bit value.toNat 2 then
    trigger s who (pgPrt part + 0x8) 4 value (fun s => (s.partitionReset part).settle)
  else .next s

/-! What a partition reset waits for -/

/-- BKDONE: a report reaches its row head or issuer (R205); a partition reset that waited for the broadcast goes on (R355). -/
def execBkdone (id : Nat) (s : State) : Out :=
  match s.pkt id with
  | some p =>
    match p.place with
    | .hal i =>
      if p.ty = 0x22 then
        .next (((s.dropPkt id).bkReport i p.tag ((siteOfNum p.src).getD 0) (p.aux % 64) (bits p.aux 6 3) (bits p.aux 16 11)).resetsGo)
      else .next s
    | _ => .next s
  | none => .next s

/-- EVENT_RECORD_WRITTEN: the write of a ring's record in progress is issued; MSI-X follows, and the next record starts; a partition reset that waited for the record goes on (R355). A function without bus mastering writes no host memory (PCIe). -/
def execEventRecordWritten (ring : Nat) (s : State) : Out :=
  let r := s.ring ring
  match r.inProgress with
  | none => .next s
  | some ev =>
    if !s.on (F.EVT_CFG_EN ring) || (!s.on (F.EVT_CFG_DEV ring) && !s.busMaster (s.getF (F.EVT_CFG_FN ring))) then .next s
    else
      let tail := s.getF (F.EVT_TAIL_COUNT ring)
      let fn := s.getF (F.EVT_CFG_FN ring)
      let d := recordBytes ev (s.getF (F.EVT_CFG_LOG2 ring)) tail
      let a := s.recordAt ring tail
      let s1 := (s.setRing ring { r with inProgress := none }).wrapF (F.EVT_TAIL_COUNT ring) 1
      let s2 := if s1.on (F.EVT_CFG_DEV ring) then s1.startJob (.event ring) (128 + ioOf fn) (s1.partOfFn fn) true a 32 d (2 ^ 32 - 1)
        else { s1 with egress := s1.egress ++ [.hostWrite fn a false d] }
      .next ((s2.ringIrq ring).ringKick ring).settle.resetsGo

/-! Loss of a tower (R387, R278, R373) -/

/-- A halyard port enters FAILED (R373): its requests are answered COL_FAIL. No further wave starts: a broadcast reports COL_FAIL once the operations that run have completed, which is at once where none runs (R205). -/
def State.portToFailed (s : State) (i : Nat) : State :=
  let q := s.port i
  let s1 := (s.setPgState (pgHyp i) halFailed).setBit (pfailWord i) (siteBit i)
  let s2 := s1.setPort i { q with reqs := [], expand := [], openRows := [], bcasts := q.bcasts.map (fun c => { c with setk := none, todo := [] }) }
  let pend := q.reqs.map (fun e => e.2.pkt) ++ q.expand.map (fun e => e.2.1.pkt)
  (pend.foldl (fun s p => s.portAnswer i p stColFail []) s2).bkSettle i 64

/-- Domains of a tower that are off: its clusters, DRAM half-layers and fabric. -/
def State.towerDark (s : State) (d : Nat) : State :=
  { s with power := { s.power with
      cluOn := s.power.cluOn.filter (fun c => c / 32 != d)
      dramOn := s.power.dramOn.filter (fun h => h / 16 != d)
      fabOn := s.power.fabOn.filter (· != d)
      ramps := s.power.ramps.filter (fun e => siteDie e.1 != d) } }

/-- Sites of a die. -/
def sitesOfDie (d : Nat) : List Nat := (List.range 272).map (272 * d + ·)

/-- Packets within a tower, or held for it at a link's end, are gone with it; requests to its columns are answered COL_FAIL. -/
def Packet.inTower (p : Packet) (d : Nat) : Bool :=
  match p.place with
  | .gate i => siteDie i == d
  | .router i => siteDie i == d
  | .core i => siteDie i == d
  | .hal i => siteDie i == d
  | .clu i => siteDie i == d
  | _ => false

/-- Reports that issuers and row heads outside await from a tower's columns are completed with COL_FAIL (R387). -/
def State.collectsFail (s : State) (d : Nat) : State :=
  s.ports.foldl (fun s e =>
    if siteDie e.1 = d then s
    else
      let late := e.2.collects.flatMap (fun c => (c.waits.filter (fun w => siteDie w == d)).map (fun w => (c.tag, w, c.each)))
      late.foldl (fun s x => s.bkReport e.1 x.1 x.2.1 0 4 x.2.2) s) s

/-- A tower is lost. The cause its links then record is a free value: the spec names none. -/
def State.towerLoss (s : State) (d : Nat) : State :=
  let s1 := (sitesOfDie d).foldl (fun s i => s.eclipse i 7) s
  let s2 := (sitesOfDie d).foldl (fun s i => ((s.setPgState (pgHyp i) halFailed).setBit (pfailWord i) (siteBit i)).setF (F.CORE_TEMP_VALID i) 0) s1
  let links := (List.range 24).filter (fun n => (linkEnds n).1 == d || (linkEnds n).2 == d)
  let s3 := links.foldl (fun s n =>
    let g := s.takeFree
    if s.lnk n = lnkOff ∨ s.lnk n = lnkFailed then s else g.2.linkFail n (Config.freeValue g.1)) s2
  let s4 := (clustersOf d).foldl (fun s c => (s.setCluster c ClusterState.fresh).setPgState (pgClu c) 0) (s3.towerDark d)
  let s5 : State := { s4 with
    packets := s4.packets.filter (fun e => !e.2.inTower d)
    ports := s4.ports.filter (fun e => siteDie e.1 != d)
    unitTlb := tabDel s4.unitTlb (130 + d) }
  let lost := s5.reqs.filter (fun e => match e.2.org with
    | .home c _ => c / 32 == d
    | .fill c _ => c / 32 == d
    | .copyRead i _ _ => siteDie i == d
    | _ => false)
  let s6 : State := { s5 with reqs := lost.foldl (fun t e => tabDel t e.1) s5.reqs }
  let s7 := (s6.collectsFail d).setBit F.G_REL_STATUS_TOWER_LOST d
  ((s7.raiseBit pgRel 15).logRecord 11 0 (siteNum (272 * d)) 0 0).resetsGo

end Sys2Proof.Machine
end

