-- ==== Sys2Proof/Machine/Power.lean ====
section
/-! DEFINITION. Power-up waves, gate ramps, over-current, crack detection, domain faults and the VIN warning (R267, R270 to R286). -/
namespace Sys2Proof.Machine

/-! Waves and ramps (R270 to R272, R283) -/

/-- No ramp or wave begins while a field is below warning or the resumption is awaited (R283). -/
def State.wavesHeld (s : State) : Bool := !s.power.warn.isEmpty || s.power.resumeAt.isSome

/-- A wave or a ramp may power the site: fused active, a spare only where assigned, not latched, not eclipsed, its cluster on. -/
def State.mayRamp (s : State) (i : Nat) : Bool :=
  match s.clusterOf i with
  | none => false
  | some c => fusedActive i && !s.siteLatched i && s.coreSt i == coreOff && s.power.cluOn.contains c

/-- Current region of a site (R273). -/
def siteRegion (i : Nat) : Nat := if isSpare i then 5 else siteInCluster i / 2

/-- A site is eclipsed by a fault of its own: noted for the 1 µs sample in which a wider fault of its cluster governs (R275). -/
def State.noteNarrow (s : State) (i : Nat) (aborted : Bool) : State :=
  { s with power := { s.power with
      narrow := (i, aborted, s.siteLatched i, s.now) :: s.power.narrow.filter (fun e => decide (s.now < e.2.2.2 + 100)) } }

/-- Narrower faults of a site or a region within the present 1 µs sample. -/
def State.narrowNow (s : State) : List (Nat × Bool × Bool × Nat) := s.power.narrow.filter (fun e => decide (s.now < e.2.2.2 + 100))

/-- A ramp aborts (R272): the site is eclipsed, latched and reported. -/
def State.rampAbort (s0 : State) (i detail : Nat) : State :=
  let s := s0.noteNarrow i true
  (((s.eclipse i 3).latchSite i).lastFault (siteNum i) 1 detail (siteRegion i)).raiseBit pgPwr 10

/-- All segments are closed: the site is powered and IDLE; its local store is of undefined content. A spare's assignment has succeeded (R271, R379). -/
def State.rampDone (s : State) (i : Nat) : State :=
  let s1 := match s.spareBusy i with
    | some c => ((((s.setF (F.CORE_SITE_ASSIGNED i) 1).setF (F.CORE_SITE_SIDE i) (c % 2)).setF (F.CLU_SPARE_ASSIGNED c) 1).setF
        (F.CLU_SPARE_BUSY c) 0).setF (F.CLU_SPARE_RESULT c) 0
    | none => s
  let s2 := ((s1.stopRamp i).coreLost i).setCoreSt i coreIdle
  s2.setF (F.CORE_MX_STATUS_SHAPE i) (s2.getF (F.CLU_MXCFG_SHAPE (s2.rampClu i)))

/-- When a ramp's next step is due: a first segment waits while ramps are held. -/
def State.rampDue (s : State) (r : GateRamp) : Option Nat :=
  if r.seg = 0 then (if s.wavesHeld then none else some r.since) else some (r.since + 50 * r.seg)

/-- The rail of a site at half the cluster setpoint, in mV; `rails` are the readings. -/
def State.railOk (s : State) (i : Nat) (rails : List (Nat × Nat)) : Bool :=
  match rails.find? (fun e => e.1 == i) with
  | some e => decide (600 + 5 * s.getF (F.CLU_PSTATE_VSEL (s.rampClu i)) ≤ 2 * e.2)
  | none => s.power.cluOn.contains (s.rampClu i)

/-- One step of a site's ramp: the current of the step that ends, the rail after segment 8, then the next segment or the end. -/
def State.rampStep (s : State) (ovr : List Nat) (rails : List (Nat × Nat)) (i : Nat) (r : GateRamp) : State :=
  if 0 < r.seg && ovr.contains i then s.rampAbort i 0
  else if r.seg = 8 && !s.railOk i rails then s.rampAbort i 1
  else if 16 ≤ r.seg then s.rampDone i
  else { s with power := { s.power with
      ramps := tabPut s.power.ramps i ⟨if r.seg = 0 then s.now else r.since, r.seg + 1⟩ } }

/-- The ramps' next instant: every step due by then is taken. -/
def State.rampsStep (s0 : State) (ovr : List Nat) (rails : List (Nat × Nat)) : State :=
  let due := s0.power.ramps.filterMap (fun e => (s0.rampDue e.2).map (fun t => (e.1, e.2, t)))
  match due with
  | [] => s0
  | x :: t =>
    let s := s0.advanceTo (t.foldl (fun m y => min m y.2.2) x.2.2)
    (due.filter (fun y => decide (y.2.2 ≤ s.now))).foldl (fun s y => s.rampStep ovr rails y.1 y.2.1) s

/-! Over-current (R274, R275) -/

/-- The site's gate is on, or ramping. -/
def State.gateOn (s : State) (i : Nat) : Bool :=
  !(s.coreSt i == coreOff || s.coreSt i == coreEclipsed) || (tabGet s.power.ramps i).isSome

/-- Sites on a cluster's rail: its own, and the row spare that it is ramping (R273, R379). -/
def State.sitesOnRail (s : State) (c : Nat) : List Nat :=
  let l := s.sitesOfCluster c
  let sp := spareOfRow (clusterGRow c)
  if s.spareBusy sp = some c && !l.contains sp then l ++ [sp] else l

/-- Sites of a region of a cluster (R273). -/
def State.regionSites (s : State) (c r : Nat) : List Nat := (s.sitesOnRail c).filter (fun i => siteRegion i == r)

/-- A narrower fault of the same sample gives way to a trip of region 4: the cause is OC_CLU, and the site's latch is as it was (R275). -/
def State.widen (s : State) (e : Nat × Bool × Bool × Nat) : State :=
  let s1 := s.setF (F.CORE_ECL_CAUSE e.1) 5
  if e.2.2.1 then s1 else s1.clrBit (F.PWR_SITE_LATCH (e.1 / 32)) (e.1 % 32)

/-- A cluster's regulator turns off: cache and directory are lost. -/
def State.cluDown (s : State) (c : Nat) : State :=
  let s1 := (s.setCluster c ClusterState.fresh).setPgState (pgClu c) 0
  { s1 with power := { s1.power with cluOn := s1.power.cluOn.filter (· != c) } }

/-- CURRENT_REGION_TRIP (R274): powered sites of the region are eclipsed and latched, or for region 4 the whole cluster goes down, with the sites that a narrower fault of the same sample has eclipsed. A trip of a region whose ramping site has just aborted is R272's (R275). -/
def execCurrentRegionTrip (clu region : Nat) (s : State) : Out :=
  if !s.power.cluOn.contains clu || decide (5 < region) then .next s
  else if region = 4 then
    let s0 := (s.narrowNow.filter (fun e => s.rampClu e.1 == clu)).foldl (fun s e => s.widen e) s
    let s1 := ((s0.sitesOnRail clu).filter (fun i => s0.gateOn i)).foldl (fun s i => s.eclipse i 5) s0
    let s2 := (s1.cluDown clu).setBit (F.PWR_CLU_LATCH (clu / 32)) (clu % 32)
    .next ((s2.lastFault (siteNum ((clusterSites clu).headD 0)) 3 0 4).raiseBit pgPwr 12)
  else if s.narrowNow.any (fun e => e.2.1 && s.rampClu e.1 == clu && siteRegion e.1 == region) then .next s
  else
    match (s.regionSites clu region).filter (fun i => s.gateOn i) with
    | [] => .next s
    | i :: t => .next (((((i :: t).foldl (fun s j => ((s.noteNarrow j false).eclipse j 4).latchSite j) s).lastFault (siteNum i) 2 0 region)).raiseBit pgPwr 11)

/-! Crack detection (R276, R277) -/

/-- In-plane neighbours of point k of a half-layer die: 8 rows of 17 columns. -/
def pointNeighbours (k : Nat) : List Nat :=
  (if k % 17 = 0 then [] else [k - 1]) ++ (if k % 17 = 16 then [] else [k + 1]) ++
  (if k < 17 then [] else [k - 17]) ++ (if 119 ≤ k then [] else [k + 17])

/-- The column of point k of half-layer die h. -/
def pointSite (h k : Nat) : Nat := siteIdx (h / 16) (8 * (h % 2) + k / 17) (k % 17)

/-- Banks of a column's layer that hold activity tokens. -/
def State.pointTokens (s : State) (h k : Nat) : Nat :=
  let q := s.port (pointSite h k)
  let layer := h % 16 / 2
  ((List.range 4).filter (fun n =>
    let b := layer + 8 * n
    q.inOp b || q.refreshing.contains b || q.scrubbing.any (fun x => x.1 == b))).length

/-- The excess drop of a point times the number of its neighbours, in mV (R276). -/
def State.excessDrop (s : State) (h : Nat) (v : List Nat) (k : Nat) : Int :=
  let ns := pointNeighbours k
  let sum (f : Nat → Nat) : Int := ns.foldl (fun a j => a + (f j : Int)) 0
  let n : Int := ns.length
  sum (fun j => v.getD j 0) - n * (v.getD k 0 : Int) - 3 * (n * (s.pointTokens h k : Int) - sum (fun j => s.pointTokens h j))

def SensePt.fresh : SensePt := ⟨0, 0, false, false, none⟩

/-- A suspect or severe point is reported (R277). -/
def State.crackReport (s : State) (h k : Nat) (severe : Bool) (drop : Int) : State :=
  let s1 := (((s.countF F.PWR_CRACK_COUNT_COUNT 1).setF F.PWR_CRACK_LAST_SITE (siteNum (pointSite h k))).setF
    F.PWR_CRACK_LAST_LAYER (h % 16 / 2)).setF F.PWR_CRACK_LAST_SEVERE (b2n severe)
  let s2 := s1.setF F.PWR_CRACK_LAST_DROP_MV (min drop.toNat 255)
  let b := if severe then 14 else 13
  if bit (s2.word (pgPwr + 0x10)).toNat b then s2.raiseBit pgPwr b
  else (s2.setF (F.PG_ERRCAP pgPwr 0) (s2.word F.PWR_CRACK_LAST_SITE.addr).toNat).raise pgPwr (2 ^ b + 1)

/-- One sample of a point. -/
def State.pointSample (s : State) (h : Nat) (v : List Nat) (k : Nat) : State :=
  let n : Int := (pointNeighbours k).length
  let d := s.excessDrop h v k
  let p := (tabGet s.power.points (136 * h + k)).getD SensePt.fresh
  let susMv : Int := s.getF F.PWR_CRACK_CFG_SUSPECT_MV
  let sevMv : Int := s.getF F.PWR_CRACK_CFG_SEVERE_MV
  let sus := if n * susMv ≤ d then p.sus + 1 else 0
  let sev := if n * sevMv ≤ d then p.sev + 1 else 0
  let low := if 2 * d < n * susMv then some (p.lowFrom.getD s.now) else none
  let again := match low with
    | some t => decide (t + 100000 ≤ s.now)
    | none => false
  let saidSus := p.saidSus && !again
  let saidSev := p.saidSev && !again
  let newSus := decide (16 ≤ sus) && !saidSus
  let newSev := decide (4 ≤ sev) && !saidSev
  let p1 : SensePt := ⟨sus, sev, saidSus || newSus, saidSev || newSev, low⟩
  let t := if p1 = SensePt.fresh then tabDel s.power.points (136 * h + k) else tabPut s.power.points (136 * h + k) p1
  let s1 : State := { s with power := { s.power with points := t } }
  let s2 := if newSus then s1.crackReport h k false (d / n) else s1
  if newSev then s2.crackReport h k true (d / n) else s2

/-- The VIN and input current of the fields, in mV and A, as the power page shows them (R267, R285). -/
def State.fieldReadings (s : State) (vin iin : List Nat) : State :=
  let f (l : List Nat) (k : Nat) : Nat := min (l.getD k 0) 0xFFF
  let s1 := if vin.isEmpty then s else
    ((((s.setF F.PWR_VIN_01_F0 (f vin 0)).setF F.PWR_VIN_01_F1 (f vin 1)).setF F.PWR_VIN_23_F2 (f vin 2)).setF F.PWR_VIN_23_F3 (f vin 3)).setF
      F.PWR_VIN_DIP_DEPTH (vin.foldl (fun m v => max m (1800 - v)) (s.getF F.PWR_VIN_DIP_DEPTH))
  if iin.isEmpty then s1 else
    (((s1.setF F.PWR_IIN_01_F0 (f iin 0)).setF F.PWR_IIN_01_F1 (f iin 1)).setF F.PWR_IIN_23_F2 (f iin 2)).setF F.PWR_IIN_23_F3 (f iin 3)

/-- SENSE_POINT_SAMPLE: the 1 µs sample of the half-layer dies' sense points (each with its 136 voltages in mV), and of the fields (R267, R276, R277). -/
def execSensePointSample (volts : List (Nat × List Nat)) (vin iin : List Nat) (s0 : State) : Out :=
  let s := s0.advanceTo (s0.power.sampledAt + 100)
  let s1 : State := { s with power := { s.power with sampledAt := s.now } }
  let dies := volts.filter (fun e => s1.power.dramOn.contains e.1)
  .next (dies.foldl (fun s e => (List.range 136).foldl (fun s k => s.pointSample e.1 e.2 k) s) (s1.fieldReadings vin iin))

/-! Domain faults (R278, R373) -/

/-- A half-layer domain turns off: its bit, its banks (R278, R373). -/
def State.dramDown (s : State) (h : Nat) : State :=
  let s1 : State := { s with power := { s.power with dramOn := s.power.dramOn.filter (· != h) } }
  let s2 := s1.setBit (F.PWR_DRAM_FAULT (h / 32)) (h % 32)
  let layer := h % 16 / 2
  (List.range 136).foldl (fun s k => s.orF (F.DIE_BRET (h / 16) (pointSite h k % 272)) ((2 ^ layer) * 0x01010101)) s2

/-- DOMAIN_FAULT: a DRAM half-layer regulator, or with `fabric` that of a tower's fabric, stays below 90 % for 10 µs (R278). -/
def execDomainFault (fabric : Bool) (n : Nat) (s : State) : Out :=
  if fabric then
    if s.power.fabOn.contains n then
      .next ((((s.towerLoss n).setBit F.PWR_TOWER_FAULT_FAB n).lastFault (0x4000 * n) 4 0 0).raiseBit pgPwr 15)
    else .next s
  else if s.power.dramOn.contains n then
    .next (((s.dramDown n).lastFault (0x4000 * (n / 16) + 0x2000 * (n % 2)) 5 0 (n % 16 / 2)).raiseBit pgPwr 16)
  else .next s

/-! The VIN warning (R279 to R283). Nothing is compared while PWRGD is low (R340; log entry 163). -/

/-- VIN_WARNING: a field falls below warning, `dt` cycles after the previous command (R280, R281, R283). -/
def execVinWarning (dt field : Nat) (s0 : State) : Out :=
  let s := s0.advance dt
  if s.heldInReset || s.power.warn.contains field || decide (3 < field) then .next s
  else
    let s1 : State := { s with power := { s.power with warn := s.power.warn ++ [field], clearAt := none, resumeAt := none } }
    let s2 := ((s1.setF F.PWR_STATUS_WARN 1).setF F.PWR_STATUS_QUALIFYING 0).setF F.PWR_STATUS_QUALIFIED 0
    let s3 := if s2.power.waveNext.isSome then s2.setF F.PWR_STATUS_WAVE_HELD 1 else s2
    if s3.on F.PWR_STATUS_DIV then .next s3
    else
      let s4 := ((s3.setF F.PWR_STATUS_DIV 1).countF F.PWR_WARN_COUNT_COUNT 1).raiseBit pgPwr 8
      .next { s4 with power := { s4.power with divAt := s4.now } }

/-- VIN_ABOVE_WARNING: every field is above warning, and the counts of R281 and R283 start. -/
def execVinAboveWarning (dt : Nat) (s0 : State) : Out :=
  let s := s0.advance dt
  if s.heldInReset || s.power.warn.isEmpty then .next s
  else
    let s1 : State := { s with power := { s.power with warn := [], low := [], clearAt := some s.now, resumeAt := some (s.now + 10000) } }
    .next ((s1.setF F.PWR_STATUS_WARN 0).setF F.PWR_STATUS_QUALIFYING 1)

/-- The division is released, `extra` cycles from now (R281). -/
def State.divRelease (s : State) (extra : Nat) : State :=
  (((s.setF F.PWR_STATUS_DIV 0).setF F.PWR_STATUS_QUALIFIED 0).countF F.PWR_DIV_US_COUNT ((s.now + extra - s.power.divAt) / 100)).raiseBit pgPwr 9

/-- RELEASE_QUALIFIED: every field has stayed above warning for 100 µs; the release waits for a tick, or comes at once while orbits are stopped (R281). -/
def execReleaseQualified (s0 : State) : Out :=
  match s0.power.clearAt with
  | none => .next s0
  | some t =>
    let s := s0.advanceTo (t + 10000)
    let s1 := ({ s with power := { s.power with clearAt := none } } : State).setF F.PWR_STATUS_QUALIFYING 0
    if s1.running then .next (s1.setF F.PWR_STATUS_QUALIFIED 1) else .next (s1.divRelease 0)

/-- DIVISION_RELEASE at step 5 of a tick (R281). -/
def State.divAtTick5 (s : State) : State := if s.on F.PWR_STATUS_QUALIFIED then s.divRelease 200 else s

/-- Ramps that wait begin again under the limits of R271, from now on. -/
def State.rampsReplan (s : State) : State :=
  let wait := s.power.ramps.filter (fun e => e.2.seg == 0)
  let s1 : State := { s with power := { s.power with
    ramps := s.power.ramps.filter (fun e => e.2.seg != 0)
    rampTimes := s.power.rampTimes.filter (fun t => decide (t ≤ s.now)) } }
  wait.foldl (fun s e => s.rampAsk e.1) s1

/-- WAVE_RESUME: held waves and ramps may begin again (R283). -/
def execWaveResume (s0 : State) : Out :=
  match s0.power.resumeAt with
  | none => .next s0
  | some t =>
    let s := s0.advanceTo t
    .next ((({ s with power := { s.power with resumeAt := none, waveAt := if s.on F.PWR_STATUS_WAVE_HELD then s.now else s.power.waveAt } } : State).setF
      F.PWR_STATUS_WAVE_HELD 0).rampsReplan)

/-- VIN_BELOW_RESET: a field's reset timer starts (R279). -/
def execVinBelowReset (dt field : Nat) (s0 : State) : Out :=
  let s := s0.advance dt
  if s.heldInReset ∨ 3 < field ∨ (tabGet s.power.low field).isSome then .next s
  else .next { s with power := { s.power with low := tabPut s.power.low field s.now } }

/-- VIN_ABOVE_RESET: the timer stops (R279). -/
def execVinAboveReset (dt field : Nat) (s0 : State) : Out :=
  let s := s0.advance dt
  .next { s with power := { s.power with low := tabDel s.power.low field } }

end Sys2Proof.Machine
end

