-- ==== Sys2Proof/Machine/Thermal.lean ====
section
/-! DEFINITION. Temperature sensors, throttling, the trip, the energy forecast and COOLREQ (R301 to R304, R308, R309, R433). -/
namespace Sys2Proof.Machine

/-- Levels in eighths of a degree (R301): throttle, release and trip, of logic and of DRAM. -/
def thrLevel (dram : Bool) : Int := if dram then 95 * 8 else 105 * 8
def relLevel (dram : Bool) : Int := if dram then 92 * 8 else 102 * 8
def tripLevel (dram : Bool) : Int := if dram then 105 * 8 else 115 * 8

/-! Readings -/

/-- Reading of a core-site sensor, where it is valid (R308). -/
def State.logicTemp (s : State) (i : Nat) : Option Int :=
  if s.on (F.CORE_TEMP_VALID i) then some (tempOf (s.getF (F.CORE_TEMP_TEMP i))) else none

/-- Reading of DRAM sensor j, where its domain is on (R309, R387). -/
def State.dramReading (s : State) (j : Nat) : Option Int :=
  if s.power.dramOn.contains (j / 4) then some (s.dramTemp j) else none

/-- Sensors of a tower: its 272 core-site sensors, or the 64 DRAM sensors of its stack. -/
def State.towerTemps (s : State) (d : Nat) (dram : Bool) : List Int :=
  if dram then ((List.range 64).map (64 * d + ·)).filterMap s.dramReading else (sitesOfDie d).filterMap s.logicTemp

/-- A sensor of a tower is at or above a level. -/
def State.anyAt (s : State) (d : Nat) (dram : Bool) (level : Int) : Bool := (s.towerTemps d dram).any (fun t => decide (level ≤ t))

/-- Every sensor of a tower is below its release level (R301). -/
def State.towerCool (s : State) (d : Nat) : Bool := !s.anyAt d false (relLevel false) && !s.anyAt d true (relLevel true)

/-- The towers below release now. -/
def State.coolNow (s : State) : List Nat := (List.range 4).filter s.towerCool

/-- The tower throttles (R301). -/
def State.throttles (s : State) (d : Nat) : Bool := bit (s.getF F.THM_STATUS_LTHR) d || bit (s.getF F.THM_STATUS_DTHR) d

/-! COOLREQ (R304, R433) -/

/-- Hardware forces full demand: a tower throttles, a trip holds, or no Ensign has written a duty for 100 ms (R304). -/
def State.coolForced (s : State) : Bool :=
  s.getF F.THM_STATUS_LTHR != 0 || s.getF F.THM_STATUS_DTHR != 0 || s.on F.THM_STATUS_TRIP || !s.therm.live

/-- The force begins at once and raises COOL_FULL; when it ends the duty resumes at the next period (R304). -/
def State.coolUpdate (s : State) : State :=
  if s.coolForced then
    if s.on F.THM_COOL_DUTY_HW_FULL then s
    else ((s.setF F.THM_COOL_DUTY_HW_FULL 1).setF F.THM_COOL_DUTY_DUTY 100).raiseBit pgThm 11
  else s.setF F.THM_COOL_DUTY_HW_FULL 0

/-- COOLREQ_PERIOD: a 40 µs period begins and takes the duty in force (R433). -/
def execCoolreqPeriod (s0 : State) : Out :=
  let s := s0.advanceTo (s0.therm.periodAt + 4000)
  let s1 : State := { s with therm := { s.therm with periodAt := s.now } }
  .next (if s1.on F.THM_COOL_DUTY_HW_FULL then s1 else s1.setF F.THM_COOL_DUTY_DUTY s1.therm.ensDuty)

/-- COOLREQ_DUTY_TIMEOUT: no Ensign has written a duty for 100 ms (R304). -/
def execCoolreqDutyTimeout (s0 : State) : Out :=
  if !s0.therm.live then .next s0
  else
    let s := s0.advanceTo (s0.therm.dutyAt + 10000000)
    let s1 : State := { s with therm := { s.therm with live := false } }
    .next ((s1.setF F.THM_STATUS_FCAST_VALID 0).coolUpdate)

/-! The sample (R301, R302, R190) -/

/-- The cap-die sensors of a tower take readings: they are fed by its L7 half-layer domains (R33), either of which feeds both (DESIGN CHOICE, log entry 164), and hold while the tower's trim runs. -/
def State.capLive (s : State) (d : Nat) : Bool :=
  (s.power.dramOn.contains (16 * d + 14) || s.power.dramOn.contains (16 * d + 15)) && !s.orb.calibs.any (fun c => c.kind == 2 && c.target == d)

/-- New readings of the sensors whose domain is on; those of a tower whose trim runs hold their last value (R57, R301, R308). -/
def State.takeReadings (s : State) (cores dram caps : List (Nat × Nat)) : State :=
  let live (d : Nat) : Bool := s.power.fabOn.contains d && !s.orb.calibs.any (fun c => c.kind == 2 && c.target == d)
  let on := (List.range 4).filter (fun d => s.power.fabOn.contains d)
  let s1 := on.foldl (fun s d => (sitesOfDie d).foldl (fun s i => s.setF (F.CORE_TEMP_VALID i) 1) s) s
  let s2 := cores.foldl (fun s e => if e.1 < nSites && live (siteDie e.1) then s.setF (F.CORE_TEMP_TEMP e.1) e.2 else s) s1
  let s3 := dram.foldl (fun s e =>
    if e.1 < 256 && s.power.dramOn.contains (e.1 / 4) && live (e.1 / 64) then
      s.setF (if e.1 % 2 = 0 then F.THM_DRAM_A (e.1 / 2) else F.THM_DRAM_B (e.1 / 2)) e.2 else s) s2
  caps.foldl (fun s e =>
    if e.1 < 8 && s.capLive (e.1 / 2) then
      s.setF (if e.1 % 2 = 0 then F.THM_CAP_A (e.1 / 2) else F.THM_CAP_B (e.1 / 2)) e.2 else s) s3

/-- The highest of temperatures as a 12-bit field; 0 where there is none. -/
def hottest (l : List Int) : Nat :=
  match l with
  | [] => 0
  | t :: r => ((r.foldl max t) % 4096).toNat

/-- THM_MAX of the four towers (R309). -/
def State.showMax (s : State) : State :=
  (List.range 4).foldl (fun s d =>
    (s.setF (F.THM_MAX_A d) (hottest (s.towerTemps d false))).setF (F.THM_MAX_B d) (hottest (s.towerTemps d true))) s

/-- Throttle entry, hold and release bookkeeping after a sample (R301): the hold stands while the tower throttles, and until the first tick after the last sample that found it so. -/
def State.throttleStep (s : State) : State :=
  let mask (dram : Bool) : Nat := ((List.range 4).filter (fun d => s.anyAt d dram (thrLevel dram))).foldl (fun m d => m + 2 ^ d) 0
  let l := mask false
  let m := mask true
  let ol := s.getF F.THM_STATUS_LTHR
  let om := s.getF F.THM_STATUS_DTHR
  let s1 := (s.setF F.THM_STATUS_LTHR l).setF F.THM_STATUS_DTHR m
  let s2 := if Nat.lor ol l ≠ ol then s1.raiseBit pgThm 8 else s1
  let s3 := if Nat.lor om m ≠ om then s2.raiseBit pgThm 9 else s2
  { s3 with therm := { s3.therm with
      held := (List.range 4).filter (fun d => s3.throttles d || (s3.therm.held.contains d && s3.therm.renewed.contains d))
      renewed := (List.range 4).filter (fun d => s3.throttles d || s3.therm.renewed.contains d)
      cool := s3.therm.cool.filter s3.towerCool } }

/-- Refresh doubles at 85 °C and falls back below 82 °C, by half-layer die (R190). -/
def State.doubleStep (s : State) : State :=
  { s with therm := { s.therm with double := (List.range 64).filter (fun h =>
      s.power.dramOn.contains h &&
        (if s.therm.double.contains h then decide (82 * 8 ≤ s.dieTemp h) else decide (85 * 8 ≤ s.dieTemp h))) } }

/-- Sensors at or above their trip level: logic by site, DRAM sensor j as 2000 + j. -/
def State.tripSensors (s : State) : List Nat :=
  (List.range nSites).filter (fun i => (s.logicTemp i).any (fun t => decide (tripLevel false ≤ t))) ++
    ((List.range 256).filter (fun j => (s.dramReading j).any (fun t => decide (tripLevel true ≤ t)))).map (2000 + ·)

/-- A trip: THERMTRIP_N, the record, and every domain of the four towers off (R302). -/
def State.trip (s : State) (sensor : Nat) : State :=
  let dram := decide (2000 ≤ sensor)
  let s1 := ((s.setF F.THM_STATUS_TRIP 1).setF F.THM_TRIP_CAUSE_KIND (b2n dram)).setF F.THM_TRIP_CAUSE_WHERE
    (if dram then sensor - 2000 else siteNum sensor)
  (List.range 4).foldl (fun s d => if s.power.fabOn.contains d then s.towerLoss d else s) (s1.raiseBit pgThm 10)

/-- Two samples in a row of one sensor at or above its trip level cause a trip (R302). -/
def State.tripStep (s : State) : State :=
  let now := s.tripSensors
  let s1 : State := { s with therm := { s.therm with atTrip := now } }
  match now.filter (fun x => s.therm.atTrip.contains x) with
  | [] => s1
  | x :: _ => if s.on F.THM_STATUS_TRIP then s1 else s1.trip x

/-- THERMAL_SENSOR_SAMPLE: the 20 µs sample; a sensor that the operands do not list reads as at the sample before (R301). -/
def execThermalSensorSample (cores dram caps : List (Nat × Nat)) (s0 : State) : Out :=
  let s := s0.advanceTo (s0.therm.sampledAt + 2000)
  let s1 := ({ s with therm := { s.therm with sampledAt := s.now } } : State).takeReadings cores dram caps
  .next (s1.showMax.throttleStep.doubleStep.tripStep.coolUpdate)

/-! The forecast (R303, R304) -/

/-- The plan entry of a partition for an orbit: its place where it has one (R303). -/
def State.planIndex (s : State) (p a : Nat) : Option Nat :=
  let count := s.getF (F.THM_PLAN_CNT_COUNT p)
  let d := stampOrbit (s.getF (F.THM_PLAN_START_START p)) s.orbit
  if !s.on (F.THM_PLAN_CNT_EN p) || count == 0 then none
  else if s.on (F.THM_PLAN_CNT_REPEAT p) then some (((a : Int) - d) % (count : Int)).toNat
  else if d ≤ (a : Int) ∧ (a : Int) < d + count then some ((a : Int) - d).toNat
  else none

/-- The Ensign reads a partition's entry: no entry, an entry that cannot be read (an error), or its eight bytes. -/
def State.planEntry (s : State) (p a : Nat) : State × Option (Option (List Nat)) :=
  match s.planIndex p a with
  | none => (s, none)
  | some k =>
    let base := s.getF (F.THM_PLAN_BASE_LO_ADDR p) * 8 + s.getF (F.THM_PLAN_BASE_HI_ADDR p) * 2 ^ 32
    match s.peek (128 + s.getF F.G_REL_STATUS_ACTIVE) p (base + 8 * k) 8 with
    | (s1, .ok (d, true)) => (s1, some (some d))
    | (s1, _) => (s1, some none)

/-- Some core of the partition in the tower is powered. -/
def State.poweredIn (s : State) (p d : Nat) : Bool :=
  (s.sitesOf p).any (fun i => siteDie i == d && s.gateOn i)

/-- The partitions' entries of one orbit; PLAN_ERR is raised where one cannot be read. -/
def State.planRead (s : State) (a : Nat) : State × List (Nat × Option (List Nat)) :=
  (List.range 16).foldl (fun (acc : State × List (Nat × Option (List Nat))) p =>
    match acc.1.planEntry p a with
    | (s1, none) => (s1, acc.2 ++ [(p, none)])
    | (s1, some none) => (s1.raiseBit pgThm 12, acc.2 ++ [(p, none)])
    | (s1, some (some d)) => (s1, acc.2 ++ [(p, some d)])) (s, [])

/-- The planned sum of a tower, or the field's energy of the last closed orbit where that is larger and a partition with a powered core there has no entry (R303). -/
def State.plannedOf (s : State) (entries : List (Nat × Option (List Nat))) (energy : List Nat) (d : Nat) : Nat :=
  let sum := entries.foldl (fun n e => match e.2 with | some b => n + leNat ((b.drop (2 * d)).take 2) | none => n) 0
  if entries.any (fun e => e.2.isNone && s.poweredIn e.1 d) then max sum (energy.getD d 0) else sum

/-- The duty of R304 in percent, from the largest temperature in eighths of a degree: the whole percent below and whether a fraction is left. -/
def coolDuty (minDuty tBase tFull : Nat) (t : Int) : Nat × Bool :=
  let span := 8 * (tFull - tBase)
  let x := (min (max (t - 8 * tBase) 0) span).toNat
  let n := (100 - minDuty) * x
  if span = 0 then (minDuty, false) else (minDuty + n / span, n % span != 0)

/-- ENERGY_FORECAST: the active Ensign forecasts orbit N + 4 and sets the duty; `energy` is each field's energy of the last closed orbit in mJ. A duty between two whole percents takes either: the spec does not say which. -/
def execEnergyForecast (energy : List Nat) (s0 : State) : Out :=
  if s0.activeEns.isNone || s0.beforeReady then .next s0
  else
    let r := s0.planRead (s0.orbit + 4)
    let s := r.1
    let readings := (List.range 4).flatMap (fun d => [s.getF (F.THM_MAX_A d), s.getF (F.THM_MAX_B d)])
    let fc (dram : Bool) (d : Nat) : Nat := (Config.forecast d dram readings (s.plannedOf r.2 energy d)).toNat
    let s1 := (List.range 4).foldl (fun s d => (s.setF (F.THM_FCAST_A d) (fc true d)).setF (F.THM_FCAST_B d) (fc false d)) s
    let tf := (List.range 4).foldl (fun m d => max m (max (tempOf (fc true d)) (tempOf (fc false d) - 80))) (-2048)
    let q := coolDuty (s.getF F.THM_COOL_CFG_MIN_DUTY) (s.getF F.THM_COOL_CFG_T_BASE) (s.getF F.THM_COOL_CFG_T_FULL) tf
    let g := s1.takeFree
    let duty := if q.2 then q.1 + Config.freeValue g.1 % 2 else q.1
    .next ((({ g.2 with therm := { g.2.therm with ensDuty := duty, dutyAt := g.2.now, live := true } } : State).setF
      F.THM_STATUS_FCAST_VALID 1).coolUpdate)

end Sys2Proof.Machine
end

