-- ==== Sys2Proof/Machine/Reliab.lean ====
section
/-! DEFINITION. Patrol scrub, Ensign roles, reference clocks, eclipse by the driver, ghosts, retirement, row spares, test flips and self-test (R367 to R392), and the scan-enable sequence (R410 to R413). -/
namespace Sys2Proof.Machine

/-! Patrol scrub (R367) -/

/-- Row steps of a column's patrol. -/
def patrolSteps : Nat := 393216

/-- CLK_ORB cycles between two scrub steps of a column. -/
def State.patrolInterval (s : State) : Nat := s.getF F.G_SCRUB_HOURS * 360000000000 / patrolSteps

/-- PATROL_SCRUB_DUE: a column's next step falls due. -/
def execPatrolScrubDue (site : Nat) (s0 : State) : Out :=
  if s0.getF F.G_SCRUB_HOURS = 0 || decide (nSites ≤ site) || !s0.power.fabOn.contains (siteDie site) then .next s0
  else
    let s := s0.advanceTo ((tabGet s0.rel.scrubAt site).getD 0 + s0.patrolInterval)
    .next { s with rel := { s.rel with scrubAt := tabPut s.rel.scrubAt site s.now, scrubDue := s.rel.scrubDue ++ [site] } }

/-- SCRUB_STEP_START: the step takes a token in a wave gap, with its bank idle; a bank whose domain is off is passed over. The order of rows is the model's (DESIGN CHOICE): all rows of bank 0, then of bank 1, and so on. -/
def execScrubStepStart (site : Nat) (s : State) : Out :=
  let q := s.port site
  let k := (tabGet s.rel.scrubNext site).getD 0 % patrolSteps
  let b := k / 12288
  let on := s.refreshOn site b
  let free := q.scrubbing.isNone && decide (q.tokens < 8) && q.bcasts.all (fun c => c.active.isEmpty) &&
    !q.refreshing.contains b && !q.busyBank b
  if !s.rel.scrubDue.contains site || (on && !free) then .next s
  else
    let s1 : State := { s with rel := { s.rel with scrubDue := s.rel.scrubDue.erase site, scrubNext := tabPut s.rel.scrubNext site ((k + 1) % patrolSteps) } }
    if on then .next ((s1.setPort site { q with scrubbing := some (b, k % 12288), openRows := tabDel q.openRows b }).tokenPeak (siteDie site))
    else .next s1

/-! Ensigns (R381 to R383) -/

/-- Ensign e has an ACTIVE link to die d. -/
def State.ensLink (s : State) (e d : Nat) : Bool :=
  (List.range 24).any (fun n => (linkEnds n) == (d, 4 + e) && s.lnk n == linkActive)

/-- Ensign e's latest beat at die d. -/
def State.beat (s : State) (e d : Nat) : Nat := (tabGet s.rel.beats (2 * d + e)).getD 0

/-- The steward of die d. -/
def State.steward (s : State) (d : Nat) : Nat := b2n (bit (s.getF F.G_REL_STATUS_STEWARD) d)

/-- The mailbox shows the Ensign that holds the active role (R414, R415). -/
def State.showEns (s : State) : State :=
  (s.setF F.ENS_STATUS_WHO (s.getF F.G_REL_STATUS_ACTIVE)).setF F.ENS_STATUS_READY (b2n s.activeEns.isSome)

/-- A command that runs in the mailbox completes (R415, R416). -/
def State.mailDone (s : State) (result rlen : Nat) : State :=
  ((((s.setF F.ENS_STATUS_BUSY 0).setF F.ENS_STATUS_RESULT result).setF F.ENS_STATUS_RLEN rlen).wrapF F.ENS_DONE_COUNT 1).raise pgEns
    (if result = 6 then 0x300 else 0x100)

/-- A running command is lost with its Ensign (R414). -/
def State.mailLost (s : State) : State := if s.on F.ENS_STATUS_BUSY then s.mailDone 6 0 else s

/-- The active role belongs to the steward of the lowest-numbered live die; where it passes, FAILOVER is raised, counted and logged, and a running mailbox command is lost (R381, R382, R414). -/
def State.roleCheck (s : State) : State :=
  match (List.range 4).find? (fun d => s.power.fabOn.contains d) with
  | none => s.showEns
  | some d =>
    let e := s.steward d
    if e = s.getF F.G_REL_STATUS_ACTIVE then s.showEns
    else
      let s0 : State := { s.mailLost with mgmt := { s.mailLost.mgmt with capOrbit := 0, flash := none } }
      let s1 := (s0.setF F.G_REL_STATUS_ACTIVE e).countF F.G_REL_FAILOVERS_COUNT 1
      ((s1.raiseBit pgRel 11).logRecord 13 0 0 0 0).showEns

/-- Die d takes Ensign e for its steward; a rise of its frequency that the stewardless hold kept down is due again (R298, R382, R383). -/
def State.grantClaim (s : State) (e d : Nat) : State :=
  let s1 := s.setF F.G_REL_STATUS_STEWARD (setBits (s.getF F.G_REL_STATUS_STEWARD) d 1 e)
  let s2 := s1.setF F.G_REL_STATUS_STEWARDLESS (setBits (s1.getF F.G_REL_STATUS_STEWARDLESS) d 1 0)
  let s3 : State := { s2 with rel := { s2.rel with beats := tabPut s2.rel.beats (2 * d + e) s2.now, gaveUp := s2.rel.gaveUp.filter (· != e) } }
  s3.roleCheck.lead d

/-- ENSIGN_CLAIM: a die grants a claim where its steward has been silent for 4 ms, has no ACTIVE link to it, or the die is stewardless (R382, R383). -/
def execEnsignClaim (ens die : Nat) (s : State) : Out :=
  let st := s.steward die
  if decide (1 < ens) || decide (3 < die) || !s.power.fabOn.contains die || !s.ensAlive ens || !s.ensLink ens die then .next s
  else if bit (s.getF F.G_REL_STATUS_STEWARDLESS) die || (st != ens && (!s.ensLink st die || decide (s.beat st die + 400000 ≤ s.now))) then
    .next (s.grantClaim ens die)
  else .next s

/-- STEWARD_TIMEOUT: 4 ms without a beat from the steward; the standby Ensign's claim is granted (R382). -/
def execStewardTimeout (die : Nat) (s0 : State) : Out :=
  let st := s0.steward die
  let other := 1 - st
  if decide (3 < die) || !s0.power.fabOn.contains die || !s0.ensAlive other || !s0.ensLink other die then .next s0
  else .next ((s0.advanceTo (s0.beat st die + 400000)).grantClaim other die)

/-- STEWARDLESS: 4 ms without a beat from either Ensign; the safe sequencer holds the die at step 0 (R383). -/
def execStewardless (die : Nat) (s0 : State) : Out :=
  if decide (3 < die) || !s0.power.fabOn.contains die || bit (s0.getF F.G_REL_STATUS_STEWARDLESS) die then .next s0
  else
    let s := s0.advanceTo (max (s0.beat 0 die) (s0.beat 1 die) + 400000)
    let first := s.getF F.G_REL_STATUS_STEWARDLESS == 0
    let s1 := s.orF F.G_REL_STATUS_STEWARDLESS (2 ^ die)
    let s2 := if first then s1.raiseBit pgRel 12 else s1
    if s2.getF (F.DIE_FREQ_CUR die) = 0 then .next ((clustersOf die).foldl (fun s c => s.aim c (s.vselFor c 0)) s2)
    else if s2.running then .next s2
    else .next (s2.setStep die 0)

/-- ENSIGN_ROLE_GIVE_UP: the active Ensign has had no ACTIVE link to a compute die for 2 ms, `dt` cycles after the previous command (R382). -/
def execEnsignRoleGiveUp (dt : Nat) (s0 : State) : Out :=
  let s := s0.advance dt
  match s.activeEns with
  | none => .next s
  | some e =>
    if (List.range 4).any (fun d => s.ensLink e d) then .next s
    else .next (({ s.mailLost with rel := { s.mailLost.rel with gaveUp := s.mailLost.rel.gaveUp ++ [e] } } : State).showEns)

/-! Reference clocks (R385) -/

/-- The reference that die n (0 to 3, I/O dies 4 and 5) runs on. -/
def State.refOf (s : State) (n : Nat) : Bool :=
  if n < 4 then bit (s.getF F.G_CLKSEL_CUR) n else bit (s.getF F.G_CLKSEL_CUR_IO) (n - 4)
def State.setRef (s : State) (n : Nat) (r : Bool) : State :=
  if n < 4 then s.setF F.G_CLKSEL_CUR (setBits (s.getF F.G_CLKSEL_CUR) n 1 (b2n r))
  else s.setF F.G_CLKSEL_CUR_IO (setBits (s.getF F.G_CLKSEL_CUR_IO) (n - 4) 1 (b2n r))
def refOk (r : Bool) : Fld := if r then F.G_REL_STATUS_REF1_OK else F.G_REL_STATUS_REF0_OK

/-- REFCLK_LOSS: a die's detector declares its reference lost; the die switches where the other is good. The first die to declare a reference lost raises and logs it (R368, R385). -/
def execRefclkLoss (ref : Bool) (die : Nat) (s : State) : Out :=
  if decide (5 < die) || s.refOf die != ref then .next s
  else
    let s1 := if s.on (refOk ref) then ((s.setF (refOk ref) 0).raiseBit pgRel 13).logRecord 12 0 0 (b2n ref) 0 else s
    .next (if s1.on (refOk (!ref)) then s1.setRef die (!ref) else s1)

/-- REFCLK_RESTORED (R384). -/
def execRefclkRestored (ref : Bool) (s : State) : Out := .next (s.setF (refOk ref) 1)

/-- REFCLK_SELECT: a write of PREF switches every die whose chosen reference is good (R385). -/
def execRefclkSelect (who : Requester) (value : Word) (s : State) : Out :=
  trigger s who F.G_CLKSEL_PREF.addr 1 value (fun s =>
    let s1 := s.store F.G_CLKSEL_PREF.addr 1 value true
    let r := s1.on F.G_CLKSEL_PREF
    if s1.on (refOk r) then (List.range 6).foldl (fun s n => s.setRef n r) s1 else s1)

/-! Eclipse by the driver, ghosts, retirement (R372, R375, R377) -/

/-- Sites that a word of a die's site bits names. -/
def wordSites (die index : Nat) (v : Nat) : List Nat :=
  (((List.range 32).filter (bit v)).map (32 * index + ·)).filterMap (fun l => if l < 272 then some (272 * die + l) else none)

/-- DRIVER_ECLIPSE: a write of 1 to DIE_ECL bits (R375, R376, R392). -/
def execDriverEclipse (who : Requester) (die index : Nat) (value : Word) (s : State) : Out :=
  if 3 < die ∨ 8 < index then .next s
  else triggerM s who (F.DIE_ECL die index).addr 0 value (fun m s =>
    (wordSites die index (Nat.land value.toNat m)).foldl (fun s i => s.eclipse i 6) s)

/-- PORT_FAIL: a write of 1 to DIE_PFAIL bits takes ports to FAILED (R372). -/
def execPortFail (who : Requester) (die index : Nat) (value : Word) (s : State) : Out :=
  if 3 < die ∨ 8 < index then .next s
  else triggerM s who (F.DIE_PFAIL die index).addr 0 value (fun m s =>
    (wordSites die index (Nat.land value.toNat m)).foldl (fun s i => if s.hal i = halFailed then s.setBit (pfailWord i) (siteBit i) else s.portToFailed i) s)

/-- BANK_RETIRE: a write of 1 to DIE_BRET bits of a column (R372). -/
def execBankRetire (who : Requester) (die index : Nat) (value : Word) (s : State) : Out :=
  if 3 < die ∨ 271 < index then .next s
  else triggerM s who (F.DIE_BRET die index).addr 0 value (fun m s => s.orF (F.DIE_BRET die index) (Nat.land value.toNat m))

/-- GHOST_FLIT: a flit that an eclipsed core presents to its gate is dropped and counted; the first since the eclipse is logged (R377). -/
def execGhostFlit (core : Nat) (s : State) : Out :=
  if nSites ≤ core ∨ s.coreSt core ≠ coreEclipsed then .next s
  else
    let d := siteDie core
    let s1 := ((s.countF (F.CORE_GHOST_COUNT core) 1).countF (F.DIE_GHOST_COUNT d) 1).setF (F.DIE_GHOST_LAST_SITE d) (siteNum core)
    if s1.rel.ghosted.contains core then .next s1
    else .next ((({ s1 with rel := { s1.rel with ghosted := s1.rel.ghosted ++ [core] } } : State).raiseBit pgRel 14).logRecord 8 0 (siteNum core) 0 0)

/-! Row spares (R379, R394) -/

/-- A core of the cluster is LOADED, RUNNING or BERTHED. -/
def State.cluBusy (s : State) (c : Nat) : Bool :=
  (s.sitesOfCluster c).any (fun i => s.coreSt i == coreLoaded || s.coreSt i == coreRunning || s.coreSt i == coreBerthed)

/-- Sites that count towards FULL. -/
def State.cluCount (s : State) (c : Nat) : Nat :=
  ((clusterSites c).filter (fun i => fusedActive i && s.coreSt i != coreEclipsed)).length +
    b2n (s.clusterOf (spareOfRow (clusterGRow c)) == some c)

/-- The refusal of an ASSIGN, 0 where none applies; the first of the list that holds. -/
def State.assignResult (s : State) (c : Nat) : Nat :=
  let i := spareOfRow (clusterGRow c)
  if (s.clusterOf i).any (· != c) then 1
  else if s.siteLatched i || s.coreSt i == coreEclipsed then 2
  else if (if Config.gradeB then 7 else 8) ≤ s.cluCount c then 3
  else if s.cluBusy c then 4
  else 0

/-- ASSIGN: the row spare ramps on the cluster's rail, or the refusal is shown. -/
def execAssign (who : Requester) (clu : Nat) (value : Word) (s : State) : Out :=
  if 127 < clu ∨ value.toNat % 4 ≠ 1 then .next s
  else trigger s who (F.CLU_SPARE_CMD clu).addr 3 value (fun s =>
    let i := spareOfRow (clusterGRow clu)
    if s.on (F.CLU_SPARE_BUSY clu) || s.on (F.CLU_SPARE_BUSY (Nat.xor clu 1)) then s
    else if s.clusterOf i = some clu then s.setF (F.CLU_SPARE_RESULT clu) 0
    else match s.assignResult clu with
      | 0 => ((s.setF (F.CLU_SPARE_RESULT clu) 0).setF (F.CLU_SPARE_BUSY clu) 1).rampAsk i
      | r => s.setF (F.CLU_SPARE_RESULT clu) r)

/-- RELEASE: the spare's gate opens and it is unassigned, or the refusal is shown. -/
def execRelease (who : Requester) (clu : Nat) (value : Word) (s : State) : Out :=
  if 127 < clu ∨ value.toNat % 4 ≠ 2 then .next s
  else trigger s who (F.CLU_SPARE_CMD clu).addr 3 value (fun s =>
    let i := spareOfRow (clusterGRow clu)
    if s.on (F.CLU_SPARE_BUSY clu) then s
    else if s.clusterOf i ≠ some clu then s.setF (F.CLU_SPARE_RESULT clu) 0
    else if fusedServes clu then s.setF (F.CLU_SPARE_RESULT clu) 6
    else if s.cluBusy clu then s.setF (F.CLU_SPARE_RESULT clu) 4
    else
      let ecl := s.coreSt i == coreEclipsed
      let s1 := if ecl then s else (((s.corePurge i).coreLost i).stopRamp i).setCoreSt i coreOff
      ((s1.setF (F.CORE_SITE_ASSIGNED i) 0).setF (F.CLU_SPARE_ASSIGNED clu) 0).setF (F.CLU_SPARE_RESULT clu) 0)

/-! Test flips (R371) -/

/-- TEST_FLIP_ARM: a write of G_FLIP_CTRL with ARM = 1. -/
def execTestFlipArm (who : Requester) (value : Word) (s : State) : Out :=
  if !bit value.toNat 0 then .next s
  else triggerM s who F.G_FLIP_CTRL_ARM.addr 1 value (fun m s => (s.store F.G_FLIP_CTRL_ARM.addr m value true).setF F.G_FLIP_CTRL_DONE 0)

/-! The scan-enable sequence (R410 to R413) -/

def scanClosed : Nat := 0
def scanPending : Nat := 1
def scanClearing : Nat := 2
def scanOpen : Nat := 3

/-- A partition is ACTIVE, QUIESCING or RESET. -/
def State.anyPartBusy (s : State) : Bool := (List.range 16).any (fun p => decide (2 ≤ s.pgState (pgPrt p)))

/-- Steps 1 to 3: CLEARING, with key and seeds gone; DRAM written before is lost, so what it reads as is undefined. -/
def State.scanBegin (s : State) : State :=
  let g := s.takeFree
  let s1 := ((g.2.setF F.SEC_STATUS_SCAN scanClearing).setF F.SEC_STATUS_KEY_LOADED 0).setF F.SEC_STATUS_SEEDS_LOADED 0
  (({ s1 with dram := s1.dram.refill 0 (2 ^ 41) (some g.1) } : State)).setF F.SEC_SCAN_INFO_ORBIT (s.orbit % 2 ^ 28)

/-- Step 4: local stores, program buffers, cluster caches, expansion buffers and K slots of powered domains are zero. -/
def State.arraysClear (s : State) (sites clusters : List Nat) : State :=
  let s1 := (sites.filter (fun i => s.coreSt i != coreOff && s.coreSt i != coreEclipsed)).foldl (fun s i =>
    s.setCore i { s.core i with ls := ⟨[], [], []⟩, prog := [], fetch := .idle, l1 := [] }) s
  let s2 := (clusters.filter (fun c => s1.power.cluOn.contains c)).foldl (fun s c =>
    s.setCluster c { s.cluster c with lines := [], dir := [] }) s1
  (sites.filter (fun i => s2.power.fabOn.contains (siteDie i))).foldl (fun s i =>
    s.setPort i { s.port i with xbuf := ⟨[], [], []⟩, kslots := [], kzero := true }) s2

/-- Steps 4 and 5: the arrays are zero and SCAN is OPEN. -/
def State.scanFinish (s0 : State) : State :=
  let s := s0.advance 10000
  ((s.arraysClear (List.range nSites) (List.range 128)).setF F.SEC_STATUS_SCAN scanOpen).raiseBit pgSec 8

/-- A request from a source that no partition can refuse: the sequence starts at once, or is pending while a partition is busy. -/
def State.scanAsk (s : State) (source : Nat) : State :=
  let s1 := s.setF F.SEC_SCAN_INFO_SOURCE source
  if s1.getF F.SEC_STATUS_SCAN = scanClosed then
    if s1.anyPartBusy then s1.setF F.SEC_STATUS_SCAN scanPending else s1.scanBegin
  else s1

/-- SCAN_SEQUENCE_START: a pending sequence starts once no partition is busy, and a started one clears the arrays and opens scan (R411, R412). -/
def execScanSequenceStart (s : State) : Out :=
  let st := s.getF F.SEC_STATUS_SCAN
  if st = scanPending then (if s.anyPartBusy then .next s else .next s.scanBegin.scanFinish)
  else if st = scanClearing then .next s.scanFinish
  else .next s

/-! Self-test (R390) -/

/-- The self-test would touch a partition that is ACTIVE, QUIESCING or RESET. -/
def State.bistBusy (s : State) (scope index : Nat) : Bool :=
  if scope = 1 then (s.partOfRow index).any (fun p => decide (2 ≤ s.pgState (pgPrt p))) else s.anyPartBusy

/-- A request: accepted, or refused with its status. -/
def State.bistGo (s : State) (scope index : Nat) : State :=
  if s.getF F.G_REL_STATUS_STEWARDLESS ≠ 0 || s.activeEns.isNone then (s.setF F.G_BIST_STATUS_STATUS 5).setF F.G_BIST_CMD_GO 0
  else if s.rel.bist.isSome then s.setF F.G_BIST_STATUS_STATUS 6
  else if s.bistBusy scope index then (s.setF F.G_BIST_STATUS_STATUS 4).setF F.G_BIST_CMD_GO 0
  else
    let s1 := (s.setF F.G_BIST_STATUS_STATUS 1).setF F.G_BIST_CMD_GO 1
    let s2 : State := { s1 with rel := { s1.rel with bist := some (scope, index, s1.now) } }
    if scope = 0 then s2.scanAsk 3 else s2

/-- A write of G_BIST_CMD with GO = 1 and a scope. -/
def bistWrite (who : Requester) (scope : Nat) (value : Word) (s : State) : Out :=
  if !bit value.toNat 8 || value.toNat % 4 != scope then .next s
  else triggerM s who F.G_BIST_CMD_GO.addr 0x100 value (fun m s =>
    (s.store F.G_BIST_CMD_GO.addr (Nat.land m 0xFF) value true).bistGo scope (bits value.toNat 2 6))

def execBistAll (who : Requester) (value : Word) (s : State) : Out := bistWrite who 0 value s
def execBistRow (who : Requester) (value : Word) (s : State) : Out := bistWrite who 1 value s
def execBistLink (who : Requester) (value : Word) (s : State) : Out := bistWrite who 2 value s

/-- What a test leaves in the memories it tests: DRAM and arrays of zero; after ALL, fresh key and seeds with scan CLOSED (R390, R413). -/
def State.bistLeaves (s : State) (scope index : Nat) : State :=
  if scope = 0 then
    let s1 := { (s.arraysClear (List.range nSites) (List.range 128)) with dram := Memory.empty }
    ((s1.setF F.SEC_STATUS_SCAN scanClosed).setF F.SEC_STATUS_KEY_LOADED 1).setF F.SEC_STATUS_SEEDS_LOADED 1
  else if scope = 1 then
    let sites := (List.range 17).map (17 * index + ·)
    let s1 := s.arraysClear sites [2 * index, 2 * index + 1]
    sites.foldl (fun s i => { s with dram := s.dram.refill (colBase i) (colBase i + 0x30000000) none }) s1
  else s

/-- BIST_DONE: the test ends. `sites` fail their logic test and are eclipsed; `others` are failing rows, ports and links by the SITE field of their record; each with its test code; `ms` is the duration (R375, R390). -/
def execBistDone (sites others : List (Nat × Nat)) (ms : Nat) (s : State) : Out :=
  match s.rel.bist with
  | none => .next s
  | some (scope, index, _) =>
    let s0 := s.advance (100000 * ms)
    let s1 := ({ s0 with rel := { s0.rel with bist := none } } : State).bistLeaves scope index
    let s2 := sites.foldl (fun s e => (s.eclipse e.1 2).logRecord 9 0 (siteNum e.1) e.2 0) s1
    let s3 := others.foldl (fun s e => s.logRecord 9 0 e.1 e.2 0) s2
    let n := sites.length + others.length
    .next (((((s3.setF F.G_BIST_CMD_GO 0).setF F.G_BIST_STATUS_STATUS (if n = 0 then 2 else 3)).setF F.G_BIST_STATUS_FAILS (min n 0xFFF)).setF
      F.G_BIST_STATUS_MS (min ms 0xFFFF)).raiseBit pgRel 16)

end Sys2Proof.Machine
end

