-- ==== Sys2Proof/Machine/BringUp.lean ====
section
/-! DEFINITION. Bring-up, orderly shutdown, whole-part and fault resets, Ensign resets, field faults and identity (R159, R270, R282, R339 to R360, R427 to R429). -/
namespace Sys2Proof.Machine

/-! Whole-part reset (R340, R351) -/

/-- Registers with a field of reset entry h, their other fields at reset (R14). -/
def State.heldRegs (s : State) : Tab Word :=
  s.regs.filterMap (fun e =>
    match regAt e.1 with
    | none => none
    | some (_, _, d) =>
      let hs := d.fields.filter (fun f => decide (f.rst = .held))
      if hs.isEmpty then none
      else some (e.1, BitVec.ofNat 32 (hs.foldl (fun w f => setBits w f.lsb f.width (bits e.2.toNat f.lsb f.width)) (resetWord e.1).toNat)))

/-- Registers of the halyard-port pages of towers whose fabric domain stays on (R193, R351). -/
def State.keptPages (s : State) (kept : List Nat) : Tab Word :=
  s.regs.filter (fun e => match pageKind (e.1 / 0x1000) with
    | some (.halyard, i) => kept.contains (siteDie i)
    | _ => false)

/-- Packets in the routers and ports of towers whose fabric domain stays on. -/
def State.keptPackets (s : State) (kept : List Nat) : Tab Packet :=
  s.packets.filter (fun e => match e.2.place with
    | .router i | .hal i => kept.contains (siteDie i)
    | _ => false)

/-- The halyard ports of those towers, with their refresh state, K slots, requests and engines, which run on (R192, R194, R351). -/
def State.keptPorts (s : State) (kept : List Nat) : Tab PortState :=
  ((List.range nSites).filter (fun i => kept.contains (siteDie i))).map (fun i => (i, s.port i))

/-- The part after a whole-part reset: everything but held fields, flash, input pins, what lies outside the part, and the DRAM and fabric of towers that keep them; other DRAM is of undefined content. Time runs on where ports do. -/
def State.wholeReset (s : State) (kept : List Nat) : State :=
  let lost := (List.range 4).filter (fun d => !kept.contains d)
  let t := if kept.isEmpty then 0 else s.now
  let dram := lost.foldl (fun m d => m.refill (d * 2 ^ 39) ((d + 1) * 2 ^ 39) (some s.freeCtr)) s.dram
  { State.reset with
    pending := s.pending
    freeCtr := s.freeCtr + 1 + portGens
    now := t
    regs := (s.keptPages kept).foldl (fun r e => tabPut r e.1 e.2) s.heldRegs
    reply := s.reply
    egress := s.egress
    dram := dram
    packets := s.keptPackets kept
    nextPkt := s.nextPkt
    nextTag := s.nextTag
    ports := s.keptPorts kept
    gov := { GovState.reset with winFrom := t, markAt := t, sampledAt := t }
    therm := { ThermState.reset with double := s.therm.double.filter (fun h => kept.contains (h / 16)), sampledAt := t, dutyAt := t, periodAt := t }
    host := { HostState.reset with perst := s.host.perst }
    flash := s.flash
    mgmt := { MgmtState.reset with dynAddr := s.mgmt.dynAddr, jtag := s.mgmt.jtag }
    power := { PowerState.reset with
      pwrgd := s.power.pwrgd, vsb := s.power.vsb, aux := s.power.aux, strap := s.power.strap
      fabOn := s.power.fabOn.filter kept.contains
      dramOn := s.power.dramOn.filter (fun h => kept.contains (h / 16))
      kept := kept, gen := s.freeCtr + 1, sampledAt := t } }

/-- A reset `r` of the part `s` while its inputs stay: what the comparators of VIN find, and the counts of R281 and R283, go on (DEDUCED: the fields are below warning still). -/
def State.vinStays (s r : State) : State :=
  let below := !s.power.warn.isEmpty
  let r1 : State := { r with power := { r.power with
    warn := s.power.warn, low := s.power.low, clearAt := s.power.clearAt, resumeAt := s.power.resumeAt, divAt := s.now } }
  if below || s.power.clearAt.isSome then
    ((r1.setF F.PWR_STATUS_WARN (b2n below)).setF F.PWR_STATUS_DIV 1).setF F.PWR_STATUS_QUALIFYING (b2n s.power.clearAt.isSome)
  else r1

/-- A whole-part reset with its cause recorded (R360): 1, PWRGD, or with the inputs standing 2, RESET_ALL, and 3, a fault reset. -/
def State.resetCause (s : State) (cause : Nat) (kept : List Nat) : State :=
  let r := s.wholeReset kept
  (if cause = 1 then r else s.vinStays r).setF F.G_BOOT_CAUSE_CAUSE cause

/-! Bring-up (R341 to R344, R348) -/

/-- Bring-up ends in FAILED (R342, R343, R302); after NO_IMAGE no die holds the flash lock (R442). -/
def State.bootFail (s : State) (why : Nat) : State :=
  ((({ s with power := { s.power with boot := none }, mgmt := { s.mgmt with flash := if why = 1 then none else s.mgmt.flash } } : State).setF
    F.G_BOOT_CAUSE_FAIL why).setF F.G_BOOT_STATE_STATE 10)

/-- An Ensign runs the image it has loaded (R343, R415). -/
def State.ensUp (s : State) (e : Nat) : State :=
  let im := (tabGet s.rel.images e).getD (0, 0)
  ((((s.setF (if e = 0 then F.G_REL_STATUS_ENS_A else F.G_REL_STATUS_ENS_B) 1).setF
    (if e = 0 then F.SEC_STATUS_FW_A_AUTH else F.SEC_STATUS_FW_B_AUTH) 1).setF (F.ENS_FWVER_VERSION e) im.1).setF (F.ENS_FWVER_SLOT e) im.2).showEns

/-- Step 1: straps and references (R28, R341, R428). -/
def State.bootStraps (s : State) (b : BootIn) : State :=
  let s1 := ((s.setF F.G_STRAPS_GCOMPAT (b2n b.gcompat)).setF F.G_STRAPS_IO_OK (b2n (b.ioOk == 2))).setF F.G_BOOT_STATE_STATE 1
  let s2 := (List.range 16).foldl (fun s p => s.setF (F.PG_CTRL_GCOMPAT (pgPrt p)) (b2n b.gcompat)) s1
  let s3 := (s2.setF F.G_REL_STATUS_REF0_OK 1).setF F.G_REL_STATUS_REF1_OK 1
  let lose (s : State) (r : Bool) : State := ((s.setF (refOk r) 0).raiseBit pgRel 13).logRecord 12 0 0 (b2n r) 0
  let s4 := if b.ref1 then s3 else lose s3 true
  if b.ref0 then s4
  else (List.range 6).foldl (fun s n => s.setRef n b.ref1) (lose s4 false)

/-- Step 2: firmware, roles and the quick-start record, which is used once only; host ports that wait for Ensign boot train (R341, R343, R344, R347, R348). -/
def State.bootEnsigns (s : State) (b : BootIn) (slot : Nat) : State :=
  let up := (if b.ensA then [0] else []) ++ (if b.ensB then [1] else [])
  let act := if b.ensA then 0 else 1
  let s1 : State := { s with rel := { s.rel with images := up.foldl (fun t e => tabPut t e (b.version, slot)) s.rel.images } }
  let s2 := ((s1.setF F.G_REL_STATUS_ACTIVE act).setF F.G_REL_STATUS_STEWARD (15 * act))
  let s3 := up.foldl (fun s e => s.ensUp e) s2
  let forced := s3.on F.G_QS_STATUS_FORCE_COLD
  let rec? := if forced then none else s3.qsFound
  let used := rec?.isSome
  let s4 := (((((s3.setF F.G_QS_STATUS_FOUND (b2n s3.qsFound.isSome)).setF F.G_QS_STATUS_USED (b2n used)).setF F.G_QS_STATUS_REASON
    (if forced then 6 else if used then 0 else s3.qsMissing)).setF F.G_QS_STATUS_FORCE_COLD 0).setF F.G_QS_SEQ_SEQ
    (match rec? with | some r => r.seq | none => 0)).setF F.G_BOOT_STATE_QUICK (b2n used)
  ({ s4 with power := { s4.power with quick := rec? } } : State).qsConsume.portsTrain

/-- Domains that no fault bit keeps off: fabric, DRAM half-layers, clusters (R274, R278). -/
def State.towerOk (s : State) (d : Nat) : Bool := !bit (s.getF F.PWR_TOWER_FAULT_FAB) d && !bit (s.getF F.PWR_TOWER_FAULT_FIELD) d
def State.halfOk (s : State) (h : Nat) : Bool := s.towerOk (h / 16) && !bit (s.getF (F.PWR_DRAM_FAULT (h / 32))) (h % 32)

/-- Step 3: regulators; fused-off sites are eclipsed, fused spares assigned, and the waves begin (R22, R265, R341). -/
def State.bootPower (s : State) (b : BootIn) : State :=
  let s0 := s.setF F.G_BOOT_STATE_STATE 2
  if s0.on F.THM_STATUS_TRIP && b.hot then
    ({ s0 with power := { s0.power with fabOn := [], dramOn := [] } } : State).bootFail 3
  else
    let s1 := s0.setF F.THM_STATUS_TRIP 0
    let on := (List.range 4).filter s1.towerOk
    let halves := (List.range 64).filter s1.halfOk
    let clus := (List.range 128).filter (fun c => on.contains (c / 32) && !s1.cluLatched c)
    let s2 : State := { s1 with power := { s1.power with
      fabOn := on, dramOn := halves, cluOn := clus, waveNext := some 0, waveAt := s1.now, boot := some b } }
    let s2 := if s2.wavesHeld then s2.setF F.PWR_STATUS_WAVE_HELD 1 else s2
    let s3 := clus.foldl (fun s c => (s.setPgState (pgClu c) cluUp).setF (F.CLU_PSTATE_VSEL c) (s.vselFor c 0)) s2
    let s4 := ((List.range nSites).filter fusedOff).foldl (fun s i => s.setCoreSt i coreEclipsed) s3
    let s5 := ((List.range 128).filter fusedServes).foldl (fun s c =>
      let i := spareOfRow (clusterGRow c)
      (s.setF (F.CORE_SITE_ASSIGNED i) 1).setF (F.CORE_SITE_SIDE i) (c % 2)) s4
    let s6 := ((List.range 64).filter (fun h => on.contains (h / 16) && !halves.contains h)).foldl (fun s h => s.dramDown h) s5
    ((List.range 4).filter (fun d => !on.contains d)).foldl (fun s d => s.towerLoss d) s6

/-- The image slot that the boot ROM loads: 0 where it authenticates, and then 1 (R343). -/
def bootSlot (b : BootIn) : Option Nat := if b.auth0 then some 0 else if b.auth1 then some 1 else none

/-- Bring-up from step 1 to the first wave. -/
def State.bringUp (s : State) (b : BootIn) : State :=
  let s1 := ({ s with power := { s.power with bootAt := s.now } } : State).bootStraps b
  match bootSlot b with
  | none => s1.bootFail 1
  | some slot =>
    if b.ensA || b.ensB then (s1.bootEnsigns b slot).bootPower b else s1.bootFail 1

/-- A link trains at bring-up: it is down, ACTIVE, or for the moonlet in PARAM awaiting its record (R159 to R164, R342). -/
def State.bootLink (s : State) (b : BootIn) (cold : Bool) (n : Nat) : State :=
  let s1 := (s.setF (F.PG_CTRL_ENABLE (pgLnk n)) 1).startTraining n
  match b.linksDown.find? (fun e => e.1 == n) with
  | some e => s1.linkFail n e.2
  | none =>
    let eb := (linkEnds n).2
    let r := match b.linkRates.find? (fun e => e.1 == n) with
      | some e => (min e.2.1 (s1.getF (F.LNK_CFG_MAX_RATE n)), e.2.2)
      | none => (s1.getF (F.LNK_CFG_MAX_RATE n), false)
    let s2 := ((s1.setF (F.LNK_STATUS_RATE n) r.1).setF (F.LNK_STATUS_X32 n) (b2n r.2)).setF (F.LNK_STATUS_FROM_RECORD n) (b2n !cold)
    let s3 := (s2.setF (F.LNK_STATUS_PORT_A n) (portOf n (linkEnds n).1)).setF (F.LNK_STATUS_PORT_B n)
      (if eb < 4 then portOf n eb else if eb < 6 then (n - 12) / 2 else 0)
    if n < 20 then s3.linkUp n else s3.toLnk n lnkParam

/-- The quick path stores results of a link, or of a halyard port, that passed; and a die's serial is not the record's (R347, R348). -/
def State.linkStored (s : State) (n : Nat) : Bool := match s.power.quick with | some r => bit r.linkPass n | none => false
def State.portStored (s : State) (i : Nat) : Bool := match s.power.quick with | some r => bit r.portPass i | none => false
def State.dieChanged (s : State) (d : Nat) : Bool :=
  match s.power.quick with
  | some r => (r.dieSerial.drop (8 * d)).take 8 != (s.dieSerial.drop (8 * d)).take 8
  | none => false

/-- A die that takes no identity stays unconfigured, its tower down: its I/O links fail with WIRING, and its other links, whose training ends with it, with a cause that the spec does not name (a free value) (R159, R342). -/
def State.identFail (s0 : State) (d : Nat) : State :=
  let s := if s0.power.fabOn.contains d then s0.towerLoss d else s0
  ((List.range 24).filter (fun n => (linkEnds n).1 == d || (linkEnds n).2 == d)).foldl (fun s n =>
    if n = 12 + 2 * d ∨ n = 13 + 2 * d then s.linkFail n 3
    else if s.lnk n = lnkFailed then s
    else (s.takeFree.2).linkFail n (Config.freeValue s.takeFree.1)) s

/-- Step 5: identities, links and halyard ports (R159, R341, R342, R347, R348). -/
def State.bootTrain (s : State) (b : BootIn) : State :=
  let lone := b.noIdent.filter s.power.fabOn.contains
  let s2 := lone.foldl (fun s d => s.identFail d) (s.setF F.G_BOOT_STATE_STATE 3)
  let dieCold (d : Nat) : Bool := decide (d < 4) && s.dieChanged d
  let links := (List.range 24).filter (fun n => s2.endPowered (linkEnds n).1 && s2.endPowered (linkEnds n).2)
  let lcold (n : Nat) : Bool := !s.linkStored n || b.linkRecheck.contains n || dieCold (linkEnds n).1 || dieCold (linkEnds n).2
  let ports := (List.range nSites).filter (fun i => s2.power.fabOn.contains (siteDie i))
  let pcold (i : Nat) : Bool := !s.portStored i || b.portRecheck.contains i || dieCold (siteDie i)
  let s3 := links.foldl (fun s n => s.bootLink b (lcold n) n) s2
  let s4 := ports.foldl (fun s i => if b.portsDown.contains i then (s.portToFailed i).logRecord 10 0 (siteNum i) 0 0 else s.setPgState (pgHyp i) halActive) s3
  ((s4.setF F.G_QS_STATUS_DIES_COLD (((List.range 4).filter dieCold).foldl (fun w d => w + 2 ^ d) 0)).setF F.G_QS_STATUS_LINKS_COLD (links.filter lcold).length).setF
    F.G_QS_STATUS_PORTS_COLD (ports.filter pcold).length

/-- Steps 6 and 7: self-test, after which every powered local store is zero; key and seeds (R341, R342). -/
def State.bootBist (s : State) (b : BootIn) : State :=
  let s1 := (b.bistFailed.filter (fun i => decide (i < nSites))).foldl (fun s i => (s.eclipse i 2).logRecord 9 0 (siteNum i) 0 0) (s.setF F.G_BOOT_STATE_STATE 4)
  let s2 := ((List.range nSites).filter (fun i => s1.coreSt i == coreIdle)).foldl (fun s i => s.setCore i CoreState.fresh) s1
  (s2.setF F.SEC_STATUS_KEY_LOADED 1).setF F.SEC_STATUS_SEEDS_LOADED 1

/-- Towers whose DRAM bring-up initialises: those that are on and have not kept it (R351). -/
def State.bootFresh (s : State) : List Nat := (List.range 4).filter (fun d => s.power.fabOn.contains d && !s.power.kept.contains d)

/-- Step 8: the repair map is loaded, and DRAM is zero in those towers (R341, R351). -/
def State.bootDram (s : State) : State :=
  let s1 := s.setF F.G_BOOT_STATE_STATE 5
  { s1 with dram := s1.bootFresh.foldl (fun m d => m.refill (d * 2 ^ 39) ((d + 1) * 2 ^ 39) none) s1.dram }

/-- Step 9, of a cold start alone: rows that fail the retention screen go to the repair map (R341). -/
def State.bootScreen (s : State) (b : BootIn) : State :=
  let weak := b.weakRows.filter (fun x => decide (x.1 < nSites) && s.bootFresh.contains (siteDie x.1) && !s.flash.repairs.contains x)
  { s.setF F.G_BOOT_STATE_STATE 6 with flash := { s.flash with repairs := s.flash.repairs ++ weak.eraseDups } }

/-- The highest step that every cluster of a die with a powered site can use (R297). -/
def State.ceilFuse (s : State) (d : Nat) : Nat :=
  let clus := (clustersOf d).filter (fun c => (s.sitesOfCluster c).any s.gateOn)
  ((List.range 9).filter (fun f => clus.all (fun c => usableStep (s.vminCode c f)))).foldl max 0

/-- Step 10 for a die: CEIL_FUSE, and the step of DIE_FREQ.FSEL with its voltages (R295, R297, R341). -/
def State.bootFreq (s : State) (d : Nat) : State :=
  let s1 := s.setF (F.DIE_FREQ_CEIL_FUSE d) (s.ceilFuse d)
  let f := s1.dueStep d (s1.getF (F.DIE_FREQ_FSEL d))
  let s2 := (clustersOf d).foldl (fun s c => if s.power.cluOn.contains c then (s.setF (F.CLU_PSTATE_VSEL c) (s.vselFor c f)).setF (F.CLU_PSTATE_SLEWING c) 0 else s) s1
  s2.setF (F.DIE_FREQ_CUR d) f

/-- Step 10: READY, or FAILED without a tower; the Ensign erases the slot that the next shutdown will write (R341, R342). -/
def State.bootFinish (s1 : State) (b : BootIn) : State :=
  let up := (List.range 4).filter s1.power.fabOn.contains
  if up.isEmpty then s1.bootFail 2
  else
    let s2 := (up.foldl (fun s d => s.bootFreq d) s1).advanceTo (s1.power.bootAt + 100000 * b.ms)
    let s3 : State := { s2.qsPut s2.qsTarget none with
      power := { s2.power with boot := none, quick := none }
      rel := { s2.rel with beats := (List.range 8).foldl (fun t k => tabPut t k s2.now) s2.rel.beats } }
    (((s3.setF F.G_BOOT_STATE_DRAM_KEPT (up.foldl (fun m d => if s3.power.kept.contains d then m + 2 ^ d else m) 0)).setF
      F.G_BOOT_TIME_MS (min b.ms 0xFFFF)).setF F.G_BOOT_STATE_STATE 7).roleCheck

/-- Training begins once the last wave's ramps have ended. -/
def State.bootCheck (s : State) : State :=
  match s.power.boot with
  | none => s
  | some b => if s.power.waveNext.isNone && s.power.ramps.isEmpty && s.getF F.G_BOOT_STATE_STATE == 2 then (s.setF F.PWR_STATUS_WAVE 0x1F).bootTrain b else s

/-- Bring-up is in a step from 5 on, and so has no event of its own to wait for. -/
def State.bootUnderWay (s : State) : Bool := s.power.boot.isSome && decide (3 ≤ s.getF F.G_BOOT_STATE_STATE) && decide (s.getF F.G_BOOT_STATE_STATE < 7)

/-- From step 5 on, bring-up goes to its next step: self-test, DRAM, on the cold path the retention screen, READY (R341). A tower that has kept its DRAM skips steps 7 to 9 (R351). -/
def State.bootNext (s : State) : State :=
  match s.power.boot with
  | none => s
  | some b =>
    let st := s.getF F.G_BOOT_STATE_STATE
    if st = 3 then s.bootBist b
    else if st = 4 then s.bootDram
    else if st = 5 ∧ !s.on F.G_BOOT_STATE_QUICK ∧ !s.bootFresh.isEmpty then s.bootScreen b
    else s.bootFinish b

/-- POWER_WAVE_START: the next wave ramps the gates of one column of sites in every row (R270). -/
def execPowerWaveStart (s0 : State) : Out :=
  match s0.power.waveNext with
  | none => .next s0
  | some w =>
    if s0.wavesHeld then .next s0
    else
      let s := s0.advanceTo s0.power.waveAt
      let sites := ((List.range 64).map (fun g => 17 * g + w)).filter (fun i => s.mayRamp i)
      let s1 : State := { s with power := { s.power with
        ramps := sites.foldl (fun t i => tabPut t i ⟨s.now, 1⟩) s.power.ramps
        waveNext := if w < 16 then some (w + 1) else none
        waveAt := s.now + 5000 } }
      .next ((s1.setF F.PWR_STATUS_WAVE w).bootCheck)

/-- GATE_SEGMENT_CLOSE: the next segments of the running ramps close; `over` are the sites above the step limit of R271, `rails` rail readings in mV by site. -/
def execGateSegmentClose (ovr : List Nat) (rails : List (Nat × Nat)) (s : State) : Out := .next (s.rampsStep ovr rails).bootCheck

/-! Supplies and resets (R339, R340, R427 to R429) -/

/-- Bring-up begins where PWRGD, VSB, VAUX and VPHY allow it. -/
def State.tryBringUp (s : State) (b : BootIn) : State :=
  if s.power.pwrgd && s.power.vsb && s.power.aux && s.getF F.G_BOOT_STATE_STATE == 0 then s.bringUp b else s

/-- POWER_GOOD: PWRGD rises, and the part leaves the whole-part reset that has held it (R340, R341). -/
def execPowerGood (boot : BootIn) (s : State) : Out :=
  if s.power.pwrgd then .next s
  else .next (({ s.wholeReset [] with power := { (s.wholeReset []).power with pwrgd := true } } : State).tryBringUp boot)

/-- PWRGD_FALL: whole-part reset holds the part (R340). -/
def execPwrgdFall (dt : Nat) (s0 : State) : Out :=
  let s := s0.advance dt
  if s.power.pwrgd then .next (({ s with power := { s.power with pwrgd := false } } : State).resetCause 1 []) else .next s

/-- AUX_SUPPLY_FAULT: VAUX or VPHY has been low for 2 µs (R428). -/
def execAuxSupplyFault (dt : Nat) (s0 : State) : Out :=
  let s := s0.advance dt
  let s1 : State := { s with power := { s.power with aux := false } }
  if s.power.pwrgd then .next (s1.resetCause 1 []) else .next s1

/-- AUX_SUPPLY_IN_REGULATION: the I/O dies leave reset (R429). -/
def execAuxSupplyInRegulation (boot : BootIn) (s : State) : Out :=
  .next (({ s with power := { s.power with aux := true } } : State).tryBringUp boot)

/-- VSB_LOSS: everything ends, the held fields too (R428). -/
def execVsbLoss (dt : Nat) (s0 : State) : Out :=
  let s := s0.advance dt
  let s1 : State := { s with power := { s.power with vsb := false } }
  .next { (s1.wholeReset []) with regs := [], mgmt := MgmtState.reset, host := HostState.reset }

/-- VSB_POWER_ON: the standby domains start and the address straps are latched; with PWRGD already high, bring-up begins (R427, R429, R434). -/
def execVsbPowerOn (strap : Nat) (boot : BootIn) (s : State) : Out :=
  if s.power.vsb then .next s
  else
    let s1 : State := { s with power := { s.power with vsb := true, strap := strap % 4 } }
    .next (({ (s1.wholeReset []) with regs := [], mgmt := MgmtState.reset, host := HostState.reset } : State).tryBringUp boot)

/-- RESET_ALL: a write of G_BOOT_CMD.RESET_ALL (R351). -/
def execResetAll (who : Requester) (value : Word) (boot : BootIn) (s : State) : Out :=
  if !bit value.toNat 0 then .next s
  else trigger s who F.G_BOOT_CMD_RESET_ALL.addr 1 value (fun s => (s.resetCause 2 []).tryBringUp boot)

/-- FORCE_COLD (R360). -/
def execForceCold (who : Requester) (value : Word) (s : State) : Out :=
  if !bit value.toNat 2 then .next s
  else trigger s who F.G_BOOT_CMD_RESET_ALL.addr 4 value (fun s => s.setF F.G_QS_STATUS_FORCE_COLD 1)

/-! Ensign reset (R351, R356 to R358, R414) -/

/-- One Ensign's processor and memories are reset; every register and output holds, but what shows that it is not alive. -/
def State.ensReset (s : State) (e : Nat) : State :=
  let s1 : State := if s.activeEns = some e then { s.mailLost with mgmt := { s.mailLost.mgmt with capOrbit := 0, flash := none } } else s
  let s2 := ((s1.setF (if e = 0 then F.G_REL_STATUS_ENS_A else F.G_REL_STATUS_ENS_B) 0).setF
    (if e = 0 then F.SEC_STATUS_FW_A_AUTH else F.SEC_STATUS_FW_B_AUTH) 0).setF (F.ENS_FWVER_VERSION e) 0
  ({ s2 with rel := { s2.rel with booting := tabPut s2.rel.booting e (s2.now + 3000000) } } : State).showEns

/-- ENS_RESET_A and ENS_RESET_B: writes of G_BOOT_CMD. -/
def execEnsResetA (who : Requester) (value : Word) (s : State) : Out :=
  if !bit value.toNat 3 then .next s
  else trigger s who F.G_BOOT_CMD_RESET_ALL.addr 8 value (fun s => s.ensReset 0)
def execEnsResetB (who : Requester) (value : Word) (s : State) : Out :=
  if !bit value.toNat 4 then .next s
  else trigger s who F.G_BOOT_CMD_RESET_ALL.addr 16 value (fun s => s.ensReset 1)

/-- ENSIGN_WATCHDOG_EXPIRY (R351). -/
def execEnsignWatchdogExpiry (ens : Nat) (s : State) : Out :=
  if decide (ens < 2) && s.ensAlive ens then .next (s.ensReset ens) else .next s

/-- ENSIGN_HEARTBEAT: a beat of an Ensign reaches a die over an ACTIVE link; the first beat of one that has rebooted shows it alive (R358, R381). -/
def execEnsignHeartbeat (ens die : Nat) (s : State) : Out :=
  if decide (1 < ens) || decide (3 < die) || !s.power.fabOn.contains die || !s.ensLink ens die then .next s
  else if !s.ensAlive ens && (tabGet s.rel.booting ens).isNone then .next s
  else
    let s1 : State := { s with rel := { s.rel with beats := tabPut s.rel.beats (2 * die + ens) s.now, booting := tabDel s.rel.booting ens } }
    .next (if s.ensAlive ens then s1 else s1.ensUp ens)

/-! Field faults (R282) -/

/-- The tower of a field with a field fault is taken down. -/
def State.fieldDown (s : State) (d : Nat) : State :=
  let s1 := if s.power.fabOn.contains d then s.towerLoss d else s
  ((s1.setBit F.PWR_TOWER_FAULT_FIELD d).lastFault (0x4000 * d) 6 0 0).raiseBit pgPwr 17

/-- FIELD_FAULT: `fields` have been below reset past the limit of R279. One field fault takes its tower down; two or more at once are a fault reset, which keeps the DRAM of the towers whose field stays in regulation. -/
def execFieldFault (fields : List Nat) (boot : BootIn) (s0 : State) : Out :=
  let due := (List.range 4).filter (fun d => fields.contains d && (tabGet s0.power.low d).isSome)
  if due.isEmpty then .next s0
  else
    let t := due.foldl (fun t d => max t ((tabGet s0.power.low d).getD 0 + 500)) s0.now
    let s := s0.advanceTo t
    let all := (List.range 4).filter (fun d => due.contains d || (bit (s.getF F.PWR_TOWER_FAULT_FIELD) d && (tabGet s.power.low d).isSome))
    let s1 := due.foldl (fun s d => s.fieldDown d) s
    if all.length < 2 then .next s1
    else
      let kept := ((List.range 4).filter (fun d => s1.power.fabOn.contains d && !all.contains d && !(tabGet s1.power.low d).isSome))
      let s2 := s1.resetCause 3 kept
      .next (({ s2 with power := { s2.power with faultHeld := true } } : State).tryBringUp boot)

/-! Orderly shutdown (R349, R350) -/

/-- Step 2: every gate is open and the cluster regulators are off; queues and rings are disabled before. -/
def State.sdGates (s : State) : State :=
  let s1 := ((s.setF F.G_BOOT_STATE_STATE 8).dropFunctions (fun _ => true))
  let s2 := (List.range 64).foldl (fun s e => s.setF (F.EVT_CFG_EN e) 0) s1
  let s3 := ((List.range nSites).filter (fun i => s2.coreSt i != coreOff && s2.coreSt i != coreEclipsed)).foldl (fun s i =>
    ((s.corePurge i).coreLost i).setCoreSt i coreOff) s2
  let s4 := (List.range 128).foldl (fun s c => (s.setCluster c ClusterState.fresh).setPgState (pgClu c) 0) s3
  { s4 with power := { s4.power with cluOn := [], ramps := [], waveNext := none } }

/-- The slices of a shutdown in their order: two for each trained link, one for each row, the scan-enable sequence, one for each land group (R349, R350). -/
def State.sdSlices (s : State) : List SdSlice :=
  ((List.range 24).filter (fun n => s.lnk n == linkActive)).flatMap (fun n => [.link n 0, .link n 1]) ++
  (List.range 64).map .row ++ [.scan] ++ (List.range 8).map .pin

/-- Steps 1 and 2 of a shutdown; the first slice begins 1 ms after the command. -/
def State.sdBegin (s : State) (x : ShutIn) : State :=
  let s1 := ((s.sdGates.setF F.G_SD_STATUS_STATUS 1).setF F.G_SD_STATUS_SLICES 0).setF F.G_SD_STATUS_FAILS 0
  let s2 := s1.advance 100000
  let links := (List.range 24).filter (fun n => s2.lnk n == linkActive)
  let ports := (List.range nSites).filter (fun i => s2.hal i == halActive)
  { s2 with power := { s2.power with sd := some {
      todo := s2.sdSlices, from_ := s2.now
      linkPass := links.foldl (fun w n => Nat.lor w (2 ^ n)) 0
      portPass := ports.foldl (fun w i => Nat.lor w (2 ^ i)) 0
      slices := 0, fails := 0, cut := false, written := false, flashOk := false, meets := x } } }

/-- Links and ports that a slice tests, as bits. -/
def SdSlice.covers : SdSlice → Nat × Nat
  | .link n _ => (2 ^ n, 0)
  | .row g => (0, (2 ^ 17 - 1) * 2 ^ (17 * g))
  | _ => (0, 0)

/-- The resources that a slice finds bad: links and ports as bits, and whether it fails. A link no longer ACTIVE fails, and so does a port. -/
def State.sdFinds (s : State) (x : ShutIn) : SdSlice → Nat × Nat × Bool
  | .link n dir => let bad := x.linkFails.contains (n, dir) || s.lnk n != linkActive; (if bad then 2 ^ n else 0, 0, bad)
  | .row g =>
    let bad := ((List.range 17).map (17 * g + ·)).filter (fun i => x.portFails.contains i || s.hal i != halActive)
    (0, bad.foldl (fun w i => w + 2 ^ i) 0, (bad.filter (fun i => s.power.fabOn.contains (siteDie i))).length != 0)
  | .pin k => (0, 0, x.pinFails.contains k)
  | .scan => (0, 0, false)

/-- 2 ms, the 400 ms budget and the 0.5 ms gap, in CLK_ORB cycles (R350). -/
def sliceMax : Nat := 200000
def sliceBudget : Nat := 40000000
def sliceGap : Nat := 50000

/-- The bits of a mask, cleared. -/
def without (w m : Nat) : Nat := w - Nat.land w m

/-- The next slice: run, or left out without PASS where it cannot end within the budget; the scan-enable sequence runs in its place (R349, R350). -/
def State.sdSlice (s : State) (d : Shutdown) (x : SdSlice) (t : List SdSlice) : State :=
  match x with
  | .scan =>
    let s1 := ({ s with power := { s.power with sd := some { d with todo := t } } } : State).scanAsk 3
    if s1.getF F.SEC_STATUS_SCAN = scanClearing then s1.scanFinish else s1
  | _ =>
    if d.from_ + sliceBudget < s.now + sliceMax then
      { s with power := { s.power with sd := some { d with
          todo := t, cut := true, linkPass := without d.linkPass x.covers.1, portPass := without d.portPass x.covers.2 } } }
    else
      let r := s.sdFinds d.meets x
      let d1 : Shutdown := { d with
        todo := t, slices := d.slices + 1, fails := d.fails + b2n r.2.2
        linkPass := without d.linkPass r.1, portPass := without d.portPass r.2.1 }
      let s1 := ({ s with power := { s.power with sd := some d1 } } : State).advance (min sliceMax (d.meets.lens.getD d.slices 0) + sliceGap)
      (s1.setF F.G_SD_STATUS_SLICES (min d1.slices 0xFF)).setF F.G_SD_STATUS_FAILS (min d1.fails 0xFF)

/-- Step 4: the record is programmed into the target slot and read back (R349); one that fails to read back holds a check value that the spec does not give (a free value). -/
def State.sdRecord (s0 : State) (d : Shutdown) : State :=
  let ms := (s0.now - d.from_) / 100000
  let s := s0.advance 12000000
  let g := s.takeFree
  let r : QsRecord := {
    magic := qsMagic, version := 1, consumed := 0xFF, seq := s.qsNextSeq, len := qsLen
    partSerial := s.partSerial, dieSerial := s.dieSerial
    slices := d.slices, fails := d.fails, ms := min ms 0xFFFF
    linkPass := d.linkPass, portPass := d.portPass, results := g.1, crc := 0 }
  let g2 := g.2.takeFree
  let crc := if d.meets.flashOk then r.crcDue else Config.freeValue g2.1 % 2 ^ 32
  let s1 := g2.2.qsPut s.qsTarget (some { r with crc := crc })
  { s1 with power := { s1.power with sd := some { d with written := true, flashOk := d.meets.flashOk } } }

/-- Step 5: DRAM and fabric domains are off; links, ports and what they hold end with them. -/
def State.sdOff (s : State) : State :=
  let s1 := (List.range 24).foldl (fun s n => (s.sinkLink n).toLnk n lnkOff) s
  let s2 := (List.range nSites).foldl (fun s i => (s.setPgState (pgHyp i) halOff).setF (F.CORE_TEMP_VALID i) 0) s1
  let g := s2.takeFree
  { g.2 with
    packets := [], ports := [], reqs := [], cows := [], xinvs := [], unitTlb := []
    dram := g.2.dram.refill 0 (2 ^ 41) (some g.1)
    power := { g.2.power with fabOn := [], dramOn := [], sd := none } }

/-- A shutdown goes on, while an Ensign is active to run it: a slice, the record, the domains (R349). -/
def State.sdNext (s : State) : State :=
  match s.power.sd with
  | none => s
  | some d =>
    if s.activeEns.isNone then s.advance 1
    else match d.todo with
      | x :: t => s.sdSlice d x t
      | [] =>
        if !d.written then s.sdRecord d
        else
          ((s.advance 900000).sdOff.setF F.G_SD_STATUS_STATUS (if !d.flashOk then 6 else if d.cut then 5 else 2)).setF F.G_BOOT_STATE_STATE 9

/-- SHUTDOWN: a write of G_BOOT_CMD.SHUTDOWN, refused or begun (R349); its slices, its record and its end follow one at a time while no command waits, so that the emergency cap, a trip, the mailbox and a fall of PWRGD act between them (R350). -/
def execShutdown (who : Requester) (value : Word) (meets : ShutIn) (s : State) : Out :=
  if !bit value.toNat 1 then .next s
  else trigger s who F.G_BOOT_CMD_RESET_ALL.addr 2 value (fun s =>
    if s.power.sd.isSome then s
    else if s.anyPartBusy then s.setF F.G_SD_STATUS_STATUS 3
    else if s.activeEns.isNone then s.setF F.G_SD_STATUS_STATUS 4
    else s.sdBegin meets)

/-! Identity (R159) -/

/-- The port number that I/O die `io` has sent a die, if it has. -/
def State.ioAnswer (s : State) (d io : Nat) : Option Nat := (tabGet s.power.idents (2 * d + io)).map (fun x => x / 2)

/-- The identity of a die: the port number k that its I/O ports have answered; until then, its own place (R159). -/
def State.dieIdent (s : State) (d : Nat) : Nat := ((s.ioAnswer d 0).orElse (fun _ => s.ioAnswer d 1)).getD d

/-- IDENT: the ends of a link in PARAM hear each other. A compute die takes d = k from the first I/O die that answers, whose number `io` it notes with its port `seenA`; where the other one answers a different k, the die takes no identity and stays unconfigured. An end of a compute-compute link that hears a die other than the one R142 puts there fails the link with WIRING (R159). -/
def execIdent (link io seenA seenB : Nat) (s : State) : Out :=
  if decide (20 ≤ link) || s.lnk link != lnkParam then .next s
  else
    let ea := (linkEnds link).1
    let eb := (linkEnds link).2
    if link < 12 then
      if seenA = Nat.xor (s.dieIdent ea) (Nat.xor ea eb) ∧ seenB = Nat.xor (s.dieIdent eb) (Nat.xor ea eb) then .next (s.linkUp link)
      else .next (s.linkFail link 3)
    else
      let s1 : State := { s with power := { s.power with idents := tabPut s.power.idents (2 * ea + (eb - 4)) (2 * seenA + io % 2) } }
      match s.ioAnswer ea (5 - eb) with
      | some k => if k = seenA then .next (s1.linkUp link) else .next (s1.identFail ea)
      | none => .next (s1.linkUp link)

/-- IDENTITY_TIMEOUT: neither I/O port has answered a die within 50 ms: it takes no identity (R159, R342). -/
def execIdentityTimeout (die : Nat) (s : State) : Out :=
  if decide (3 < die) || (s.ioAnswer die 0).isSome || (s.ioAnswer die 1).isSome ||
      s.lnk (12 + 2 * die) == linkActive || s.lnk (13 + 2 * die) == linkActive then .next s
  else
    .next ((s.advanceTo (max (s.linkSt (12 + 2 * die)).since (s.linkSt (13 + 2 * die)).since + 5000000)).identFail die)

end Sys2Proof.Machine
end

