-- ==== Sys2Proof/Machine/CoreControl.lean ====
section
/-! DEFINITION. The CT class and reserved instructions (R113 to R116). -/
namespace Sys2Proof.Machine

/-- CTNOP (R115). -/
def execCtnop (i : Nat) (w : Word64) (s : State) : Out :=
  issue s i w 0 (wOp w == 0) (onlyBits w 56 []) causeCt (fun s => s.nextPc i)

/-- CTLI: SD = IMM (R115). -/
def execCtli (i : Nat) (w : Word64) (s : State) : Out :=
  issue s i w 0 (wOp w == 1) (onlyBits w 56 [(52, 4), (0, 32)]) causeCt
    (fun s => (s.setScalar i (bits w.toNat 52 4) (BitVec.ofNat 32 (bits w.toNat 0 32))).nextPc i)

/-- CTADD: SD = SA + IMM modulo 2^32 (R115). -/
def execCtadd (i : Nat) (w : Word64) (s : State) : Out :=
  issue s i w 0 (wOp w == 2) (onlyBits w 56 [(52, 4), (48, 4), (0, 32)]) causeCt
    (fun s => (s.setScalar i (bits w.toNat 52 4)
      (s.scalar i (bits w.toNat 48 4) + BitVec.ofNat 32 (bits w.toNat 0 32))).nextPc i)

/-- A TARGET within the program (R116). -/
def targetOk (s : State) (i : Nat) (w : Word64) : Bool := decide (bits w.toNat 0 12 < (s.core i).prog.length)

/-- CTLOOP: SA = SA - 1, branch to TARGET if SA is not 0 (R115). -/
def execCtloop (i : Nat) (w : Word64) (s : State) : Out :=
  issue s i w 0 (wOp w == 3) (onlyBits w 56 [(48, 4), (0, 12)] && targetOk s i w) causeCt
    (fun s =>
      let r := bits w.toNat 48 4
      let v := s.scalar i r - 1
      let s1 := s.setScalar i r v
      if s1.scalar i r = 0 then s1.nextPc i else s1.goTo i (bits w.toNat 0 12))

/-- CTBR (R115). -/
def execCtbr (i : Nat) (w : Word64) (s : State) : Out :=
  issue s i w 0 (wOp w == 4) (onlyBits w 56 [(0, 12)] && targetOk s i w) causeCt
    (fun s => s.goTo i (bits w.toNat 0 12))

/-- CTID: SD = the logical core number or bits [31:0] of k (R115). -/
def execCtid (i : Nat) (w : Word64) (s : State) : Out :=
  issue s i w 0 (wOp w == 5) (onlyBits w 56 [(52, 4), (0, 2)] && decide (bits w.toNat 0 2 < 2)) causeCt
    (fun s => (s.setScalar i (bits w.toNat 52 4) (BitVec.ofNat 32
      (if bits w.toNat 0 2 = 0 then s.getF (F.CORE_VOY_LCORE_LCORE i) else s.getF (F.CORE_PROG_K_K i)))).nextPc i)

/-- CTEVT: an event with CODE to the partition's event ring (R115, R331, R332). -/
def execCtevt (i : Nat) (w : Word64) (s : State) : Out :=
  issue s i w 0 (wOp w == 6) (onlyBits w 56 [(0, 16)]) causeCt
    (fun s => (s.postCore i ⟨0x02, 0, siteNum i, bits w.toNat 0 16, s.orbit, s.coreData0 i, 0, 1⟩).nextPc i)

/-- CTBERTH: issue is held until the test of R52 is met (R115). -/
def execCtberth (i : Nat) (w : Word64) (s : State) : Out :=
  issue s i w 0 (wOp w == 7) (onlyBits w 56 [(0, 1)]) causeCt
    (fun s => s.setCore i { s.core i with hold := .berth (bit w.toNat 0) })

/-- The program fault cause of a reserved class or opcode; none where the word is neither (R107, R113, R116, R119, R123, R126, R201). -/
def reservedCause (w : Word64) : Option Nat :=
  match wClass w with
  | 0 => if 8 ≤ wOp w then some causeCt else none
  | 1 => if wOp w = 0 ∨ 6 ≤ wOp w then some causeMx else none
  | 2 =>
    let o := wVxOp w
    if (1 ≤ o ∧ o ≤ 0x0D) ∨ (0x10 ≤ o ∧ o ≤ 0x15) ∨ o = 0x20 ∨ o = 0x21 ∨ (0x30 ≤ o ∧ o ≤ 0x32) ∨ o = 0x3F
    then none else some causeVx
  | 3 => if wOp w = 0 ∨ 5 ≤ wOp w then some causeSt else none
  | 4 => if wOp w = 0 ∨ 5 ≤ wOp w then some causeSy else none
  | 5 => if wOp w = 0 ∨ 4 ≤ wOp w then some causeBk else none
  | _ => some causeClass

/-- A word with a reserved class or opcode: a program fault in place of execution (R113, R116); a reserved BK opcode is case 1 of R202. -/
def execReservedInstruction (i : Nat) (w : Word64) (s : State) : Out :=
  match reservedCause w with
  | some c => if s.issueOk i w then .next (s.progFault i c (if c = causeBk then 1 else 0)) else .next s
  | none => .next s

end Sys2Proof.Machine
end

