-- ==== Sys2Proof/Machine/MatrixMath.lean ====
section
/-! DEFINITION. What a pass of the matrix engine computes (R80, R90, R92, R95). -/
namespace Sys2Proof.Machine

/-- Reduction indices per array row of a format: FMT 0 B16, 1 and 2 Q8, 3 T4B (R90, R107). -/
def mxPer (fmt : Nat) : Nat := if fmt = 0 then 1 else if fmt = 3 then 4 else 2

/-- Format family of an FMT code (R110). -/
def mxFamily (fmt : Nat) : Nat := if fmt = 0 then 0 else if fmt = 3 then 2 else 1

/-- Bytes of one row of K elements (R95): elements, and scales for T4B. -/
def mxElemBytes (fmt k : Nat) : Nat := if fmt = 0 then 2 * k else if fmt = 3 then k / 2 else k
def mxScaleBytes (fmt k : Nat) : Nat := if fmt = 3 then k / 16 else 0

/-- A size rounded up to the next 64-byte boundary. -/
def up64 (n : Nat) : Nat := (n + 63) / 64 * 64

/-- Bytes of an operand tile of n rows or columns (R95). -/
def mxTileBytes (fmt k n : Nat) : Nat := up64 (n * mxElemBytes fmt k) + n * mxScaleBytes fmt k

/-- Element kk of row or column j of a tile, as value with the flags of reading it; T4B gives the element without its scale. -/
def mxElem (fmt k : Nat) (data : List Nat) (j kk : Nat) : Val × FpFlags :=
  let base := j * mxElemBytes fmt k
  if fmt = 0 then readFp .b16 false (leNat ((data.drop (base + 2 * kk)).take 2))
  else if fmt = 1 then readFp .q8e4 false (data.getD (base + kk) 0)
  else if fmt = 2 then readFp .q8e5 false (data.getD (base + kk) 0)
  else
    let c := bits (data.getD (base + kk / 2) 0) (4 * (kk % 2)) 4
    (.fin (t4bElem c).1 (t4bElem c).2 (-1), {})

/-- The T4B scale of block b of row or column j, in a tile of n rows or columns. -/
def mxScale (k n : Nat) (data : List Nat) (j b : Nat) : Val × FpFlags :=
  match t4bScale (data.getD (up64 (n * (k / 2)) + j * (k / 16) + b) 0) with
  | none => (.nan, { nanin := true })
  | some (m, e) => (.fin false m e, {})

/-- Exact sum of exact products (R80). -/
def sumProducts : List ((Val × FpFlags) × (Val × FpFlags)) → Val × FpFlags
  | [] => (.fin false 0 0, {})
  | [p] =>
    let r := mulVal p.1.1 p.2.1
    (r.1, orFlags [p.1.2, p.2.2, r.2])
  | p :: t =>
    let r := mulVal p.1.1 p.2.1
    let q := sumProducts t
    let a := addVal .rne r.1 q.1
    (a.1, orFlags [p.1.2, p.2.2, r.2, q.2, a.2])

/-- Contribution of array row r to row m and column n (R80, R90). -/
def mxContribution (fmtA fmtW k rows cols : Nat) (a w : List Nat) (m n r : Nat) : Val × FpFlags :=
  let per := mxPer fmtA
  let ps := (List.range per).map (fun j => (mxElem fmtA k a m (per * r + j), mxElem fmtW k w n (per * r + j)))
  let q := sumProducts ps
  if fmtA = 3 then
    let sa := mxScale k rows a m (r / 4)
    let sw := mxScale k cols w n (r / 4)
    let sc := mulVal sa.1 sw.1
    let v := mulVal q.1 sc.1
    (v.1, orFlags [q.2, sa.2, sw.2, sc.2, v.2])
  else q

/-- One rounding addition into the accumulator, a binary32 code that the engine formed itself (R80, R92). -/
def mxAccumulate (acc : Nat) (v : Val × FpFlags) : Nat × FpFlags :=
  let a := addVal .rne (decodeFp .binary32 acc) v.1
  let r := packArith false .rne a.1
  (r.1, orFlags [v.2, a.2, r.2])

/-- The accumulator before the first row: +0, or the C-in value read with input flush (R71, R92). -/
def mxStart (cin : Option Nat) : Nat × FpFlags :=
  match cin with
  | none => (0, {})
  | some c =>
    let r := readFp .binary32 false c
    match r.1 with
    | .nan => (Fmt.nanCode .binary32, r.2)
    | .fin sg 0 _ => (signed .binary32 sg 0, r.2)
    | _ => (c, r.2)

/-- C[m, n] of a pass over R array rows (R92). -/
def mxOutput (fmtA fmtW k rRows rows cols : Nat) (a w : List Nat) (cin : Option Nat) (m n : Nat) : Nat × FpFlags :=
  (List.range rRows).foldl
    (fun acc r =>
      let q := mxAccumulate acc.1 (mxContribution fmtA fmtW k rows cols a w m n r)
      (q.1, acc.2.or q.2))
    (mxStart cin)

end Sys2Proof.Machine
end

