-- ==== Sys2Proof/Machine/MatrixEngine.lean ====
section
/-! DEFINITION. The matrix engine: issue, weight loads, passes, freezes, the clock-gate ramp (R93 to R112, R269). -/
namespace Sys2Proof.Machine

/-- Configuration of the core's cluster: 0 FULL, 1 Q32I, 2 Q32B (R93). -/
def State.shape (s : State) (i : Nat) : Nat :=
  match s.clusterOf i with
  | some c => s.getF (F.CLU_MXCFG_SHAPE c)
  | none => 0

/-- Array rows (and columns) of one quadrant or of the full array. -/
def mxRows (shape : Nat) : Nat := if shape = 0 then 64 else 32
/-- Reduction depth of a pass (R90). -/
def mxK (shape fmt : Nat) : Nat := mxRows shape * mxPer fmt
/-- Cycles of a weight load (R96, R98). -/
def mxLw (shape fmt : Nat) : Nat := if shape = 0 then (if fmt = 3 then 72 else 64) else (if fmt = 3 then 36 else 32)
/-- Pass latency (R91). -/
def mxLat (shape : Nat) : Nat := 2 * mxRows shape

/-- The quadrants of a QMASK; the whole array of FULL is quadrant 0. -/
def mxQuads (shape qmask : Nat) : List Nat :=
  if shape = 0 then [0] else (List.range 4).filter (fun q => bit qmask q)

/-- Values per result row (R95). -/
def mxResultCols (shape qmask : Nat) : Nat := mxRows shape * (mxQuads shape qmask).length

def MxState.quad (m : MxState) (q : Nat) : Quad := (tabGet m.quads q).getD Quad.fresh
def MxState.setQuad (m : MxState) (q : Nat) (x : Quad) : MxState := { m with quads := tabPut m.quads q x }

/-- The core's matrix engine set, with CORE_MX_STATUS: the latest cycle run (R112). -/
def State.setMx (s : State) (i : Nat) (m : MxState) : State :=
  let s1 := s.setCore i { s.core i with mx := m }
  let s2 := (s1.setF (F.CORE_MX_STATUS_QDEPTH i) m.queue.length).setF (F.CORE_MX_STATUS_GATED i) m.gated
  (s2.setF (F.CORE_MX_STATUS_BUNTING i) (b2n m.bunting)).setF (F.CORE_MX_STATUS_FROZEN i) (b2n m.frozen)

/-- The MX instruction of a word (R107). -/
def mxDecode (w : Word64) : Option MxOp :=
  let n := w.toNat
  match wOp w with
  | 1 => some (.wld (bits n 41 15) (bits n 38 3) (bits n 34 4))
  | 2 => some (.pass (bits n 41 15) (bits n 26 15) (bits n 16 10 + 1) (bits n 13 3) (bit n 12) (bit n 11) (bits n 7 4) (bit n 6) (bits n 0 6))
  | 3 => some (.bunt (bits n 40 16))
  | 4 => some .idle
  | 5 => some (.mark (bits n 0 6))
  | _ => none

/-- A tile lies in the scratchpad (R111). -/
def State.tileOk (s : State) (i granule size : Nat) : Bool := decide (64 * granule + size ≤ s.scratchBytes i)

/-- No rule of R111 is broken by an MX instruction issued now. -/
def mxLegal (s : State) (i : Nat) (w : Word64) : Bool :=
  let sh := s.shape i
  let m := (s.core i).mx
  match mxDecode w with
  | some (.wld wa fmt qm) =>
    onlyBits w 56 [(41, 15), (38, 3), (34, 4)] && decide (fmt ≤ 3) && decide (qm ≠ 0) && (decide (sh ≠ 0) || decide (qm = 0xF)) &&
    s.tileOk i wa ((mxQuads sh qm).length * mxTileBytes fmt (mxK sh fmt) (mxRows sh))
  | some (.pass aa ca mm fmt _ swap qm _ _) =>
    let qs := mxQuads sh qm
    decide (fmt ≤ 3) &&
    (if sh = 0 then decide (qm = 0xF) else if sh = 1 then decide (qs.length = 1) else decide (qm ≠ 0)) &&
    qs.all (fun q =>
      let x := m.quad q
      if swap then x.issWaiting.head? == some (mxFamily fmt) else x.issActive == some (mxFamily fmt)) &&
    s.tileOk i aa (mxTileBytes fmt (mxK sh fmt) mm) && s.tileOk i ca (mm * 4 * mxResultCols sh qm)
  | some (.bunt _) => onlyBits w 56 [(40, 16)]
  | some .idle => onlyBits w 56 []
  | some (.mark _) => onlyBits w 56 [(0, 6)]
  | none => false

/-! The governor's hand on the arrays (R291, R292, R299, R301) -/

/-- The fill level that acts on a core's array: below ballast, a core in IDLE or ENDED is left out (R291). -/
def State.mxFill (s : State) (i : Nat) : Nat :=
  if (s.coreSt i == coreIdle || s.coreSt i == coreEnded) && decide (s.fill < 3) then 0 else s.fill

/-- No operand row enters the array in a cycle: the hold of step 1 of the emergency cap, or k - 1 of every eight cycles at COMP trim k (R291, R299). -/
def State.mxHeld (s : State) (i cycle : Nat) : Bool :=
  s.gov.pcapHold || decide ((cycle + Config.trimPhase i) % 8 + 1 < s.compTrim (siteDie i))

/-- Idle cells bunt while their quarter is not gated: at a governor level or under MXBUNT whatever BUNT_LEN says, and never otherwise with BUNT_LEN at 0 (R105, R109, R291, R292). -/
def State.bunts (s : State) (i : Nat) (m : MxState) : Bool :=
  s.gov.pcapHold || decide (0 < s.mxFill i) || decide (0 < s.compTrim (siteDie i)) ||
  (match m.gap with | .bunt n _ => decide (0 < n) | _ => false) || s.getF (F.CORE_MX_CTRL_BUNT_LEN i) != 0

/-- The fraction of idle cells that bunts, in quarters: BUNT_LEVEL, or all at fill levels 2 and 3 (R104, R291, R292). -/
def State.buntQuarters (s : State) (i : Nat) : Nat :=
  if 2 ≤ s.mxFill i then 4 else s.getF (F.CORE_MX_CTRL_BUNT_LEVEL i) + 1

/-- The array has power and its clock. -/
def State.mxPowered (s : State) (i : Nat) : Bool :=
  s.coreSt i != coreOff && s.coreSt i != coreEclipsed && s.coreSt i != Sys2Proof.Machine.coreReset

/-! The queue -/

/-- A target of a load already holds, or is to get, a tile that no pass has taken up (R109). -/
def MxState.taken (m : MxState) (sh q : Nat) : Bool :=
  (m.quad q).waiting.isSome || m.loads.any (fun l => (mxQuads sh l.todo).contains q)

/-- The head of the queue proceeds where it can: a load once one of its targets holds no untaken tile, MXBUNT at once, MXIDLE after every earlier pass (R108, R109). -/
def mxSettle (sh : Nat) : List (Nat × MxOp) → MxState → MxState
  | (n, .wld wa fmt qm) :: t, m =>
    if (mxQuads sh qm).any (fun q => !(m.taken sh q)) then mxSettle sh t { m with loads := m.loads ++ [⟨wa, fmt, qm, qm⟩] }
    else { m with queue := (n, .wld wa fmt qm) :: t }
  | (_, .bunt n) :: t, m => mxSettle sh t { m with gap := .bunt n false }
  | (n, .idle) :: t, m =>
    if m.runs.isEmpty then mxSettle sh t { m with gap := .idle false } else { m with queue := (n, .idle) :: t }
  | q, m => { m with queue := q }

/-- What issue records about the weights of each quadrant (R109 to R111). -/
def mxIssueQuads (sh : Nat) (m : MxState) : MxOp → MxState
  | .wld _ fmt qm => (mxQuads sh qm).foldl (fun m q =>
      let x := m.quad q; m.setQuad q { x with issWaiting := x.issWaiting ++ [mxFamily fmt] }) m
  | .pass _ _ _ _ _ true qm _ _ => (mxQuads sh qm).foldl (fun m q =>
      let x := m.quad q; m.setQuad q { x with issActive := x.issWaiting.head?, issWaiting := x.issWaiting.drop 1 }) m
  | _ => m

/-! Passes: what they need to start, and their rows -/

/-- Fields of a pass: operand granule, result granule, M, FMT, ACC, SWAP, QMASK. -/
def MxOp.aaddr : MxOp → Nat
  | .pass a _ _ _ _ _ _ _ _ => a
  | _ => 0
def MxOp.caddr : MxOp → Nat
  | .pass _ c _ _ _ _ _ _ _ => c
  | _ => 0
def MxOp.rows : MxOp → Nat
  | .pass _ _ m _ _ _ _ _ _ => m
  | _ => 0
def MxOp.fmt : MxOp → Nat
  | .pass _ _ _ f _ _ _ _ _ => f
  | _ => 0
def MxOp.acc : MxOp → Bool
  | .pass _ _ _ _ a _ _ _ _ => a
  | _ => false
def MxOp.swap : MxOp → Bool
  | .pass _ _ _ _ _ w _ _ _ => w
  | _ => false
def MxOp.quads (sh : Nat) : MxOp → List Nat
  | .pass _ _ _ _ _ _ qm _ _ => mxQuads sh qm
  | _ => []
/-- Bytes of a result row (R95). -/
def MxOp.rowBytes (sh : Nat) (o : MxOp) : Nat := 4 * mxRows sh * (o.quads sh).length
/-- First byte past result row j - 1, that is, the first of row j. -/
def MxOp.rowAt (sh : Nat) (o : MxOp) (j : Nat) : Nat := 64 * o.caddr + j * o.rowBytes sh

/-- Two byte ranges meet. -/
def overlaps (a b : Nat × Nat) : Bool := decide (a.1 < b.2) && decide (b.1 < a.2)

/-- The bytes that a running pass has yet to write, after the writes of the present cycle. -/
def MxRun.unwritten (r : MxRun) (sh flow : Nat) : Nat × Nat :=
  (r.op.rowAt sh (r.entered - (r.pipe.filter (fun x => decide (flow < x.due))).length), r.op.rowAt sh r.op.rows)

/-- C-in row j of a pass is readable: no earlier pass has yet to write it (R99). -/
def MxState.cinClear (m : MxState) (sh seq : Nat) (o : MxOp) (j : Nat) : Bool :=
  let row := (o.rowAt sh j, o.rowAt sh (j + 1))
  m.runs.all (fun r => decide (seq ≤ r.seq) || !overlaps row (r.unwritten sh m.flow)) &&
  m.queue.all (fun e => decide (seq ≤ e.1) || !overlaps row (e.2.rowAt sh 0, e.2.rowAt sh e.2.rows))

/-- The previous pass of the quadrant, or of the array, has entered its last operand row (R99). -/
def MxState.rowsDone (m : MxState) (sh q : Nat) : Bool :=
  m.runs.all (fun r => !(r.op.quads sh).contains q || decide (r.op.rows ≤ r.entered))

/-- The weight condition of R99 for a pass at a cycle. -/
def MxState.weightsReady (m : MxState) (sh cycle : Nat) (o : MxOp) : Bool :=
  (o.quads sh).all (fun q =>
    let x := m.quad q
    if o.swap then
      match x.waiting with
      | some t => decide (t.start + (if sh ≠ 0 then mxLw sh t.fmt else if t.fmt = 3 then 9 else 1) ≤ cycle)
      | none => false
    else x.active.isSome)

/-- Every condition of R99 on a queued pass holds at a cycle. -/
def MxState.passReady (m : MxState) (sh cycle seq : Nat) (o : MxOp) : Bool :=
  (o.quads sh).all (m.rowsDone sh) && m.weightsReady sh cycle o && (!o.acc || m.cinClear sh seq o 0)

/-- The first queued pass for a quadrant before any load; in the other configurations the head alone (R108). -/
def mxPick (sh q : Nat) : List (Nat × MxOp) → Option (Nat × MxOp)
  | (n, o@(.pass _ _ _ _ _ _ qm _ _)) :: t => if sh ≠ 1 ∨ bit qm q then some (n, o) else mxPick sh q t
  | (_, .wld _ _ _) :: _ => none
  | _ :: t => if sh = 1 then mxPick sh q t else none
  | [] => none

/-- The pass a quadrant may start next: only where the head of the queue is a pass (R108). -/
def MxState.next (m : MxState) (sh q : Nat) : Option (Nat × MxOp) :=
  match m.queue with
  | (_, .pass _ _ _ _ _ _ _ _ _) :: _ => mxPick sh q m.queue
  | _ => none

/-- The passes that the quadrants may start next. -/
def MxState.heads (m : MxState) (sh : Nat) : List (Nat × MxOp) := (mxQuads sh 15).filterMap (m.next sh)

/-- A quadrant's next pass is ready, and every pass of another quadrant before it is busy for a reason of its own (R108). -/
def MxState.startable (m : MxState) (sh q : Nat) : Option (Nat × MxOp) :=
  match m.next sh q with
  | some (n, o) =>
    if m.passReady sh m.clock n o && (m.heads sh).all (fun e => decide (n ≤ e.1) || !(m.passReady sh m.clock e.1 e.2))
    then some (n, o) else none
  | none => none

/-- A running pass whose next operand row is due and whose C-in row, if any, is readable. -/
def MxState.rowDue (m : MxState) (sh : Nat) (r : MxRun) : Bool :=
  decide (r.entered < r.op.rows) && (!r.op.acc || m.cinClear sh r.seq r.op r.entered)

/-- A row or a pass asks to enter the array in this cycle. -/
def MxState.asks (m : MxState) (sh : Nat) : Bool :=
  m.runs.any (m.rowDue sh) || (mxQuads sh 15).any (fun q => (m.startable sh q).isSome)

/-- The tile of target q of a load, read from the scratchpad (R107). -/
def State.tileData (s : State) (i waddr fmt qmask q : Nat) : List Nat :=
  let sh := s.shape i
  let size := mxTileBytes fmt (mxK sh fmt) (mxRows sh)
  s.lsData i (64 * waddr + ((mxQuads sh qmask).takeWhile (· != q)).length * size) size

/-- Result row m of a pass and its flags, from the operand and C-in rows as the local store holds them (R90, R92, R95). -/
def State.passRow (s : State) (i : Nat) (r : MxRun) (m : Nat) : List Nat × FpFlags :=
  let sh := s.shape i
  let fmt := r.op.fmt
  let k := mxK sh fmt
  let n := mxRows sh
  let a := s.lsData i (64 * r.op.aaddr) (mxTileBytes fmt k r.op.rows)
  let outs := ((r.op.quads sh).zip (List.range 4)).flatMap (fun qj =>
    let tile := (tabGet r.tiles qj.1).getD ⟨fmt, [], 0, true⟩
    (List.range n).map (fun col =>
      let dst := r.op.rowAt sh m + 4 * (qj.2 * n + col)
      mxOutput fmt tile.fmt k n r.op.rows n a tile.data (if r.op.acc then some (leNat (s.lsData i dst 4)) else none) m col))
  (outs.flatMap (fun o => leBytes 4 o.1), orFlags (outs.map Prod.snd))

/-- Reading the operand row m and the C-in row of a pass is noted (R365, R366). -/
def State.passNote (s : State) (i : Nat) (o : MxOp) (m : Nat) : State :=
  let sh := s.shape i
  let k := mxK sh o.fmt
  let s1 := s.lsNote i (64 * o.aaddr + m * mxElemBytes o.fmt k) (mxElemBytes o.fmt k)
  let s2 := if o.fmt = 3 then s1.lsNote i (64 * o.aaddr + up64 (o.rows * mxElemBytes o.fmt k) + m * mxScaleBytes o.fmt k) (mxScaleBytes o.fmt k) else s1
  if o.acc then s2.lsNote i (o.rowAt sh m) (o.rowBytes sh) else s2

/-! One cycle -/

/-- The causes for which the array is frozen in the next cycle (R101): A and CIN only where a row asks to enter, DRAIN only where a pass has rows to write. -/
def MxState.causes (m : MxState) (sh : Nat) (w : MxWhen) : Bool × Bool × Bool :=
  let now := w.freezes.filter (fun f => decide (f.start ≤ m.clock) && decide (m.clock < f.start + f.cycles))
  let asksCin := m.runs.any (fun r => r.op.acc && m.rowDue sh r) || (m.heads sh).any (fun e => e.2.acc && m.passReady sh m.clock e.1 e.2)
  (now.any (fun f => f.a) && m.asks sh, now.any (fun f => f.cin) && asksCin, now.any (fun f => f.drain) && !m.runs.isEmpty)

/-- The array is frozen in the next cycle. -/
def MxState.freezing (m : MxState) (sh : Nat) (w : MxWhen) : Bool :=
  let c := m.causes sh w
  c.1 || c.2.1 || c.2.2

/-- The result rows that leave the array by the present array time are written (R91). -/
def State.mxWrites (s : State) (i : Nat) : State :=
  (s.core i).mx.runs.zipIdx.foldl (fun s e =>
    let m := (s.core i).mx
    let out := e.1.pipe.filter (fun x => decide (x.due ≤ m.flow))
    if out.isEmpty then s else
    let s1 := out.foldl (fun s x => (s.lsPut i (e.1.op.rowAt (s.shape i) x.row) (toBytes x.data)).addFlags i x.flags) s
    let m1 := (s1.core i).mx
    s1.setMx i { m1 with runs := m1.runs.set e.2 { e.1 with pipe := e.1.pipe.drop out.length } }) s

/-- The operand rows that are due enter the array, one of each running pass (R91). -/
def State.mxEnters (s : State) (i : Nat) : State :=
  let sh := s.shape i
  (s.core i).mx.runs.zipIdx.foldl (fun s e =>
    let m := (s.core i).mx
    if m.rowDue sh e.1 then
      let row := s.passRow i e.1 e.1.entered
      let s1 := s.passNote i e.1.op e.1.entered
      let m1 := (e.1.op.quads sh).foldl (fun m q => m.setQuad q { m.quad q with rowEnd := m.flow + 1 }) (s1.core i).mx
      s1.setMx i { m1 with runs := m1.runs.set e.2 { e.1 with
        entered := e.1.entered + 1
        pipe := e.1.pipe ++ [⟨e.1.entered, m1.flow + mxLat sh, row.1, row.2⟩] } }
    else s) s

/-- A pass waits in this cycle only on the weight condition, or only on the interlock of C-in (R99, R102). -/
def MxState.loadGap (m : MxState) (sh : Nat) : Bool :=
  m.runs.any (fun r => decide (r.entered < r.op.rows) && !(m.rowDue sh r)) ||
  (m.heads sh).any (fun e =>
    (e.2.quads sh).all (m.rowsDone sh) && (m.weightsReady sh m.clock e.2 != (!e.2.acc || m.cinClear sh e.1 e.2 0)))

/-- The override of MXBUNT or MXIDLE after a cycle: counted down in a gap cycle, and gone when its gap ends (R106, R109). -/
def MxGap.after (g : MxGap) (gapCycle : Bool) : MxGap :=
  match g, gapCycle with
  | .bunt n _, true => .bunt (n - 1) true
  | .idle _, true => .idle true
  | .bunt _ true, false => .normal
  | .idle true, false => .normal
  | g, false => g
  | .normal, true => .normal

/-- The engine runs one cycle: due rows are written, due rows enter unless the array is frozen, held or gated, and the cycle is counted (R91, R101, R102, R104, R112). -/
def State.mxCycle (s : State) (i : Nat) (w : MxWhen) : State :=
  let sh := s.shape i
  let m0 := (s.core i).mx
  let c := m0.causes sh w
  let frozen := m0.freezing sh w
  let s1 := if frozen then s else s.mxWrites i
  let m1 := (s1.core i).mx
  let open' := !frozen && !(s.mxHeld i m0.clock) && m1.gated == 0
  let entering := if open' then m1.runs.filter (m1.rowDue sh) else []
  let s2 := if open' then s1.mxEnters i else s1
  let gapCycle := entering.isEmpty
  let idle := gapCycle || (sh != 0 && (List.range 4).any (fun q => entering.all (fun r => !(r.op.quads sh).contains q)))
  let bunting := idle && s.bunts i m0 && decide (m0.gated < 4)
  let s3 := (s2.countF (F.CORE_MX_FRZ_TOTAL_COUNT i) (b2n frozen)).countF (F.CORE_MX_FRZ_A_COUNT i) (b2n c.1)
  let s4 := (s3.countF (F.CORE_MX_FRZ_CIN_COUNT i) (b2n c.2.1)).countF (F.CORE_MX_FRZ_DRAIN_COUNT i) (b2n c.2.2)
  let s5 := s4.countF (F.CORE_MX_LGAP_COUNT i) (b2n (!frozen && !(s.mxHeld i m0.clock) && m1.loadGap sh))
  let s6 := (s5.countF (F.CORE_MX_BUNT_CYC_COUNT i) (b2n bunting)).countF (F.CORE_MX_GATED_CYC_COUNT i) (b2n (decide (0 < m0.gated)))
  let s7 := s6.countF (F.CORE_MX_BUSY_CYC_COUNT i) (b2n (!gapCycle))
  let m2 := (s7.core i).mx
  s7.setMx i { m2 with
    clock := m0.clock + 1
    flow := if frozen then m0.flow else m0.flow + 1
    gapRun := if gapCycle then m0.gapRun + 1 else 0
    gap := m0.gap.after gapCycle
    frozen := frozen
    bunting := bunting }

/-! What is due in a cycle -/

/-- The targets of the oldest load that can start: row 0 of the set free and the bus done in FULL, the port free in a quadrant, the previous tile taken up (R97, R98). -/
def MxState.loadStart (m : MxState) (sh : Nat) : List MxLoad → List Nat → Option (MxLoad × List Nat)
  | [], _ => none
  | l :: t, behind =>
    let qs := (mxQuads sh l.todo).filter (fun q =>
      !behind.contains q && (m.quad q).waiting.isNone && decide ((m.quad q).loadFree ≤ m.clock) &&
      (sh != 0 || decide ((m.quad q).setFree ≤ m.flow)))
    if qs.isEmpty then m.loadStart sh t (behind ++ mxQuads sh l.todo) else some (l, qs)

/-- A tile whose last row is written in this cycle (R96, R98). -/
def MxState.tileDone (m : MxState) (sh : Nat) (t : Option Tile) : Bool :=
  match t with
  | some x => !x.loaded && decide (x.start + mxLw sh x.fmt ≤ m.clock + 1)
  | none => false

/-- The oldest pass of a quadrant whose last row is written in this cycle (R91). -/
def MxState.passDone (m : MxState) (sh : Nat) (w : MxWhen) (q : Nat) : Option MxRun :=
  if m.freezing sh w then none
  else m.runs.find? (fun r => (r.op.quads sh).contains q && decide (r.op.rows ≤ r.entered) && r.pipe.all (fun x => decide (x.due ≤ m.flow)))

/-- Ramp-down is due: at once in the emergency cap; else, with no fill level, in a gap cycle that is the first at a COMP trim, past MXBUNT's COUNT, after MXIDLE's passes, or after BUNT_LEN gap cycles (R105, R106, R109, R291, R292, R299). -/
def State.rampDownDue (s : State) (i : Nat) (w : MxWhen) : Bool :=
  let sh := s.shape i
  let m := (s.core i).mx
  let gapNow := m.freezing sh w || s.mxHeld i m.clock || !(m.asks sh)
  decide (m.gated < 4) && !m.awaiting &&
  (if s.gov.pcapHold then decide (m.ramp ≠ .down)
   else decide (m.ramp = .none) && s.mxFill i == 0 && gapNow &&
    (decide (0 < s.compTrim (siteDie i)) ||
     match m.gap with
     | .bunt n _ => n == 0
     | .idle _ => m.runs.isEmpty
     | .normal => decide (s.getF (F.CORE_MX_CTRL_BUNT_LEN i) ≤ m.gapRun)))

/-- Ramp-up is due: a pass, or a row of a running pass, is ready while quarters are gated, or a fill level has every gap cycle bunt (R105, R291). -/
def State.rampUpDue (s : State) (i : Nat) : Bool :=
  let m := (s.core i).mx
  decide (0 < m.gated) && decide (m.ramp ≠ .up) && !s.gov.pcapHold && (m.asks (s.shape i) || decide (0 < s.mxFill i))

/-- The next quarter of a ramp is due (R105). -/
def State.rampStepDue (s : State) (i : Nat) : Bool :=
  let m := (s.core i).mx
  decide (m.ramp ≠ .none) && !m.awaiting && decide (m.lastStep + s.getF (F.CORE_MX_CTRL_RAMP_STEP i) ≤ m.clock)

/-- A pass may start in this cycle: ready, with every quarter ungated, the array neither frozen nor held (R99, R105). -/
def State.passDue (s : State) (i : Nat) (w : MxWhen) (q : Nat) : Option (Nat × MxOp) :=
  let sh := s.shape i
  let m := (s.core i).mx
  if m.gated = 0 && !(m.freezing sh w) && !(s.mxHeld i m.clock) then m.startable sh q else none

/-- MXMARK at the head of the queue, with every earlier MX instruction complete. -/
def MxState.markDue (m : MxState) : Option Nat :=
  match m.queue with
  | (_, .mark t) :: _ => if m.quiet then some t else none
  | _ => none

/-- Something the engine does by itself is due in the next cycle to run. -/
def State.mxDue (s : State) (i : Nat) (w : MxWhen) : Bool :=
  let sh := s.shape i
  let m := (s.core i).mx
  (m.loadStart sh m.loads []).isSome ||
  m.quads.any (fun q => m.tileDone sh q.2.waiting || m.tileDone sh q.2.active) ||
  (mxQuads sh 15).any (fun q => (m.passDone sh w q).isSome || (s.passDue i w q).isSome) ||
  m.markDue.isSome || s.rampDownDue i w || s.rampUpDue i || s.rampStepDue i

/-- At most n cycles run, up to one in which something is due. -/
def State.mxRun (i : Nat) (w : MxWhen) : Nat → State → State
  | 0, s => s
  | n + 1, s => if s.mxDue i w then s else State.mxRun i w n (s.mxCycle i w)

/-- The engine's time runs to a cycle, or to an earlier one in which something is due; the first command after a core reset sets the clock. -/
def State.mxTo (s : State) (i : Nat) (w : MxWhen) : State :=
  let m := (s.core i).mx
  if m.started then State.mxRun i w (w.cycle - m.clock) s
  else s.setMx i { m with started := true, clock := w.cycle }

/-- A matrix command in its cycle: time runs to it, and where nothing earlier is still due the command acts. -/
def State.mxAt (s : State) (i : Nat) (w : MxWhen) (f : State → Out) : Out :=
  if s.mxPowered i then
    let s1 := (s.mxTo i w).lsContests i w.banks
    if (s1.core i).mx.clock = w.cycle then f s1 else .next s1
  else .next s

/-- The engine set after a command, its queue settled. -/
def State.putMx (s : State) (i : Nat) (m : MxState) : State := s.setMx i (mxSettle (s.shape i) m.queue m)

/-! Issue (R108, R114) -/

/-- Issue of an MX word of one opcode: into the queue of eight, or held while it is full. -/
def mxIssue (op : Nat) (i : Nat) (w : Word64) (t : MxWhen) (s : State) : Out :=
  s.mxAt i t (fun s =>
    issue s i w 1 (wOp w == op) (mxLegal s i w) causeMx
      (fun s =>
        match mxDecode w with
        | none => s
        | some o =>
          let m := mxIssueQuads (s.shape i) (s.core i).mx o
          (s.putMx i { m with queue := m.queue ++ [(m.issued, o)], issued := m.issued + 1 }).nextPc i))

def execMxwld (i : Nat) (w : Word64) (t : MxWhen) (s : State) : Out := mxIssue 1 i w t s
def execMxpass (i : Nat) (w : Word64) (t : MxWhen) (s : State) : Out := mxIssue 2 i w t s
def execMxbunt (i : Nat) (w : Word64) (t : MxWhen) (s : State) : Out := mxIssue 3 i w t s
def execMxidle (i : Nat) (w : Word64) (t : MxWhen) (s : State) : Out := mxIssue 4 i w t s
def execMxmark (i : Nat) (w : Word64) (t : MxWhen) (s : State) : Out := mxIssue 5 i w t s

/-- MXMARK_DONE: every earlier MX instruction has completed, so the tally increments (R107, R117). -/
def execMxmarkDone (i : Nat) (w : MxWhen) (s : State) : Out :=
  s.mxAt i w (fun s =>
    let m := (s.core i).mx
    match m.markDue with
    | some t => .next ((s.putMx i { m with queue := m.queue.drop 1 }).tallyAdd i t 1)
    | none => .next s)

/-! Weight loads (R96 to R98) -/

/-- A load starts in some of its targets at the present cycle; the rest stay to be served. -/
def State.startLoad (s : State) (i : Nat) (l : MxLoad) (qs : List Nat) : State :=
  let sh := s.shape i
  let m := (s.core i).mx
  let m1 := qs.foldl (fun m q =>
    let x := m.quad q
    m.setQuad q { x with
      waiting := some ⟨l.fmt, s.tileData i l.waddr l.fmt l.qmask q, m.clock, false⟩
      loadFree := m.clock + mxLw sh l.fmt }) m
  let todo := (mxQuads sh l.todo).foldl (fun a q => if qs.contains q then a else a + 2 ^ q) 0
  let loads := if todo = 0 then m.loads.erase l else m.loads.replace l { l with todo := todo }
  let size := mxTileBytes l.fmt (mxK sh l.fmt) (mxRows sh)
  qs.foldl (fun s q => s.lsNote i (64 * l.waddr + ((mxQuads sh l.qmask).takeWhile (· != q)).length * size) size)
    (s.putMx i { m1 with loads := loads })

/-- WEIGHT_LOAD_START: the oldest tile load that its targets allow starts in them (R97, R98, R109). -/
def execWeightLoadStart (i : Nat) (w : MxWhen) (s : State) : Out :=
  s.mxAt i w (fun s =>
    let m := (s.core i).mx
    match m.loadStart (s.shape i) m.loads [] with
    | some (l, qs) => .next (s.startLoad i l qs)
    | none => .next s)

def markLoaded (t : Tile) : Tile := { t with loaded := true }

/-- WEIGHT_LOAD_COMPLETE: a tile is fully in its shadow set or transit registers (R96, R98). -/
def execWeightLoadComplete (i q : Nat) (w : MxWhen) (s : State) : Out :=
  s.mxAt i w (fun s =>
    let sh := s.shape i
    let m := (s.core i).mx
    let x := m.quad q
    if m.tileDone sh x.waiting then .next (s.putMx i (m.setQuad q { x with waiting := x.waiting.map markLoaded }))
    else if m.tileDone sh x.active then .next (s.putMx i (m.setQuad q { x with active := x.active.map markLoaded }))
    else .next s)

/-! Passes (R91, R99) -/

/-- The waiting tile becomes active; in FULL row 0 of the other set is free once the last row that used it has passed cell (0, 63) (R96, R97). -/
def Quad.takeUp (x : Quad) (sh : Nat) : Quad :=
  { x with
    active := x.waiting
    waiting := none
    setFree := (if sh = 0 ∧ x.active.isSome = true then x.rowEnd + 63 else x.setFree) }

/-- PASS_START: a pass begins, in the first cycle in which every condition of R99 holds; its first operand row enters in this cycle. -/
def execPassStart (i q : Nat) (w : MxWhen) (s : State) : Out :=
  s.mxAt i w (fun s =>
    let sh := s.shape i
    let m := (s.core i).mx
    match s.passDue i w q with
    | some (n, o) =>
      let qs := o.quads sh
      let m1 := if o.swap then qs.foldl (fun m q => m.setQuad q ((m.quad q).takeUp sh)) m else m
      let tiles := qs.filterMap (fun q => (m1.quad q).active.map (fun t => (q, t)))
      .next (s.putMx i { m1 with
        queue := m1.queue.filter (fun e => e.1 != n)
        runs := m1.runs ++ [⟨n, o, tiles, 0, []⟩]
        ramp := .none
        awaiting := false })
    | none => .next s)

/-- The TEN bit and the tally of a pass. -/
def MxOp.tally : MxOp → Option Nat
  | .pass _ _ _ _ _ _ _ true t => some t
  | _ => none

/-- PASS_COMPLETE: the last output row of the oldest pass of a quadrant is written, and the pass is counted (R91, R108, R112). -/
def execPassComplete (i q : Nat) (w : MxWhen) (s : State) : Out :=
  s.mxAt i w (fun s =>
    match (s.core i).mx.passDone (s.shape i) w q with
    | some r =>
      let s1 := (s.mxWrites i).countF (F.CORE_MX_PASSES_COUNT i) 1
      let m := (s1.core i).mx
      let s2 := s1.putMx i { m with runs := m.runs.filter (fun e => e.seq != r.seq) }
      .next (match r.op.tally with
        | some t => s2.tallyAdd i t 1
        | none => s2)
    | none => .next s)

/-! The clock-gate ramp -/

/-- One quarter is gated or ungated in the present cycle, or waits for the step limiter (R105, R269). -/
def State.gateStep (s : State) (i : Nat) (dir : Ramp) : State :=
  let m := (s.core i).mx
  if s.limiterFree i m.clock then
    let g := if dir = .down then min 4 (m.gated + 1) else m.gated - 1
    (s.setMx i { m with
      gated := g, lastStep := m.clock, awaiting := false
      ramp := if g = 0 ∨ g = 4 then .none else dir }).limiterTake i m.clock
  else s.setMx i { m with awaiting := true, ramp := dir }

/-- RAMP_DOWN_START: a run of gap cycles reaches its limit and the first quarter is clock-gated (R105). -/
def execRampDownStart (i : Nat) (w : MxWhen) (s : State) : Out :=
  s.mxAt i w (fun s => .next (if s.rampDownDue i w then s.gateStep i .down else s))

/-- RAMP_STEP_EXPIRY: RAMP_STEP cycles elapse during a ramp and the next quarter is gated or ungated (R105). -/
def execRampStepExpiry (i : Nat) (w : MxWhen) (s : State) : Out :=
  s.mxAt i w (fun s => .next (if s.rampStepDue i && !(s.rampUpDue i) then s.gateStep i (s.core i).mx.ramp else s))

/-- RAMP_UP_START: a pass becomes ready while quarters are gated or being gated, and the ramp runs upwards from there (R105). -/
def execRampUpStart (i : Nat) (w : MxWhen) (s : State) : Out :=
  s.mxAt i w (fun s =>
    let m := (s.core i).mx
    .next (if s.rampUpDue i then s.setMx i { m with ramp := .up, lastStep := m.clock, awaiting := false } else s))

/-- A waiting transition of the array: dropped where nothing asks for it any more, else made once the limiter allows it (R105, R269, R291). -/
def State.admitQuarter (s : State) (i : Nat) : State :=
  let m := (s.core i).mx
  if !m.awaiting then s
  else if m.ramp = .down && m.gated == 0 && (m.asks (s.shape i) || decide (0 < s.mxFill i)) && !s.gov.pcapHold then
    s.setMx i { m with awaiting := false, ramp := .none }
  else if s.limiterFree i m.clock && !(s.rampUpDue i) then s.gateStep i m.ramp
  else s

/-- TRANSITION_ADMIT: a waiting transition is admitted by the step limiter (R269): kind 0 an array quarter, 1 a vector engine that starts, 2 a vector engine that stops. -/
def execTransitionAdmit (i kind : Nat) (w : MxWhen) (s : State) : Out :=
  let c := s.core i
  if kind = 0 then s.mxAt i w (fun s => .next (s.admitQuarter i))
  else if kind = 1 then
    if c.vxWait && s.limiterFree i w.cycle then
      .next ((s.setCore i { c with vxWait := false, vxOn := true, vxMark := w.cycle }).limiterTake i w.cycle)
    else .next s
  else if c.vxOn && (c.vx.isEmpty || s.gov.pcapHold) then
    if w.cycle < c.vxMark + 64 then .next (s.setCore i { c with vxOn := false, vxMark := w.cycle })
    else if s.limiterFree i w.cycle then .next ((s.setCore i { c with vxOn := false, vxMark := w.cycle }).limiterTake i w.cycle)
    else .next s
  else .next s

end Sys2Proof.Machine
end

