-- ==== Sys2Proof/Machine/MemRows.lean ====
section
/-! DEFINITION. Memory requests and answers at their ends, page copies, invalidations, census operations, the free ring and the moonlet's messages (R165, R166, R181, R182, R226, R231, R234 to R236, R241). -/
namespace Sys2Proof.Machine

/-! Page copies at a port (R236) -/

/-- The copy's HRDs go out, at most 32 in flight; `n` bounds them. -/
def copySend (i j : Nat) : Nat → State → State
  | 0, s => s
  | n + 1, s =>
    let q := s.port i
    match tabGet q.copies j with
    | none => s
    | some c =>
      match c.todo with
      | [] => s
      | o :: t =>
        if c.failed ≠ 0 || decide (32 ≤ c.waits) then s
        else
          let a := c.old + 256 * o
          let s1 := s.setPort i { q with copies := tabPut q.copies j { c with todo := t, waits := c.waits + 1 } }
          let r := s1.newTag ⟨c.pkt.part, 0, 256, false, [], 0, 0, 0, false, .copyRead i j o⟩
          let s2 := r.2.inject ⟨.router i, synthRoute (s.linkSel i) i ((dpaSite a).getD 0) 1, 0, 0, false, 1, 1, false, siteNum i, 0x10, c.pkt.part,
            false, r.1, a, 256, 0, [], 0⟩
          copySend i j n s2

/-- A copy with nothing outstanding that has read everything, or has failed, is acknowledged. -/
def State.copyEnd (s : State) (i j : Nat) : State :=
  let q := s.port i
  match tabGet q.copies j with
  | none => s
  | some c =>
    if c.waits = 0 && (c.failed != 0 || c.todo.isEmpty) then
      (s.setPort i { q with copies := tabDel q.copies j }).portAnswer i c.pkt c.failed []
    else s

/-- A piece of the old page has been read, and its write to the new page joins the port's own queue (R180, R210); or that write is done. A failure ends the copy with its status once nothing is outstanding. -/
def State.copyAnswer (s : State) (i j off : Nat) (wr : Bool) (status : Nat) (d : List Byte) : State :=
  let q := s.port i
  match tabGet q.copies j with
  | none => s
  | some c =>
    let failed := if c.failed ≠ 0 then c.failed else status
    if failed ≠ 0 then (s.setPort i { q with copies := tabPut q.copies j { c with waits := c.waits - 1, failed := failed } }).copyEnd i j
    else if wr then
      (copySend i j 32 (s.setPort i { q with copies := tabPut q.copies j { c with waits := c.waits - 1 } })).copyEnd i j
    else
      let r := s.newTag ⟨c.pkt.part, 0, 256, true, [], 0, 0, 0, false, .copyRead i j off⟩
      r.2.portTake i ⟨.hal i, mkRoute [] 1, 0, 0, false, 3, 1, false, siteNum i, 0x11, c.pkt.part, false, r.1, c.fresh + 256 * off, 256, 0, d, 0⟩

/-- HCOPY: the free page's port copies the old page into it (R236); a failed port or a retired bank answers COL_FAIL, a hole or a misaligned page as R181 says. -/
def execHcopy (id : Nat) (s : State) : Out :=
  match s.atPort id [0x14] with
  | none => .next s
  | some (i, p) =>
    let s1 := s.dropPkt id
    let old := leNat (p.data.map BitVec.toNat)
    if s1.hal i = halFailed || (List.range 32).any (fun b => s1.bankRetired i b) then .next (s1.portAnswer i p stColFail [])
    else if isHole p.addr || dpaSpace p.addr != 0 then .next (s1.portAnswer i p stHole [])
    else if p.addr % 65536 ≠ 0 then .next (s1.portAnswer i p stMalformed [])
    else
      match s1.routeStatus old with
      | some st => .next (s1.portAnswer i p st [])
      | none =>
        let q := s1.port i
        let c : CopyJob := ⟨p, old, p.addr, List.range 256, 0, 0⟩
        .next (copySend i q.nextCopy 32 (s1.setPort i { q with copies := tabPut q.copies q.nextCopy c, nextCopy := q.nextCopy + 1 }))

/-! Requests and answers -/

/-- A read or write request of R181 reaches a port's queue, or a home where its EXIT is CLU (R228). -/
def State.memArrive (s : State) (id ty : Nat) : State :=
  match s.atPort id [ty] with
  | some (i, p) => (s.dropPkt id).portTake i p
  | none => s.homeArrive id ty

/-- HRD (R181). -/
def execHrd (id : Nat) (s : State) : Out := .next (s.memArrive id 0x10)
/-- HWR (R182). -/
def execHwr (id : Nat) (s : State) : Out := .next (s.memArrive id 0x11)

/-- The requester that a tag names takes the answer. -/
def State.memAnswer (s0 : State) (tag dpa status : Nat) (d : List Byte) : State :=
  match tabGet s0.reqs tag with
  | none => s0
  | some r =>
    let s : State := { s0 with reqs := tabDel s0.reqs tag }
    match r.org with
    | .stream _ _ _ _ _ _ => s.streamAnswer r dpa status d
    | .fill c line => s.fillReturn c line status d
    | .home c line => s.homeAnswer c line status d
    | .copyRead i j o => s.copyAnswer i j o r.wr status d
    | .cow id => s.cowAnswer id status d
    | .census _ => { s0 with reqs := tabPut s0.reqs tag { r with wr := true, data := d, mask := status } }
    | .job _ _ _ _ => s.jobAnswer r dpa status d

/-- A response packet has reached an exit of its requester. -/
def Packet.arrived (p : Packet) : Bool :=
  match p.place with
  | .core _ => true
  | .hal _ => true
  | .clu _ => true
  | .ext _ => true
  | _ => false

/-- A fill's answer, which LINE_FILL_RETURN takes. -/
def State.isFill (s : State) (tag : Nat) : Bool :=
  match tabGet s.reqs tag with
  | some r => (match r.org with | .fill _ _ => true | _ => false)
  | none => false

/-- A response of a type reaches its requester; what it sets free goes on. -/
def State.respArrive (s : State) (id ty : Nat) : State :=
  match s.pkt id with
  | none => s
  | some p =>
    if p.ty = ty && p.arrived && s.inOrder id p && !s.isFill p.tag then ((s.dropPkt id).memAnswer p.tag p.addr (p.aux % 16) p.data).settle else s

/-- HRSP: a read response reaches its requester (R181). -/
def execHrsp (id : Nat) (s : State) : Out := .next (s.respArrive id 0x12)
/-- HACK: a write acknowledgement reaches its requester (R181). -/
def execHack (id : Nat) (s : State) : Out := .next (s.respArrive id 0x13)

/-- CDATA: coherent data reaches a cluster cache, or a census result its unit (R226, R234). -/
def execCdata (id : Nat) (s : State) : Out :=
  match s.pkt id with
  | some p =>
    if p.ty = 0x38 && p.tag == 0 then
      match s.atClu id 0x38 with
      | some (c, p) => .next ((s.dropPkt id).cohData c (p.addr / 128) p.aux p.data).settle
      | none => .next s
    else .next (s.respArrive id 0x38)
  | none => .next s

/-! Invalidation (R231, R241) -/

/-- XINV: a write of PRT_XINV with GO at 1 starts an invalidation of the range then in the registers; DONE reads 0. -/
def execXinv (who : Requester) (part : Nat) (value : Word) (s : State) : Out :=
  if part < 16 && bit value.toNat 0 then
    trigger s who (pgPrt part + 0x40C) 1 value (fun s =>
      let s1 := ((s.store (pgPrt part + 0x40C) 2 value true).setF (F.PRT_XINV_GO part) 1).setF (F.PRT_XINV_DONE part) 0
      let va := s1.getF (F.PRT_XINV_VA_LO_VA part) * 65536 + s1.getF (F.PRT_XINV_VA_HI_VA part) * 2 ^ 32
      { s1 with xinvs := s1.xinvs ++ [⟨part, s1.on (F.PRT_XINV_ALL part), va, s1.getF (F.PRT_XINV_PAGES_COUNT part), none⟩] })
  else .next s

/-- XINV_DONE: an invalidation in progress completes; a copy on write's releases its write, the last of a partition's page sets DONE. -/
def execXinvDone (n : Nat) (s : State) : Out :=
  match s.xinvs[n]? with
  | none => .next s
  | some v =>
    let s1 := ({ s with xinvs := dropAt s.xinvs n } : State).dropXlat v
    match v.cow with
    | some id =>
      match tabGet s1.cows id with
      | some c => .next (s1.cowLeave id c).settle
      | none => .next s1
    | none =>
      if s1.xinvs.any (fun w => w.part == v.part && w.cow.isNone) then .next s1
      else .next ((s1.setF (F.PRT_XINV_GO v.part) 0).setF (F.PRT_XINV_DONE v.part) 1)

/-! Census operations of a partition page (R234, R241) -/

/-- A census operation starts: the cluster controller of the entry's home sends the CATOM through its CLU port (R147; which controller acts for the partition page is a DESIGN CHOICE, log entry 170); a page outside the partition's columns, or a column that cannot answer, is refused. -/
def State.censusStart (s : State) (part op : Nat) : State :=
  let s1 := ((s.setF (F.PRT_CEN_OP_OP part) op).setF (F.PRT_CEN_OP_GO part) 1).setF (F.PRT_CEN_OP_BUSY part) 1
  let page := s.getF (F.PRT_CEN_PAGE_LO_ADDR part) * 65536 + s.getF (F.PRT_CEN_PAGE_HI_ADDR part) * 2 ^ 32
  let refused (s : State) : State := (s.newTag ⟨part, 0, 4, true, [], stMalformed, 0, 0, false, .census part⟩).2
  match s.cenEntry part page with
  | none => refused s1
  | some a =>
    match homeOf a, s.routeStatus a with
    | some h, none =>
      let r := s1.newTag ⟨part, 0, 4, false, [], 0, 0, 0, false, .census part⟩
      let d := toBytes (leBytes 4 (s.getF (F.PRT_CEN_VALUE_REFS part)))
      r.2.cluSend h (cluSite h) 2 1 0x36 r.1 a 4 op d false 0
    | _, _ => refused s1

/-- A write of PRT_CEN_OP with GO at 1 and the operation's OP, while none is in progress. -/
def censusRow (op : Nat) (who : Requester) (part : Nat) (value : Word) (s : State) : Out :=
  if part < 16 && bits value.toNat 0 3 == op && bit value.toNat 3 then
    trigger s who (pgPrt part + 0x440) 15 value (fun s => if s.on (F.PRT_CEN_OP_BUSY part) then s else s.censusStart part op)
  else .next s

/-- CENSUS_READ (R234). -/
def execCensusRead (who : Requester) (part : Nat) (value : Word) (s : State) : Out := censusRow 0 who part value s
/-- CENSUS_INC (R234). -/
def execCensusInc (who : Requester) (part : Nat) (value : Word) (s : State) : Out := censusRow 1 who part value s
/-- CENSUS_DEC (R234). -/
def execCensusDec (who : Requester) (part : Nat) (value : Word) (s : State) : Out := censusRow 2 who part value s
/-- CENSUS_SET (R234). -/
def execCensusSet (who : Requester) (part : Nat) (value : Word) (s : State) : Out := censusRow 3 who part value s
/-- CENSUS_LOCK (R234). -/
def execCensusLock (who : Requester) (part : Nat) (value : Word) (s : State) : Out := censusRow 4 who part value s
/-- CENSUS_DECUNLOCK (R234). -/
def execCensusDecunlock (who : Requester) (part : Nat) (value : Word) (s : State) : Out := censusRow 5 who part value s
/-- CENSUS_UNLOCK (R234). -/
def execCensusUnlock (who : Requester) (part : Nat) (value : Word) (s : State) : Out := censusRow 6 who part value s

/-- CENSUS_OP_COMPLETE: the home has answered; the entry before the operation is in PRT_CEN_RESULT, and BUSY clears (R241). -/
def execCensusOpComplete (part : Nat) (s : State) : Out :=
  match s.reqs.find? (fun e => decide (e.2.org = .census part) && e.2.wr) with
  | none => .next s
  | some (tag, r) =>
    let s1 : State := { s with reqs := tabDel s.reqs tag }
    let s2 := if r.data.isEmpty then s1 else s1.setF (F.PRT_CEN_RESULT_ENTRY part) (leNat (r.data.map BitVec.toNat))
    .next (((s2.setF (F.PRT_CEN_OP_REFUSED part) (b2n (r.mask % 16 != 0))).setF (F.PRT_CEN_OP_GO part) 0).setF (F.PRT_CEN_OP_BUSY part) 0)

/-! The free ring (R235, R236) -/

/-- A copy on write that waits for a page takes one where the ring has one. -/
def State.cowRetry (s : State) (id : Nat) : State :=
  match tabGet s.cows id with
  | some c =>
    if c.step = .freePage then
      let s1 := s.cowFree id c
      match tabGet s1.cows id with
      | some c1 => if c1.step = .freePage then s1.setCow id { c1 with since := c.since } else s1
      | none => s1
    else s
  | none => s

/-- FREE_TAIL_ADVANCE: a write of PRT_FREE_TAIL; waiting copies go on in order (R235). -/
def execFreeTailAdvance (who : Requester) (part : Nat) (value : Word) (s : State) : Out :=
  if part < 16 then
    trigger s who (pgPrt part + 0x454) 0xFFFFFFFF value (fun s =>
      let s1 := s.store (pgPrt part + 0x454) 0xFFFFFFFF value true
      ((s1.cows.filter (fun e => e.2.part == part)).foldl (fun s e => s.cowRetry e.1) s1).settle)
  else .next s

/-- FREE_PAGE_WAIT_EXPIRY: WAIT_US have passed without a free page, and the write fails with kind NOFREE (R236). -/
def execFreePageWaitExpiry (cow : Nat) (s : State) : Out :=
  match tabGet s.cows cow with
  | some c =>
    if c.step = .freePage then
      .next (((s.advanceTo (c.since + 100 * s.getF (F.PRT_FREE_LOW_WAIT_US c.part))).cowGiveUp cow c (0x100 + kNoFree + 16 * 3)).settle)
    else .next s
  | none => .next s

/-! The moonlet's messages (R165, R166) -/

/-- A window is open: enabled, and its partition grants access (R166, R321). -/
def State.winOpen (s : State) (w : Nat) : Bool :=
  s.on (F.MNL_WIN_CTRL_EN w) && s.on (F.PRT_GRANT_MNL (s.getF (F.MNL_WIN_CTRL_PART w)))

/-- A refused or dropped message is counted and recorded (R166, R170). -/
def State.mnlErr (s : State) (die ty win status : Nat) : State :=
  ((((s.countF F.MNL_ERR_COUNT 1).setF F.MNL_LASTERR_TYPE ty).setF F.MNL_LASTERR_WIN (win % 16)).setF F.MNL_LASTERR_STATUS status).setF F.MNL_LASTERR_DIE die

/-- The moonlet's link to a die is ACTIVE. -/
def State.mnlUp (s : State) (die : Nat) : Bool := decide (die < 4) && s.lnk (20 + die) == linkActive

/-- Status of a read or write message before its translation: form, window, range. -/
def State.mnlCheck (s : State) (ty win len addr : Nat) (d : List Byte) : Nat :=
  let formOk := decide (win < 16) && decide (addr < 2 ^ 48) && addr % 32 == 0 && len % 32 == 0 && decide (32 ≤ len) && decide (len ≤ 256) &&
    (ty == 1 || d.length == len) && (ty != 3 || len == 32)
  if !formOk then 5
  else if !s.winOpen win then 1
  else if s.getF (F.MNL_WIN_SIZE_SIZE win) * 2 ^ 21 < addr + len then 2 else 0

/-- A read or write message is performed, or answered with its status; a partition in reset is as one with PRT_XCTRL.EN at 0 (R355). -/
def State.mnlAccess (s : State) (die ty win tag len addr : Nat) (d : List Byte) (mask : Nat) : State :=
  let st := s.mnlCheck ty win len addr d
  if st ≠ 0 then
    (s.mnlErr die ty win st).mtSend ⟨20 + die, if ty = 1 then 0x81 else 0x82, tag, st, []⟩
  else
    let va := s.getF (F.MNL_WIN_VBASE_LO_ADDR win) * 2 ^ 21 + s.getF (F.MNL_WIN_VBASE_HI_ADDR win) * 2 ^ 32 + addr
    let p := s.getF (F.MNL_WIN_CTRL_PART win)
    (s.startJob (.moonlet (20 + die) ty win tag) (130 + die) (if s.pgState (pgPrt p) = prtReset then none else some p) (ty != 1) va len d mask).settle

/-- A message from the moonlet with `bytes` of payload has come over its link: its slots are counted (R165, R168). -/
def State.mnlHeard (s : State) (die bytes : Nat) : State := s.countF (F.LNK_FLITS_BA_COUNT (20 + die)) (mtSlots bytes)

/-- MRD (R165, R166). -/
def execMrd (die win tag len addr : Nat) (s : State) : Out :=
  if s.mnlUp die then .next ((s.mnlHeard die 0).mnlAccess die 1 win tag len addr [] 0) else .next s
/-- MWR (R165, R166). -/
def execMwr (die win tag len addr : Nat) (data : List Byte) (s : State) : Out :=
  if s.mnlUp die then .next ((s.mnlHeard die data.length).mnlAccess die 2 win tag len addr data (2 ^ len - 1)) else .next s
/-- MWRB: one atom under a byte mask (R165, R166). -/
def execMwrb (die win tag len addr : Nat) (data : List Byte) (mask : Nat) (s : State) : Out :=
  if s.mnlUp die then .next ((s.mnlHeard die (data.length + 4)).mnlAccess die 3 win tag len addr data (mask % 2 ^ 32)) else .next s

/-- MSIG: COUNT to a tally of a site of the window's partition, or dropped (R166). -/
def execMsig (die win addr count : Nat) (s : State) : Out :=
  if !s.mnlUp die then .next s
  else
    let s := s.mnlHeard die 0
    let part := s.getF (F.MNL_WIN_CTRL_PART (win % 16))
    match siteOfNum (addr % 2 ^ 16) with
    | some i =>
      if decide (win < 16) && s.winOpen win && s.partOfSite i == some part then
        .next (s.extSend (130 + die) part i 0 0 0x01 0 0 0 (bits addr 16 6 + 2 ^ 16 * (count % 2 ^ 16)) [] false 0)
      else .next (s.mnlErr die 4 win 0xF)
    | none => .next (s.mnlErr die 4 win 0xF)

/-- MEVT: an event with CODE to the window's partition, or dropped (R166, R331). -/
def execMevt (die win code : Nat) (s : State) : Out :=
  if !s.mnlUp die then .next s
  else
    let s := s.mnlHeard die 0
    if decide (win < 16) && s.winOpen win then
      .next (s.postTo (s.getF (F.PRT_DEFRING_RING (s.getF (F.MNL_WIN_CTRL_PART win)))) ⟨0x06, 0, win, code % 2 ^ 16, s.orbit, 0, 0, 12⟩)
    else .next (s.mnlErr die 5 win 0xF)

end Sys2Proof.Machine
end

