-- ==== Sys2Proof/Machine/Mgmt.lean ====
section
/-! DEFINITION. The scan request, JTAG, the Ensign mailbox, SPDM and DOE, MCTP and I3C addresses, PLDM and the flash lock (R409 to R417, R434 to R443). -/
namespace Sys2Proof.Machine

/-! Scan and JTAG (R410, R411, R443) -/

/-- SCAN_OPEN_REQUEST: a write of SEC_SCAN_CMD.OPEN (R411). -/
def execScanOpenRequest (who : Requester) (value : Word) (s : State) : Out :=
  if !bit value.toNat 0 then .next s
  else trigger s who F.SEC_SCAN_CMD_OPEN.addr 1 value (fun s =>
    let s1 := s.setF F.SEC_SCAN_INFO_SOURCE 1
    if scanClearing ≤ s1.getF F.SEC_STATUS_SCAN then s1.setF F.SEC_SCAN_INFO_REFUSED 2
    else if s1.anyPartBusy then s1.setF F.SEC_SCAN_INFO_REFUSED 1
    else (s1.setF F.SEC_SCAN_INFO_REFUSED 0).scanBegin)

/-- The IDCODE (R443). -/
def State.idcode (s : State) : Word :=
  BitVec.ofNat 32 (s.getF F.G_PART_ID_STEPPING % 16 * 2 ^ 28 + 0x0A44 * 2 ^ 12 + Config.jtagMaker.toNat * 2 + 1)

/-- The instruction in effect: BYPASS for what needs scan until scan is open (R410). -/
def State.jtagActs (s : State) : JtagInstr :=
  if s.mgmt.jtag = .scan && s.getF F.SEC_STATUS_SCAN != scanOpen then .bypass else s.mgmt.jtag

/-- JTAG_INSTRUCTION: an instruction is loaded; one that needs scan requests the sequence (R410, R411). -/
def execJtagInstruction (instr : JtagInstr) (s : State) : Out :=
  let s1 : State := { s with mgmt := { s.mgmt with jtag := instr } }
  match instr with
  | .idcode => .next { s1 with reply := some (.word s1.idcode) }
  | .scan => if s1.power.pwrgd then .next (s1.scanAsk 2) else .next s1
  | _ => .next s1

/-! The Ensign mailbox (R414 to R417) -/

/-- Byte k of ENS_DATA. -/
def State.ensByte (s : State) (k : Nat) : Nat := bits (s.getF (F.ENS_DATA (k / 4))) (8 * (k % 4)) 8
/-- Word k of ENS_DATA. -/
def State.ensWord (s : State) (k : Nat) : Nat := s.getF (F.ENS_DATA k)

def opGetInfo : Nat := 0x0001
def opFwBegin : Nat := 0x0010
def opFwWrite : Nat := 0x0011
def opFwVerify : Nat := 0x0012
def opFwActivate : Nat := 0x0013
def opFwAbort : Nat := 0x0014

/-- A write of ENS_CMD with GO = 1: accepted, refused while BUSY, or complete at once with NO_ENSIGN or BAD_OP (R414 to R416). -/
def State.mailGo (s : State) (v : Nat) : State :=
  if s.on F.ENS_STATUS_BUSY then s
  else
    let op := v % 2 ^ 16
    let s1 := ((s.setF F.ENS_CMD_OP op).setF F.ENS_CMD_LEN (bits v 16 11)).setF F.ENS_CMD_GO 0
    match s1.activeEns with
    | none => s1.mailDone 8 0
    | some e =>
      if op = opGetInfo ∨ (opFwBegin ≤ op ∧ op ≤ opFwAbort) then
        let s2 := s1.setF F.ENS_STATUS_BUSY 1
        if op = opGetInfo then s2 else { s2 with mgmt := { s2.mgmt with flash := some (e, s2.now) } }
      else s1.mailDone 1 0

/-- A mailbox command: the write of ENS_CMD that starts it. -/
def mailWrite (op : Nat) (who : Requester) (value : Word) (s : State) : Out :=
  if value.toNat % 2 ^ 16 = op ∧ bit value.toNat 31 then trigger s who F.ENS_CMD_OP.addr 0x80000000 value (fun s => s.mailGo value.toNat)
  else .next s

def execGetInfo (who : Requester) (value : Word) (s : State) : Out := mailWrite opGetInfo who value s
def execFwBegin (who : Requester) (value : Word) (s : State) : Out := mailWrite opFwBegin who value s
def execFwWrite (who : Requester) (value : Word) (s : State) : Out := mailWrite opFwWrite who value s
def execFwVerify (who : Requester) (value : Word) (s : State) : Out := mailWrite opFwVerify who value s
def execFwActivate (who : Requester) (value : Word) (s : State) : Out := mailWrite opFwActivate who value s
def execFwAbort (who : Requester) (value : Word) (s : State) : Out := mailWrite opFwAbort who value s

/-- The result of GET_INFO: both versions and slots, then the serial's last eight bytes. -/
def State.infoResult (s : State) : State :=
  let b (k : Nat) : Nat := (Config.infoByte k (s.getF (F.ENS_FWVER_VERSION 0)) (s.getF (F.ENS_FWVER_VERSION 1))
    (s.getF (F.ENS_FWVER_SLOT 0)) (s.getF (F.ENS_FWVER_SLOT 1))).toNat
  let w (k : Nat) : Nat := b (4 * k) + 2 ^ 8 * b (4 * k + 1) + 2 ^ 16 * b (4 * k + 2) + 2 ^ 24 * b (4 * k + 3)
  (((s.setF (F.ENS_DATA 0) (w 0)).setF (F.ENS_DATA 1) (w 1)).setF (F.ENS_DATA 2) (s.getF (F.G_SERIAL 2))).setF (F.ENS_DATA 3) (s.getF (F.G_SERIAL 3))

/-- An update owned by the mailbox is open. -/
def State.mailOwns (s : State) : Bool := s.mgmt.update == some false

/-- The update ends. -/
def State.updateEnd (s : State) : State := { s with mgmt := { s.mgmt with update := none, imgLen := 0, verified := false } }

/-- Steps 1 to 5 of R417 with both Ensigns alive: the standby boots the new image, takes every die, and the old active Ensign resets. -/
def State.activateBoth (s : State) (version : Nat) : State :=
  let old := s.getF F.G_REL_STATUS_ACTIVE
  let new := 1 - old
  let busy := s.getF F.ENS_STATUS_BUSY
  let s1 : State := { s with
    rel := { s.rel with images := [(0, (version, 0)), (1, (version, 0))] }
    flash := { s.flash with image0 := s.flash.image1 } }
  let s2 := (s1.setF F.ENS_STATUS_BUSY 0).ensUp new
  let s3 := ((List.range 4).filter (fun d => s2.power.fabOn.contains d)).foldl (fun s d => s.grantClaim new d) s2
  ((s3.ensReset old).updateEnd).setF F.ENS_STATUS_BUSY busy

/-- The one Ensign alive resets itself after step 1 (R417). -/
def State.activateAlone (s : State) (version : Nat) : State :=
  let e := s.getF F.G_REL_STATUS_ACTIVE
  let s1 : State := { s with
    rel := { s.rel with images := [(0, (version, 0)), (1, (version, 0))] }
    flash := { s.flash with image0 := s.flash.image1 } }
  s1.updateEnd.ensReset e

/-- Both Ensigns are alive. -/
def State.bothAlive (s : State) : Bool := s.ensAlive 0 && s.ensAlive 1

/-- What a command does as it completes: its result, its result bytes and the state; `outcome` is the flash's or the authentication's result. -/
def State.mailRun (s : State) (op outcome version : Nat) : State :=
  let len := s.getF F.ENS_CMD_LEN
  let flash := outcome == 5
  if op = opGetInfo then s.infoResult.mailDone 0 16
  else if s.mgmt.update = some true then s.mailDone 3 0
  else if op = opFwBegin then
    let n := s.ensWord 0
    if len ≠ 4 ∨ n = 0 ∨ 2 ^ 24 < n ∨ s.mailOwns then s.mailDone 2 0
    else if flash then s.mailDone 5 0
    else ({ s with mgmt := { s.mgmt with update := some false, imgLen := n, verified := false }, flash := { s.flash with image1 := [] } } : State).mailDone 0 0
  else if !s.mailOwns then s.mailDone 2 0
  else if op = opFwWrite then
    let off := s.ensWord 0
    let n := len - 8
    if len ≤ 8 ∨ 1024 < len ∨ off % 1016 ≠ 0 ∨ s.mgmt.imgLen < off + n then s.mailDone 2 0
    else if flash then s.mailDone 5 0
    else
      let d := (List.range n).map (fun k => BitVec.ofNat 8 (s.ensByte (8 + k)))
      ({ s with mgmt := { s.mgmt with verified := false }, flash := { s.flash with image1 := tabPut s.flash.image1 off d } } : State).mailDone 0 0
  else if op = opFwVerify then
    if flash then s.mailDone 5 0
    else if outcome = 4 then ({ s with mgmt := { s.mgmt with verified := false } } : State).mailDone 4 0
    else ({ s with mgmt := { s.mgmt with verified := true } } : State).mailDone 0 0
  else if op = opFwActivate then
    if !s.mgmt.verified then s.mailDone 2 0
    else if flash then s.mailDone 5 0
    else if s.bothAlive then (s.activateBoth version).mailDone 0 0
    else if bit (s.ensWord 0) 0 then s.activateAlone version
    else s.mailDone 7 0
  else s.updateEnd.mailDone 0 0

/-- MAILBOX_COMMAND_COMPLETE: the running command completes (R415, R416); an image that is put in service has `version`. -/
def execMailboxCommandComplete (outcome version : Nat) (s : State) : Out :=
  if !s.on F.ENS_STATUS_BUSY then .next s
  else
    let s1 : State := { s with mgmt := { s.mgmt with flash := none } }
    .next (s1.mailRun (s.getF F.ENS_CMD_OP) outcome version)

/-! SPDM and DOE (R409) -/

/-- A message answer. -/
def State.msg (s : State) (code : Nat) (d : List Nat) : State := { s with reply := some (.message code d) }

/-- A request reaches the responder: over a PF's DOE mailbox (`via` 0 to 3) once that port answers configuration, or over MCTP while an Ensign is active. -/
def State.spdmHeard (s : State) (via : Nat) : Bool := if via < 4 then s.ensBooted else s.activeEns.isSome

/-- A response, counted. -/
def State.spdmOk (s : State) (code : Nat) (d : List Nat) : State := (s.countF F.SEC_SPDM_REQS_COUNT 1).msg code d

/-- An ERROR response with its ErrorCode, counted as an answer and as an error. -/
def State.spdmErr (s : State) (code : Nat) : State :=
  (((s.countF F.SEC_SPDM_REQS_COUNT 1).countF F.SEC_SPDM_ERRS_COUNT 1).raiseBit pgSec 9).msg 0x7F [code]

/-- The answer of a request that needs the key: Busy while SCAN is CLEARING, Unspecified while no key is loaded. -/
def State.needKey (s : State) (k : State → State) : State :=
  if s.getF F.SEC_STATUS_SCAN = scanClearing then s.spdmErr 3
  else if !s.on F.SEC_STATUS_KEY_LOADED then s.spdmErr 5
  else k s

def bytesOf (l : List Byte) : List Nat := l.map BitVec.toNat

/-- GET_VERSION: SPDM 1.2. -/
def execGetVersion (via : Nat) (s : State) : Out :=
  if s.spdmHeard via then .next (s.spdmOk 0x04 [0x12]) else .next s
/-- GET_CAPABILITIES: certificates, challenge, and measurements with signature. -/
def execGetCapabilities (via : Nat) (s : State) : Out :=
  if s.spdmHeard via then .next (s.spdmOk 0x61 [0x02 + 0x04 + 0x10]) else .next s
/-- NEGOTIATE_ALGORITHMS: ECDSA over P-384 with SHA-384. -/
def execNegotiateAlgorithms (via : Nat) (s : State) : Out :=
  if s.spdmHeard via then .next (s.spdmOk 0x63 [0x80, 0x02]) else .next s
/-- GET_DIGESTS: the digest of slot 0. -/
def execGetDigests (via : Nat) (s : State) : Out :=
  if s.spdmHeard via then .next (s.spdmOk 0x01 (0x01 :: bytesOf Config.certDigest)) else .next s
/-- GET_CERTIFICATE: a portion of the chain of slot 0. -/
def execGetCertificate (via slot off len : Nat) (s : State) : Out :=
  if !s.spdmHeard via then .next s
  else if slot ≠ 0 then .next (s.spdmErr 1)
  else .next (s.spdmOk 0x02 (bytesOf ((Config.certChain.drop off).take len)))

/-- A signature over a nonce; its value is free. -/
def State.sign (s : State) : State × List Nat :=
  let g := s.takeFree
  (g.2, bytesOf (Config.signature g.1))

/-- CHALLENGE: signed with the identity key; the challenge answer carries slot and nonce. -/
def execChallenge (via slot nonce : Nat) (s : State) : Out :=
  if !s.spdmHeard via then .next s
  else if slot ≠ 0 then .next (s.spdmErr 1)
  else .next (s.needKey (fun s => let g := s.sign; g.1.spdmOk 0x03 (slot :: nonce :: g.2)))

/-- The measurement blocks. -/
def State.measurement (s : State) (k : Nat) : List Nat :=
  if k = 1 then
    let e := s.getF F.G_REL_STATUS_ACTIVE
    bytesOf (Config.imageDigest (s.getF (F.ENS_FWVER_VERSION e)) (s.getF (F.ENS_FWVER_SLOT e)))
  else if k = 2 then bytesOf Config.overlayDigest
  else [(s.word 0x100).toNat, (s.word 0x104).toNat, s.getF F.G_CORES_ACTIVE]

/-- GET_MEASUREMENTS: the number of blocks (index 0), one, or all (0xFF); signed when asked. -/
def execGetMeasurements (via index : Nat) (signed : Bool) (nonce : Nat) (s : State) : Out :=
  if !s.spdmHeard via then .next s
  else
    let d := if index = 0 then some [3] else if index = 0xFF then some (s.measurement 1 ++ s.measurement 2 ++ s.measurement 3)
      else if index ≤ 3 then some (s.measurement index) else none
    match d with
    | none => .next (s.spdmErr 1)
    | some d =>
      if signed then .next (s.needKey (fun s => let g := s.sign; g.1.spdmOk 0x60 (d ++ nonce :: g.2)))
      else .next (s.spdmOk 0x60 d)

/-- DOE_DISCOVERY: the two protocols of a PF's mailbox, by index: discovery, then CMA/SPDM; the last answers the next index as 0. -/
def execDoeDiscovery (port index : Nat) (s : State) : Out :=
  if 3 < port ∨ !s.ensBooted then .next s
  else .next (s.msg 0 (if index = 0 then [0x0001, 0, 1] else if index = 1 then [0x0001, 1, 0] else [0xFFFF, 0, 0]))

/-! MCTP and I3C addresses (R435 to R437) -/

/-- SET_ENDPOINT_ID: assigned by the bus owner; the reserved IDs are refused. -/
def execSetEndpointId (eid : Nat) (s : State) : Out :=
  if s.activeEns.isNone then .next s
  else if eid < 8 ∨ 0xFE < eid then .next (s.msg 2 [])
  else .next (({ s with mgmt := { s.mgmt with eid := eid } } : State).msg 0 [eid])

/-- ENTDAA: the target takes a dynamic address where it has none. -/
def execEntdaa (addr : Nat) (s : State) : Out :=
  if !s.power.vsb || s.mgmt.dynAddr.isSome then .next s
  else .next { s with mgmt := { s.mgmt with dynAddr := some (addr % 128) } }

/-- SETDASA: the same, addressed by the static address 0x4C + I3C_ADDR. -/
def execSetdasa (static addr : Nat) (s : State) : Out :=
  if !s.power.vsb || s.mgmt.dynAddr.isSome || static != 0x4C + s.power.strap then .next s
  else .next { s with mgmt := { s.mgmt with dynAddr := some (addr % 128) } }

/-! PLDM (R438 to R440) -/

/-- A numeric sensor's reading, where R438 names it; sensor 27 is a composite of six states. -/
def State.sensor (s : State) (n : Nat) : Option (List Nat) :=
  let t (k : Nat) : Nat := k - 10
  if n = 0 ∨ 27 < n then none
  else if n = 1 then some [s.getF F.ORB_EN_NORM_E * 100 / s.getF F.ORB_PERIOD_PERIOD_US]
  else if n ≤ 5 then some [([s.getF F.PWR_VIN_01_F0, s.getF F.PWR_VIN_01_F1, s.getF F.PWR_VIN_23_F2, s.getF F.PWR_VIN_23_F3] : List Nat).getD (n - 2) 0]
  else if n ≤ 9 then some [([s.getF F.PWR_IIN_01_F0, s.getF F.PWR_IIN_01_F1, s.getF F.PWR_IIN_23_F2, s.getF F.PWR_IIN_23_F3] : List Nat).getD (n - 6) 0]
  else if n ≤ 13 then some [s.getF (F.THM_MAX_A (t n))]
  else if n ≤ 17 then some [s.getF (F.THM_MAX_B (n - 14))]
  else if n ≤ 25 then some [s.getF (if (n - 18) % 2 = 0 then F.THM_CAP_A ((n - 18) / 2) else F.THM_CAP_B ((n - 18) / 2))]
  else if n = 26 then some [s.getF F.THM_COOL_DUTY_DUTY]
  else some [b2n (s.ensAlive 0), b2n (s.ensAlive 1), b2n (s.getF F.G_REL_STATUS_STEWARDLESS != 0),
    b2n (s.getF F.G_REL_STATUS_TOWER_LOST != 0), b2n (s.on F.THM_STATUS_TRIP), b2n (s.on F.ORB_EN_STATUS_PCAP)]

/-- GET_SENSOR_READING. A power between two whole watts reads as either: the spec does not say which. -/
def execGetSensorReading (sensor : Nat) (s : State) : Out :=
  if s.activeEns.isNone then .next s
  else match s.sensor sensor with
    | none => .next (s.msg 0x80 [])
    | some d =>
      if sensor = 1 && s.getF F.ORB_EN_NORM_E * 100 % s.getF F.ORB_PERIOD_PERIOD_US != 0 then
        let g := s.takeFree
        .next (g.2.msg 0 [d.headD 0 + Config.freeValue g.1 % 2])
      else .next (s.msg 0 d)

/-- Arming by the Ensign of entry n with ORB_PPL as its target (R439). A stamp that denotes a number below 0 is written modulo 2^64, as the registers hold it (DESIGN CHOICE, log entry 159). -/
def State.armCap (s : State) (n watts : Nat) (a : Int) : State :=
  let orbit := (a % 2 ^ 64).toNat
  let s1 := ((s.setF (F.ORB_ACT_ORBIT_LO_ORBIT n) (orbit % 2 ^ 32)).setF (F.ORB_ACT_ORBIT_HI_ORBIT n) (orbit / 2 ^ 32)).setF
    (F.ORB_ACT_TARGET_OFFSET n) (F.ORB_PPL_WATTS.addr / 4)
  ((s1.setF (F.ORB_ACT_VALUE_VALUE n) watts).setF (F.ORB_ACT_MASK_MASK n) 0xFFFFFFFF).setF (F.ORB_ACT_CTRL_ARM n) 1
    |>.setF (F.ORB_ACT_CTRL_STATE n) 1

/-- The orbit of an action entry. -/
def State.actOrbit (s : State) (n : Nat) : Nat := s.getF (F.ORB_ACT_ORBIT_LO_ORBIT n) + 2 ^ 32 * s.getF (F.ORB_ACT_ORBIT_HI_ORBIT n)

/-- SET_POWER_CAP: effecter 1 (R438, R439). -/
def execSetPowerCap (watts : Nat) (s : State) : Out :=
  if s.activeEns.isNone then .next s
  else if watts < 1200 ∨ 3200 < watts then .next (s.msg 2 [])
  else if s.mgmt.capOrbit = 0 then .next ((s.store F.ORB_PPL_WATTS.addr 0xFFF (BitVec.ofNat 32 watts) false).msg 0 [])
  else
    let a := stampOrbit s.mgmt.capOrbit s.orbit
    let mine := [56, 57, 58, 59, 60, 61, 62, 63]
    let s1 := (mine.filter (fun n => s.on (F.ORB_ACT_CTRL_ARM n) && decide ((s.actOrbit n : Int) = a % 2 ^ 64))).foldl (fun s n =>
      (s.setF (F.ORB_ACT_CTRL_ARM n) 0).setF (F.ORB_ACT_CTRL_STATE n) 0) s
    match mine.find? (fun n => !s1.on (F.ORB_ACT_CTRL_ARM n)) with
    | none => .next (s1.msg 4 [])
    | some n =>
      let s2 := s1.armCap n watts a
      .next (({ s2 with mgmt := { s2.mgmt with capOrbit := 0 } } : State).msg 0 [])

/-- SET_CAP_ORBIT: effecter 2. -/
def execSetCapOrbit (stamp : Nat) (s : State) : Out :=
  if s.activeEns.isNone then .next s
  else if 2 ^ 32 ≤ stamp then .next (s.msg 2 [])
  else .next (({ s with mgmt := { s.mgmt with capOrbit := stamp } } : State).msg 0 [])

/-- SET_MIN_DUTY: effecter 3. -/
def execSetMinDuty (percent : Nat) (s : State) : Out :=
  if s.activeEns.isNone then .next s
  else if 100 < percent then .next (s.msg 2 [])
  else .next ((s.setF F.THM_COOL_CFG_MIN_DUTY percent).msg 0 [])

/-- REQUEST_UPDATE: refused with ALREADY_IN_UPDATE_MODE while an update runs (R440). -/
def execRequestUpdate (s : State) : Out :=
  if s.activeEns.isNone then .next s
  else if s.mgmt.update.isSome then .next (s.msg 0x81 [])
  else .next (({ s with mgmt := { s.mgmt with update := some true, verified := false }, flash := { s.flash with image1 := [] } } : State).msg 0 [])

/-- ACTIVATE_FIRMWARE: the steps of R417 with ALONE taken as 0, once the update agent's image has verified (R440). -/
def execActivateFirmware (verified : Bool) (version : Nat) (s : State) : Out :=
  if s.activeEns.isNone then .next s
  else if s.mgmt.update ≠ some true then .next (s.msg 0x80 [])
  else if !verified then .next (s.msg 0x85 [])
  else if s.bothAlive then .next ((s.activateBoth version).msg 0 [])
  else .next (s.msg 1 [])

/-! The flash lock (R442) -/

/-- FLASH_LOCK_TIMEOUT: 100 ms without a transfer. -/
def execFlashLockTimeout (die : Nat) (s0 : State) : Out :=
  match s0.mgmt.flash with
  | none => .next s0
  | some (d, t) =>
    if d ≠ die then .next s0
    else
      let s := s0.advanceTo (t + 10000000)
      .next { s with mgmt := { s.mgmt with flash := none } }

end Sys2Proof.Machine
end

