-- ==== Sys2Proof/Machine/Timebase.lean ====
section
/-! DEFINITION. The service slice and its calibrations, seconds, PPS_IN and snapshots (R56 to R61). -/
namespace Sys2Proof.Machine

/-! The service slice (R56, R57) -/

/-- S in CLK_ORB cycles. -/
def State.sliceLen (s : State) : Nat := 100 * min (s.getF F.ORB_SERVICE_LEN_US) (s.getF F.ORB_PERIOD_PERIOD_US / 4)

/-- SERVICE_SLICE_START: the slice opens S before the orbit's end (R56). -/
def execServiceSliceStart (s0 : State) : Out :=
  match s0.orb.tickAt with
  | none => .next s0
  | some t =>
    if s0.sliceLen = 0 || s0.orb.sliceOpen then .next s0
    else
      let s := s0.advanceTo (t + s0.period - s0.sliceLen)
      .next { s with orb := { s.orb with sliceOpen := true } }

/-- The active Ensign may start a calibration of at most `most` cycles now (R57). -/
def State.mayCalibrate (s : State) (ens most : Nat) : Bool :=
  s.orb.sliceOpen && s.activeEns == some ens &&
    (match s.orb.tickAt with | some t => decide (s.now + most ≤ t + s.period) | none => false)

/-- A calibration runs until `cycles` have passed. -/
def State.calibrate (s : State) (kind target cycles : Nat) : State :=
  { s with orb := { s.orb with calibs := s.orb.calibs ++ [⟨kind, target, s.now + cycles⟩] } }

/-- LINK_PHASE_RECENTRE: one ACTIVE link, both directions, at most 12 µs. -/
def execLinkPhaseRecentre (ens link cycles : Nat) (s : State) : Out :=
  if s.mayCalibrate ens 1200 && s.lnk link == linkActive then .next ((s.calibrate 0 link (min cycles 1200)).toLnk link lnkRecentre)
  else .next s

/-- HALYARD_TSV_RECENTRE: the 17 ports of one row, at most 6 µs. -/
def execHalyardTsvRecentre (ens row cycles : Nat) (s : State) : Out :=
  if s.mayCalibrate ens 600 && decide (row < 64) then
    let ports := ((List.range 17).map (17 * row + ·)).filter (fun i => s.hal i == halActive)
    .next (ports.foldl (fun s i => s.setPgState (pgHyp i) halRecentre) (s.calibrate 1 row (min cycles 600)))
  else .next s

/-- THERMAL_SENSOR_TRIM: the sensors of one tower, at most 3 µs. -/
def execThermalSensorTrim (ens tower cycles : Nat) (s : State) : Out :=
  if s.mayCalibrate ens 300 && decide (tower < 4) then .next (s.calibrate 2 tower (min cycles 300)) else .next s

/-- CALIBRATION_COMPLETE: a calibration has run to completion and its resource is in service again; a halyard port in `failed` enters FAILED (R57, R373). -/
def execCalibrationComplete (kind target : Nat) (failed : List Nat) (s0 : State) : Out :=
  match s0.orb.calibs.find? (fun c => c.kind == kind && c.target == target) with
  | none => .next s0
  | some c =>
    let s := s0.advanceTo c.until_
    let s1 : State := { s with orb := { s.orb with calibs := s.orb.calibs.erase c } }
    if kind = 0 then (if s1.lnk target = lnkRecentre then .next (s1.toLnk target linkActive) else .next s1)
    else if kind = 1 then
      let ports := ((List.range 17).map (17 * target + ·)).filter (fun i => s1.hal i == halRecentre)
      .next (ports.foldl (fun s i =>
        if failed.contains i then (s.portToFailed i).logRecord 10 0 (siteNum i) 0 0 else s.setPgState (pgHyp i) halActive) s1)
    else .next s1

/-! Seconds (R58 to R60) -/

/-- A second edge: the count adds one, or takes a pending load; TIM_NS restarts. -/
def State.secondEdge (s : State) (ns : Nat) : State :=
  if s.on F.TIM_CTRL_SEC_LOAD then
    let n := s.getF F.TIM_SEC_SET_HI_SEC * 2 ^ 32 + s.getF F.TIM_SEC_SET_LO_SEC
    (({ s with orb := { s.orb with sec := BitVec.ofNat 64 n, ns := ns } } : State).setF F.TIM_CTRL_SEC_LOAD 0).setF F.TIM_FLAGS_SEC_LOADED 1
  else { s with orb := { s.orb with sec := s.orb.sec + 1, ns := ns } }

/-- Cycles until TIM_NS reaches a value. -/
def State.nsLeft (s : State) (ns : Nat) : Nat := (ns - s.orb.ns) / 10

/-- NS_ROLLOVER: TIM_NS reaches 1,000,000,000 with PPS_EN at 0 (R58). -/
def execNsRollover (s : State) : Out :=
  if s.on F.TIM_CTRL_PPS_EN then .next s
  else
    let s1 := s.advance (s.nsLeft 1000000000)
    .next (s1.secondEdge (s1.orb.ns - 1000000000))

/-- PPS_MISS: TIM_NS reaches 1,000,100,000 without an edge (R59). -/
def State.ppsMiss (s0 : State) : State :=
  let s := s0.advance (s0.nsLeft 1000100000)
  let s1 := (s.secondEdge (s.orb.ns - 1000000000)).setF F.TIM_FLAGS_PPS_MISS 1
  let n := s1.orb.ppsMisses + 1
  if n < 3 then { s1 with orb := { s1.orb with ppsMisses := n } }
  else ({ s1 with orb := { s1.orb with ppsMisses := 0 } } : State).setF F.TIM_STATUS_SEC_SRC 1

def execPpsMiss (s : State) : Out := if s.on F.TIM_CTRL_PPS_EN then .next s.ppsMiss else .next s

/-- PPS_EDGE: a rising edge on PPS_IN, `dt` cycles after the previous command; a miss that falls before it comes first (R59). -/
def execPpsEdge (dt : Nat) (s0 : State) : Out :=
  if !s0.on F.TIM_CTRL_PPS_EN then .next (s0.advance dt)
  else
    let t := s0.now + dt
    let s := (if decide (1000100000 ≤ s0.orb.ns + 10 * dt) then s0.ppsMiss else s0).advanceTo t
    if s.getF F.TIM_STATUS_SEC_SRC ≠ 2 then
      let s1 := ((s.secondEdge 0).setF F.TIM_FLAGS_PPS_ACQ 1).setF F.TIM_STATUS_SEC_SRC 2
      .next { s1 with orb := { s1.orb with ppsAt := s1.now, ppsMisses := 0 } }
    else if 999900000 ≤ s.orb.ns then
      let s1 := (s.secondEdge 0).setF F.TIM_PPS_CYCLES_CYCLES (min (s.now - s.orb.ppsAt) (2 ^ 32 - 1))
      .next { s1 with orb := { s1.orb with ppsAt := s1.now, ppsMisses := 0 } }
    else .next (s.setF F.TIM_FLAGS_PPS_EARLY 1)

/-- SEC_LOAD: a write of 1 to TIM_CTRL.SEC_LOAD (R60). -/
def execSecLoad (who : Requester) (value : Word) (s : State) : Out :=
  if bit value.toNat 1 then trigger s who F.TIM_CTRL_SEC_LOAD.addr 2 value (fun s => s.setF F.TIM_CTRL_SEC_LOAD 1) else .next s

/-- TIMEBASE_SNAPSHOT_READ: a read of TIM_ORBIT_LO latches the other six for its requester (R61). -/
def execTimebaseSnapshotRead (who : Requester) (s : State) : Out :=
  let o := s.orb
  let x : TimLatch := ⟨s.orbit / 2 ^ 32, o.sec.toNat % 2 ^ 32, o.sec.toNat / 2 ^ 32, o.ns, o.tickSec.toNat % 2 ^ 32, o.tickNs⟩
  .next { s with
    reply := some (.word (BitVec.ofNat 32 s.orbit))
    orb := { o with latches := tabPut o.latches (reqIndex who) x } }

end Sys2Proof.Machine
end

