-- ==== Sys2Proof/Machine/Registers.lean ====
section
/-! DEFINITION. Accesses to registers: what a write leaves alone, what follows it at once, the writes with rows of their own, and reads (R10 to R13, R24, R48, R50, R61, R62, R93, R112, R171, R193, R240, R241, R285, R305, R307, R309, R315, R318 to R320, R331, R337, R338, R392, R395 to R405, R415). -/
namespace Sys2Proof.Machine

/-! What a write leaves alone -/

/-- All bits of a register where a condition holds. -/
def allIf (c : Bool) : Nat := if c then 0xFFFFFFFF else 0

/-- The site's core is in a voyage under way: LOADED, RUNNING or BERTHED. -/
def State.sailing (s : State) (i : Nat) : Bool := decide (coreLoaded ≤ s.coreSt i) && decide (s.coreSt i ≤ coreBerthed)

/-- A word of ORB_EN_ORDER is a permutation of the three consumers (R305). -/
def orderOk (v : Nat) : Bool :=
  decide (bits v 0 2 < 3) && decide (bits v 2 2 < 3) && decide (bits v 4 2 < 3) &&
  bits v 0 2 != bits v 2 2 && bits v 2 2 != bits v 4 2 && bits v 0 2 != bits v 4 2

/-- A partition other than in ACTIVE. -/
def State.notActive (s : State) (p : Nat) : Bool := s.pgState (pgPrt p) != prtActive

/-- Ring e is within the reach of the writer of a PG_EVT_ROUTE (R331). -/
def State.ringReach (s : State) (who : Requester) (e : Nat) : Bool :=
  s.mgmtView who || (match who with | .fn f => s.fnReach f (pgEvt e) true | _ => false)

/-- Bits of DIE_ECL_REL that name sites of cause FUSED or TOWER (R376). -/
def State.fixedEcl (s : State) (d index : Nat) : Nat :=
  ((List.range 32).filter (fun b =>
    decide (32 * index + b < 272) &&
      (let c := s.getF (F.CORE_ECL_CAUSE (272 * d + 32 * index + b)); c == 1 || c == 7))).foldl (fun w b => w + 2 ^ b) 0

/-- Bits of the common header that a write of v leaves alone (R319, R331, R403). -/
def State.blockedHeader (s : State) (who : Requester) (k : PageKind) (n pg off v : Nat) : Nat :=
  if off = 0x30 then (if s.on (F.PG_LOCK_HOLD pg) && !bit v 0 then 1 else 0)
  else if off = 0x18 then allIf (!s.ringReach who (v % 64))
  else if off = 0x8 ∧ k = .partition then (if s.notActive n then 0 else 8)
  else 0

/-- Bits of a register that a write of v leaves alone in the present state. -/
def State.blocked (s : State) (who : Requester) (k : PageKind) (n pg off v : Nat) : Nat :=
  if off < 0x100 then s.blockedHeader who k n pg off v
  else match k with
    | .orbit =>
      if off = 0x414 then allIf (!orderOk v)
      else if 0x800 ≤ off then
        let e := (off - 0x800) / 0x20
        allIf (s.on (F.ORB_ACT_CTRL_ARM e) ||
          (decide (56 ≤ e) && (match who with | .ensign b => s.activeEns != some (b2n b) | _ => true)))
      else 0
    | .power => if off = 0x128 then allIf (decide (bits v 0 8 < 10) || decide (bits v 8 8 ≤ bits v 0 8)) else 0
    | .thermal =>
      if off = 0x140 then Nat.lor (allIf (decide (bits v 8 8 ≤ bits v 0 8))) (if 100 < bits v 16 7 then 0x7F0000 else 0) else 0
    | .reliability =>
      if off = 0x138 then allIf (decide (s.getF F.G_FLIP_CTRL_UNIT % 2 = 1) && (siteOfNum (v % 2 ^ 16)).isNone) else 0
    | .mailbox => allIf (s.on F.ENS_STATUS_BUSY)
    | .die =>
      if off = 0x240 then allIf (!s.steeredBy who n)
      else if 0x340 ≤ off ∧ off < 0x364 then
        Nat.lor (s.fixedEcl n ((off - 0x340) / 4)) (if off = 0x360 then 0xFFFF0000 else 0)
      else 0
    | .queue =>
      let j := (off - 0x800) / 0x20
      if s.quOn (64 * n + j) then
        (if off % 0x20 < 8 then 0xFFFFFFFF else if off % 0x20 = 8 then 0x3E else 0)
      else 0
    | .event =>
      if s.on (F.EVT_CFG_EN n) then
        (if off = 0x104 ∨ off = 0x108 then 0xFFFFFFFF else if off = 0x100 then 0x7E else 0)
      else 0
    | .cluster =>
      if off = 0x180 then allIf ((s.sitesOfCluster n).any s.inVoyage)
      else if off = 0x280 then allIf (!s.steeredBy who (n / 32))
      else 0
    | .core =>
      let st := s.coreSt n
      let ended := st == coreIdle || st == coreEnded
      if 0x180 ≤ off ∧ off < 0x200 then allIf (!(ended || st == coreFaulted))
      else if 0x108 ≤ off ∧ off ≤ 0x120 then allIf (!ended)
      else if off = 0x200 then allIf (decide (bits v 16 5 < 4))
      else 0
    | .halyard =>
      if (0x140 ≤ off ∧ off < 0x150) ∨ off = 0x700 ∨ 0x800 ≤ off then
        allIf (s.sailing n || off == 0x800 || off == 0x804)
      else 0
    | .hostPort =>
      if 0x200 ≤ off ∧ off < 0x300 then
        let f := 64 * n + (off - 0x200) / 4
        allIf ((match s.partOfFn f with | some p => !s.notActive p | none => false) || (bit v 0 && !s.notActive (bits v 1 4)))
      else 0
    | .partition =>
      if off = 0x400 ∨ off = 0x404 ∨ off = 0x430 ∨ off = 0x434 ∨ off = 0x448 ∨ off = 0x44C ∨ off = 0x450 then allIf (s.on (F.PRT_XCTRL_EN n))
      else if off = 0x440 then allIf (s.on (F.PRT_CEN_OP_BUSY n))
      else 0
    | .moonlet =>
      if 0x200 ≤ off ∧ off < 0x300 then
        if s.on (F.MNL_WIN_CTRL_EN ((off - 0x200) / 0x10)) then (if off % 0x10 = 0 then 0x1E else 0xFFFFFFFF) else 0
      else 0
    | _ => 0

/-! What follows a write at once -/

/-- What a plain write brings with it: setpoints after EXTRA (R307), the copy of SHAPE, under which every quadrant keeps its tiles and format records (R93, R112; DESIGN CHOICE, log entry 167: the spec does not say what becomes of them), the source of seconds (R59), a disabled ring, HYP_XSET.VALID (R193), a plan of no entries (R309), the lead of a rise of FSEL (R298). `s0` is the state before it. -/
def State.afterWrite (s0 s : State) (k : PageKind) (n pg off : Nat) : State :=
  match k with
  | .timebase =>
    if off = 0x100 ∧ s0.on F.TIM_CTRL_PPS_EN ≠ s.on F.TIM_CTRL_PPS_EN then
      ({ s with orb := { s.orb with ppsMisses := 0 } } : State).setF F.TIM_STATUS_SEC_SRC (b2n (s.on F.TIM_CTRL_PPS_EN))
    else s
  | .orbit => if off = 0x414 then s.showOrder (s0.govTrim 1) else s
  | .thermal =>
    if 0x200 ≤ off ∧ off < 0x300 ∧ off % 0x10 = 0xC ∧ (s.word (pg + off)).toNat % 2 ^ 16 = 0 then
      s.setWord (pg + off) (BitVec.ofNat 32 ((s.word (pg + off)).toNat % 2 ^ 17))
    else s
  | .die => if off = 0x240 then s.lead n else s
  | .event => if off = 0x100 ∧ s0.on (F.EVT_CFG_EN n) ∧ !s.on (F.EVT_CFG_EN n) then s.ringOff n else s
  | .cluster =>
    if off = 0x180 then (s.sitesOfCluster n).foldl (fun s i => s.setF (F.CORE_MX_STATUS_SHAPE i) (s.getF (F.CLU_MXCFG_SHAPE n))) s
    else if off = 0x280 ∧ s0.getF (F.CLU_PSTATE_EXTRA n) ≠ s.getF (F.CLU_PSTATE_EXTRA n) then
      s.aim n (s.vselFor n (max (s.nextStep (n / 32)) (s.getF (F.DIE_FREQ_CUR (n / 32)))))
    else s
  | .halyard =>
    if 0x140 ≤ off ∧ off < 0x150 then
      s.setF (F.HYP_XSET_VALID n ((off - 0x140) / 4)) (b2n (xsetValid (s.word (pg + off)).toNat))
    else s
  | _ => s

/-! Writes with rows of their own -/

/-- The state that a meaning answers; every meaning used here answers one. -/
def nextOr (o : Out) (s : State) : State :=
  match o with
  | .next t => t
  | _ => s

/-- Bits of a register whose write has a row of its own, for a written word v. -/
def rowBits (k : PageKind) (off v : Nat) : Nat :=
  if off = 0x14 then 0xFFFFFFFF
  else if off = 0x8 then
    (match k with | .link => 5 | .partition => 7 | .cluster | .core => 4 | _ => 0)
  else match k with
    | .timebase => if off = 0x100 then 2 else 0
    | .orbit =>
      if off = 0x100 ∨ off = 0x128 ∨ off = 0x400 then 0xFFFFFFFF
      else if 0x800 ≤ off ∧ off % 0x20 = 0x14 then 1 else 0
    | .bringup => if off = 0x10C then 0x1F else 0
    | .reliability =>
      if off = 0x108 then 1
      else if off = 0x130 then allIf (bit v 0)
      else if off = 0x140 then (if bit v 8 then (if v % 4 < 3 then 0xFFFFFFFF else 0x100) else 0)
      else 0
    | .security => if off = 0x104 then 1 else 0
    | .mailbox => if off = 0x100 then allIf (bit v 31) else 0
    | .die => if (0x300 ≤ off ∧ off < 0x324) ∨ (0x380 ≤ off ∧ off < 0x3A4) ∨ 0x800 ≤ off then 0xFFFFFFFF else 0
    | .queue => if off % 0x20 = 0x18 then 2 ^ 31 else 0
    | .event => if off = 0x10C then 0xFFFFFFFF else 0
    | .cluster => if off = 0x204 ∨ off = 0x2C0 then 3 else 0
    | .core => if off = 0x104 then 7 else if off = 0x124 then 3 else 0
    | .link => if off = 0x10C then 3 else 0
    | .hostPort => if off = 0x100 then v % 2 else 0
    | .partition =>
      if off = 0x100 ∨ off = 0x104 ∨ off = 0x454 then 0xFFFFFFFF
      else if off = 0x40C then allIf (bit v 0)
      else if off = 0x440 then allIf (bit v 3)
      else 0
    | _ => 0

/-- A requester of the management view whose writes a die's controls accept where it has a steward: the one that the part's own writes by actions are taken from. -/
def State.partWriter (s : State) (a : Nat) : Requester :=
  let d := match pageKind (a / 0x1000) with
    | some (.die, n) => n
    | some (.cluster, n) => n / 32
    | _ => 0
  .ensign (bit (s.getF F.G_REL_STATUS_STEWARD) d)

/-- COUNT_LOAD: a write of 1 to ORB_CMD.COUNT_LOAD makes a load of the orbit count pending (R46). -/
def execCountLoad (who : Requester) (value : Word) (s : State) : Out :=
  if bit value.toNat 0 then
    trigger s who F.ORB_CMD_COUNT_LOAD.addr 1 value (fun s => { s with orb := { s.orb with loadPending := true } })
  else .next s

/-- STATE of an action entry (R65). -/
def actIdle : Nat := 0
def actArmed : Nat := 1
def actFired : Nat := 2
def actFiredLate : Nat := 3
def actBadTgt : Nat := 4

/-- The writer may write action entry e (R48). -/
def State.mayAct (s : State) (who : Requester) (e : Nat) : Bool :=
  decide (e < 64) && (decide (e < 56) || (match who with | .ensign b => s.activeEns == some (b2n b) | _ => false))

/-- ACTION_ARM: a write of ORB_ACT_CTRL.ARM = 1 (R48, R49); an armed entry stays as it is, and so does one of the last eight that another than the active Ensign writes. A function's write that does not reach the page is counted (R62). -/
def execActionArm (who : Requester) (entry : Nat) (value : Word) (s : State) : Out :=
  if decide (entry < 64) && bit value.toNat 0 then
    trigger s who (F.ORB_ACT_CTRL_ARM entry).addr 1 value (fun s =>
      if !s.mayAct who entry || s.on (F.ORB_ACT_CTRL_ARM entry) then s
      else (s.setF (F.ORB_ACT_CTRL_ARM entry) 1).setF (F.ORB_ACT_CTRL_STATE entry) actArmed)
  else .next s

/-- ACTION_DISARM: a write of ARM = 0; an entry not armed keeps its STATE (R50). -/
def execActionDisarm (who : Requester) (entry : Nat) (value : Word) (s : State) : Out :=
  if decide (entry < 64) && !bit value.toNat 0 then
    trigger s who (F.ORB_ACT_CTRL_ARM entry).addr 1 value (fun s =>
      if s.mayAct who entry && s.on (F.ORB_ACT_CTRL_ARM entry) then (s.setF (F.ORB_ACT_CTRL_ARM entry) 0).setF (F.ORB_ACT_CTRL_STATE entry) actIdle else s)
  else .next s

/-- Outcome of a shutdown that no row gives an outcome for: a free value. -/
def freeShutdown (who : Requester) (value : Word) (s : State) : Out :=
  let g := s.takeFree
  execShutdown who value (Config.freeShutdown g.1) g.2

/-- The census operation of a written PRT_CEN_OP with GO at 1; an OP of 7 is ignored, and the operation is the one the register holds. -/
def censusWrite (who : Requester) (part : Nat) (v : Word) (s : State) : Out :=
  let value : Word := if v.toNat % 8 = 7 then BitVec.ofNat 32 (setBits v.toNat 0 3 (s.getF (F.PRT_CEN_OP_OP part))) else v
  if value.toNat % 8 = 0 then execCensusRead who part value s
  else if value.toNat % 8 = 1 then execCensusInc who part value s
  else if value.toNat % 8 = 2 then execCensusDec who part value s
  else if value.toNat % 8 = 3 then execCensusSet who part value s
  else if value.toNat % 8 = 4 then execCensusLock who part value s
  else if value.toNat % 8 = 5 then execCensusDecunlock who part value s
  else if value.toNat % 8 = 6 then execCensusUnlock who part value s
  else .next s

/-- The writes of PG_CTRL that have rows of their own. -/
def ctrlRows (who : Requester) (k : PageKind) (n : Nat) (v : Word) : List (State → Out) :=
  match k with
  | .link =>
    [fun s => if bit v.toNat 0 then (if s.on (F.PG_CTRL_ENABLE (pgLnk n)) then .next s else execLinkEnable who n v s)
      else (if s.on (F.PG_CTRL_ENABLE (pgLnk n)) then execLinkDisable who n v s else .next s)]
  | .partition => [execPartitionEnable who n v, execQuiesceReq who n v, execPartitionReset who n v]
  | .cluster => [execClusterReset who n v]
  | .core => [execCoreReset who n v]
  | _ => []

/-- The writes with rows of their own that a write of v to an address holds, in rising order of their bits; ORB_CTRL stands apart. -/
def rowsOfWrite (who : Requester) (k : PageKind) (n pg off : Nat) (v : Word) : List (State → Out) :=
  if off = 0x14 then [execEventEnableWrite who (pg / 0x1000) v]
  else if off = 0x8 then ctrlRows who k n v
  else match k with
    | .timebase => if off = 0x100 then [execSecLoad who v] else []
    | .orbit =>
      if off = 0x128 then [execCountLoad who v]
      else if off = 0x400 then [execEnergyCtrlWrite who v]
      else if 0x800 ≤ off ∧ off % 0x20 = 0x14 then [execActionArm who ((off - 0x800) / 0x20) v, execActionDisarm who ((off - 0x800) / 0x20) v]
      else []
    | .bringup =>
      if off = 0x10C then
        [fun s => let g := s.takeFree; execResetAll who v (Config.freeBoot g.1) g.2, freeShutdown who v, execForceCold who v, execEnsResetA who v, execEnsResetB who v]
      else []
    | .reliability =>
      if off = 0x108 then [execRefclkSelect who v]
      else if off = 0x130 then [execTestFlipArm who v]
      else if off = 0x140 then [execBistAll who v, execBistRow who v, execBistLink who v]
      else []
    | .security => if off = 0x104 then [execScanOpenRequest who v] else []
    | .mailbox =>
      if off = 0x100 ∧ bit v.toNat 31 then [fun s => trigger s who F.ENS_CMD_OP.addr 0x80000000 v (fun s => s.mailGo v.toNat)] else []
    | .die =>
      if 0x300 ≤ off ∧ off < 0x324 then [execDriverEclipse who n ((off - 0x300) / 4) v]
      else if 0x380 ≤ off ∧ off < 0x3A4 then [execPortFail who n ((off - 0x380) / 4) v]
      else if 0x800 ≤ off then [execBankRetire who n ((off - 0x800) / 4) v]
      else []
    | .queue => if off % 0x20 = 0x18 then [execQueueResume who (64 * n + (off - 0x800) / 0x20) v] else []
    | .event => if off = 0x10C then [execEventHeadAdvance who n v] else []
    | .cluster =>
      if off = 0x204 then [execInvalRo who n v, execWbAll who n v]
      else if off = 0x2C0 then [execAssign who n v, execRelease who n v]
      else []
    | .core =>
      if off = 0x104 then [execLocalStoreSplitChange who n v]
      else if off = 0x124 then (if bit v.toNat 0 then [execVoyageLaunch who n v] else [execVoyageAbort who n v])
      else []
    | .link => if off = 0x10C then [execRetrain who n v, execProbe who n v] else []
    | .hostPort => if off = 0x100 then [execMgmt who n v] else []
    | .partition =>
      if off = 0x100 ∨ off = 0x104 then [execPartitionRowsWrite who n (off == 0x104) v]
      else if off = 0x40C then [execXinv who n v]
      else if off = 0x440 then [censusWrite who n v]
      else if off = 0x454 then [execFreeTailAdvance who n v]
      else []
    | _ => []

/-- A write to any register but ORB_CTRL, by the bits in `mask`: the plain fields, what follows them, then the rows. A write of QUE_CFG that enables a queue is its row whole. -/
def State.writeReg (s : State) (who : Requester) (a mask : Nat) (v : Word) (atOnce : Bool) : State :=
  match regAt a with
  | none => s
  | some (k, n, _) =>
    let pg := a / 0x1000 * 0x1000
    let off := a % 0x1000
    let v1 := BitVec.ofNat 32 (Nat.lor (Nat.land v.toNat mask) (Nat.land (s.word a).toNat (0xFFFFFFFF - mask)))
    if k = .queue ∧ off % 0x20 = 8 ∧ 0x800 ≤ off ∧ bit v1.toNat 0 ∧ !s.quOn (64 * n + (off - 0x800) / 0x20) then
      nextOr (execQueueEnable who (64 * n + (off - 0x800) / 0x20) v1 s) s
    else
      let stop := Nat.lor (rowBits k off v1.toNat) (s.blocked who k n pg off v1.toNat)
      let s1 := s.store a (Nat.land mask (0xFFFFFFFF - stop)) v atOnce
      let s2 := State.afterWrite s s1 k n pg off
      if Nat.land mask (rowBits k off v1.toNat) = 0 then s2
      else (rowsOfWrite who k n pg off v1).foldl (fun s f => nextOr (f s) s) s2

/-! Reads -/

/-- Rows of a queue page's functions: the partition to which the functions of all its contexts are bound. -/
def State.queueOwner (s : State) (n : Nat) : Option Nat :=
  match s.partOfFn (s.quFn (64 * n)) with
  | none => none
  | some p => if (List.range 64).all (fun j => s.partOfFn (s.quFn (64 * n + j)) == some p) then some p else none

/-- OWNER and OWNED where the part sets them (R402). -/
def State.ownerOf (s : State) (k : PageKind) (n : Nat) : Option (Option Nat) :=
  match k with
  | .core | .halyard => some (s.partOfSite n)
  | .cluster => some (s.partOfRow (clusterGRow n))
  | .queue => some (s.queueOwner n)
  | .event => some (s.partOfFn (s.getF (F.EVT_CFG_FN n)))
  | .partition => some (some n)
  | _ => none

/-- The requester's latched snapshot (R61). -/
def State.latchOf (s : State) (who : Requester) : TimLatch := (tabGet s.orb.latches (reqIndex who)).getD ⟨0, 0, 0, 0, 0, 0⟩

/-- Engine and refresh tokens in use at a column (R206, R214). -/
def State.engTok (s : State) (i : Nat) : Nat := (s.port i).engTokens + b2n (s.port i).scrubbing.isSome
def State.refTok (s : State) (i : Nat) : Nat := (s.port i).refreshing.length

/-- A column's side has a half-layer die in DOUBLE (R193). -/
def State.doubleAt (s : State) (i : Nat) : Bool := (List.range 8).any (fun l => s.therm.double.contains (halfLayer i l))

/-- A register's word as it reads: a staged field reads the last value written (R11). -/
def State.shown (s : State) (a : Nat) : Nat :=
  match tabGet s.staged a with
  | some (m, v) => Nat.lor (Nat.land (s.word a).toNat (0xFFFFFFFF - m)) (Nat.land v m)
  | none => (s.word a).toNat

/-- What a register reads as, with the values that the part computes when they are read. -/
def State.view (s : State) (who : Requester) (k : PageKind) (n pg off : Nat) : Nat :=
  let w := s.shown (pg + off)
  if off = 0x8 then
    match s.ownerOf k n with
    | some (some p) => setBits w 8 5 (16 + p)
    | some none => setBits w 8 5 0
    | none => w
  else match k with
    | .ident =>
      if off = 0x108 then setBits w 11 11 ((List.range nSites).filter (fun i => s.coreSt i == coreEclipsed && !fusedOff i)).length else w
    | .timebase =>
      let l := s.latchOf who
      if off = 0x124 then l.orbitHi else if off = 0x128 then l.secLo else if off = 0x12C then l.secHi
      else if off = 0x130 then l.ns else if off = 0x134 then l.tickSecLo else if off = 0x138 then l.tickNs else w
    | .orbit =>
      if off = 0x454 then (tabGet s.orb.totalLatch (reqIndex who)).getD 0
      else if off = 0x420 then setBits w 13 1 (b2n (s.gov.pinLow && decide (s.now < s.gov.pinHighAt)))
      else w
    | .die =>
      if off = 0x204 then
        let l := s.ports.filter (fun e => siteDie e.1 == n)
        (l.map (fun e => s.engTok e.1)).foldl (· + ·) 0 + 2 ^ 12 * (l.map (fun e => s.refTok e.1)).foldl (· + ·) 0
      else w
    | .queue => if 0x800 ≤ off ∧ off % 0x20 = 0x18 then setBits w 0 3 (s.quState (64 * n + (off - 0x800) / 0x20)) else w
    | .cluster =>
      if off = 0x208 then setBits w 1 2 (b2n (s.gcompat n) + 2 * b2n (2 ^ s.getF (F.CLU_CC_CFG_DIRW n) != (s.cluster n).dirWays)) else w
    | .halyard =>
      if off = 0xC then setBits w 0 4 (s.hal n)
      else if off = 0x104 then
        let st := s.coreSt n
        let m := ((s.port n).reqs.filter (fun e => e.2.granted && dpaSpace e.2.pkt.addr != 2)).length
        setBits (setBits w 0 1 (b2n (st != coreOff && st != coreEclipsed && st != Sys2Proof.Machine.coreReset))) 4 6 (min m 31 + 32 * b2n (decide (32 ≤ m)))
      else if off = 0x124 then
        let d := min 15 ((List.range 32).foldl (fun m b => max m ((s.port n).debtOf b)) 0)
        b2n (s.doubleAt n && decide (siteRow n ≤ 7)) + 2 * b2n (s.doubleAt n && decide (7 < siteRow n)) + 16 * d
      else if off = 0x400 then
        setBits (setBits w 0 12 (s.engTok n + 16 * s.refTok n + 256 * s.effCap n)) 13 5
          (b2n (s.thermCapped n) + 2 * min 15 ((s.port n).bcasts.length - 1))
      else if off = 0x800 ∨ off = 0x804 then 0
      else w
    | .partition =>
      if off = 0x110 then
        let l := s.sitesOf n
        (l.filter fusedActive).length + 2 ^ 11 * l.length
      else if off = 0x114 then
        ((s.engineQueues 0 ++ s.engineQueues 1).filter (fun q => s.quPart q == some n)).length
      else w
    | .moonlet => if off = 0xC then setBits w 0 4 s.mnl else if 0x200 ≤ off ∧ off < 0x300 ∧ off % 0x10 = 0 then setBits w 5 1 (b2n (s.winOpen ((off - 0x200) / 0x10))) else w
    | _ => w

/-- The counters of a register of access rc clear as they are read, but for events counted in the same cycle (R12). -/
def clearedBy (coincident : Nat) : List RField → Nat → Nat
  | [], w => w
  | f :: t, w => clearedBy coincident t (if f.acc = .rc then setBits w f.lsb f.width (min coincident (2 ^ f.width - 1)) else w)

/-- A read of a register and what it clears, latches or releases; `coincident` events fall in its cycle. -/
def State.readReg (s : State) (who : Requester) (a coincident : Nat) : State :=
  if s.heldInReset then s
  else if s.shutOut who a then { s with reply := some (.word 0) }
  else match regAt a with
  | none => s.readDropped who a
  | some (k, n, d) =>
    if !s.readReach who k a then s.readDropped who a
    else if a = F.TIM_ORBIT_LO_ORBIT.addr then nextOr (execTimebaseSnapshotRead who s) s
    else if a = F.ORB_EN_TOTAL_LO.addr then nextOr (execEnergyTotalRead who s) s
    else
      let pg := a / 0x1000 * 0x1000
      let r : Word := BitVec.ofNat 32 (s.view who k n pg (a % 0x1000))
      let s1 := if d.fields.any (fun f => f.acc == .rc) then
          s.setWord a (BitVec.ofNat 32 (clearedBy coincident d.fields (s.word a).toNat)) else s
      let s2 : State := if a = F.G_BOOT_CAUSE_CAUSE.addr && s.mgmtView who then { s1 with power := { s1.power with faultHeld := false } } else s1
      let s3 := if k = .die ∧ a % 0x1000 = 0x210 then s2.tokenPeak n else s2
      { s3 with reply := some (.word r) }

/-! Sizes (R314) -/

/-- The first words of the 32-bit accesses that an access of `size` bytes at `a` is performed as: one, or two in ascending order; none for any other size or alignment. A 64-bit access is aligned where its address is a multiple of 8 (DEDUCED, log entry 160). -/
def accessWords (a size : Nat) : List Nat :=
  if size = 4 ∧ a % 4 = 0 then [a] else if size = 8 ∧ a % 8 = 0 then [a, a + 4] else []

/-- A word as its bytes, lowest first. -/
def wordBytes (w : Nat) : List Byte := toBytes [w % 256, w / 2 ^ 8 % 256, w / 2 ^ 16 % 256, w / 2 ^ 24 % 256]

/-- The word that the latest read answered. -/
def State.replyWord (s : State) : Nat := match s.reply with
  | some (.word w) => w.toNat
  | _ => 0

/-- A read of `size` bytes, performed as reads of words; refused where the size or alignment is not served. -/
def State.readSized (s : State) (a size : Nat) (read : State → Nat → State) : State :=
  match accessWords a size with
  | [x] => read s x
  | [x, y] =>
    let s1 := read s x
    let s2 := read s1 y
    { s2 with reply := some (.bytes (wordBytes s1.replyWord ++ wordBytes s2.replyWord)) }
  | _ => { s with reply := some .unsupported }

/-- READ_CLEAR_COUNTER: a read of BAR0, where a counter of access rc returns its value and keeps only the events counted in the same cycle (R12); of BAR4, where a doorbell returns QUE_HEAD (R323); or of a configuration space, retried until its port has trained (R344). -/
def execReadClearCounter (who : Requester) (addr : RegAddr) (size coincident : Nat) (s : State) : Out :=
  match addr with
  | .bar0 a => if s.heldInReset then .next s else .next (s.readSized a size (fun s a => s.readReg who a coincident))
  | .bar4 a =>
    match who with
    | .fn f =>
      if s.heldInReset then .next s
      else .next (s.readSized a size (fun s a => { s with reply := some (.word (BitVec.ofNat 32 (s.bar4Read f a))) }))
    | _ => .next s
  | .config a =>
    match who with
    | .fn f =>
      if s.heldInReset then .next s
      else if s.cfgAnswers f then .next { s with reply := some (.word (BitVec.ofNat 32 (s.cfgRead f (a / 4 * 4)))) }
      else .next { s with reply := some .retry }
    | _ => .next s

end Sys2Proof.Machine
end

