-- ==== Sys2Proof/Machine/Orbit.lean ====
section
/-! DEFINITION. The tick, its sources, scheduled actions, and writes of registers as a whole (R35 to R54, R293, R447). -/
namespace Sys2Proof.Machine

/-! Recognition (R44 step 1, R46, R54, R137) -/

/-- The orbit count takes its new value, and the time of the tick is held (R46, R61). -/
def State.countTick (s : State) : State :=
  let load : Word64 := BitVec.ofNat 64 (s.getF F.ORB_COUNT_SET_HI_ORBIT * 2 ^ 32 + s.getF F.ORB_COUNT_SET_LO_ORBIT)
  let o := s.orb
  let s1 := if o.loadPending then s.setF F.ORB_FLAGS_COUNT_LOADED 1 else s
  { s1 with orb := { o with
      count := if o.loadPending then load else o.count + 1
      loadPending := false
      tickSec := o.sec
      tickNs := o.ns } }

/-- Sites whose core is RUNNING. -/
def State.runningCores (s : State) : List Nat := (s.cores.map (·.1)).filter (fun i => s.coreSt i == coreRunning)

/-- Cores that run the program of an orbit earlier than the one now beginning are marked (R54), and every RUNNING core has stayed in its program for one tick more (R137). That ORB_OVR_TICKS holds at its maximum is the model's choice (R64 says it of other counters; DESIGN CHOICE, log entry 158). -/
def State.overrunTick (s : State) : State :=
  let run := s.runningCores
  let late := run.filter (fun i => decide (s.programOrbit i < s.orbit))
  let parts := late.filterMap s.partOfSite
  let s1 := parts.foldl (fun s p => s.orF F.ORB_OVERRUN_PART (2 ^ p)) s
  let s2 := if late.isEmpty then s1 else s1.countF F.ORB_OVR_TICKS_COUNT 1
  run.foldl (fun s i => s.setCore i { s.core i with wdog := (s.core i).wdog + 1 }) s2

/-! Stopping (R42, R281, R300, R447) -/

/-- The window that a tick or a stop cuts short takes trim_max by the short limits alone (R447). `e` and `len` are the window's. -/
def State.shortLevel (s : State) (e len : Nat) : State := if len ≠ 0 && shortLimit e len s.gov.run then s.setLevel trimMax else s

/-- SRC takes a written value; 3 is ignored (R35). -/
def State.setSrc (s : State) (v : Nat) : State := if v % 4 = 3 then s else s.setF F.ORB_CTRL_SRC (v % 4)

/-- The tick logic with no fallback and no relock in progress. -/
def State.noFallback (s : State) : State :=
  ({ s with orb := { s.orb with fallback := false, watch := [] } } : State).setF F.ORB_STATUS_RELOCKING 0

/-- The orbits stop at once: the account of the open orbit closes, staged values take effect, no action fires (R42). What waits for a tick and need not, ends with it (R281, R300). ORB_STATUS once orbits are stopped is the model's choice: RELOCKING and the fallback end, and ACTIVE_SRC keeps its value until the next start (DESIGN CHOICE, log entry 158). -/
def State.stopOrbits (s : State) : State :=
  let e := s.gov.winE
  let len := s.now - s.gov.winFrom
  let s1 := (if s.orb.tickAt.isSome then s.accountClose else s.closeWindow).shortLevel e len
  let s2 := ({ s1 with staged := [] } : State).applyStaged s1.staged
  let s3 := (s2.setF F.ORB_CTRL_RUN 0).noFallback
  let s4 : State := { s3 with
    orb := { s3.orb with tickAt := none, len := 0, missed := false, sliceOpen := false }
    gov := { s3.gov with roll := [], peak := 0, short := false } }
  let s5 := s4.showOrder (s1.govTrim 1)
  let s6 := if s5.on F.ORB_EN_STATUS_PCAP && !s5.gov.pinLow then s5.pcapEnd else s5
  if s6.on F.PWR_STATUS_QUALIFIED then s6.divRelease 0 else s6

/-! Scheduled actions (R48 to R51) -/

/-- An armed entry as it is captured at recognition. -/
structure Armed where
  entry : Nat
  orbit : Nat
  target : Nat
  value : Word
  mask : Nat
  deriving DecidableEq, Repr

/-- The armed set with its contents (R50). -/
def State.armedSet (s : State) : List Armed :=
  ((List.range 64).filter (fun n => s.on (F.ORB_ACT_CTRL_ARM n))).map (fun n =>
    ⟨n, s.actOrbit n, 4 * s.getF (F.ORB_ACT_TARGET_OFFSET n), s.word (F.ORB_ACT_VALUE_VALUE n).addr, s.getF (F.ORB_ACT_MASK_MASK n)⟩)

/-- The part does not perform the write (R51). Reserved bits that MASK covers are no field of another access: that they make no BADTGT is the model's choice (DESIGN CHOICE, log entry 158). -/
def badTarget (target mask : Nat) : Bool :=
  match regAt target with
  | none => true
  | some (_, _, d) =>
    (decide (0x2800 ≤ target) && decide (target < 0x3000)) ||
    (mask != 0xFFFFFFFF && d.fields.any (fun f => decide (bits mask f.lsb f.width ≠ 0) && f.acc != .rw && f.acc != .stg))

/-- A write of ORB_CTRL by an action: a stop, or a source without a tick, since the open orbit has just begun. -/
def State.actCtrl (s : State) (v : Nat) : State :=
  let s1 := if v % 4 = 3 ∨ v % 4 = s.getF F.ORB_CTRL_SRC then s
    else ((s.setSrc v).noFallback).setF F.ORB_STATUS_ACTIVE_SRC (b2n (decide (v % 4 ≠ 0)))
  if bit v 2 then s1 else s1.stopOrbits

/-- One captured entry fires at the tick that begins orbit n. The flags that the firing sets hold though its write clears them (R12). -/
def State.fire (n : Nat) (s : State) (x : Armed) : State :=
  let late := decide (x.orbit < n)
  let bad := badTarget x.target x.mask
  let s1 := ((s.setF (F.ORB_ACT_CTRL_ARM x.entry) 0).setF (F.ORB_ACT_CTRL_STATE x.entry)
    (if bad then actBadTgt else if late then actFiredLate else actFired)).setF (F.ORB_ACT_FIRED_LO_ORBIT x.entry) (n % 2 ^ 32)
  let s2 := if bad then s1
    else if x.target = F.ORB_CTRL_SRC.addr then
      s1.actCtrl (Nat.lor (Nat.land x.value.toNat x.mask) (Nat.land (s1.word x.target).toNat (0xFFFFFFFF - x.mask)))
    else s1.writeReg (s1.partWriter x.target) x.target x.mask x.value true
  (s2.orF F.ORB_FLAGS_ACT_LATE (b2n late)).orF F.ORB_FLAGS_ACT_BADTGT (b2n bad)

/-- Step 4: the captured entries whose orbit has arrived fire in ascending order; once one has stopped the orbits, the rest wait (R42, R49). -/
def State.fireAll (s : State) (l : List Armed) : State :=
  let n := s.orbit
  (l.filter (fun x => decide (x.orbit ≤ n))).foldl (fun s x => if s.running then s.fire n x else s) s

/-! The tick (R44) -/

/-- Steps 5 and 6 after a closed orbit of `len` cycles, `trim2` of them at COMP trim 2 or more; `closed` where an orbit closed. -/
def State.tickEnd (s : State) (closed : Bool) (trim2 len : Nat) (anyTrim : Bool) : State :=
  let s1 := (s.pcapAtTick5.divAtTick5).ceilDown (if closed then trim2 else 0) len
  let s2 := (List.range 4).foldl (fun s d => s.freqAtTick d) s1
  let s3 : State := { s2 with therm := { s2.therm with
    held := (List.range 4).filter (fun d => s2.therm.held.contains d && s2.towerHot d)
    renewed := []
    released := if closed then s2.therm.cool else []
    cool := s2.coolNow } }
  ((s3.ceilUp (anyTrim || !closed)).dispatchRounds).settle

/-- A tick, recognised now. -/
def State.tick (s0 : State) : State :=
  let armed := s0.armedSet
  let staged := s0.staged
  let closed := s0.orb.tickAt.isSome
  let len := s0.orb.len
  let e := s0.gov.winE
  let win := s0.now - s0.gov.winFrom
  -- step 2 closes the old orbit, under its own number; steps 1 and 2 fall at one instant here
  let s1 := if closed then s0.accountClose else s0.closeWindow
  let trim2 := s1.gov.trim2
  let anyTrim := s1.gov.anyTrim
  let s2 := (s1.countTick).overrunTick
  let s3 : State := { s2 with
    staged := []
    orb := { s2.orb with tickAt := some s2.now, len := 0, missed := false, sliceOpen := false }
    gov := { s2.gov with orbE := Energy.zero, peak := 0, short := false, trim2 := 0, anyTrim := decide (0 < s2.gov.level), markAt := s2.now } }
  let s4 := (s3.shortLevel e win).applyStaged staged
  let s5 := s4.pcapAtTick4.fireAll armed
  if !s5.running then s5
  else (s5.showLevel.writeTokCap.orbitBounds closed).tickEnd closed trim2 len anyTrim

/-! Sources of ticks (R36 to R39) -/

/-- TOL in CLK_ORB cycles. -/
def State.tol (s : State) : Nat := 100 * s.getF F.ORB_OTICK_TOL_TOL_US
def State.src (s : State) : Nat := s.getF F.ORB_CTRL_SRC

/-- The internal timer makes the ticks: SRC 0, or fallback outside a relock. -/
def State.timerOn (s : State) : Bool :=
  s.running && (s.src == 0 || (s.orb.fallback && !s.on F.ORB_STATUS_RELOCKING))

/-- ORBIT_TIMER_EXPIRY: a tick P after the previous one (R36). -/
def execOrbitTimerExpiry (s : State) : Out :=
  match s.orb.tickAt with
  | some t => if s.timerOn then .next (s.advanceTo (t + s.period)).tick else .next s
  | none => .next s

/-- An OTICK edge is missed, counted once in an orbit (R38). -/
def State.missNow (s : State) : State :=
  if s.orb.missed then s
  else (({ s with orb := { s.orb with missed := true } } : State).setF F.ORB_FLAGS_OTICK_MISS 1).countF F.ORB_MISS_COUNT_COUNT 1

/-- The internal timer takes over with a tick (R38, SRC 2). -/
def State.fallBack (s : State) : State :=
  let s1 := ((s.missNow).setF F.ORB_FLAGS_FALLBACK 1).setF F.ORB_STATUS_ACTIVE_SRC 0
  ({ s1 with orb := { s1.orb with fallback := true, watch := [] } } : State).tick

/-- The instant that an OTICK edge is awaited from: the open orbit's tick, or with SRC 2 the start of the orbits (R38, R42). -/
def State.missBase (s : State) : Option Nat :=
  match s.orb.tickAt with
  | some t => some t
  | none => if s.src = 2 then some s.orb.startAt else none

/-- An edge may yet be missed: OTICK is the source in use, and the open orbit has no miss, or SRC has become 2 since, where the internal timer must still take over. -/
def State.missDue (s : State) : Option Nat :=
  if s.running && s.src != 0 && !s.orb.fallback && (!s.orb.missed || s.src == 2) then (s.missBase).map (fun b => b + s.period + s.tol) else none

/-- What a miss does at its instant. -/
def State.missAct (s : State) : State := if s.src = 2 then s.fallBack else s.missNow

/-- OTICK_MISS: P + TOL after the previous tick no edge has been accepted (R38, R42). -/
def execOtickMiss (s : State) : Out :=
  match s.missDue with
  | some t => .next (s.advanceTo t).missAct
  | none => .next s

/-- Two edges lie P ± TOL apart. -/
def State.spaced (s : State) (a b : Nat) : Bool := decide (s.period ≤ b - a + s.tol) && decide (b - a ≤ s.period + s.tol)

/-- An edge during fallback: three spaced P ± TOL stop the internal timer, and the first of the third and later ones that comes at least P − TOL after the last tick is a tick (R39). -/
def State.watchEdge (s : State) (t : Nat) : State :=
  let w := (s.now :: s.orb.watch).take 3
  let good := match w with
    | [c, b, a] => s.spaced a b && s.spaced b c
    | _ => false
  let lock := s.on F.ORB_STATUS_RELOCKING || good
  if lock && decide (t + s.period ≤ s.now + s.tol) then
    ((((s.noFallback).setF F.ORB_STATUS_ACTIVE_SRC 1).setF F.ORB_FLAGS_RELOCK 1)).tick
  else ({ s with orb := { s.orb with watch := w } } : State).setF F.ORB_STATUS_RELOCKING (b2n lock)

/-- An edge recognised now, with OTICK selected. -/
def State.edgeNow (s : State) : State :=
  match s.orb.tickAt with
  | none => s.tick
  | some t =>
    if s.orb.fallback then s.watchEdge t
    else if t + s.period ≤ s.now + s.tol then s.tick
    else (s.setF F.ORB_FLAGS_OTICK_EARLY 1).countF F.ORB_EARLY_COUNT_COUNT 1

/-- OTICK_EDGE: a rising edge, recognised `dt` cycles after the previous command (R37); a miss that falls before it comes first. -/
def execOtickEdge (dt : Nat) (s0 : State) : Out :=
  let t := s0.now + dt
  if !s0.running || s0.src == 0 then .next (s0.advance dt)
  else
    let s := match s0.missDue with
      | some m => if m < t then (s0.advanceTo m).missAct else s0
      | none => s0
    .next (s.advanceTo t).edgeNow

/-! Start, stop and change of source (R42, R43) -/

/-- STOP_ORBITS: a write of ORB_CTRL with RUN at 0 while it is 1. -/
def execStopOrbits (who : Requester) (value : Word) (s : State) : Out :=
  if s.running && !bit value.toNat 2 then
    trigger s who F.ORB_CTRL_RUN.addr 7 value (fun s => (s.setSrc value.toNat).stopOrbits)
  else .next s

/-- The orbits start: the first tick comes in the next CLK_ORB cycle with SRC 0, and with an edge otherwise. -/
def State.startOrbits (s : State) (v : Nat) : State :=
  let s1 := ((s.setSrc v).setF F.ORB_CTRL_RUN 1).noFallback
  let s2 := s1.setF F.ORB_STATUS_ACTIVE_SRC (b2n (decide (s1.src ≠ 0)))
  let s3 : State := { s2 with
    orb := { s2.orb with tickAt := none, startAt := s2.now, missed := false, sliceOpen := false, len := 0 } }
  if s3.src = 0 then (s3.advance 1).tick else s3

/-- START_ORBITS: a write of ORB_CTRL with RUN at 1 while it is 0. -/
def execStartOrbits (who : Requester) (value : Word) (s : State) : Out :=
  if !s.running && bit value.toNat 2 then
    trigger s who F.ORB_CTRL_RUN.addr 7 value (fun s => s.startOrbits value.toNat)
  else .next s

/-- The source in use changes; an end of the orbit that has passed by the new source comes at once (R43). -/
def State.changeSrc (s : State) (v : Nat) : State :=
  let s1 := ((s.setSrc v).noFallback).setF F.ORB_STATUS_ACTIVE_SRC (b2n (decide (v % 4 ≠ 0)))
  if v % 4 = 0 then
    match s1.orb.tickAt with
    | some t => if t + s1.period ≤ s1.now then s1.tick else s1
    | none => (s1.advance 1).tick
  else if v % 4 = 2 then
    match s1.missBase with
    | some b => if b + s1.period + s1.tol ≤ s1.now then s1.fallBack else s1
    | none => s1
  else s1

/-- TICK_SOURCE_CHANGE: a write that changes SRC while RUN is 1 (R43). -/
def execTickSourceChange (who : Requester) (value : Word) (s : State) : Out :=
  if s.running && bit value.toNat 2 && value.toNat % 4 != 3 && value.toNat % 4 != s.src then
    trigger s who F.ORB_CTRL_RUN.addr 7 value (fun s => s.changeSrc value.toNat)
  else .next s

/-! Writes of registers -/

/-- A write of ORB_CTRL: a stop, a start, a change of source, or SRC alone while orbits are stopped. -/
def State.writeOrbCtrl (s : State) (who : Requester) (v : Word) : State :=
  if s.running && !bit v.toNat 2 then nextOr (execStopOrbits who v s) s
  else if !s.running && bit v.toNat 2 then nextOr (execStartOrbits who v s) s
  else if s.running then nextOr (execTickSourceChange who v s) s
  else s.setSrc v.toNat

/-- A requester's write of a register, once admitted (R11, R13, R395, R403). -/
def State.writeBy (s : State) (who : Requester) (addr : Nat) (v : Word) : State :=
  let r := s.admitted who addr v
  match r.2 with
  | none => r.1
  | some m =>
    if addr = F.ORB_CTRL_RUN.addr then r.1.writeOrbCtrl who v
    else r.1.writeReg who addr m v false

/-- The w1c bits of the register at an address. -/
def w1cMask (a : Nat) : Nat :=
  match regAt a with
  | none => 0
  | some (_, _, d) => d.fields.foldl (fun m f => if f.acc = .w1c then setBits m f.lsb f.width (2 ^ f.width - 1) else m) 0

/-- A write of a 32-bit word of BAR0; a w1c bit among `sets`, which the part sets in the cycle of the write, is 1 after it (R12). -/
def State.writeWord (s : State) (who : Requester) (a : Nat) (v : Word) (sets : Nat) : State :=
  let again := Nat.land (Nat.land (s.word a).toNat (w1cMask a)) sets
  let s1 := s.writeBy who a v
  if again = 0 then s1 else s1.setWord a (BitVec.ofNat 32 (Nat.lor (s1.word a).toNat again))

/-- A write of `size` bytes, performed as writes of words by ascending address (R314). -/
def State.writeSized (s : State) (a size : Nat) (v : Word64) (write : State → Nat → Word → State) : State :=
  match accessWords a size with
  | [x] => write s x (v.setWidth 32)
  | [x, y] => write (write s x (v.setWidth 32)) y ((v >>> 32).setWidth 32)
  | _ => s

/-- REGISTER_WRITE: a write of BAR0 takes effect by the access codes of its fields, subject to reach and lock, and fields with rows of their own act as those rows; a write of BAR4 is a doorbell or reaches the MSI-X table; a write of a configuration space takes effect once its port has trained. An access of a size or alignment that is not served is an Unsupported Request (R314). -/
def execRegisterWrite (who : Requester) (addr : RegAddr) (size : Nat) (value : Word64) (sets : Nat) (s : State) : Out :=
  match addr with
  | .bar0 a =>
    if (accessWords a size).isEmpty then
      (match who with
       | .fn f => if s.heldInReset then .next s else .next (s.aerUr f 0 a size)
       | _ => .next s)
    else .next (s.writeSized a size value (fun s x v => s.writeWord who x v (if x = a then sets % 2 ^ 32 else sets / 2 ^ 32)))
  | .bar4 a =>
    match who with
    | .fn f =>
      if s.heldInReset then .next s
      else if (accessWords a size).isEmpty then .next (s.aerUr f 2 a size)
      else .next (s.writeSized a size value (fun s x v => s.bar4Write f x v))
    | _ => .next s
  | .config a =>
    match who with
    | .fn f => if s.heldInReset || !s.cfgAnswers f then .next s else .next (s.cfgWrite f (a / 4 * 4) (value.setWidth 32).toNat)
    | _ => .next s

end Sys2Proof.Machine
end

