-- ==== Sys2Proof/Machine/Dispatch.lean ====
section
/-! DEFINITION. The effect of a command on everything but the queue: one arm per row of spec/opcode_table.json. -/
namespace Sys2Proof.Machine

def exec (i : Instr) (s : State) : Host.Outcome State Fault Refusal :=
  match i with
  | .registerWrite who addr size value sets => Sys2Proof.Machine.execRegisterWrite who addr size value sets s
  | .readClearCounter who addr size coincident => Sys2Proof.Machine.execReadClearCounter who addr size coincident s
  | .orbitTimerExpiry => Sys2Proof.Machine.execOrbitTimerExpiry s
  | .otickEdge dt => Sys2Proof.Machine.execOtickEdge dt s
  | .otickMiss => Sys2Proof.Machine.execOtickMiss s
  | .stopOrbits who value => Sys2Proof.Machine.execStopOrbits who value s
  | .startOrbits who value => Sys2Proof.Machine.execStartOrbits who value s
  | .tickSourceChange who value => Sys2Proof.Machine.execTickSourceChange who value s
  | .countLoad who value => Sys2Proof.Machine.execCountLoad who value s
  | .actionArm who entry value => Sys2Proof.Machine.execActionArm who entry value s
  | .actionDisarm who entry value => Sys2Proof.Machine.execActionDisarm who entry value s
  | .serviceSliceStart => Sys2Proof.Machine.execServiceSliceStart s
  | .linkPhaseRecentre ens link cycles => Sys2Proof.Machine.execLinkPhaseRecentre ens link cycles s
  | .halyardTsvRecentre ens row cycles => Sys2Proof.Machine.execHalyardTsvRecentre ens row cycles s
  | .thermalSensorTrim ens tower cycles => Sys2Proof.Machine.execThermalSensorTrim ens tower cycles s
  | .calibrationComplete kind target failed => Sys2Proof.Machine.execCalibrationComplete kind target failed s
  | .nsRollover => Sys2Proof.Machine.execNsRollover s
  | .ppsEdge dt => Sys2Proof.Machine.execPpsEdge dt s
  | .ppsMiss => Sys2Proof.Machine.execPpsMiss s
  | .secLoad who value => Sys2Proof.Machine.execSecLoad who value s
  | .timebaseSnapshotRead who => Sys2Proof.Machine.execTimebaseSnapshotRead who s
  | .energyTotalRead who => Sys2Proof.Machine.execEnergyTotalRead who s
  | .mxwld core word time => Sys2Proof.Machine.execMxwld core word time s
  | .mxpass core word time => Sys2Proof.Machine.execMxpass core word time s
  | .mxbunt core word time => Sys2Proof.Machine.execMxbunt core word time s
  | .mxidle core word time => Sys2Proof.Machine.execMxidle core word time s
  | .mxmark core word time => Sys2Proof.Machine.execMxmark core word time s
  | .mxmarkDone core time => Sys2Proof.Machine.execMxmarkDone core time s
  | .weightLoadStart core time => Sys2Proof.Machine.execWeightLoadStart core time s
  | .weightLoadComplete core quad time => Sys2Proof.Machine.execWeightLoadComplete core quad time s
  | .passStart core quad time => Sys2Proof.Machine.execPassStart core quad time s
  | .passComplete core quad time => Sys2Proof.Machine.execPassComplete core quad time s
  | .rampDownStart core time => Sys2Proof.Machine.execRampDownStart core time s
  | .rampStepExpiry core time => Sys2Proof.Machine.execRampStepExpiry core time s
  | .rampUpStart core time => Sys2Proof.Machine.execRampUpStart core time s
  | .transitionAdmit core kind time => Sys2Proof.Machine.execTransitionAdmit core kind time s
  | .ctnop core word => Sys2Proof.Machine.execCtnop core word s
  | .ctli core word => Sys2Proof.Machine.execCtli core word s
  | .ctadd core word => Sys2Proof.Machine.execCtadd core word s
  | .ctloop core word => Sys2Proof.Machine.execCtloop core word s
  | .ctbr core word => Sys2Proof.Machine.execCtbr core word s
  | .ctid core word => Sys2Proof.Machine.execCtid core word s
  | .ctevt core word => Sys2Proof.Machine.execCtevt core word s
  | .ctberth core word => Sys2Proof.Machine.execCtberth core word s
  | .berthComplete core => Sys2Proof.Machine.execBerthComplete core s
  | .programStart core stall => Sys2Proof.Machine.execProgramStart core stall s
  | .programFetchComplete core => Sys2Proof.Machine.execProgramFetchComplete core s
  | .sywait core word => Sys2Proof.Machine.execSywait core word s
  | .sywaitSatisfied core cycles => Sys2Proof.Machine.execSywaitSatisfied core cycles s
  | .sysig core word => Sys2Proof.Machine.execSysig core word s
  | .syfence core word => Sys2Proof.Machine.execSyfence core word s
  | .syfenceSatisfied core cycles => Sys2Proof.Machine.execSyfenceSatisfied core cycles s
  | .syset core word => Sys2Proof.Machine.execSyset core word s
  | .vadd core word => Sys2Proof.Machine.execVadd core word s
  | .vsub core word => Sys2Proof.Machine.execVsub core word s
  | .vmul core word => Sys2Proof.Machine.execVmul core word s
  | .vfma core word => Sys2Proof.Machine.execVfma core word s
  | .vfms core word => Sys2Proof.Machine.execVfms core word s
  | .vmax core word => Sys2Proof.Machine.execVmax core word s
  | .vmin core word => Sys2Proof.Machine.execVmin core word s
  | .vabs core word => Sys2Proof.Machine.execVabs core word s
  | .vneg core word => Sys2Proof.Machine.execVneg core word s
  | .vcmplt core word => Sys2Proof.Machine.execVcmplt core word s
  | .vcmpeq core word => Sys2Proof.Machine.execVcmpeq core word s
  | .vsel core word => Sys2Proof.Machine.execVsel core word s
  | .vbci core word => Sys2Proof.Machine.execVbci core word s
  | .vexp2 core word => Sys2Proof.Machine.execVexp2 core word s
  | .vlog2 core word => Sys2Proof.Machine.execVlog2 core word s
  | .vrcp core word => Sys2Proof.Machine.execVrcp core word s
  | .vrsq core word => Sys2Proof.Machine.execVrsq core word s
  | .vsqrt core word => Sys2Proof.Machine.execVsqrt core word s
  | .vtanh core word => Sys2Proof.Machine.execVtanh core word s
  | .vredsum core word => Sys2Proof.Machine.execVredsum core word s
  | .vredmax core word => Sys2Proof.Machine.execVredmax core word s
  | .vld core word => Sys2Proof.Machine.execVld core word s
  | .vst core word => Sys2Proof.Machine.execVst core word s
  | .vldb core word => Sys2Proof.Machine.execVldb core word s
  | .vmark core word => Sys2Proof.Machine.execVmark core word s
  | .vmarkDone core => Sys2Proof.Machine.execVmarkDone core s
  | .stld core word => Sys2Proof.Machine.execStld core word s
  | .stst core word => Sys2Proof.Machine.execStst core word s
  | .stpf core word => Sys2Proof.Machine.execStpf core word s
  | .stmark core word => Sys2Proof.Machine.execStmark core word s
  | .stmarkDone core => Sys2Proof.Machine.execStmarkDone core s
  | .streamComplete core sid => Sys2Proof.Machine.execStreamComplete core sid s
  | .coreFaulted core held => Sys2Proof.Machine.execCoreFaulted core held s
  | .watchdogHang core => Sys2Proof.Machine.execWatchdogHang core s
  | .voyageLaunch who core value => Sys2Proof.Machine.execVoyageLaunch who core value s
  | .voyageAbort who core value => Sys2Proof.Machine.execVoyageAbort who core value s
  | .localStoreSplitChange who core value => Sys2Proof.Machine.execLocalStoreSplitChange who core value s
  | .packetHop id => Sys2Proof.Machine.execPacketHop id s
  | .tallyAdd id => Sys2Proof.Machine.execTallyAdd id s
  | .frameSend link toB stamp => Sys2Proof.Machine.execFrameSend link toB stamp s
  | .frameReceive link toB flips stamp => Sys2Proof.Machine.execFrameReceive link toB flips stamp s
  | .linkEnable who link value => Sys2Proof.Machine.execLinkEnable who link value s
  | .linkDisable who link value => Sys2Proof.Machine.execLinkDisable who link value s
  | .sidebandUp link => Sys2Proof.Machine.execSidebandUp link s
  | .sbTimeout link => Sys2Proof.Machine.execSbTimeout link s
  | .mainbandTrained link fromRecord repaired => Sys2Proof.Machine.execMainbandTrained link fromRecord repaired s
  | .mbTrainTimeout link => Sys2Proof.Machine.execMbTrainTimeout link s
  | .ident link io seenA seenB => Sys2Proof.Machine.execIdent link io seenA seenB s
  | .identityTimeout die => Sys2Proof.Machine.execIdentityTimeout die s
  | .capabilityRecord link record => Sys2Proof.Machine.execCapabilityRecord link record s
  | .paramTimeout link => Sys2Proof.Machine.execParamTimeout link s
  | .laneFailure link => Sys2Proof.Machine.execLaneFailure link s
  | .retrain who link value => Sys2Proof.Machine.execRetrain who link value s
  | .retrainComplete link => Sys2Proof.Machine.execRetrainComplete link s
  | .retrainTimeout link => Sys2Proof.Machine.execRetrainTimeout link s
  | .probe who link value => Sys2Proof.Machine.execProbe who link value s
  | .linkDelayMeasured link => Sys2Proof.Machine.execLinkDelayMeasured link s
  | .mrd die win tag len addr => Sys2Proof.Machine.execMrd die win tag len addr s
  | .mwr die win tag len addr data => Sys2Proof.Machine.execMwr die win tag len addr data s
  | .mwrb die win tag len addr data mask => Sys2Proof.Machine.execMwrb die win tag len addr data mask s
  | .msig die win addr count => Sys2Proof.Machine.execMsig die win addr count s
  | .mevt die win code => Sys2Proof.Machine.execMevt die win code s
  | .hrd id => Sys2Proof.Machine.execHrd id s
  | .hwr id => Sys2Proof.Machine.execHwr id s
  | .halyardRequestComplete site req => Sys2Proof.Machine.execHalyardRequestComplete site req s
  | .expansionComplete site slot => Sys2Proof.Machine.execExpansionComplete site slot s
  | .hrsp id => Sys2Proof.Machine.execHrsp id s
  | .hack id => Sys2Proof.Machine.execHack id s
  | .agedRemoteGrant site => Sys2Proof.Machine.execAgedRemoteGrant site s
  | .rowIdleClose site bank => Sys2Proof.Machine.execRowIdleClose site bank s
  | .refreshDue site bank => Sys2Proof.Machine.execRefreshDue site bank s
  | .refreshPayback site bank => Sys2Proof.Machine.execRefreshPayback site bank s
  | .refreshComplete site bank => Sys2Proof.Machine.execRefreshComplete site bank s
  | .hcopy id => Sys2Proof.Machine.execHcopy id s
  | .bkcast core word => Sys2Proof.Machine.execBkcast core word s
  | .bksetk core word => Sys2Proof.Machine.execBksetk core word s
  | .bkmark core word => Sys2Proof.Machine.execBkmark core word s
  | .bkmarkDone core => Sys2Proof.Machine.execBkmarkDone core s
  | .bkcmd id => Sys2Proof.Machine.execBkcmd id s
  | .bksetkPacket id => Sys2Proof.Machine.execBksetkPacket id s
  | .bkdone id => Sys2Proof.Machine.execBkdone id s
  | .waveStart site => Sys2Proof.Machine.execWaveStart site s
  | .engineStepComplete site bank cycles => Sys2Proof.Machine.execEngineStepComplete site bank cycles s
  | .patrolScrubDue site => Sys2Proof.Machine.execPatrolScrubDue site s
  | .scrubStepStart site => Sys2Proof.Machine.execScrubStepStart site s
  | .lineFillReturn id => Sys2Proof.Machine.execLineFillReturn id s
  | .missAdmit clu => Sys2Proof.Machine.execMissAdmit clu s
  | .crds id => Sys2Proof.Machine.execCrds id s
  | .cclaim id => Sys2Proof.Machine.execCclaim id s
  | .cfill id => Sys2Proof.Machine.execCfill id s
  | .cwb id => Sys2Proof.Machine.execCwb id s
  | .cinv id => Sys2Proof.Machine.execCinv id s
  | .crecall id => Sys2Proof.Machine.execCrecall id s
  | .catom id => Sys2Proof.Machine.execCatom id s
  | .cdata id => Sys2Proof.Machine.execCdata id s
  | .cgrant id => Sys2Proof.Machine.execCgrant id s
  | .ciack id => Sys2Proof.Machine.execCiack id s
  | .cwbr id => Sys2Proof.Machine.execCwbr id s
  | .cack id => Sys2Proof.Machine.execCack id s
  | .invalRo who clu value => Sys2Proof.Machine.execInvalRo who clu value s
  | .wbAll who clu value => Sys2Proof.Machine.execWbAll who clu value s
  | .cacheCommandComplete clu => Sys2Proof.Machine.execCacheCommandComplete clu s
  | .xinv who part value => Sys2Proof.Machine.execXinv who part value s
  | .xinvDone n => Sys2Proof.Machine.execXinvDone n s
  | .censusRead who part value => Sys2Proof.Machine.execCensusRead who part value s
  | .censusInc who part value => Sys2Proof.Machine.execCensusInc who part value s
  | .censusDec who part value => Sys2Proof.Machine.execCensusDec who part value s
  | .censusSet who part value => Sys2Proof.Machine.execCensusSet who part value s
  | .censusLock who part value => Sys2Proof.Machine.execCensusLock who part value s
  | .censusDecunlock who part value => Sys2Proof.Machine.execCensusDecunlock who part value s
  | .censusUnlock who part value => Sys2Proof.Machine.execCensusUnlock who part value s
  | .censusOpComplete part => Sys2Proof.Machine.execCensusOpComplete part s
  | .freeTailAdvance who part value => Sys2Proof.Machine.execFreeTailAdvance who part value s
  | .freePageWaitExpiry cow => Sys2Proof.Machine.execFreePageWaitExpiry cow s
  | .energySample links mem comp => Sys2Proof.Machine.execEnergySample links mem comp s
  | .powerWaveStart => Sys2Proof.Machine.execPowerWaveStart s
  | .gateSegmentClose ovr rails => Sys2Proof.Machine.execGateSegmentClose ovr rails s
  | .currentRegionTrip clu region => Sys2Proof.Machine.execCurrentRegionTrip clu region s
  | .sensePointSample volts vin iin => Sys2Proof.Machine.execSensePointSample volts vin iin s
  | .domainFault fabric n => Sys2Proof.Machine.execDomainFault fabric n s
  | .vinWarning dt field => Sys2Proof.Machine.execVinWarning dt field s
  | .vinAboveWarning dt => Sys2Proof.Machine.execVinAboveWarning dt s
  | .releaseQualified => Sys2Proof.Machine.execReleaseQualified s
  | .waveResume => Sys2Proof.Machine.execWaveResume s
  | .vinBelowReset dt field => Sys2Proof.Machine.execVinBelowReset dt field s
  | .fieldFault fields boot => Sys2Proof.Machine.execFieldFault fields boot s
  | .governorWindow => Sys2Proof.Machine.execGovernorWindow s
  | .energyCtrlWrite who value => Sys2Proof.Machine.execEnergyCtrlWrite who value s
  | .freqRequest who die value => Sys2Proof.Machine.execFreqRequest who die value s
  | .setpointReached cluster => Sys2Proof.Machine.execSetpointReached cluster s
  | .stoppedFrequencyChange die => Sys2Proof.Machine.execStoppedFrequencyChange die s
  | .pcapAssert dt low => Sys2Proof.Machine.execPcapAssert dt low s
  | .pcapRelease dt => Sys2Proof.Machine.execPcapRelease dt s
  | .thermalSensorSample cores dram caps => Sys2Proof.Machine.execThermalSensorSample cores dram caps s
  | .energyForecast energy => Sys2Proof.Machine.execEnergyForecast energy s
  | .coolreqPeriod => Sys2Proof.Machine.execCoolreqPeriod s
  | .coolreqDutyTimeout => Sys2Proof.Machine.execCoolreqDutyTimeout s
  | .doorbell fn queue value => Sys2Proof.Machine.execDoorbell fn queue value s
  | .workOrderDispatch queue => Sys2Proof.Machine.execWorkOrderDispatch queue s
  | .nop order => Sys2Proof.Machine.execNop order s
  | .launch order => Sys2Proof.Machine.execLaunch order s
  | .copy order => Sys2Proof.Machine.execCopy order s
  | .signal order => Sys2Proof.Machine.execSignal order s
  | .write order => Sys2Proof.Machine.execWrite order s
  | .event order => Sys2Proof.Machine.execEvent order s
  | .workOrderComplete order => Sys2Proof.Machine.execWorkOrderComplete order s
  | .queueResume who queue value => Sys2Proof.Machine.execQueueResume who queue value s
  | .queueEnable who queue value => Sys2Proof.Machine.execQueueEnable who queue value s
  | .bar2Read fn tag off len => Sys2Proof.Machine.execBar2Read fn tag off len s
  | .bar2Write fn off data mask => Sys2Proof.Machine.execBar2Write fn off data mask s
  | .flr fn => Sys2Proof.Machine.execFlr fn s
  | .perstRelease port rate x8 => Sys2Proof.Machine.execPerstRelease port rate x8 s
  | .hostPortReset port => Sys2Proof.Machine.execHostPortReset port s
  | .mgmt who port value => Sys2Proof.Machine.execMgmt who port value s
  | .partitionRowsWrite who part high value => Sys2Proof.Machine.execPartitionRowsWrite who part high value s
  | .partitionEnable who part value => Sys2Proof.Machine.execPartitionEnable who part value s
  | .quiesceReq who part value => Sys2Proof.Machine.execQuiesceReq who part value s
  | .partitionReset who part value => Sys2Proof.Machine.execPartitionReset who part value s
  | .clusterReset who clu value => Sys2Proof.Machine.execClusterReset who clu value s
  | .coreReset who core value => Sys2Proof.Machine.execCoreReset who core value s
  | .eventRecordWritten ring => Sys2Proof.Machine.execEventRecordWritten ring s
  | .eventHeadAdvance who ring value => Sys2Proof.Machine.execEventHeadAdvance who ring value s
  | .msixHoldoffExpiry ring => Sys2Proof.Machine.execMsixHoldoffExpiry ring s
  | .eventEnableWrite who page value => Sys2Proof.Machine.execEventEnableWrite who page value s
  | .powerGood boot => Sys2Proof.Machine.execPowerGood boot s
  | .pwrgdFall dt => Sys2Proof.Machine.execPwrgdFall dt s
  | .vsbPowerOn strap boot => Sys2Proof.Machine.execVsbPowerOn strap boot s
  | .vsbLoss dt => Sys2Proof.Machine.execVsbLoss dt s
  | .auxSupplyFault dt => Sys2Proof.Machine.execAuxSupplyFault dt s
  | .resetAll who value boot => Sys2Proof.Machine.execResetAll who value boot s
  | .shutdown who value meets => Sys2Proof.Machine.execShutdown who value meets s
  | .forceCold who value => Sys2Proof.Machine.execForceCold who value s
  | .ensResetA who value => Sys2Proof.Machine.execEnsResetA who value s
  | .ensResetB who value => Sys2Proof.Machine.execEnsResetB who value s
  | .ensignWatchdogExpiry ens => Sys2Proof.Machine.execEnsignWatchdogExpiry ens s
  | .ensignHeartbeat ens die => Sys2Proof.Machine.execEnsignHeartbeat ens die s
  | .stewardTimeout die => Sys2Proof.Machine.execStewardTimeout die s
  | .stewardless die => Sys2Proof.Machine.execStewardless die s
  | .ensignClaim ens die => Sys2Proof.Machine.execEnsignClaim ens die s
  | .ensignRoleGiveUp dt => Sys2Proof.Machine.execEnsignRoleGiveUp dt s
  | .refclkLoss ref die => Sys2Proof.Machine.execRefclkLoss ref die s
  | .refclkSelect who value => Sys2Proof.Machine.execRefclkSelect who value s
  | .driverEclipse who die index value => Sys2Proof.Machine.execDriverEclipse who die index value s
  | .ghostFlit core => Sys2Proof.Machine.execGhostFlit core s
  | .bankRetire who die index value => Sys2Proof.Machine.execBankRetire who die index value s
  | .portFail who die index value => Sys2Proof.Machine.execPortFail who die index value s
  | .assign who clu value => Sys2Proof.Machine.execAssign who clu value s
  | .release who clu value => Sys2Proof.Machine.execRelease who clu value s
  | .testFlipArm who value => Sys2Proof.Machine.execTestFlipArm who value s
  | .bistAll who value => Sys2Proof.Machine.execBistAll who value s
  | .bistRow who value => Sys2Proof.Machine.execBistRow who value s
  | .bistLink who value => Sys2Proof.Machine.execBistLink who value s
  | .bistDone sites others ms => Sys2Proof.Machine.execBistDone sites others ms s
  | .scanOpenRequest who value => Sys2Proof.Machine.execScanOpenRequest who value s
  | .jtagInstruction instr => Sys2Proof.Machine.execJtagInstruction instr s
  | .scanSequenceStart => Sys2Proof.Machine.execScanSequenceStart s
  | .getInfo who value => Sys2Proof.Machine.execGetInfo who value s
  | .fwBegin who value => Sys2Proof.Machine.execFwBegin who value s
  | .fwWrite who value => Sys2Proof.Machine.execFwWrite who value s
  | .fwVerify who value => Sys2Proof.Machine.execFwVerify who value s
  | .fwActivate who value => Sys2Proof.Machine.execFwActivate who value s
  | .fwAbort who value => Sys2Proof.Machine.execFwAbort who value s
  | .mailboxCommandComplete outcome version => Sys2Proof.Machine.execMailboxCommandComplete outcome version s
  | .getVersion via => Sys2Proof.Machine.execGetVersion via s
  | .getCapabilities via => Sys2Proof.Machine.execGetCapabilities via s
  | .negotiateAlgorithms via => Sys2Proof.Machine.execNegotiateAlgorithms via s
  | .getDigests via => Sys2Proof.Machine.execGetDigests via s
  | .getCertificate via slot off len => Sys2Proof.Machine.execGetCertificate via slot off len s
  | .challenge via slot nonce => Sys2Proof.Machine.execChallenge via slot nonce s
  | .getMeasurements via index signed nonce => Sys2Proof.Machine.execGetMeasurements via index signed nonce s
  | .doeDiscovery port index => Sys2Proof.Machine.execDoeDiscovery port index s
  | .setEndpointId eid => Sys2Proof.Machine.execSetEndpointId eid s
  | .entdaa addr => Sys2Proof.Machine.execEntdaa addr s
  | .setdasa static addr => Sys2Proof.Machine.execSetdasa static addr s
  | .getSensorReading sensor => Sys2Proof.Machine.execGetSensorReading sensor s
  | .setPowerCap watts => Sys2Proof.Machine.execSetPowerCap watts s
  | .setCapOrbit stamp => Sys2Proof.Machine.execSetCapOrbit stamp s
  | .setMinDuty percent => Sys2Proof.Machine.execSetMinDuty percent s
  | .requestUpdate => Sys2Proof.Machine.execRequestUpdate s
  | .flashLockTimeout die => Sys2Proof.Machine.execFlashLockTimeout die s
  | .refclkRestored ref => Sys2Proof.Machine.execRefclkRestored ref s
  | .vinAboveReset dt field => Sys2Proof.Machine.execVinAboveReset dt field s
  | .auxSupplyInRegulation boot => Sys2Proof.Machine.execAuxSupplyInRegulation boot s
  | .hostCompletion tag ok data => Sys2Proof.Machine.execHostCompletion tag ok data s
  | .atsInvalidation port fn addr pages tag => Sys2Proof.Machine.execAtsInvalidation port fn addr pages tag s
  | .reservedInstruction core word => Sys2Proof.Machine.execReservedInstruction core word s
  | .vxInstructionRetire core slot cycle banks => Sys2Proof.Machine.execVxInstructionRetire core slot cycle banks s
  | .activateFirmware verified version => Sys2Proof.Machine.execActivateFirmware verified version s

end Sys2Proof.Machine
end

