-- ==== Sys2Proof/Machine/Idle.lean ====
section
/-! DEFINITION. What happens while no command waits: steps of bring-up and of an orderly shutdown that no command begins, and one CLK_ORB cycle otherwise. -/
namespace Sys2Proof.Machine

/-- Bring-up from its step 5 on goes to its next step, or an orderly shutdown to its next slice; otherwise one CLK_ORB cycle passes, and a partition reset that has nothing more to wait for ends (DESIGN CHOICE, log entry 161). -/
def State.idle (s : State) : State :=
  if s.bootUnderWay then s.bootNext
  else if s.power.sd.isSome then s.sdNext
  else (s.advance 1).resetsGo

end Sys2Proof.Machine
end

