-- ==== Sys2Proof/Machine/Attention.lean ====
section
/-! DEFINITION. The attention cache as memory holds it and as cores use it: latents, extents, the KV map, scores, partials and their merge (R242 to R263).
These rules bind the driver and the cores' programs. No command of the part refers to them, so no meaning does. -/
namespace Sys2Proof.Machine

/-! Where latents lie (R242 to R245) -/

/-- Tokens per page of latents of LW values (R242). -/
def kvTpp (lw : Nat) : Nat := 32768 / lw
/-- Latents in a 2 KiB row (R242). -/
def kvV (lw : Nat) : Nat := 64 / (lw / 16)
/-- Place of the latent of a token in a range at `base`, of the KV range or of the value alias range (R242, R245). -/
def kvVa (base ppl lw layer token : Nat) : Nat := base + (layer * ppl + token / kvTpp lw) * 65536 + token % kvTpp lw * (2 * lw)

/-- The sequence header (R247). -/
structure KvHeader where
  len : Nat
  sealed_ : Nat
  kvbase : Nat
  abase : Nat
  ppl : Nat
  lw : Nat
  nlayer : Nat
  nlist : Nat
  cap : Nat
  lists : Nat
  deriving DecidableEq, Repr

/-- The header of its 64 bytes. -/
def kvHeader (b : List Nat) : KvHeader :=
  let f (o n : Nat) : Nat := leNat ((b.drop o).take n)
  ⟨f 0x00 8, f 0x08 8, f 0x10 8, f 0x18 8, f 0x20 4, f 0x24 2, f 0x26 2, f 0x28 4, f 0x2C 4, f 0x30 8⟩

/-- Virtual address of column list k (R247). -/
def KvHeader.list (h : KvHeader) (k : Nat) : Nat := h.lists + k * (16 + 16 * h.cap)

/-- An entry of a column list: an extent (R244, R248). -/
structure KvExtent where
  site : Nat
  sdrow : Nat
  npg : Nat
  shared : Bool
  layer : Nat
  tstart : Nat
  deriving DecidableEq, Repr

/-- The entry of its 16 bytes (R248). -/
def kvExtent (b : List Nat) : KvExtent :=
  let f (o n : Nat) : Nat := leNat ((b.drop o).take n)
  ⟨f 0x0 2, f 0x2 2 % 2 ^ 14, f 0x4 1, bit (f 0x5 1) 0, f 0x6 2, f 0x8 8 % 2 ^ 48⟩

/-- What R244 asks of an extent's numbers. -/
def KvExtent.ok (x : KvExtent) (lw : Nat) : Bool :=
  decide (1 ≤ x.npg) && decide (x.npg ≤ 16) && x.sdrow % 16 == 0 && x.tstart % kvTpp lw == 0 && decide (x.sdrow + x.npg ≤ 12288)

/-- Pages of an entry that count in a step with SEALED (R249). -/
def KvExtent.pages (x : KvExtent) (lw sealed_ : Nat) : Nat := min x.npg ((sealed_ - x.tstart) / kvTpp lw)

/-- Device physical address of the latent of token j of page i of an extent at a site (R177, R242, R244). -/
def latentDpa (site sdrow lw i j : Nat) : Nat := colBase site + (sdrow + i) * 65536 + j * (2 * lw)

/-! Scores (R250, R251) -/

/-- The slice of the score row in which the score of token j of page i lies, and its place there (R251). -/
def scoreSlice (lw i j : Nat) : Nat := Nat.xor (j / kvV lw) i
def scoreIndex (lw i j : Nat) : Nat := kvV lw * i + j % kvV lw
/-- Device physical address of that score in a score row of the column (R251). -/
def scoreDpa (site ddrow lw i j : Nat) : Nat := colBase site + ddrow * 65536 + scoreSlice lw i j * 2048 + 4 * scoreIndex lw i j

/-- The bank command that scores one head over an extent (R200, R250). -/
def scoreCmd (x : KvExtent) (lw ddrow npg : Nat) : List Nat :=
  [1, 0] ++ leBytes 2 x.sdrow ++ [0, 0] ++ leBytes 2 ddrow ++ [npg, lw / 16, 0, 5] ++ [255, 255, 255, 255] ++ [0, 0] ++ leBytes 2 x.site ++
    List.replicate 44 0

/-! Partials (R258 to R263); every number is a binary32 code, and the arithmetic that of the vector engine with RND 0 -/

/-- A partial: the largest score, the sum of 2^(s - m), and the lanes of the weighted values. -/
structure Partial where
  m : Nat
  l : Nat
  a : List Nat
  deriving DecidableEq, Repr

/-- A core with no tokens. -/
def Partial.empty (dv : Nat) : Partial := ⟨0xFF800000, 0, List.replicate dv 0⟩

def fAdd (a b : Nat) : Nat := (laneResult 0x01 false .rne a b 0).1
def fSub (a b : Nat) : Nat := (laneResult 0x02 false .rne a b 0).1
def fMul (a b : Nat) : Nat := (laneResult 0x03 false .rne a b 0).1
def fFma (a b c : Nat) : Nat := (laneResult 0x04 false .rne a b c).1
def fMax (a b : Nat) : Nat := (laneResult 0x06 false .rne a b 0).1
def fExp2 (a : Nat) : Nat := (laneResult 0x10 false .rne a 0 0).1
def fLog2 (a : Nat) : Nat := (laneResult 0x11 false .rne a 0 0).1
def fRcp (a : Nat) : Nat := (laneResult 0x12 false .rne a 0 0).1

/-- Sum of lanes: groups of 64 added lanewise in ascending order, then by the tree of R124 with unused lanes +0 (R258). -/
def treeSum (l : List Nat) : Nat :=
  let group (g : Nat) : List Nat := (List.range 64).map (fun k => l.getD (64 * g + k) 0)
  let lanes := (List.range ((l.length + 63) / 64)).tail.foldl (fun acc g => List.zipWith fAdd acc (group g)) (group 0)
  (reduceTree (fun x y => addCode false .rne x y) 6 lanes).1

/-- The partial of one head over one extent: `g` the score grid, `v` the values of its tokens, DV lanes each (R258). -/
def extentPartial (g : Nat → Nat → Nat) (v : Nat → List Nat) (lw dv pages : Nat) : Partial :=
  let w := kvV lw * pages
  let grid := (List.range 32).flatMap (fun s => (List.range w).map (fun n => g s n))
  let m := grid.foldl fMax 0xFF800000
  let e (s n : Nat) : Nat := fExp2 (fSub (g s n) m)
  let lsum := (List.range w).map (fun n => (List.range 32).foldl (fun acc s => fAdd acc (e s n)) 0)
  let a := (List.range (kvTpp lw * pages)).foldl (fun acc t =>
    let i := t / kvTpp lw
    let j := t % kvTpp lw
    List.zipWith (fun x y => fFma (e (scoreSlice lw i j) (scoreIndex lw i j)) x y) (v t) acc) (List.replicate dv 0)
  ⟨m, treeSum lsum, a⟩

/-- Two partials merged, x the earlier in token order (R259). -/
def Partial.merge (x y : Partial) : Partial :=
  if y.m = 0xFF800000 then x
  else if x.m = 0xFF800000 then y
  else
    let m := fMax x.m y.m
    let fx := fExp2 (fSub x.m m)
    let fy := fExp2 (fSub y.m m)
    ⟨m, fFma x.l fx (fMul y.l fy), List.zipWith (fun p q => fFma p fx (fMul q fy)) x.a y.a⟩

/-- One level of the merge over the logical cores: core c, a multiple of 2^k, takes in core c + 2^(k - 1) (R260). -/
def mergeLevel (k : Nat) (p : List Partial) : List Partial :=
  (List.range p.length).map (fun c =>
    let x := p.getD c (Partial.empty 0)
    if c % 2 ^ k = 0 ∧ c + 2 ^ (k - 1) < p.length then x.merge (p.getD (c + 2 ^ (k - 1)) (Partial.empty 0)) else x)

/-- The step's partial of one head, in logical core 0 after the levels of R260; one beyond ⌈log2 N⌉ merges nothing. -/
def mergeCores (p : List Partial) : Partial :=
  ((List.range (Nat.log2 p.length + 1)).foldl (fun p k => mergeLevel (k + 1) p) p).headD (Partial.empty 0)

/-- The output of a head: a × VRCP(ℓ) (R260). -/
def Partial.output (x : Partial) : List Nat := x.a.map (fun v => fMul v (fRcp x.l))

/-- The bytes of a partial record for one head (R261). -/
def Partial.record (x : Partial) : List Nat := leBytes 4 x.m ++ leBytes 4 x.l ++ List.replicate 56 0 ++ x.a.flatMap (leBytes 4)

/-- λ = m + log2 ℓ, and where it lies (R263). -/
def Partial.lambda (x : Partial) : Nat := fAdd x.m (fLog2 x.l)
def lambdaVa (sbase heads rows l h q : Nat) : Nat := sbase + ((l * heads + h) * rows + q) * 4

end Sys2Proof.Machine
end

