-- ==== Sys2Proof/Machine/Pins.lean ====
section
/-! DEFINITION. The output pins, as the state drives them (R302, R304, R359, R384, R425). -/
namespace Sys2Proof.Machine

/-- What the part does to an output pin; a released pin is at the level that the board's resistor gives. -/
inductive PinLevel where
  | released | low | high
  deriving DecidableEq, Repr

/-- The part is powered and PWRGD is high. -/
def State.powered (s : State) : Bool := s.power.vsb && s.power.pwrgd

/-- G_REL_STATUS calls for an alert (R384). -/
def State.alertCase (s : State) : Bool :=
  !s.on F.G_REL_STATUS_ENS_A || !s.on F.G_REL_STATUS_ENS_B || s.getF F.G_REL_STATUS_STEWARDLESS != 0 ||
  s.getF F.G_REL_STATUS_TOWER_LOST != 0 || !s.on F.G_REL_STATUS_REF0_OK || !s.on F.G_REL_STATUS_REF1_OK

/-- ALERT_N (R359, R384): low through bring-up and where it has failed, and high once an orderly shutdown is done. -/
def State.alertN (s : State) : PinLevel :=
  let st := s.getF F.G_BOOT_STATE_STATE
  if !s.powered then .released
  else if st = 9 then .high
  else if st < 7 ∨ st = 10 ∨ s.alertCase then .low else .high

/-- FAULT_N (R359): low while a tower fault is recorded, and after a fault reset until it is read. -/
def State.faultN (s : State) : PinLevel :=
  if !s.powered then .released
  else if s.word F.PWR_TOWER_FAULT_FIELD.addr != 0 || s.power.faultHeld then .low else .high

/-- THERMTRIP_N, an open drain (R302). -/
def State.thermTripN (s : State) : PinLevel := if s.power.vsb && s.on F.THM_STATUS_TRIP then .low else .released

/-- The percentage of each period during which COOLREQ is released (R304, R359). -/
def State.coolReq (s : State) : Nat :=
  let st := s.getF F.G_BOOT_STATE_STATE
  if s.powered && (st == 7 || st == 8) then s.getF F.THM_COOL_DUTY_DUTY else 100

/-- The transmitters of a host port are on: once Ensign boot has ended, by the state of its link, and not in SD_DONE (R359). -/
def State.pcieTx (s : State) (port : Nat) : Bool :=
  s.powered && s.ensBooted && s.getF F.G_BOOT_STATE_STATE != 9 && (tabGet s.host.perst port).isSome

/-! The lands that R359 does not cover (R425) -/

/-- TDO: driven in Shift-IR and Shift-DR while VSB is present, released otherwise; what it shifts out is `out`. The TAP's controller state is the board's to step, so it is an argument. -/
def State.tdo (s : State) (shifting out : Bool) : PinLevel :=
  if s.power.vsb && shifting then (if out then .high else .low) else .released

/-- The I/O die that drives SPI_CLK, SPI_CS_N and SPI_IO: the holder of the flash lock, from bring-up on; no die where PWRGD is low, after NO_IMAGE and in SD_DONE (R343, R425, R442). -/
def State.spiDriver (s : State) : Option Nat :=
  let st := s.getF F.G_BOOT_STATE_STATE
  if !s.powered || st == 0 || st == 9 || (st == 10 && s.getF F.G_BOOT_CAUSE_FAIL == 1) then none
  else s.mgmt.flash.map (·.1)

/-- The QSPI lands of both I/O dies are tristated. -/
def State.spiReleased (s : State) : Bool := s.spiDriver.isNone

/-- I3C_SDA is with the part's I3C target, which drives it as I3C requires, while VSB is present; otherwise it is released (R425, R436). -/
def State.i3cTarget (s : State) : Bool := s.power.vsb

/-- A VIN_SNS pair is connected to its field's sense point, and PRSNT_N is at GND, in every phase of a part that is present (R425). -/
def State.vinSnsConnected (_s : State) (_field : Nat) : Bool := true
def State.prsntN (_s : State) : PinLevel := .low

end Sys2Proof.Machine
end

