-- ==== Sys2Proof/WellFormed.lean ====
section
/-! DEFINITION. Well-formed commands: every number names an item that the part has (R23, R25, R30), and a core instruction's word has the class and the opcode of its row (R113). -/
namespace Sys2Proof
open Sys2Proof.Machine (bits)

/-- A requester that exists: the functions are 64 of each of the four ports (R312). -/
def Requester.ok : Requester → Bool
  | .ensign _ => true
  | .fn index => decide (index < 256)
  | .i3c => true

/-- The word has this class and this opcode in bits [59:56] (R113). -/
def opIs (w : Word64) (cls op : Nat) : Bool := bits w.toNat 60 4 == cls && bits w.toNat 56 4 == op

/-- The word has the VX class and this opcode in bits [59:54] (R113, R121). -/
def vxIs (w : Word64) (op : Nat) : Bool := bits w.toNat 60 4 == 2 && bits w.toNat 54 6 == op

/-- The opcodes of a class other than VX that R107, R115, R119, R126 and R201 define. -/
def opsOf (cls : Nat) : List Nat :=
  match cls with
  | 0 => [0, 1, 2, 3, 4, 5, 6, 7]
  | 1 => [1, 2, 3, 4, 5]
  | 3 => [1, 2, 3, 4]
  | 4 => [1, 2, 3, 4]
  | 5 => [1, 2, 3]
  | _ => []

/-- The VX opcodes that R121 defines. -/
def vxOps : List Nat :=
  [0x01, 0x02, 0x03, 0x04, 0x05, 0x06, 0x07, 0x08, 0x09, 0x0A, 0x0B, 0x0C, 0x0D, 0x10, 0x11, 0x12, 0x13, 0x14, 0x15,
   0x20, 0x21, 0x30, 0x31, 0x32, 0x3F]

/-- The word has a reserved class or a reserved opcode (R113, R116). -/
def reservedWord (w : Word64) : Bool :=
  if bits w.toNat 60 4 = 2 then !(vxOps.contains (bits w.toNat 54 6))
  else !((opsOf (bits w.toNat 60 4)).contains (bits w.toNat 56 4))

/-- A register access lies in its window: 16 MiB of BAR0, 128 KiB of BAR4, 4 KiB of configuration space (R313, R314). -/
def RegAddr.ok : RegAddr → Bool
  | .bar0 a => decide (a < 0x1000000)
  | .bar4 a => decide (a < 0x20000)
  | .config a => decide (a < 0x1000)

/-- The operands of a command name what the part has. -/
def Instr.wellFormed : Instr → Bool
  | .registerWrite who addr _ _ _ => who.ok && addr.ok
  | .readClearCounter who addr _ _ => who.ok && addr.ok
  | .orbitTimerExpiry => true
  | .otickEdge _ => true
  | .otickMiss => true
  | .stopOrbits who _ => who.ok
  | .startOrbits who _ => who.ok
  | .tickSourceChange who _ => who.ok
  | .countLoad who _ => who.ok
  | .actionArm who entry _ => who.ok && decide (entry < 64)
  | .actionDisarm who entry _ => who.ok && decide (entry < 64)
  | .serviceSliceStart => true
  | .linkPhaseRecentre ens link _ => decide (ens < 2) && decide (link < 24)
  | .halyardTsvRecentre ens row _ => decide (ens < 2) && decide (row < 64)
  | .thermalSensorTrim ens tower _ => decide (ens < 2) && decide (tower < 4)
  | .calibrationComplete kind _ _ => decide (kind < 3)
  | .nsRollover => true
  | .ppsEdge _ => true
  | .ppsMiss => true
  | .secLoad who _ => who.ok
  | .timebaseSnapshotRead who => who.ok
  | .energyTotalRead who => who.ok
  | .mxwld core word _ => decide (core < 1088) && opIs word 1 1
  | .mxpass core word _ => decide (core < 1088) && opIs word 1 2
  | .mxbunt core word _ => decide (core < 1088) && opIs word 1 3
  | .mxidle core word _ => decide (core < 1088) && opIs word 1 4
  | .mxmark core word _ => decide (core < 1088) && opIs word 1 5
  | .mxmarkDone core _ => decide (core < 1088)
  | .weightLoadStart core _ => decide (core < 1088)
  | .weightLoadComplete core quad _ => decide (core < 1088) && decide (quad < 4)
  | .passStart core quad _ => decide (core < 1088) && decide (quad < 4)
  | .passComplete core quad _ => decide (core < 1088) && decide (quad < 4)
  | .rampDownStart core _ => decide (core < 1088)
  | .rampStepExpiry core _ => decide (core < 1088)
  | .rampUpStart core _ => decide (core < 1088)
  | .transitionAdmit core kind _ => decide (core < 1088) && decide (kind < 3)
  | .ctnop core word => decide (core < 1088) && opIs word 0 0
  | .ctli core word => decide (core < 1088) && opIs word 0 1
  | .ctadd core word => decide (core < 1088) && opIs word 0 2
  | .ctloop core word => decide (core < 1088) && opIs word 0 3
  | .ctbr core word => decide (core < 1088) && opIs word 0 4
  | .ctid core word => decide (core < 1088) && opIs word 0 5
  | .ctevt core word => decide (core < 1088) && opIs word 0 6
  | .ctberth core word => decide (core < 1088) && opIs word 0 7
  | .berthComplete core => decide (core < 1088)
  | .programStart core _ => decide (core < 1088)
  | .programFetchComplete core => decide (core < 1088)
  | .sywait core word => decide (core < 1088) && opIs word 4 1
  | .sywaitSatisfied core _ => decide (core < 1088)
  | .sysig core word => decide (core < 1088) && opIs word 4 2
  | .syfence core word => decide (core < 1088) && opIs word 4 3
  | .syfenceSatisfied core _ => decide (core < 1088)
  | .syset core word => decide (core < 1088) && opIs word 4 4
  | .vadd core word => decide (core < 1088) && vxIs word 1
  | .vsub core word => decide (core < 1088) && vxIs word 2
  | .vmul core word => decide (core < 1088) && vxIs word 3
  | .vfma core word => decide (core < 1088) && vxIs word 4
  | .vfms core word => decide (core < 1088) && vxIs word 5
  | .vmax core word => decide (core < 1088) && vxIs word 6
  | .vmin core word => decide (core < 1088) && vxIs word 7
  | .vabs core word => decide (core < 1088) && vxIs word 8
  | .vneg core word => decide (core < 1088) && vxIs word 9
  | .vcmplt core word => decide (core < 1088) && vxIs word 10
  | .vcmpeq core word => decide (core < 1088) && vxIs word 11
  | .vsel core word => decide (core < 1088) && vxIs word 12
  | .vbci core word => decide (core < 1088) && vxIs word 13
  | .vexp2 core word => decide (core < 1088) && vxIs word 16
  | .vlog2 core word => decide (core < 1088) && vxIs word 17
  | .vrcp core word => decide (core < 1088) && vxIs word 18
  | .vrsq core word => decide (core < 1088) && vxIs word 19
  | .vsqrt core word => decide (core < 1088) && vxIs word 20
  | .vtanh core word => decide (core < 1088) && vxIs word 21
  | .vredsum core word => decide (core < 1088) && vxIs word 32
  | .vredmax core word => decide (core < 1088) && vxIs word 33
  | .vld core word => decide (core < 1088) && vxIs word 48
  | .vst core word => decide (core < 1088) && vxIs word 49
  | .vldb core word => decide (core < 1088) && vxIs word 50
  | .vmark core word => decide (core < 1088) && vxIs word 63
  | .vmarkDone core => decide (core < 1088)
  | .stld core word => decide (core < 1088) && opIs word 3 1
  | .stst core word => decide (core < 1088) && opIs word 3 2
  | .stpf core word => decide (core < 1088) && opIs word 3 3
  | .stmark core word => decide (core < 1088) && opIs word 3 4
  | .stmarkDone core => decide (core < 1088)
  | .streamComplete core _ => decide (core < 1088)
  | .coreFaulted core _ => decide (core < 1088)
  | .watchdogHang core => decide (core < 1088)
  | .voyageLaunch who core _ => who.ok && decide (core < 1088)
  | .voyageAbort who core _ => who.ok && decide (core < 1088)
  | .localStoreSplitChange who core _ => who.ok && decide (core < 1088)
  | .packetHop _ => true
  | .tallyAdd _ => true
  | .frameSend link _ _ => decide (link < 24)
  | .frameReceive link _ _ _ => decide (link < 24)
  | .linkEnable who link _ => who.ok && decide (link < 24)
  | .linkDisable who link _ => who.ok && decide (link < 24)
  | .sidebandUp link => decide (link < 24)
  | .sbTimeout link => decide (link < 24)
  | .mainbandTrained link _ _ => decide (link < 24)
  | .mbTrainTimeout link => decide (link < 24)
  | .ident link _ _ _ => decide (link < 24)
  | .identityTimeout die => decide (die < 4)
  | .capabilityRecord link _ => decide (link < 24)
  | .paramTimeout link => decide (link < 24)
  | .laneFailure link => decide (link < 24)
  | .retrain who link _ => who.ok && decide (link < 24)
  | .retrainComplete link => decide (link < 24)
  | .retrainTimeout link => decide (link < 24)
  | .probe who link _ => who.ok && decide (link < 24)
  | .linkDelayMeasured link => decide (link < 24)
  | .mrd die win _ _ _ => decide (die < 4) && decide (win < 16)
  | .mwr die win _ _ _ _ => decide (die < 4) && decide (win < 16)
  | .mwrb die win _ _ _ _ mask => decide (die < 4) && decide (win < 16) && decide (mask < 2 ^ 32)
  | .msig die win _ _ => decide (die < 4) && decide (win < 16)
  | .mevt die win _ => decide (die < 4) && decide (win < 16)
  | .hrd _ => true
  | .hwr _ => true
  | .halyardRequestComplete site _ => decide (site < 1088)
  | .expansionComplete site _ => decide (site < 1088)
  | .hrsp _ => true
  | .hack _ => true
  | .agedRemoteGrant site => decide (site < 1088)
  | .rowIdleClose site bank => decide (site < 1088) && decide (bank < 32)
  | .refreshDue site bank => decide (site < 1088) && decide (bank < 32)
  | .refreshPayback site bank => decide (site < 1088) && decide (bank < 32)
  | .refreshComplete site bank => decide (site < 1088) && decide (bank < 32)
  | .hcopy _ => true
  | .bkcast core word => decide (core < 1088) && opIs word 5 1
  | .bksetk core word => decide (core < 1088) && opIs word 5 2
  | .bkmark core word => decide (core < 1088) && opIs word 5 3
  | .bkmarkDone core => decide (core < 1088)
  | .bkcmd _ => true
  | .bksetkPacket _ => true
  | .bkdone _ => true
  | .waveStart site => decide (site < 1088)
  | .engineStepComplete site bank _ => decide (site < 1088) && decide (bank < 32)
  | .patrolScrubDue site => decide (site < 1088)
  | .scrubStepStart site => decide (site < 1088)
  | .lineFillReturn _ => true
  | .missAdmit clu => decide (clu < 128)
  | .crds _ => true
  | .cclaim _ => true
  | .cfill _ => true
  | .cwb _ => true
  | .cinv _ => true
  | .crecall _ => true
  | .catom _ => true
  | .cdata _ => true
  | .cgrant _ => true
  | .ciack _ => true
  | .cwbr _ => true
  | .cack _ => true
  | .invalRo who clu _ => who.ok && decide (clu < 128)
  | .wbAll who clu _ => who.ok && decide (clu < 128)
  | .cacheCommandComplete clu => decide (clu < 128)
  | .xinv who part _ => who.ok && decide (part < 16)
  | .xinvDone _ => true
  | .censusRead who part _ => who.ok && decide (part < 16)
  | .censusInc who part _ => who.ok && decide (part < 16)
  | .censusDec who part _ => who.ok && decide (part < 16)
  | .censusSet who part _ => who.ok && decide (part < 16)
  | .censusLock who part _ => who.ok && decide (part < 16)
  | .censusDecunlock who part _ => who.ok && decide (part < 16)
  | .censusUnlock who part _ => who.ok && decide (part < 16)
  | .censusOpComplete part => decide (part < 16)
  | .freeTailAdvance who part _ => who.ok && decide (part < 16)
  | .freePageWaitExpiry _ => true
  | .energySample _ _ _ => true
  | .powerWaveStart => true
  | .gateSegmentClose ovr rails => ovr.all (· < 1088) && rails.all (fun e => decide (e.1 < 1088))
  | .currentRegionTrip clu region => decide (clu < 128) && decide (region < 6)
  | .sensePointSample volts _ _ => volts.all (fun e => decide (e.1 < 64) && e.2.length == 136)
  | .domainFault fabric n => decide (n < if fabric then 4 else 64)
  | .vinWarning _ field => decide (field < 4)
  | .vinAboveWarning _ => true
  | .releaseQualified => true
  | .waveResume => true
  | .vinBelowReset _ field => decide (field < 4)
  | .fieldFault fields _ => fields.all (· < 4)
  | .governorWindow => true
  | .energyCtrlWrite who _ => who.ok
  | .freqRequest who die _ => who.ok && decide (die < 4)
  | .setpointReached cluster => decide (cluster < 128)
  | .stoppedFrequencyChange die => decide (die < 4)
  | .pcapAssert _ _ => true
  | .pcapRelease _ => true
  | .thermalSensorSample cores dram caps => cores.all (fun e => decide (e.1 < 1088)) && dram.all (fun e => decide (e.1 < 256)) && caps.all (fun e => decide (e.1 < 8))
  | .energyForecast _ => true
  | .coolreqPeriod => true
  | .coolreqDutyTimeout => true
  | .doorbell fn queue _ => decide (fn < 256) && decide (queue < 4096)
  | .workOrderDispatch queue => decide (queue < 4096)
  | .nop _ => true
  | .launch _ => true
  | .copy _ => true
  | .signal _ => true
  | .write _ => true
  | .event _ => true
  | .workOrderComplete _ => true
  | .queueResume who queue _ => who.ok && decide (queue < 4096)
  | .queueEnable who queue _ => who.ok && decide (queue < 4096)
  | .bar2Read fn _ _ _ => decide (fn < 256)
  | .bar2Write fn _ _ _ => decide (fn < 256)
  | .flr fn => decide (fn < 256)
  | .perstRelease port rate _ => decide (port < 4) && decide (1 ≤ rate) && decide (rate ≤ 6)
  | .hostPortReset port => decide (port < 4)
  | .mgmt who port _ => who.ok && decide (port < 4)
  | .partitionRowsWrite who part _ _ => who.ok && decide (part < 16)
  | .partitionEnable who part _ => who.ok && decide (part < 16)
  | .quiesceReq who part _ => who.ok && decide (part < 16)
  | .partitionReset who part _ => who.ok && decide (part < 16)
  | .clusterReset who clu _ => who.ok && decide (clu < 128)
  | .coreReset who core _ => who.ok && decide (core < 1088)
  | .eventRecordWritten ring => decide (ring < 64)
  | .eventHeadAdvance who ring _ => who.ok && decide (ring < 64)
  | .msixHoldoffExpiry ring => decide (ring < 64)
  | .eventEnableWrite who page _ => who.ok && decide (page < 0x1000)
  | .powerGood _ => true
  | .pwrgdFall _ => true
  | .vsbPowerOn strap _ => decide (strap < 4)
  | .vsbLoss _ => true
  | .auxSupplyFault _ => true
  | .resetAll who _ _ => who.ok
  | .shutdown who _ _ => who.ok
  | .forceCold who _ => who.ok
  | .ensResetA who _ => who.ok
  | .ensResetB who _ => who.ok
  | .ensignWatchdogExpiry ens => decide (ens < 2)
  | .ensignHeartbeat ens die => decide (ens < 2) && decide (die < 4)
  | .stewardTimeout die => decide (die < 4)
  | .stewardless die => decide (die < 4)
  | .ensignClaim ens die => decide (ens < 2) && decide (die < 4)
  | .ensignRoleGiveUp _ => true
  | .refclkLoss _ die => decide (die < 4)
  | .refclkSelect who _ => who.ok
  | .driverEclipse who die index _ => who.ok && decide (die < 4) && decide (index < 9)
  | .ghostFlit core => decide (core < 1088)
  | .bankRetire who die index _ => who.ok && decide (die < 4) && decide (index < 272)
  | .portFail who die index _ => who.ok && decide (die < 4) && decide (index < 9)
  | .assign who clu _ => who.ok && decide (clu < 128)
  | .release who clu _ => who.ok && decide (clu < 128)
  | .testFlipArm who _ => who.ok
  | .bistAll who _ => who.ok
  | .bistRow who _ => who.ok
  | .bistLink who _ => who.ok
  | .bistDone sites _ _ => sites.all (fun e => decide (e.1 < 1088))
  | .scanOpenRequest who _ => who.ok
  | .jtagInstruction _ => true
  | .scanSequenceStart => true
  | .getInfo who _ => who.ok
  | .fwBegin who _ => who.ok
  | .fwWrite who _ => who.ok
  | .fwVerify who _ => who.ok
  | .fwActivate who _ => who.ok
  | .fwAbort who _ => who.ok
  | .mailboxCommandComplete _ _ => true
  | .getVersion _ => true
  | .getCapabilities _ => true
  | .negotiateAlgorithms _ => true
  | .getDigests _ => true
  | .getCertificate _ _ _ _ => true
  | .challenge _ _ _ => true
  | .getMeasurements _ _ _ _ => true
  | .doeDiscovery port _ => decide (port < 4)
  | .setEndpointId eid => decide (eid < 256)
  | .entdaa _ => true
  | .setdasa _ _ => true
  | .getSensorReading _ => true
  | .setPowerCap _ => true
  | .setCapOrbit _ => true
  | .setMinDuty _ => true
  | .requestUpdate => true
  | .flashLockTimeout die => decide (die < 4)
  | .refclkRestored _ => true
  | .vinAboveReset _ field => decide (field < 4)
  | .auxSupplyInRegulation _ => true
  | .hostCompletion _ _ _ => true
  | .atsInvalidation port fn _ _ _ => decide (port < 4) && decide (fn < 256)
  | .reservedInstruction core word => decide (core < 1088) && reservedWord word
  | .vxInstructionRetire core _ _ _ => decide (core < 1088)
  | .activateFirmware _ _ => true

end Sys2Proof
end

