-- ==== Sys2Proof/Safety.lean ====
section
/-! DEFINITION. What a safe run is, what a command leaves alone, and the form that every state of a run has. -/
namespace Sys2Proof.Machine

/-- A step is safe when it answers a next state: it stops neither with a fault nor with a refusal. -/
def SafeStep (s : State) : Prop := ∃ t, step s = .next t

/-- A run of `n` steps is safe when every step of it is. -/
def SafeRun : Nat → State → Prop
  | 0, _ => True
  | n + 1, s => ∃ t, step s = .next t ∧ SafeRun n t

/-! Frames -/

/-- Every register outside `p` holds the same word. -/
def SameRegs (p : Nat → Prop) (s t : State) : Prop := ∀ a, ¬ p a → t.word a = s.word a

/-- Nothing but registers in `p` has changed. -/
def OnlyRegs (p : Nat → Prop) (s t : State) : Prop := t = { s with regs := t.regs } ∧ SameRegs p s t

/-- Nothing but registers in `p` and what core `i` holds beside its registers has changed. -/
def OnlyCore (i : Nat) (p : Nat → Prop) (s t : State) : Prop :=
  t = { s with regs := t.regs, cores := t.cores } ∧ SameRegs p s t ∧ ∀ j, j ≠ i → t.core j = s.core j

/-- The registers of one page. -/
def onPage (pg : Nat) (a : Nat) : Prop := a / 0x1000 = pg / 0x1000

/-- The registers of the event-ring pages. -/
def onRings (a : Nat) : Prop := 0x80000 ≤ a ∧ a < 0xC0000

/-! The form of a state -/

/-- The register table and the table of staged values list each address once, in rising order. -/
def State.tablesOrdered (s : State) : Bool := tabSorted s.regs && tabSorted s.staged

/-- Every staged value waits for a register that has a staged field (R11). -/
def State.stagedPlain (s : State) : Bool :=
  s.staged.all (fun e => match regAt e.1 with
    | some (_, _, d) => d.fields.any (fun f => decide (f.acc = .stg))
    | none => false)

/-- Device memory is in its canonical form. -/
def State.memoryCanonical (s : State) : Bool := s.dram.wf

end Sys2Proof.Machine
end

