-- ==== Sys2Proof/Certificates/Slice0/Obligations.lean ====
section
/-! DEFINITION. The statements for the provers: what the commands and the machine do, from the rules of the spec. -/
namespace Sys2Proof.Machine

/-- A field of the register at `a`, by its row of the register table. -/
def fldAt (a : Nat) (f : RField) : Fld := ⟨a, f.lsb, f.width⟩

/-- A dropped access of function `f` to address `a` is counted and recorded on its port's page (R315, R397). -/
def Filtered (f a : Nat) (isWrite : Bool) (s t : State) : Prop :=
  t.getF (F.HPT_FILT_DROP_COUNT (f / 64)) = satAdd (s.getF (F.HPT_FILT_DROP_COUNT (f / 64))) 1 (2 ^ (F.HPT_FILT_DROP_COUNT (f / 64)).width - 1) ∧
  t.getF (F.HPT_FILT_LAST_PAGE (f / 64)) = a / 0x1000 ∧ t.getF (F.HPT_FILT_LAST_FN (f / 64)) = f % 64 ∧
  t.getF (F.HPT_FILT_LAST_WRITE (f / 64)) = b2n isWrite ∧ SameRegs (fun x => x = pgHpt (f / 64) + 0x108 ∨ x = pgHpt (f / 64) + 0x10C) s t

/-- What a tick recognised in state `u` leaves, where no action is armed (R40, R41, R44, R46, R54, R61): the new count, a new open orbit, the staged values taken, the length of the closed
orbit, and the overruns. -/
def TickGives (u t : State) : Prop :=
  (∀ n, n < 64 → u.on (F.ORB_ACT_CTRL_ARM n) = false) → u.tablesOrdered = true → u.stagedPlain = true →
  t.now = u.now ∧ t.running = true ∧ t.staged = [] ∧
  t.orb.count = (if u.orb.loadPending then BitVec.ofNat 64 (u.getF F.ORB_COUNT_SET_HI_ORBIT * 2 ^ 32 + u.getF F.ORB_COUNT_SET_LO_ORBIT) else u.orb.count + 1) ∧
  t.orb.loadPending = false ∧ (u.orb.loadPending = true → t.on F.ORB_FLAGS_COUNT_LOADED = true) ∧
  t.orb.tickAt = some u.now ∧ t.orb.len = 0 ∧ t.orb.missed = false ∧ t.orb.sliceOpen = false ∧ t.orb.tickSec = u.orb.sec ∧ t.orb.tickNs = u.orb.ns ∧
  (u.orb.tickAt.isSome = true → t.getF F.ORB_ORBIT_LEN_LAST_LEN = min u.orb.len (2 ^ F.ORB_ORBIT_LEN_LAST_LEN.width - 1)) ∧
  (∀ a, a = 0x2104 ∨ a = 0x210C → ∀ m v, tabGet u.staged a = some (m, v) →
    t.word a = BitVec.ofNat 32 (Nat.lor (Nat.land (u.word a).toNat (2 ^ 32 - 1 - m)) (Nat.land v m))) ∧
  (∀ a, a = 0x2104 ∨ a = 0x210C → tabGet u.staged a = none → t.word a = u.word a) ∧
  t.getF F.ORB_OVR_TICKS_COUNT = satAdd (u.getF F.ORB_OVR_TICKS_COUNT) (b2n (u.runningCores.any (fun i => decide (u.programOrbit i < t.orbit)))) (2 ^ F.ORB_OVR_TICKS_COUNT.width - 1) ∧
  (∀ i p, i ∈ u.runningCores → u.programOrbit i < t.orbit → u.partOfSite i = some p → p < 16 → bit (t.getF F.ORB_OVERRUN_PART) p = true)

/-- A second edge with TIM_NS at `ns` afterwards (R58, R60). -/
def SecondAt (ns : Nat) (u t : State) : Prop :=
  t.orb.ns = ns ∧
  (u.on F.TIM_CTRL_SEC_LOAD = false → t.orb.sec = u.orb.sec + 1 ∧ t.on F.TIM_CTRL_SEC_LOAD = false ∧ t.getF F.TIM_FLAGS_SEC_LOADED = u.getF F.TIM_FLAGS_SEC_LOADED) ∧
  (u.on F.TIM_CTRL_SEC_LOAD = true → t.orb.sec = BitVec.ofNat 64 (u.getF F.TIM_SEC_SET_HI_SEC * 2 ^ 32 + u.getF F.TIM_SEC_SET_LO_SEC) ∧
    t.on F.TIM_CTRL_SEC_LOAD = false ∧ t.on F.TIM_FLAGS_SEC_LOADED = true)

/-- The five MX instructions with their opcodes (R107). -/
def mxOps : List ((Nat → Word64 → MxWhen → Instr) × Nat) := [(.mxwld, 1), (.mxpass, 2), (.mxbunt, 3), (.mxidle, 4), (.mxmark, 5)]

/-- The CORE_MX_STATUS register (R112). -/
def mxStatus (i a : Nat) : Prop := a = pgCore i + 0x204

/-- The core has power, its matrix engine's time has come to the command's cycle, and no bank of its local store was contested since the last command (R91, R132). -/
def MxNow (s : State) (i : Nat) (w : MxWhen) : Prop :=
  s.mxPowered i = true ∧ (s.core i).mx.started = true ∧ (s.core i).mx.clock = w.cycle ∧ w.banks = []

/-- The commands of a matrix engine's own time. -/
def mxTimed (i q : Nat) : List (MxWhen → Instr) :=
  [.mxmarkDone i, .weightLoadStart i, .weightLoadComplete i q, .passStart i q, .passComplete i q, .rampDownStart i, .rampStepExpiry i, .rampUpStart i]

/-- A target of a load can begin to take its tile: no other tile waits there, its bus or port is free, and in FULL row 0 of the set is free (R97, R98). -/
def TileFree (m : MxState) (sh p : Nat) : Prop :=
  (m.quad p).waiting = none ∧ (m.quad p).loadFree ≤ m.clock ∧ (sh = 0 → (m.quad p).setFree ≤ m.flow)

/-- The core issues the word, and the program goes on after it: it is not the program's last (R114, R116). -/
def Issues (s : State) (i : Nat) (w : Word64) : Prop :=
  s.issueOk i w = true ∧ s.getF (F.CORE_PC_PC i) + 1 < (s.core i).prog.length

/-- The program counter has gone on by one, modulo its 12 bits (R139). -/
def PcNext (i : Nat) (s t : State) : Prop :=
  t.getF (F.CORE_PC_PC i) = (s.getF (F.CORE_PC_PC i) + 1) % 2 ^ 12

/-- The register that holds the program counter of a core. -/
def pcReg (i a : Nat) : Prop := a = pgCore i + 0x12C

/-- The register that holds a tally of a core. -/
def tallyReg (i t a : Nat) : Prop := a = (tallyFld i t).addr

/-- The scalar registers read as before, but for `d`, which reads `v` unless it is S0 (R115). -/
def ScalarSet (i d : Nat) (v : Word) (s t : State) : Prop :=
  t.scalar i d = (if d = 0 then 0 else v) ∧ ∀ r, r ≠ d → t.scalar i r = s.scalar i r

/-- A core's state but for its scalar registers. -/
def SameButScalars (i : Nat) (s t : State) : Prop := t.core i = { s.core i with scalars := (t.core i).scalars }

/-- The cycles for which SYWAIT or SYFENCE held issue are counted, up to the counter's maximum (R139, R140). -/
def HeldCounted (i cycles : Nat) (s t : State) : Prop :=
  t.getF (F.CORE_SYWAIT_CYC_COUNT i) = satAdd (s.getF (F.CORE_SYWAIT_CYC_COUNT i)) cycles (2 ^ (F.CORE_SYWAIT_CYC_COUNT i).width - 1)

/-- Every VX instruction with its opcode (R121). -/
def vxRows : List ((Nat → Word64 → Instr) × Nat) :=
  [(.vadd, 0x01), (.vsub, 0x02), (.vmul, 0x03), (.vfma, 0x04), (.vfms, 0x05), (.vmax, 0x06), (.vmin, 0x07), (.vabs, 0x08),
   (.vneg, 0x09), (.vcmplt, 0x0A), (.vcmpeq, 0x0B), (.vsel, 0x0C), (.vbci, 0x0D), (.vexp2, 0x10), (.vlog2, 0x11),
   (.vrcp, 0x12), (.vrsq, 0x13), (.vsqrt, 0x14), (.vtanh, 0x15), (.vredsum, 0x20), (.vredmax, 0x21), (.vld, 0x30),
   (.vst, 0x31), (.vldb, 0x32), (.vmark, 0x3F)]

/-- The vector engine may retire the instruction in this place: it is no VMARK, nothing before it interlocks with it, the engine is
not held, and a start after 64 idle cycles finds a place in the step limiter; every instruction before it has started too, in program order (R122, R123, R269, R299). -/
def VxMayRetire (s : State) (i slot cycle : Nat) (e : VxEntry) : Prop :=
  (s.core i).vx[slot]? = some e ∧ wVxOp e.word ≠ 0x3F ∧ s.gov.pcapHold = false ∧ s.coreSt i ≠ coreEclipsed ∧
  vxStarted ((s.core i).vx.take (slot + 1)) = true ∧
  ((s.core i).vxOn = true ∨ cycle < (s.core i).vxMark + 64 ∨ s.limiterFree i cycle = true)

/-- The lanes and masks of a core, but for one register. -/
def VregsBut (d : Nat) (c k : CoreState) : Prop := ∀ r, r ≠ d → k.vreg r = c.vreg r

/-- An admitted write of a register: the requester may write these bits, and `u` is the state with a refused part counted (R315, R395, R403). -/
def Admitted (s u : State) (who : Requester) (a need : Nat) (v : Word) : Prop :=
  ∃ m, s.admitted who a v = (u, some m) ∧ Nat.land m need = need

/-- A packet is held by link `n`. -/
def onLink (n : Nat) (e : Nat × Packet) : Bool := match e.2.place with | .link m _ _ => m == n | _ => false

/-- Nothing but the page of link `n`, the moonlet page and what the link holds beside its page has changed. -/
def OnlyLink (n : Nat) (s t : State) : Prop :=
  t = { s with regs := t.regs, links := t.links } ∧ SameRegs (fun a => onPage (pgLnk n) a ∨ onPage pgMnl a) s t ∧
  ∀ m, m ≠ n → t.linkSt m = s.linkSt m

/-- The link has gone to a state of R160 and nothing but the link has changed. -/
def LinkGoes (n st : Nat) (s t : State) : Prop := t.lnk n = st ∧ (t.linkSt n).since = s.now ∧ OnlyLink n s t

/-- The link is FAILED with a cause: the packets it held are gone, and their flits are counted in LNK_LOST (R160, R162). -/
def LinkFails (n cause : Nat) (s t : State) : Prop :=
  t.lnk n = lnkFailed ∧ t.getF (F.LNK_CAUSE_CAUSE n) = cause ∧
  t.packets = s.packets.filter (fun e => !onLink n e) ∧
  t.getF (F.LNK_LOST_COUNT n) = satAdd (s.getF (F.LNK_LOST_COUNT n)) ((s.packets.filter (onLink n)).map (fun e => linkFlits n e.2)).sum (2 ^ (F.LNK_LOST_COUNT n).width - 1) ∧
  OnlyLink n { s with packets := t.packets } t

/-- A packet is dropped by the router of site `i`: counted, with its source and cause (R145, R171). -/
def Dropped (i id cause src : Nat) (s t : State) : Prop :=
  t.pkt id = none ∧ (∀ j, j ≠ id → t.pkt j = s.pkt j) ∧
  t.getF (F.HYP_RT_DROP_COUNT i) = satAdd (s.getF (F.HYP_RT_DROP_COUNT i)) 1 (2 ^ (F.HYP_RT_DROP_COUNT i).width - 1) ∧
  t.getF (F.HYP_RT_LASTDROP_SRC i) = src % 2 ^ 16 ∧ t.getF (F.HYP_RT_LASTDROP_CAUSE i) = cause ∧
  t = { s with regs := t.regs, packets := t.packets, mesh := t.mesh } ∧ SameRegs (fun a => a = pgHyp i + 0x704 ∨ a = pgHyp i + 0x708) s t

/-- `n` hops of a packet. -/
def hopTimes (id : Nat) : Nat → State → State
  | 0, s => s
  | n + 1, s => match exec (.packetHop id) s with
    | .next t => hopTimes id n t
    | _ => s

/-- A refused or dropped message of the moonlet is counted and recorded on the moonlet page, and its slot on the link's page (R166, R168, R170). -/
def MnlRefused (die ty win status : Nat) (s t : State) : Prop :=
  t.getF F.MNL_ERR_COUNT = satAdd (s.getF F.MNL_ERR_COUNT) 1 (2 ^ F.MNL_ERR_COUNT.width - 1) ∧ t.getF F.MNL_LASTERR_TYPE = ty ∧
  t.getF F.MNL_LASTERR_WIN = win % 16 ∧ t.getF F.MNL_LASTERR_STATUS = status ∧ t.getF F.MNL_LASTERR_DIE = die ∧
  SameRegs (fun a => onPage pgMnl a ∨ onPage (pgLnk (20 + die)) a) s t

/-- A message without data waits in the gateway of the moonlet's link to a die, on RSP (R161, R165). -/
def MnlAnswered (die ty tag status : Nat) (s t : State) : Prop :=
  t = { s with regs := t.regs, packets := t.packets, links := t.links, mesh := t.mesh, nextPkt := s.nextPkt + 1 } ∧
  (∃ q, t.pkt s.nextPkt = some q ∧ q.place = .link (20 + die) true 0 ∧ q.vc = 2 ∧ q.ty = ty ∧ q.tag = tag ∧ q.aux = status ∧ q.data = []) ∧
  (∀ j, j ≠ s.nextPkt → t.pkt j = s.pkt j) ∧ (t.linkSt (20 + die)).toB.waiting = (s.linkSt (20 + die)).toB.waiting ++ [(s.nextPkt, 0)] ∧
  ∀ n, n ≠ 20 + die → t.linkSt n = s.linkSt n

/-- A request is answered where it ended: a packet on RSP, on the reversed route, with the request's tag, a status and data (R147, R181). -/
def Answered (i ty status : Nat) (d : List Byte) (p : Packet) (s t : State) : Prop :=
  t.nextPkt = s.nextPkt + 1 ∧ ∃ q, t.pkt s.nextPkt = some q ∧ q.place = .router i ∧ q.route = reverseRoute p ∧ q.cur = 0 ∧ q.vc = 2 ∧ q.ty = ty ∧
    q.tag = p.tag ∧ q.part = p.part ∧ q.aux = status ∧ q.data = d

/-- The registers of a site's halyard-port page. -/
def hypPage (i a : Nat) : Prop := onPage (pgHyp i) a

/-- The type of a request's answer: HRSP to HRD, HACK to HWR (R181). -/
def answerTy (p : Packet) : Nat := if p.ty = 0x10 then 0x12 else 0x13

/-- A refresh operation of bank `b` begins: it takes a token, its row closes, it is counted, and memory is as before (R173, R191, R206). -/
def RefreshBegins (i b : Nat) (urgent : Bool) (debt : Nat) (s t : State) : Prop :=
  (t.port i).refreshing = (s.port i).refreshing ++ [b] ∧ tabGet (t.port i).openRows b = none ∧ (t.port i).debtOf b = debt ∧
  t.getF (F.HYP_REF_OPS_COUNT i) = satAdd (s.getF (F.HYP_REF_OPS_COUNT i)) 1 (2 ^ (F.HYP_REF_OPS_COUNT i).width - 1) ∧
  t.getF (F.HYP_REF_URGENT_COUNT i) = satAdd (s.getF (F.HYP_REF_URGENT_COUNT i)) (b2n urgent) (2 ^ (F.HYP_REF_URGENT_COUNT i).width - 1) ∧
  t.dram = s.dram ∧ (∀ j, j ≠ i → t.port j = s.port j) ∧
  SameRegs (fun a => a = pgHyp i + 0x128 ∨ a = pgHyp i + 0x12C ∨ a = (F.DIE_BK_PEAK_TOK (siteDie i)).addr) s t

/-- The packets of a broadcast from site `i` to the ports of `ts`, in order, on CTRL (R150, R203). -/
def BroadcastSent (i ty tag addr aux : Nat) (d : List Byte) (ts : List Nat) (s t : State) : Prop :=
  t.nextPkt = s.nextPkt + ts.length ∧ ∀ k j, ts[k]? = some j → ∃ q, t.pkt (s.nextPkt + k) = some q ∧ q.place = .router i ∧
    q.route = synthRoute (s.linkSel i) i j 1 ∧ q.vc = 0 ∧ q.ty = ty ∧ q.tag = tag ∧ q.addr = addr ∧ q.aux = aux ∧ q.data = d ∧ q.src = siteNum i

/-- A packet that a cluster injects through its CLU port, from its router at column 4 or 12, with PART.CLU set and SRCKIND 0 (R147, R149). -/
def CluSent (c dst exit vc ty addr id : Nat) (t : State) : Prop :=
  ∃ q, t.pkt id = some q ∧ q.place = .router (cluSite c) ∧ q.route = synthRoute (t.linkSel (cluSite c)) (cluSite c) dst exit ∧ q.vc = vc ∧
    q.ty = ty ∧ q.addr = addr ∧ q.clu = true ∧ q.srcKind = 0 ∧ q.src = siteNum (cluSite c)

/-- A coherent packet of a type stands at the CLU port of cluster `c`, which serves, and nothing before it in its order (R152). -/
def AtClu (id ty c : Nat) (p : Packet) (s : State) : Prop :=
  s.pkt id = some p ∧ p.ty = ty ∧ s.inOrder id p = true ∧ ∃ i, p.place = .clu i ∧ cluOfSite i = c ∧ s.cluSt c = cluUp

/-- What a cluster's invalidation or recall changes: its lines and requests in flight, one count, one packet answered. -/
def CluOnly (c : Nat) (s t : State) : Prop :=
  t = { s with regs := t.regs, clusters := t.clusters, packets := t.packets, nextPkt := s.nextPkt + 1, mesh := t.mesh } ∧
  (∀ j, j ≠ c → t.cluster j = s.cluster j) ∧ SameRegs (onPage (pgClu c)) s t

/-- The census operations of a partition page, by their code (R234). -/
def censusRows : List ((Requester → Nat → Word → Instr) × Nat) :=
  [(.censusRead, 0), (.censusInc, 1), (.censusDec, 2), (.censusSet, 3), (.censusLock, 4), (.censusDecunlock, 5), (.censusUnlock, 6)]

/-- What a census operation does to an entry by R234: the entry after it, or none where it is refused. -/
def CensusRule (op e v : Nat) (r : Option Nat) : Prop :=
  let refs := e % 2 ^ 30
  (op = 0 → r = some e) ∧
  (op = 1 → r = if refs = 2 ^ 30 - 1 then none else some (e + 1)) ∧
  (op = 2 → r = if refs = 0 then none else some (e - 1)) ∧
  (op = 3 → ∃ x, r = some x ∧ x % 2 ^ 30 = v % 2 ^ 30 ∧ x / 2 ^ 30 = e / 2 ^ 30) ∧
  (op = 4 → ∃ x, r = some x ∧ bit x 31 = true ∧ x % 2 ^ 31 = e % 2 ^ 31) ∧
  (op = 5 → 0 < refs → ∃ x, r = some x ∧ bit x 31 = false ∧ x % 2 ^ 30 = refs - 1) ∧
  (op = 6 → ∃ x, r = some x ∧ bit x 31 = false ∧ x % 2 ^ 31 = e % 2 ^ 31)

/-- The 8-byte entry at an address of device memory, as its port reads it without an error, behind the writes that wait there (R180). -/
def EntryAt (s : State) (a e : Nat) : Prop :=
  isHole a = false ∧ dpaSpace a = 0 ∧ (∀ j, dpaSite a = some j → s.towerOff j = false ∧ s.hal j ≠ halFailed ∧ s.bankRetired j (dpaBank a) = false) ∧
  s.dram.errors (a / 32 * 32) 32 = [] ∧ ∀ j, dpaSite a = some j → leNat ((List.range 8).map (fun k => s.portByte j (a + k))) = e

/-- Event bit `b` of a page stands (R401). -/
def EvtOn (t : State) (pg b : Nat) : Prop := bit (t.word (pg + 0x10)).toNat b = true

/-- A site is eclipsed for a fault of its gate or its rail, and latched (R272, R274). -/
def EclipsedBy (cause i : Nat) (t : State) : Prop := t.coreSt i = coreEclipsed ∧ t.getF (F.CORE_ECL_CAUSE i) = cause ∧ t.siteLatched i = true

/-- PWR_LASTFAULT names a cause, and the power page shows its event (R285). -/
def Faulted (cause event : Nat) (t : State) : Prop := t.getF F.PWR_LASTFAULT_CAUSE = cause ∧ EvtOn t pgPwr event

/-- What R292 does with the level at the end of a full window: `e` µJ in `len` cycles, the orbit having drawn `drawn` µJ in `t` cycles of a period of `p`; H and L in
100 µJ. Powers are in µJ per cycle. -/
def LevelRule (g low : Int) (e len drawn t p high lowB : Nat) (lowOn : Bool) : Int :=
  let hi : ℚ := 100 * high / p
  let lo : ℚ := 100 * lowB / p
  let tEnd : ℚ := max (p : ℚ) (t + 1000)
  let avg : ℚ := (drawn + e / len * (tEnd - t)) / tEnd
  if hi < avg then min (g + 1) 22
  else if lowOn = true ∧ avg < lo then max (g - 1) (min low g)
  else if 0 < g ∧ avg < 98 / 100 * hi then g - 1
  else if g < 0 ∧ (lowOn = false ∨ 102 / 100 * lo < avg) then g + 1
  else g

/-- The registers of a queue's context (R337). -/
def queueReg (q a : Nat) : Prop := pgQue (q / 64) + 0x800 + 0x20 * (q % 64) ≤ a ∧ a < pgQue (q / 64) + 0x820 + 0x20 * (q % 64)

/-- What a ring does with an event: a disabled ring takes nothing; a full staging queue or ring counts it and keeps its class; otherwise it is staged, or starts at once on an idle ring (R334). -/
def RingTakes (e : Nat) (ev : EvRec) (s t : State) : Prop :=
  let r := s.ring e
  (s.on (F.EVT_CFG_EN e) = false → t.ring e = r) ∧
  (s.on (F.EVT_CFG_EN e) = true → (16 ≤ r.staged.length ∨ s.ringFull e = true) →
    t.ring e = { r with lost := r.lost + 1 } ∧ t.getF (F.EVT_PENDING_MASK e) = Nat.lor (s.getF (F.EVT_PENDING_MASK e)) (2 ^ ev.cls) ∧
    t.getF (F.EVT_FLOOD_COUNT e) = satAdd (s.getF (F.EVT_FLOOD_COUNT e)) 1 (2 ^ (F.EVT_FLOOD_COUNT e).width - 1)) ∧
  (s.on (F.EVT_CFG_EN e) = true → r.staged.length < 16 → s.ringFull e = false →
    (r.inProgress.isSome = true → t.ring e = { r with staged := r.staged ++ [ev] } ∧ t.getF (F.EVT_STAGED_COUNT e) = r.staged.length + 1) ∧
    (r.inProgress = none → s.getF (F.EVT_PENDING_MASK e) = 0 → r.staged = [] → t.ring e = { r with inProgress := some ev }))

/-- Every register without a field of reset entry h, the cause of the start apart, is at its reset value, and fields of reset entry h keep theirs (R14, R351). -/
def AtReset (s t : State) : Prop :=
  (∀ a k n d, regAt a = some (k, n, d) → d.fields.all (fun f => decide (f.rst ≠ .held)) = true → t.word a = resetWord a) ∧
  t.getF F.G_SD_STATUS_STATUS = s.getF F.G_SD_STATUS_STATUS ∧ t.getF F.G_SD_STATUS_SLICES = s.getF F.G_SD_STATUS_SLICES ∧ t.getF F.G_SD_STATUS_FAILS = s.getF F.G_SD_STATUS_FAILS ∧ t.getF F.G_QS_STATUS_FORCE_COLD = s.getF F.G_QS_STATUS_FORCE_COLD ∧ t.on F.THM_STATUS_TRIP = s.on F.THM_STATUS_TRIP ∧
  t.getF F.PWR_TOWER_FAULT_FAB = s.getF F.PWR_TOWER_FAULT_FAB ∧ t.getF F.PWR_TOWER_FAULT_FIELD = s.getF F.PWR_TOWER_FAULT_FIELD ∧ t.cores = [] ∧ t.packets = [] ∧ t.host.orders = [] ∧ t.rings = [] ∧ t.clusters = [] ∧ t.staged = [] ∧
  t.getF F.G_BOOT_STATE_STATE = 0 ∧ t.power.fabOn = [] ∧ t.power.dramOn = [] ∧ t.power.cluOn = [] ∧ t.pending = s.pending

/-- Bring-up from `s` with the outcomes `b`, as far as the first wave: straps, Ensigns and firmware, then power, or FAILED with its reason (R341, R343, R302). -/
def BringsUp (b : BootIn) (s t : State) : Prop :=
  let booted : Prop := (b.auth0 = true ∨ b.auth1 = true) ∧ (b.ensA = true ∨ b.ensB = true)
  let hot : Prop := s.on F.THM_STATUS_TRIP = true ∧ b.hot = true
  (¬ booted → t.getF F.G_BOOT_STATE_STATE = 10 ∧ t.getF F.G_BOOT_CAUSE_FAIL = 1 ∧ t.power.fabOn = s.power.fabOn) ∧
  (booted → hot → t.getF F.G_BOOT_STATE_STATE = 10 ∧ t.getF F.G_BOOT_CAUSE_FAIL = 3 ∧ t.power.fabOn = [] ∧ t.on F.THM_STATUS_TRIP = true) ∧
  (booted → ¬ hot → t.getF F.G_BOOT_STATE_STATE = 2 ∧ t.on F.THM_STATUS_TRIP = false ∧ t.power.waveNext = some 0 ∧ t.power.boot = some b ∧
    (∀ d, d < 4 → (d ∈ t.power.fabOn ↔ s.towerOk d = true)) ∧ t.on F.G_BOOT_STATE_QUICK = (s.qsFound.isSome && !s.on F.G_QS_STATUS_FORCE_COLD) ∧
    t.on F.G_QS_STATUS_FORCE_COLD = false ∧ t.on F.G_STRAPS_GCOMPAT = b.gcompat) ∧
  (booted → ∀ r, t.flash.slotA = some r ∨ t.flash.slotB = some r → t.qsValid r = false)

/-- The form that every step keeps: the register table and the staged values list each address once, a staged value waits for a staged field, and device memory is in its canonical form. -/
def KeptForm (s : State) : Prop := s.tablesOrdered = true ∧ s.stagedPlain = true ∧ s.memoryCanonical = true

end Sys2Proof.Machine

open Sys2Proof Sys2Proof.Machine

/-- A write acts on each field by its access code, a read clears rc counters but for the events of its cycle, and action entries arm, disarm and fire. REGISTER_WRITE of a register without rows of its own, admitted and not blocked, gives each field what its access code says and changes nothing else; a staged field waits while orbits run. READ_CLEAR_COUNTER returns the register's word; an rc counter then holds only the events of its cycle, and other registers stay. A function's access outside its reach is dropped and counted, and a read answers 0. An access of 8 bytes at a multiple of 8 is its two halves in order, low half first; one of another size than 4 and 8 is answered or recorded as Unsupported Request. COUNT_LOAD makes the load pending. ACTION_ARM and ACTION_DISARM act on the entry unless it already is, or is not, armed; entries 56 to 63 take writes of the active Ensign alone. At a tick a single armed entry waits for its orbit, or fires: it writes, or refuses a bad target, and says whether it was late. (00_scope under R11, 00_scope under R12, 00_scope under R13, 02_orbit_timing under R42, 02_orbit_timing under R46, 02_orbit_timing under R48, 02_orbit_timing under R49, 02_orbit_timing under R50, 02_orbit_timing under R51, 13_host_partitions under R315, 16_register_map under R397) -/
def Obligations.RegisterAccess : Prop :=
  (∀ (who : Requester) (a n sets : Nat) (k : PageKind) (d : RegDesc) (x64 : Word64) (s : State), regAt a = some (k, n, d) → a < 0x1000000 →
    let v : Word := x64.setWidth 32
    0x100 ≤ a % 0x1000 → rowBits k (a % 0x1000) v.toNat = 0 → s.blocked who k n (a / 0x1000 * 0x1000) (a % 0x1000) v.toNat = 0 → k ≠ .queue →
    (∀ w, State.afterWrite s w k n (a / 0x1000 * 0x1000) (a % 0x1000) = w) → s.admitted who a v = (s, some 0xFFFFFFFF) →
    ∃ t, exec (.registerWrite who (.bar0 a) 4 x64 sets) s = .next t ∧ SameRegs (fun x => x = a) s t ∧
      t = { s with regs := t.regs, staged := t.staged, written1 := t.written1 } ∧
      ∀ f ∈ d.fields,
        let old := s.getF (fldAt a f)
        let new := t.getF (fldAt a f)
        let x := bits v.toNat f.lsb f.width
        (f.acc = .rw → new = if fieldLegal f x then x else old) ∧
        (f.acc = .ro ∨ f.acc = .rc → new = old) ∧
        (f.acc = .w1c → ∀ b, b < f.width → bit new b = (bit old b && (!bit x b || bit sets (f.lsb + b)))) ∧
        (f.acc = .w1s → ∀ b, b < f.width → bit new b = (bit old b || bit x b)) ∧
        (f.acc = .rw1 → new = if a ∈ s.written1 then old else x) ∧
        (f.acc = .stg → s.running = false → new = if fieldLegal f x then x else old) ∧
        (f.acc = .stg → s.running = true → new = old ∧ (fieldLegal f x = true → t.dueF (fldAt a f) = x))) ∧
  (∀ (who : Requester) (a n coincident : Nat) (k : PageKind) (d : RegDesc) (s : State), regAt a = some (k, n, d) → a < 0x1000000 →
    s.power.pwrgd = true → s.shutOut who a = false → s.readReach who k a = true → tabGet s.staged a = none →
    a ≠ F.TIM_ORBIT_LO_ORBIT.addr → a ≠ F.ORB_EN_TOTAL_LO.addr → a ≠ F.G_BOOT_CAUSE_CAUSE.addr → (k = .die → a % 0x1000 ≠ 0x210) →
    (∀ w, d.fields = [⟨0, w, .rc, .val 0, none⟩] → ∃ t, exec (.readClearCounter who (.bar0 a) 4 coincident) s = .next t ∧ t.reply = some (.word (s.word a)) ∧
      t.getF ⟨a, 0, w⟩ = min coincident (2 ^ w - 1) ∧ OnlyRegs (fun x => x = a) { s with reply := t.reply } t) ∧
    ((∀ f ∈ d.fields, f.acc ≠ .rc) → ∃ r : Word, exec (.readClearCounter who (.bar0 a) 4 coincident) s = .next { s with reply := some (.word r) })) ∧
  (∀ (f a c size : Nat) (v : Word64) (s : State), f < 256 → s.power.pwrgd = true →
    (a < 0x1000000 → a % 4 = 0 → s.shutOut (.fn f) a = false → s.mgmtView (.fn f) = false →
      (s.fnReach f a true = false ∨ regAt a = none → ∃ t, exec (.registerWrite (.fn f) (.bar0 a) 4 v 0) s = .next t ∧ Filtered f a true s t ∧ t = { s with regs := t.regs }) ∧
      (s.fnReach f a false = false ∨ regAt a = none → ∃ t, exec (.readClearCounter (.fn f) (.bar0 a) 4 c) s = .next t ∧ Filtered f a false s t ∧
        t = { s with regs := t.regs, reply := some (.word 0) })) ∧
    (size ≠ 4 → size ≠ 8 → exec (.registerWrite (.fn f) (.bar0 a) size v 0) s = .next (s.aerUr f 0 a size) ∧
      exec (.readClearCounter (.fn f) (.bar0 a) size c) s = .next { s with reply := some .unsupported })) ∧
  (∀ (who : Requester) (a sets : Nat) (v : Word64) (s : State), a % 8 = 0 → ∃ u, exec (.registerWrite who (.bar0 a) 4 v (sets % 2 ^ 32)) s = .next u ∧
    exec (.registerWrite who (.bar0 a) 8 v sets) s = exec (.registerWrite who (.bar0 (a + 4)) 4 (v >>> 32) (sets / 2 ^ 32)) u) ∧
  (∀ (who : Requester) (v : Word) (s : State),
    (bit v.toNat 0 = false → exec (.countLoad who v) s = .next s) ∧
    (∀ u, bit v.toNat 0 = true → Admitted s u who 0x2128 1 v → exec (.countLoad who v) s = .next { u with orb := { u.orb with loadPending := true } }) ∧
    (∀ e, e < 64 →
      let mine := e < 56 ∨ ∃ b, who = .ensign b ∧ s.activeEns = some (b2n b)
      let Sets (arm st : Nat) (u t : State) : Prop := t.getF (F.ORB_ACT_CTRL_ARM e) = arm ∧ t.getF (F.ORB_ACT_CTRL_STATE e) = st ∧ OnlyRegs (fun a => a = 0x2814 + 0x20 * e) u t
      (∀ u, mine → Admitted s u who (0x2814 + 0x20 * e) 1 v →
        (bit v.toNat 0 = true → u.on (F.ORB_ACT_CTRL_ARM e) = false → ∃ t, exec (.actionArm who e v) s = .next t ∧ Sets 1 1 u t) ∧
        (bit v.toNat 0 = true → u.on (F.ORB_ACT_CTRL_ARM e) = true → exec (.actionArm who e v) s = .next u) ∧
        (bit v.toNat 0 = false → u.on (F.ORB_ACT_CTRL_ARM e) = true → ∃ t, exec (.actionDisarm who e v) s = .next t ∧ Sets 0 0 u t) ∧
        (bit v.toNat 0 = false → u.on (F.ORB_ACT_CTRL_ARM e) = false → exec (.actionDisarm who e v) s = .next u)) ∧
      (¬ mine → ∀ u, (s.admitted who (0x2814 + 0x20 * e) v).1 = u →
        (bit v.toNat 0 = true → exec (.actionArm who e v) s = .next u) ∧ (bit v.toNat 0 = false → exec (.actionDisarm who e v) s = .next u)) ∧
      (∀ b w off, 56 ≤ e → s.activeEns ≠ some (b2n b) → off < 0x1C → off % 4 = 0 →
        ∃ t, exec (.registerWrite (.ensign b) (.bar0 (0x2800 + 0x20 * e + off)) 4 w 0) s = .next t ∧ OnlyRegs (fun _ => False) { s with staged := t.staged } t))) ∧
  (∀ (e b : Nat) (s : State), e < 64 → s.running = true → s.timerOn = true → s.orb.tickAt = some b → s.tablesOrdered = true → s.stagedPlain = true →
    (∀ n, n < 64 → n ≠ e → s.on (F.ORB_ACT_CTRL_ARM n) = false) → s.on (F.ORB_ACT_CTRL_ARM e) = true →
    let target := 4 * s.getF (F.ORB_ACT_TARGET_OFFSET e)
    let value := (s.word (0x280C + 0x20 * e)).toNat
    ∃ t, exec .orbitTimerExpiry s = .next t ∧
      (t.orbit < s.actOrbit e → t.word (0x2814 + 0x20 * e) = s.word (0x2814 + 0x20 * e)) ∧
      (s.actOrbit e ≤ t.orbit → target = 0x210C → s.getF (F.ORB_ACT_MASK_MASK e) = 2 ^ 32 - 1 → bits value 0 9 ≤ 500 →
        t.getF F.ORB_SERVICE_LEN_US = bits value 0 9 ∧ t.getF (F.ORB_ACT_CTRL_ARM e) = 0 ∧ t.getF (F.ORB_ACT_FIRED_LO_ORBIT e) = t.orbit % 2 ^ 32 ∧
        t.getF (F.ORB_ACT_CTRL_STATE e) = (if s.actOrbit e < t.orbit then 3 else 2) ∧ (s.actOrbit e < t.orbit → t.on F.ORB_FLAGS_ACT_LATE = true)) ∧
      (s.actOrbit e ≤ t.orbit → (regAt target = none ∨ (0x2800 ≤ target ∧ target < 0x3000)) →
        t.getF (F.ORB_ACT_CTRL_ARM e) = 0 ∧ t.getF (F.ORB_ACT_CTRL_STATE e) = 4 ∧ t.on F.ORB_FLAGS_ACT_BADTGT = true ∧
        t.getF (F.ORB_ACT_FIRED_LO_ORBIT e) = t.orbit % 2 ^ 32 ∧ (s.actOrbit e < t.orbit → t.on F.ORB_FLAGS_ACT_LATE = true)))

/-- With OTICK selected an edge at least P − TOL after the previous tick is a tick; an earlier one is ignored, flagged and counted. For OTICK_EDGE while orbits run from OTICK, outside fallback, with no miss due before the edge (with SRC 1 also after a miss): where less than P − TOL has passed since the tick that began the orbit, ORB_FLAGS.OTICK_EARLY is set, ORB_EARLY_COUNT adds one and nothing else changes but the time; otherwise the edge is recognised as a tick. (02_orbit_timing under R37) -/
def Obligations.EdgeAcceptance : Prop :=
  ∀ (dt b : Nat) (s : State), s.running = true → s.src ≠ 0 → s.orb.fallback = false → s.orb.tickAt = some b →
    ((s.src = 1 ∧ s.orb.missed = true) ∨ s.now + dt ≤ b + s.period + s.tol) →
    let u := s.advance dt
    (u.now + s.tol < b + s.period → ∃ t, exec (.otickEdge dt) s = .next t ∧ t.on F.ORB_FLAGS_OTICK_EARLY = true ∧
      t.getF F.ORB_EARLY_COUNT_COUNT = satAdd (s.getF F.ORB_EARLY_COUNT_COUNT) 1 (2 ^ F.ORB_EARLY_COUNT_COUNT.width - 1) ∧
      OnlyRegs (fun a => a = 0x2114 ∨ a = 0x211C) u t) ∧
    (b + s.period ≤ u.now + s.tol → ∃ t, exec (.otickEdge dt) s = .next t ∧ TickGives u t)

/-- The timer, a missed edge, fallback and relock make ticks; orbits start, stop and change their source; a tick takes the count and the staged values. ORBIT_TIMER_EXPIRY ticks P after the last tick where the timer is in use, and otherwise nothing. OTICK_MISS at P + TOL sets the flag and the count; with SRC 2 the timer ticks there and fallback begins. In fallback the third of three edges spaced P ± TOL is the relocking tick if it comes at least P − TOL after the last, and otherwise the next that does. STOP_ORBITS closes the orbit, takes the staged values and fires nothing; START_ORBITS ticks in the next cycle with SRC 0 and awaits an edge otherwise; TICK_SOURCE_CHANGE leaves the orbit open unless its end by the new source has passed. A 32-bit stamp names the congruent orbit within half its range of the count. (02_orbit_timing under R35, 02_orbit_timing under R36, 02_orbit_timing under R38, 02_orbit_timing under R39, 02_orbit_timing under R40, 02_orbit_timing under R41, 02_orbit_timing under R42, 02_orbit_timing under R43, 02_orbit_timing under R44, 02_orbit_timing under R46, 02_orbit_timing under R47, 02_orbit_timing under R54) -/
def Obligations.Ticks : Prop :=
  (∀ s : State, s.running = true →
    (∀ b, s.orb.tickAt = some b → s.timerOn = true → ∃ t, exec .orbitTimerExpiry s = .next t ∧ TickGives (s.advanceTo (b + s.period)) t) ∧
    (s.src ≠ 0 → s.orb.fallback = false → exec .orbitTimerExpiry s = .next s) ∧
    (∀ b, s.src = 1 → s.orb.fallback = false → s.orb.missed = false → s.orb.tickAt = some b →
      let u := s.advanceTo (b + s.period + s.tol)
      ∃ t, exec .otickMiss s = .next t ∧ t.on F.ORB_FLAGS_OTICK_MISS = true ∧
        t.getF F.ORB_MISS_COUNT_COUNT = satAdd (s.getF F.ORB_MISS_COUNT_COUNT) 1 (2 ^ F.ORB_MISS_COUNT_COUNT.width - 1) ∧
        OnlyRegs (fun a => a = 0x2114 ∨ a = 0x2118) { u with orb := { u.orb with missed := true } } t) ∧
    (∀ b, s.src = 2 → s.orb.fallback = false → s.orb.missed = false → (s.orb.tickAt = some b ∨ (s.orb.tickAt = none ∧ s.orb.startAt = b)) →
      ∃ t, exec .otickMiss s = .next t ∧ TickGives (s.advanceTo (b + s.period + s.tol)) t ∧
        ((∀ n, n < 64 → s.on (F.ORB_ACT_CTRL_ARM n) = false) → s.stagedPlain = true →
          t.orb.fallback = true ∧ t.on F.ORB_FLAGS_OTICK_MISS = true ∧ t.on F.ORB_FLAGS_FALLBACK = true ∧ t.on F.ORB_STATUS_ACTIVE_SRC = false ∧
          t.getF F.ORB_MISS_COUNT_COUNT = satAdd (s.getF F.ORB_MISS_COUNT_COUNT) 1 (2 ^ F.ORB_MISS_COUNT_COUNT.width - 1))) ∧
    (∀ (dt a1 a2 b : Nat) (rest : List Nat), s.src = 2 → s.orb.fallback = true → s.orb.tickAt = some b → s.orb.watch = a2 :: a1 :: rest → a1 ≤ a2 → a2 ≤ s.now + dt →
      s.on F.ORB_STATUS_RELOCKING = false → s.spaced a1 a2 = true → s.spaced a2 (s.now + dt) = true →
      let u := s.advance dt
      (b + s.period ≤ u.now + s.tol → ∃ t, exec (.otickEdge dt) s = .next t ∧ TickGives u t ∧
        ((∀ n, n < 64 → s.on (F.ORB_ACT_CTRL_ARM n) = false) → s.stagedPlain = true →
          t.orb.fallback = false ∧ t.on F.ORB_STATUS_ACTIVE_SRC = true ∧ t.on F.ORB_FLAGS_RELOCK = true ∧ t.on F.ORB_STATUS_RELOCKING = false)) ∧
      (u.now + s.tol < b + s.period → ∃ t, exec (.otickEdge dt) s = .next t ∧ t.on F.ORB_STATUS_RELOCKING = true ∧ t.orb.tickAt = some b ∧
        t.orb.count = s.orb.count ∧ t.timerOn = false ∧ OnlyRegs (fun a => a = 0x2110) { u with orb := t.orb } t))) ∧
  (∀ (who : Requester) (v : Word) (s u : State), Admitted s u who 0x2100 7 v →
    let src := if v.toNat % 4 = 3 then s.src else v.toNat % 4
    (s.running = true → bit v.toNat 2 = false → u.tablesOrdered = true → u.stagedPlain = true → ∃ t, exec (.stopOrbits who v) s = .next t ∧
      t.running = false ∧ t.src = src ∧ t.orb.tickAt = none ∧ t.orb.count = u.orb.count ∧ t.now = u.now ∧ t.staged = [] ∧ t.orb.fallback = false ∧
      (u.orb.tickAt.isSome = true → t.getF F.ORB_ORBIT_LEN_LAST_LEN = min u.orb.len (2 ^ F.ORB_ORBIT_LEN_LAST_LEN.width - 1)) ∧
      (∀ n, n < 64 → t.word (0x2814 + 0x20 * n) = u.word (0x2814 + 0x20 * n)) ∧
      (∀ a m x, a = 0x2104 ∨ a = 0x210C → tabGet u.staged a = some (m, x) →
        t.word a = BitVec.ofNat 32 (Nat.lor (Nat.land (u.word a).toNat (2 ^ 32 - 1 - m)) (Nat.land x m)))) ∧
    (s.running = false → exec (.stopOrbits who v) s = .next s) ∧
    (s.running = false → bit v.toNat 2 = true → ∃ t, exec (.startOrbits who v) s = .next t ∧
      (src = 0 → TickGives (({ u with orb := { u.orb with tickAt := none } } : State).advance 1) t) ∧
      (src ≠ 0 → t.running = true ∧ t.src = src ∧ t.orb.tickAt = none ∧ t.orb.startAt = u.now ∧ t.orb.count = u.orb.count ∧ t.on F.ORB_STATUS_ACTIVE_SRC = true ∧
        t.now = u.now ∧ t.gov = u.gov ∧ SameRegs (fun a => a = 0x2100 ∨ a = 0x2110) u t)) ∧
    (∀ b, s.running = true → bit v.toNat 2 = true → v.toNat % 4 ≠ 3 → v.toNat % 4 ≠ s.src → u.orb.tickAt = some b →
      ∃ t, exec (.tickSourceChange who v) s = .next t ∧
        (let passed := (v.toNat % 4 = 0 ∧ b + u.period ≤ u.now) ∨ (v.toNat % 4 = 2 ∧ b + u.period + u.tol ≤ u.now)
         (¬ passed → t.src = v.toNat % 4 ∧ t.on F.ORB_STATUS_ACTIVE_SRC = decide (v.toNat % 4 ≠ 0) ∧ t.orb = { u.orb with fallback := false, watch := [] } ∧
           OnlyRegs (fun a => a = 0x2100 ∨ a = 0x2110) { u with orb := t.orb } t) ∧
         (passed → TickGives u t ∧ ((∀ n, n < 64 → u.on (F.ORB_ACT_CTRL_ARM n) = false) → u.stagedPlain = true →
           t.src = v.toNat % 4 ∧ t.on F.ORB_STATUS_ACTIVE_SRC = false ∧ t.orb.fallback = decide (v.toNat % 4 = 2))))) ∧
    (s.running = true → v.toNat % 4 = s.src → exec (.tickSourceChange who v) s = .next s)) ∧
  (∀ stamp c, stamp < 2 ^ 32 → (stampOrbit stamp c - stamp) % 2 ^ 32 = 0 ∧ (c : Int) - 2 ^ 31 ≤ stampOrbit stamp c ∧ stampOrbit stamp c ≤ (c : Int) + 2 ^ 31 - 1)

/-- TIM_NS counts in steps of 10 ns; a second edge adds one to the seconds or takes a pending load; without PPS it comes as TIM_NS reaches 1,000,000,000. Each CLK_ORB cycle adds 10 to TIM_NS. NS_ROLLOVER with PPS_EN at 0 makes a second edge at the instant TIM_NS reaches 1,000,000,000 and restarts it at 0; with PPS_EN at 1 it does nothing. The seconds count of 64 bits adds one, or with SEC_LOAD at 1 takes TIM_SEC_SET_HI:TIM_SEC_SET_LO as they stand, clears SEC_LOAD and sets SEC_LOADED. SEC_LOAD, where the write is admitted, makes a load pending and leaves the count alone, so that a load beside an edge is taken at the following one. (02_orbit_timing under R58, 02_orbit_timing under R60) -/
def Obligations.Seconds : Prop :=
  (∀ (n : Nat) (s : State), (s.advance n).orb.ns = s.orb.ns + 10 * n ∧ (s.advance n).orb.sec = s.orb.sec) ∧
  (∀ s : State,
    (s.on F.TIM_CTRL_PPS_EN = true → exec .nsRollover s = .next s) ∧
    (s.on F.TIM_CTRL_PPS_EN = false → s.orb.ns ≤ 10 ^ 9 → s.orb.ns % 10 = 0 →
      let u := s.advance ((10 ^ 9 - s.orb.ns) / 10)
      ∃ t, exec .nsRollover s = .next t ∧ u.orb.ns = 10 ^ 9 ∧ SecondAt 0 u t ∧
        OnlyRegs (fun a => a = 0x1100 ∨ a = 0x1108) { u with orb := { u.orb with sec := t.orb.sec, ns := 0 } } t)) ∧
  (∀ (who : Requester) (v : Word) (s u : State),
    (bit v.toNat 1 = false → exec (.secLoad who v) s = .next s) ∧
    (bit v.toNat 1 = true → Admitted s u who 0x1100 2 v → ∃ t, exec (.secLoad who v) s = .next t ∧ t.on F.TIM_CTRL_SEC_LOAD = true ∧ OnlyRegs (fun a => a = 0x1100) u t))

/-- PPS edges are acquired, accepted, refused as early or made up; snapshots are whole; the service slice holds calibrations that fit and end. PPS_EDGE acquires, is a second edge within the window with TIM_PPS_CYCLES recorded, or is early and only flagged. PPS_MISS makes the second edge itself with TIM_NS at 100,000, and the third in a row restarts acquisition. TIMEBASE_SNAPSHOT_READ answers the low half of the count and latches for its requester alone the six values that its reads then return, 0 before the first. SERVICE_SLICE_START opens the slice S before the orbit's end. A calibration starts only in the slice, from the active Ensign, where its maximum fits before P; its resource leaves service, and CALIBRATION_COMPLETE returns it, or fails a port whose recentre failed. (02_orbit_timing under R56, 02_orbit_timing under R57, 02_orbit_timing under R59, 02_orbit_timing under R61, 15_reliability under R373) -/
def Obligations.Timebase : Prop :=
  (∀ (dt : Nat) (s : State),
    let u := s.advance dt
    (s.on F.TIM_CTRL_PPS_EN = false → exec (.ppsEdge dt) s = .next u) ∧
    (s.on F.TIM_CTRL_PPS_EN = true → u.orb.ns < 1000100000 →
      (s.getF F.TIM_STATUS_SEC_SRC ≠ 2 → ∃ t, exec (.ppsEdge dt) s = .next t ∧ SecondAt 0 u t ∧ t.on F.TIM_FLAGS_PPS_ACQ = true ∧ t.getF F.TIM_STATUS_SEC_SRC = 2 ∧
        t.orb.ppsAt = u.now ∧ t.orb.ppsMisses = 0 ∧ OnlyRegs (fun a => a = 0x1100 ∨ a = 0x1104 ∨ a = 0x1108) { u with orb := t.orb } t) ∧
      (s.getF F.TIM_STATUS_SEC_SRC = 2 → 999900000 ≤ u.orb.ns → ∃ t, exec (.ppsEdge dt) s = .next t ∧ SecondAt 0 u t ∧
        t.getF F.TIM_PPS_CYCLES_CYCLES = min (u.now - s.orb.ppsAt) (2 ^ F.TIM_PPS_CYCLES_CYCLES.width - 1) ∧ t.orb.ppsAt = u.now ∧ t.orb.ppsMisses = 0 ∧
        OnlyRegs (fun a => a = 0x1100 ∨ a = 0x1108 ∨ a = 0x110C) { u with orb := t.orb } t) ∧
      (s.getF F.TIM_STATUS_SEC_SRC = 2 → u.orb.ns < 999900000 → ∃ t, exec (.ppsEdge dt) s = .next t ∧ t.on F.TIM_FLAGS_PPS_EARLY = true ∧
        OnlyRegs (fun a => a = 0x1108) u t)) ∧
    (s.on F.TIM_CTRL_PPS_EN = false → exec .ppsMiss s = .next s) ∧
    (s.on F.TIM_CTRL_PPS_EN = true → s.orb.ns ≤ 1000100000 → s.orb.ns % 10 = 0 →
      let w := s.advance ((1000100000 - s.orb.ns) / 10)
      ∃ t, exec .ppsMiss s = .next t ∧ SecondAt 100000 w t ∧ t.on F.TIM_FLAGS_PPS_MISS = true ∧
        (s.orb.ppsMisses < 2 → t.orb.ppsMisses = s.orb.ppsMisses + 1 ∧ t.getF F.TIM_STATUS_SEC_SRC = s.getF F.TIM_STATUS_SEC_SRC) ∧
        (2 ≤ s.orb.ppsMisses → t.orb.ppsMisses = 0 ∧ t.getF F.TIM_STATUS_SEC_SRC = 1) ∧
        OnlyRegs (fun a => a = 0x1100 ∨ a = 0x1104 ∨ a = 0x1108) { w with orb := t.orb } t)) ∧
  (∀ (who : Requester) (c : Nat) (s : State), who.ok = true → s.power.pwrgd = true →
    let Reads (a v : Nat) (t : State) : Prop := ∃ w, exec (.readClearCounter who (.bar0 a) 4 c) t = .next w ∧ w.reply = some (.word (BitVec.ofNat 32 v)) ∧ w = { t with reply := w.reply }
    (∃ t, exec (.timebaseSnapshotRead who) s = .next t ∧ exec (.readClearCounter who (.bar0 0x1120) 4 c) s = .next t ∧ t.reply = some (.word (BitVec.ofNat 32 s.orbit)) ∧
      Reads 0x1124 (s.orbit / 2 ^ 32) t ∧ Reads 0x1128 (s.orb.sec.toNat % 2 ^ 32) t ∧ Reads 0x112C (s.orb.sec.toNat / 2 ^ 32) t ∧ Reads 0x1130 s.orb.ns t ∧
      Reads 0x1134 (s.orb.tickSec.toNat % 2 ^ 32) t ∧ Reads 0x1138 s.orb.tickNs t ∧
      t = { s with reply := t.reply, orb := { s.orb with latches := t.orb.latches } } ∧
      ∀ other : Requester, other.ok = true → other ≠ who → t.latchOf other = s.latchOf other) ∧
    (tabGet s.orb.latches (reqIndex who) = none → ∀ a, a ∈ [0x1124, 0x1128, 0x112C, 0x1130, 0x1134, 0x1138] → Reads a 0 s)) ∧
  (∀ (b : Nat) (s : State), s.orb.tickAt = some b →
    (s.orb.sliceOpen = false → 0 < s.sliceLen → let u := s.advanceTo (b + s.period - s.sliceLen)
      exec .serviceSliceStart s = .next { u with orb := { u.orb with sliceOpen := true } }) ∧
    (s.sliceLen = 0 → exec .serviceSliceStart s = .next s) ∧ s.sliceLen = 100 * min (s.getF F.ORB_SERVICE_LEN_US) (s.getF F.ORB_PERIOD_PERIOD_US / 4) ∧
    ∀ ens cycles, ens < 2 →
      let Begun (kind target most : Nat) : State := { s with orb := { s.orb with calibs := s.orb.calibs ++ [⟨kind, target, s.now + min cycles most⟩] } }
      let may (most : Nat) : Prop := s.orb.sliceOpen = true ∧ s.activeEns = some ens ∧ s.now + most ≤ b + s.period
      (∀ l, l < 24 → (may 1200 ∧ s.lnk l = linkActive → ∃ t, exec (.linkPhaseRecentre ens l cycles) s = .next t ∧ LinkGoes l lnkRecentre (Begun 0 l 1200) t) ∧
        (¬ (may 1200 ∧ s.lnk l = linkActive) → exec (.linkPhaseRecentre ens l cycles) s = .next s)) ∧
      (∀ r, r < 64 → (may 600 → ∃ t, exec (.halyardTsvRecentre ens r cycles) s = .next t ∧
          (∀ i, i < nSites → t.hal i = if i / 17 = r ∧ s.hal i = halActive then halRecentre else s.hal i) ∧
          OnlyRegs (fun a => ∃ i, i / 17 = r ∧ a = pgHyp i + 0xC) (Begun 1 r 600) t) ∧
        (¬ may 600 → exec (.halyardTsvRecentre ens r cycles) s = .next s)) ∧
      (∀ d, d < 4 → (may 300 → exec (.thermalSensorTrim ens d cycles) s = .next (Begun 2 d 300)) ∧ (¬ may 300 → exec (.thermalSensorTrim ens d cycles) s = .next s))) ∧
  (∀ (c : Calib) (failed : List Nat) (s : State), s.orb.calibs = [c] →
    let u := s.advanceTo c.until_
    let v : State := { u with orb := { u.orb with calibs := [] } }
    (∀ k d, (k ≠ c.kind ∨ d ≠ c.target) → exec (.calibrationComplete k d failed) s = .next s) ∧
    (c.kind = 0 → c.target < 24 → s.lnk c.target = lnkRecentre → ∃ t, exec (.calibrationComplete 0 c.target failed) s = .next t ∧ t.lnk c.target = linkActive ∧ t.orb = v.orb ∧ t.now = v.now) ∧
    (c.kind = 1 → c.target < 64 → ∃ t, exec (.calibrationComplete 1 c.target failed) s = .next t ∧ t.orb = v.orb ∧ t.now = v.now ∧
      ∀ i, i < nSites → t.hal i = if i / 17 = c.target ∧ s.hal i = halRecentre then (if i ∈ failed then halFailed else halActive) else s.hal i) ∧
    (c.kind = 2 → exec (.calibrationComplete 2 c.target failed) s = .next v))

/-- Each of the five MX instructions, issued, joins the matrix engine's queue, is held while eight wait, or faults with MX_ILLEGAL. For MXWLD, MXPASS, MXBUNT, MXIDLE and MXMARK: a core that issues a word of it that R111 allows, with fewer than eight MX instructions waiting, answers a next state whose matrix engine has the instruction last in its queue (at the cycle that its engine's time has come to; an MXBUNT at the head takes over the gap at once, and an MXIDLE at the head where no pass runs), with the weights of each quadrant accounted for; the program counter has gone on; only CORE_MX_STATUS and the program counter changed among all registers, and nothing outside the core. With eight waiting nothing changes. A word that R111 forbids faults the core with MX_ILLEGAL. (04_matrix_engine under R107, 04_matrix_engine under R108, 04_matrix_engine under R109, 04_matrix_engine under R111) -/
def Obligations.MxIssue : Prop :=
  ∀ e ∈ mxOps, ∀ (i : Nat) (w : Word64) (tm : MxWhen) (s : State), MxNow s i tm → opIs w 1 e.2 = true →
    let m := (s.core i).mx
    let queue (o : MxOp) := m.queue ++ [(m.issued, o)]
    (Issues s i w → mxLegal s i w = true →
      ∃ t o, mxDecode w = some o ∧ exec (e.1 i w tm) s = .next t ∧ PcNext i s t ∧
        t.core i = { s.core i with mx := mxSettle (s.shape i) (queue o) { mxIssueQuads (s.shape i) m o with queue := queue o, issued := m.issued + 1 } } ∧
        OnlyCore i (fun a => pcReg i a ∨ mxStatus i a) s t) ∧
    (8 ≤ m.queue.length → exec (e.1 i w tm) s = .next s) ∧
    (s.issueOk i w = true → mxLegal s i w = false → exec (e.1 i w tm) s = .next (s.setCore i
      { s.core i with fault := some ⟨causeMx, s.getF (F.CORE_PC_PC i), s.getF (F.CORE_PROG_K_K i), 0⟩ }))

/-- A queued weight load starts where a target can take it, and its tile is loaded after Lw cycles; MXMARK counts once all before it is done. WEIGHT_LOAD_START, at the cycle that the engine's time has come to, with a load waiting and some of its targets free to load, answers a next state in which the load has started there, its tile's data as the scratchpad holds it, and every other quadrant is as before; with none waiting nothing changes. WEIGHT_LOAD_COMPLETE, for a quadrant whose tile is not loaded and whose load has had its Lw cycles, answers a next state in which that tile is loaded; nothing else of the core but its matrix engine changes. MXMARK_DONE, with an MXMARK at the head of the queue, no pass in the array and every load complete, answers a next state in which its tally (below its maximum) has gone up by one and the instruction has left the queue. (04_matrix_engine under R96, 04_matrix_engine under R97, 04_matrix_engine under R98, 04_matrix_engine under R107, 04_matrix_engine under R109, 05_core_engines under R117) -/
def Obligations.MxWeights : Prop :=
  ∀ (i q : Nat) (w : MxWhen) (s : State), MxNow s i w →
    let m := (s.core i).mx
    let sh := s.shape i
    (∀ l rest, m.loads = l :: rest → (∃ p ∈ mxQuads sh l.todo, TileFree m sh p) →
      ∃ t, exec (.weightLoadStart i w) s = .next t ∧ (t.core i).vregs = (s.core i).vregs ∧ (t.core i).ls = (s.core i).ls ∧ (t.core i).mx.runs = m.runs ∧
        (∀ p, p ∈ mxQuads sh l.todo → TileFree m sh p →
          ((t.core i).mx.quad p).waiting = some ⟨l.fmt, s.tileData i l.waddr l.fmt l.qmask p, m.clock, false⟩ ∧ ((t.core i).mx.quad p).loadFree = m.clock + mxLw sh l.fmt ∧
          ((t.core i).mx.quad p).active = (m.quad p).active) ∧
        (∀ p, ¬ (p ∈ mxQuads sh l.todo ∧ TileFree m sh p) → (t.core i).mx.quad p = m.quad p) ∧
        ((s.core i).ls.flips = [] → OnlyCore i (mxStatus i) s t)) ∧
    (m.loads = [] → exec (.weightLoadStart i w) s = .next s) ∧
    (∀ x : Tile, x.loaded = false → x.start + mxLw sh x.fmt ≤ m.clock + 1 →
      let Loads (y : Quad) : Prop := ∃ t, exec (.weightLoadComplete i q w) s = .next t ∧ (t.core i).mx.quad q = y ∧
        t.core i = { s.core i with mx := (t.core i).mx } ∧ OnlyCore i (mxStatus i) s t
      ((m.quad q).waiting = some x → Loads { m.quad q with waiting := some { x with loaded := true } }) ∧
      ((m.quad q).waiting = none → (m.quad q).active = some x → Loads { m.quad q with active := some { x with loaded := true } })) ∧
    (∀ n k rest, k < 64 → m.queue = (n, .mark k) :: rest → m.quiet = true → s.getF (tallyFld i k) < 0xFFFF →
      ∃ t, exec (.mxmarkDone i w) s = .next t ∧ t.getF (tallyFld i k) = s.getF (tallyFld i k) + 1 ∧
        t.core i = { s.core i with mx := mxSettle sh rest { m with queue := rest } } ∧ OnlyCore i (fun a => mxStatus i a ∨ tallyReg i k a) s t)

/-- A pass that may start enters its first row: it leaves the queue, runs from that cycle, and its quadrants are busy for M cycles. PASS_START at the cycle that the engine's time has come to, where the next pass of the quadrant is ready by R99, no pass queued before it on another quadrant is, no quarter is gated, no bank freezes the array and nothing holds it, answers a next state in which the pass is the newest run with no row entered yet; with SWAP the waiting tile of each of its quadrants has become active and no tile waits there. With a quarter gated or the array held it changes nothing. Taking up a tile makes the waiting tile the active one and, in FULL with an active tile before, frees row 0 of the set 63 cycles after the last row entered. Nothing outside the core changes, and of its registers only CORE_MX_STATUS. (04_matrix_engine under R99, 04_matrix_engine under R102, 04_matrix_engine under R108, 04_matrix_engine under R112) -/
def Obligations.MxPassStart : Prop :=
  ∀ (i q n : Nat) (o : MxOp) (w : MxWhen) (s : State), MxNow s i w →
    let m := (s.core i).mx
    let sh := s.shape i
    m.next sh q = some (n, o) → m.passReady sh m.clock n o = true → (∀ e ∈ m.heads sh, e.1 < n → m.passReady sh m.clock e.1 e.2 = false) →
    let Starts : Prop := ∃ t, exec (.passStart i q w) s = .next t ∧
        (∃ r, (t.core i).mx.runs = m.runs ++ [r] ∧ r.op = o ∧ r.seq = n ∧ r.entered = 0 ∧ r.pipe = []) ∧ (∀ e ∈ (t.core i).mx.queue, e.1 ≠ n) ∧
        (t.core i).mx.clock = m.clock ∧ (t.core i).mx.ramp = .none ∧
        (∀ p, (t.core i).mx.quad p = if o.swap = true ∧ p ∈ o.quads sh then (m.quad p).takeUp sh else m.quad p) ∧
        t.core i = { s.core i with mx := (t.core i).mx } ∧ OnlyCore i (mxStatus i) s t
    (m.gated = 0 → w.freezes = [] → s.mxHeld i m.clock = false → Starts) ∧
    (0 < m.gated ∨ s.mxHeld i m.clock = true → exec (.passStart i q w) s = .next s) ∧
    (∀ x : Quad, (x.takeUp sh).active = x.waiting ∧ (x.takeUp sh).waiting = none ∧ (sh = 0 → x.active.isSome = true → (x.takeUp sh).setFree = x.rowEnd + 63))

/-- A pass enters one row a cycle and writes each L cycles later; the last one written completes it; a frozen cycle moves nothing. PASS_COMPLETE of the only pass of the array, all of whose rows have entered and all but the last have been written, once that row is due, answers a next state in which every byte of the row lies at the place R92 gives it and every byte outside it is as before, the pass has left the array, CORE_MX_PASSES has counted it and its tally, where it names one below its maximum, has gone up by one; without an armed flip of the local store nothing outside the core changes. A command of a later cycle first runs the cycles before it, one after the other, and does nothing where a pass or load that was due then has not been completed. In a cycle without a freeze a pass enters its next row, which is due L cycles later; in a frozen one no row enters or is written, and the cycle counts as frozen and in its cause alone. (04_matrix_engine under R91, 04_matrix_engine under R92, 04_matrix_engine under R95, 04_matrix_engine under R101, 04_matrix_engine under R102, 05_core_engines under R117) -/
def Obligations.MxPassComplete : Prop :=
  ∀ (i q : Nat) (r : MxRun) (w : MxWhen) (s : State),
    let m := (s.core i).mx
    let sh := s.shape i
    let next : State := s.mxCycle i w
    m.runs = [r] →
    (MxNow s i w → w.freezes = [] → q ∈ r.op.quads sh → r.op.rows ≤ r.entered → ∀ x : MxRow, r.pipe = [x] → x.due ≤ m.flow →
      let at_ := r.op.rowAt sh x.row
      ∃ t, exec (.passComplete i q w) s = .next t ∧ (t.core i).mx.runs = [] ∧ (t.core i).vregs = (s.core i).vregs ∧ (t.core i).mx.quads = m.quads ∧
        (∀ n b, (toBytes x.data)[n]? = some b → (t.core i).ls.read (at_ + n) = b) ∧
        (∀ a, a < at_ ∨ at_ + x.data.length ≤ a → (t.core i).ls.read a = (s.core i).ls.read a) ∧
        t.getF (F.CORE_MX_PASSES_COUNT i) = satAdd (s.getF (F.CORE_MX_PASSES_COUNT i)) 1 (2 ^ (F.CORE_MX_PASSES_COUNT i).width - 1) ∧
        (∀ k, k < 64 → r.op.tally = some k → s.getF (tallyFld i k) < 0xFFFF → t.getF (tallyFld i k) = s.getF (tallyFld i k) + 1) ∧
        (s.flipAt 1 = none → t = { s with regs := t.regs, cores := t.cores } ∧ (∀ j, j ≠ i → t.core j = s.core j) ∧ SameRegs (onPage (pgCore i)) s t)) ∧
    (∀ c ∈ mxTimed i q, s.mxPowered i = true → m.started = true → w.banks = [] → m.clock < w.cycle →
      (s.mxDue i w = true → exec (c w) s = .next s) ∧
      (s.mxDue i w = false → next.mxPowered i = true → (next.core i).mx.started = true → (next.core i).mx.clock = m.clock + 1 → exec (c w) s = exec (c w) next)) ∧
    (w.freezes = [] → s.mxHeld i m.clock = false → m.gated = 0 → m.rowDue sh r = true → (∀ x ∈ r.pipe, m.flow < x.due) →
      (next.core i).mx.runs = [{ r with entered := r.entered + 1, pipe := r.pipe ++ [⟨r.entered, m.flow + mxLat sh, (s.passRow i r r.entered).1, (s.passRow i r r.entered).2⟩] }] ∧
      (next.core i).mx.clock = m.clock + 1 ∧ (next.core i).mx.flow = m.flow + 1 ∧ (next.core i).mx.gapRun = 0 ∧ (next.core i).ls = (s.core i).ls ∧
      ∀ p ∈ r.op.quads sh, ((next.core i).mx.quad p).rowEnd = m.flow + 1) ∧
    (∀ f : Freeze, w.freezes = [f] → f.start ≤ m.clock → m.clock < f.start + f.cycles → f.drain = true → f.a = false → f.cin = false →
      (next.core i).mx = { m with clock := m.clock + 1, gapRun := m.gapRun + 1, gap := m.gap.after true, frozen := true, bunting := (next.core i).mx.bunting } ∧
      (next.core i).ls = (s.core i).ls ∧
      (∀ g ∈ [F.CORE_MX_FRZ_TOTAL_COUNT i, F.CORE_MX_FRZ_DRAIN_COUNT i], next.getF g = satAdd (s.getF g) 1 (2 ^ g.width - 1)) ∧
      (∀ g ∈ [F.CORE_MX_FRZ_A_COUNT i, F.CORE_MX_FRZ_CIN_COUNT i, F.CORE_MX_LGAP_COUNT i, F.CORE_MX_BUSY_CYC_COUNT i], next.getF g = s.getF g))

/-- The clock-gate ramp gates or ungates one quarter at a time, each admitted by the step limiter or made to wait for it. At the cycle that the engine's time has come to: RAMP_DOWN_START where no ramp runs, no fill level stands, no pass could start and the gap has reached BUNT_LEN (or an MXIDLE's or MXBUNT's end, or a COMP trim holds the array), or under the emergency hold; RAMP_STEP_EXPIRY where RAMP_STEP cycles have passed in a ramp that nothing turns; and TRANSITION_ADMIT of a waiting transition, answer a next state with one quarter more gated (down, at most four) or one fewer (up) if the cluster's step limiter has a place, and with the transition waiting for it otherwise. RAMP_UP_START with a ready pass or a fill level turns the ramp upwards from where it stands. TRANSITION_ADMIT also admits the vector engine's start, and its stop after 64 idle cycles. The local store and every register but CORE_MX_STATUS are as before. (04_matrix_engine under R105, 04_matrix_engine under R106, 11_power_delivery under R269) -/
def Obligations.MxRamp : Prop :=
  ∀ (i : Nat) (w : MxWhen) (s : State), MxNow s i w →
    let c := s.core i
    let m := c.mx
    let sh := s.shape i
    let free := s.limiterFree i w.cycle
    let Gates (x : Instr) (dir : Ramp) : Prop := ∃ t, exec x s = .next t ∧
      (t.core i).mx.gated = (if free then (if dir = .down then min 4 (m.gated + 1) else m.gated - 1) else m.gated) ∧
      (t.core i).mx.awaiting = !free ∧ (free = true → (t.core i).mx.lastStep = w.cycle) ∧ t.core i = { c with mx := (t.core i).mx } ∧
      (t.core i).mx.runs = m.runs ∧ (t.core i).mx.queue = m.queue ∧ (∀ j, j ≠ i → t.core j = s.core j) ∧
      SameRegs (mxStatus i) s t ∧ t = { s with regs := t.regs, cores := t.cores, clusters := t.clusters }
    (m.gated < 4 → m.awaiting = false → s.gov.pcapHold = false → m.ramp = .none → s.mxFill i = 0 → m.asks sh = false →
      (0 < s.compTrim (siteDie i) ∨ (m.gap = .normal ∧ s.getF (F.CORE_MX_CTRL_BUNT_LEN i) ≤ m.gapRun) ∨ (∃ g, m.gap = .bunt 0 g) ∨ (∃ g, m.gap = .idle g ∧ m.runs = [])) →
      Gates (.rampDownStart i w) .down) ∧
    (m.gated < 4 → m.awaiting = false → s.gov.pcapHold = true → m.ramp ≠ .down → Gates (.rampDownStart i w) .down) ∧
    (m.ramp ≠ .none → m.awaiting = false → m.lastStep + s.getF (F.CORE_MX_CTRL_RAMP_STEP i) ≤ w.cycle → s.rampUpDue i = false →
      Gates (.rampStepExpiry i w) m.ramp) ∧
    (m.awaiting = true → free = true → s.rampUpDue i = false → (m.ramp = .down → m.gated = 0 → s.gov.pcapHold = false → m.asks sh = false ∧ s.mxFill i = 0) →
      Gates (.transitionAdmit i 0 w) m.ramp) ∧
    (0 < m.gated → m.ramp ≠ .up → s.gov.pcapHold = false → (m.asks sh = true ∨ 0 < s.mxFill i) →
      ∃ t, exec (.rampUpStart i w) s = .next t ∧ (t.core i).mx = { m with ramp := .up, lastStep := w.cycle, awaiting := false } ∧
        t.core i = { c with mx := (t.core i).mx } ∧ OnlyCore i (mxStatus i) s t) ∧
    (c.vxWait = true → free = true → exec (.transitionAdmit i 1 w) s = .next ((s.setCore i { c with vxWait := false, vxOn := true, vxMark := w.cycle }).limiterTake i w.cycle)) ∧
    (c.vxOn = true → c.vx = [] → c.vxMark + 64 ≤ w.cycle → free = true →
      exec (.transitionAdmit i 2 w) s = .next ((s.setCore i { c with vxOn := false, vxMark := w.cycle }).limiterTake i w.cycle))

/-- CTNOP, CTLI, CTADD and CTID write their scalar register and go on; CTBR and CTLOOP go to their target; running off the program faults. A core that issues CTNOP, CTLI, CTADD or CTID (a legal word, not the last of the program) answers a next state in which the destination scalar register holds IMM, SA + IMM modulo 2^32, or the logical core number or the program index; S0 stays zero; the program counter has gone on by one. CTBR, its TARGET in the program, leaves the program counter at TARGET. CTLOOP leaves SA - 1 modulo 2^32 in SA (S0 stays 0) and the program counter at TARGET where SA is not 0 afterwards, and at the next index otherwise. Every other scalar register, every other part of the core and of the machine, memory included, is as before. Where CTNOP is the last instruction of the program, the core then takes a program fault with cause CT_ILLEGAL at the program's length. (05_core_engines under R114, 05_core_engines under R115, 05_core_engines under R116) -/
def Obligations.CtPlain : Prop :=
  ∀ (i : Nat) (w : Word64) (s : State),
    let d := bits w.toNat 52 4
    let imm := BitVec.ofNat 32 (bits w.toNat 0 32)
    let g := bits w.toNat 0 12
    let r := bits w.toNat 48 4
    let Done (t : State) (v : Word) : Prop :=
      ScalarSet i d v s t ∧ SameButScalars i s t ∧ PcNext i s t ∧ OnlyCore i (pcReg i) s t
    (Issues s i w →
      (opIs w 0 0 = true → onlyBits w 56 [] = true →
        ∃ t, exec (.ctnop i w) s = .next t ∧ t.core i = s.core i ∧ PcNext i s t ∧ OnlyRegs (pcReg i) s t) ∧
      (opIs w 0 1 = true → onlyBits w 56 [(52, 4), (0, 32)] = true →
        ∃ t, exec (.ctli i w) s = .next t ∧ Done t imm) ∧
      (opIs w 0 2 = true → onlyBits w 56 [(52, 4), (48, 4), (0, 32)] = true →
        ∃ t, exec (.ctadd i w) s = .next t ∧ Done t (s.scalar i (bits w.toNat 48 4) + imm)) ∧
      (opIs w 0 5 = true → onlyBits w 56 [(52, 4), (0, 2)] = true → bits w.toNat 0 2 < 2 →
        ∃ t, exec (.ctid i w) s = .next t ∧ Done t (BitVec.ofNat 32
          (if bits w.toNat 0 2 = 0 then s.getF (F.CORE_VOY_LCORE_LCORE i) else s.getF (F.CORE_PROG_K_K i)))) ∧
      (targetOk s i w = true →
        (opIs w 0 4 = true → onlyBits w 56 [(0, 12)] = true →
          ∃ t, exec (.ctbr i w) s = .next t ∧ t.core i = s.core i ∧ t.getF (F.CORE_PC_PC i) = g ∧ OnlyRegs (pcReg i) s t) ∧
        (opIs w 0 3 = true → onlyBits w 56 [(48, 4), (0, 12)] = true →
          ∃ t, exec (.ctloop i w) s = .next t ∧
            ScalarSet i r (s.scalar i r - 1) s t ∧ SameButScalars i s t ∧ OnlyCore i (pcReg i) s t ∧
            t.getF (F.CORE_PC_PC i) = (if t.scalar i r = 0 then (s.getF (F.CORE_PC_PC i) + 1) % 2 ^ 12 else g)))) ∧
    (s.issueOk i w = true → opIs w 0 0 = true → onlyBits w 56 [] = true → s.getF (F.CORE_PC_PC i) + 1 = (s.core i).prog.length →
      ∃ t, exec (.ctnop i w) s = .next t ∧ PcNext i s t ∧ OnlyCore i (pcReg i) s t ∧
        t.core i = { s.core i with fault := some ⟨causeCt, (s.getF (F.CORE_PC_PC i) + 1) % 2 ^ 12, s.getF (F.CORE_PROG_K_K i), 0⟩ })

/-- CTBERTH, SYWAIT and SYFENCE hold the issue stage, with the program counter where it was. A core that issues a legal CTBERTH, SYWAIT (COUNT not 0) or SYFENCE answers a next state that differs only in what holds that core's issue stage: the berth with its END bit, the wait for the tally and its count, or the fence. No tally is subtracted and the program counter stays until the hold's condition is met. (05_core_engines under R115, 05_core_engines under R119, 02_orbit_timing under R52) -/
def Obligations.IssueHolds : Prop :=
  ∀ (i : Nat) (w : Word64) (s : State), s.issueOk i w = true →
    (opIs w 0 7 = true → onlyBits w 56 [(0, 1)] = true →
      exec (.ctberth i w) s = .next (s.setCore i { s.core i with hold := .berth (bit w.toNat 0) })) ∧
    (opIs w 4 1 = true → onlyBits w 56 [(50, 6), (0, 16)] = true → bits w.toNat 0 16 ≠ 0 →
      exec (.sywait i w) s = .next (s.setCore i { s.core i with hold := .sywait (bits w.toNat 50 6) (bits w.toNat 0 16) })) ∧
    (opIs w 4 3 = true → onlyBits w 56 [] = true →
      exec (.syfence i w) s = .next (s.setCore i { s.core i with hold := .fence }))

/-- A satisfied SYWAIT subtracts COUNT from its tally; a satisfied SYFENCE goes on; SYSET sets the tally. Where a RUNNING core without a fault is held by SYWAIT on tally k for COUNT and the tally is at least COUNT, SYWAIT_SATISFIED answers a next state in which the tally is less by COUNT, the hold is gone, the held cycles are counted (holding at the maximum) and the program counter has gone on. SYFENCE_SATISFIED does the same without a tally where the test of R52 holds. SYSET sets the own tally to VALUE. No other register, core or part of the machine changes. (05_core_engines under R119, 05_core_engines under R139, 05_core_engines under R140) -/
def Obligations.SyncCompletes : Prop :=
  ∀ (i cycles : Nat) (w : Word64) (s : State), s.getF (F.CORE_PC_PC i) + 1 < (s.core i).prog.length →
    (∀ k n, k < 64 → (s.core i).hold = .sywait k n → s.coreSt i = coreRunning → (s.core i).fault = none →
      n ≤ s.getF (tallyFld i k) →
      ∃ t, exec (.sywaitSatisfied i cycles) s = .next t ∧ t.getF (tallyFld i k) = s.getF (tallyFld i k) - n ∧
        t.core i = { s.core i with hold := .none } ∧ HeldCounted i cycles s t ∧ PcNext i s t ∧
        OnlyCore i (fun a => pcReg i a ∨ tallyReg i k a ∨ a = pgCore i + 0x14C) s t) ∧
    ((s.core i).hold = .fence → s.coreSt i = coreRunning → (s.core i).fault = none → s.berthTest i = true →
      ∃ t, exec (.syfenceSatisfied i cycles) s = .next t ∧ t.core i = { s.core i with hold := .none } ∧ HeldCounted i cycles s t ∧ PcNext i s t ∧
        OnlyCore i (fun a => pcReg i a ∨ a = pgCore i + 0x14C) s t) ∧
    (s.issueOk i w = true → opIs w 4 4 = true → onlyBits w 56 [(50, 6), (0, 16)] = true →
      ∃ t, exec (.syset i w) s = .next t ∧ t.getF (tallyFld i (bits w.toNat 50 6)) = bits w.toNat 0 16 ∧ t.core i = s.core i ∧
        PcNext i s t ∧ OnlyRegs (fun a => pcReg i a ∨ tallyReg i (bits w.toNat 50 6) a) s t)

/-- Each of the 25 VX instructions, issued, joins the end of the vector queue with its address read now. For every VX opcode: a core that issues a legal word of it, with fewer than eight VX instructions waiting, answers a next state in which the instruction is last in the vector engine's queue, with its local-store address (for VLD, VST and VLDB) computed from the scalar register as it is at issue; the program counter has gone on; no vector register, mask, flag, tally or byte of the local store has changed. With eight waiting, issue is held: nothing changes. (05_core_engines under R113, 05_core_engines under R114, 05_core_engines under R121, 05_core_engines under R123) -/
def Obligations.VxIssue : Prop :=
  ∀ e ∈ vxRows, ∀ (i : Nat) (w : Word64) (s : State), vxIs w e.2 = true →
    (Issues s i w → vxLegal s i w = true →
      ∃ t, exec (e.1 i w) s = .next t ∧ PcNext i s t ∧ OnlyCore i (pcReg i) s t ∧
        t.core i = { s.core i with vx := (s.core i).vx ++
          [⟨w, if 0x30 ≤ e.2 ∧ e.2 ≤ 0x32 then 64 * (vLs w + (s.scalar i (vSb w)).toNat) else 0⟩] }) ∧
    (8 ≤ (s.core i).vx.length → exec (e.1 i w) s = .next s)

/-- A reserved class, opcode or field faults the core in place of execution, with its class's cause. A RUNNING core, without a fault or hold, that meets a word of a reserved class or opcode takes a program fault with CLASS_ILLEGAL or its class's cause (a reserved BK opcode with information 1): the fault records the program counter and k, and nothing else changes. The same holds for a CT word or a SY word with a reserved bit set and for a VX word that R121 or R123 forbids, while the vector queue has room. (05_core_engines under R113, 05_core_engines under R116, 05_core_engines under R119, 05_core_engines under R123, 05_core_engines under R136) -/
def Obligations.IllegalWords : Prop :=
  ∀ (i : Nat) (w : Word64) (s : State), s.issueOk i w = true →
    let Faults (c : Instr) (cause info : Nat) : Prop :=
      exec c s = .next (s.setCore i { s.core i with fault := some ⟨cause, s.getF (F.CORE_PC_PC i), s.getF (F.CORE_PROG_K_K i), info⟩ })
    (∀ c, reservedCause w = some c → Faults (.reservedInstruction i w) c (if c = causeBk then 1 else 0)) ∧
    (opIs w 0 0 = true → onlyBits w 56 [] = false → Faults (.ctnop i w) causeCt 0) ∧
    (opIs w 0 4 = true → targetOk s i w = false → Faults (.ctbr i w) causeCt 0) ∧
    (opIs w 0 3 = true → targetOk s i w = false → Faults (.ctloop i w) causeCt 0) ∧
    (opIs w 0 5 = true → 2 ≤ bits w.toNat 0 2 → Faults (.ctid i w) causeCt 0) ∧
    (opIs w 4 1 = true → bits w.toNat 0 16 = 0 → Faults (.sywait i w) causeSy 0) ∧
    (∀ e ∈ vxRows, vxIs w e.2 = true → vxLegal s i w = false → Faults (e.1 i w) causeVx 0)

/-- A VX instruction that retires writes its one result and leaves the queue; everything else stays. Where a VX instruction may retire, every instruction before it having started too, VX_INSTRUCTION_RETIRE answers a next state in which it has left the queue. A compare has written its mask and no vector register; VST has written its 64 lanes little-endian to the 256 bytes at its address, no other byte of the local store and no register; every other instruction has written the lanes the rules give to VD and neither another vector register nor a mask nor a byte of the local store (for VLD and VLDB, where the bytes they read are without error). Scalar registers, tallies, device memory, other cores and every register outside the core's page and the reliability page are as before. (05_core_engines under R121, 05_core_engines under R122, 05_core_engines under R123, 05_core_engines under R124, 05_core_engines under R125) -/
def Obligations.VxRetire : Prop :=
  ∀ (i slot cycle : Nat) (banks : List BankCycle) (s : State) (e : VxEntry), VxMayRetire s i slot cycle e →
    let c := s.core i
    let op := wVxOp e.word
    (op = 0x30 ∨ op = 0x32 → c.ls.errors e.addr (vxSpan op) = []) →
    ∃ t, exec (.vxInstructionRetire i slot cycle banks) s = .next t ∧
      let k := t.core i
      k.vx = dropAt c.vx slot ∧ k.scalars = c.scalars ∧ k.hold = c.hold ∧ k.fault = c.fault ∧
      (op = 0x0A ∨ op = 0x0B → (vD e.word ≠ 0 → k.mask (vD e.word) = (vxCompare c e.word).1) ∧
        (∀ m, m ≠ vD e.word → k.mask m = c.mask m) ∧ k.vregs = c.vregs ∧ k.ls = c.ls) ∧
      (op = 0x31 → k.vregs = c.vregs ∧ k.masks = c.masks ∧
        let bytes := (c.vreg (vA e.word)).flatMap (fun x => toBytes (leBytes 4 x.toNat))
        (∀ n b, bytes[n]? = some b → k.ls.read (e.addr + n) = b) ∧
        ∀ a, a < e.addr ∨ e.addr + bytes.length ≤ a → k.ls.read a = c.ls.read a) ∧
      (op ≠ 0x0A → op ≠ 0x0B → op ≠ 0x31 →
        k.vreg (vD e.word) = (vxResult c e.word (c.ls.deliver e.addr (vxSpan op))).1 ∧ VregsBut (vD e.word) c k ∧
        k.masks = c.masks ∧ k.ls = c.ls) ∧
      t = { s with regs := t.regs, cores := t.cores, clusters := t.clusters } ∧ (∀ j, j ≠ i → t.core j = s.core j) ∧
      SameRegs (fun a => onPage (pgCore i) a ∨ onPage pgRel a) s t

/-- A mark at the head of its engine is taken off and adds one to its tally, which holds at 0xFFFF. VMARK_DONE with a VMARK at the head of the vector queue, and TALLY increments in general: the tally of the mark reads one more (or 0xFFFF where it was 0xFFFF, with a program fault TALLY_OVF of the receiving core), the mark has left its queue, and nothing outside that core has changed. (05_core_engines under R117, 05_core_engines under R122, 05_core_engines under R126, 04_matrix_engine under R107) -/
def Obligations.TallyMarks : Prop :=
  ∀ (i : Nat) (s : State) (e : VxEntry) (rest : List VxEntry), (s.core i).vx = e :: rest → wVxOp e.word = 0x3F →
    let k := bits e.word.toNat 0 6
    let old := s.getF (tallyFld i k)
    ∃ t, exec (.vmarkDone i) s = .next t ∧ t.getF (tallyFld i k) = min (old + 1) 0xFFFF ∧
      (t.core i).vx = rest ∧ OnlyCore i (tallyReg i k) s t ∧
      (old < 0xFFFF → t.core i = { s.core i with vx := rest }) ∧
      (old = 0xFFFF → s.canFault i = true → (s.core i).fault = none →
        (t.core i).fault = some ⟨causeTally, s.getF (F.CORE_PC_PC i), s.getF (F.CORE_PROG_K_K i), k⟩)

/-- STLD, STST and STPF read their descriptor and enter the stream engine, or fault with the first failing field or the case of R85; STMARK queues. A core that issues an ST word without reserved bits, whose 64-byte descriptor lies in the scratchpad without error: where no field of the descriptor is illegal and R85 refuses nothing, and fewer than 32 streams and marks are held, the stream enters the stream engine with that descriptor (the stochastic counters taken, a store's bytes read) and the program counter goes on. A PATH 1 read that would leave the core's own column faults the core with ST_ILLEGAL and 1, and a failing field faults the core with ST_ILLEGAL and the field's number; a refused conversion word with ST_BADCONV, the word and the case. None of these moves data, and none changes anything else. STMARK joins the streams behind all earlier ones. (05_core_engines under R126, 05_core_engines under R127, 05_core_engines under R128, 03_number_formats under R85) -/
def Obligations.StreamIssue : Prop :=
  ∀ (i : Nat) (w : Word64) (s : State), s.issueOk i w = true →
    let a := 64 * bits w.toNat 41 15
    let b := s.lsData i a 64
    let d := descOf b (s.scalar i (bits w.toNat 37 4)).toNat (s.scalar i (bits w.toNat 33 4)).toNat
    let Faults (c : Instr) (cause info : Nat) : Prop :=
      exec c s = .next (s.setCore i { s.core i with fault := some ⟨cause, s.getF (F.CORE_PC_PC i), s.getF (F.CORE_PROG_K_K i), info⟩ })
    (∀ e ∈ [(Instr.stld i w, 1), (Instr.stst i w, 2), (Instr.stpf i w, 3)], opIs w 3 e.2 = true → stWordOk w = true →
      a + 64 ≤ s.scratchBytes i → (s.core i).ls.errors a 64 = [] →
      (s.leavesColumn i d (e.2 != 2) = true → Faults e.1 causeSt 1) ∧ (d.path ≠ 1 → s.leavesColumn i d (e.2 != 2) = false) ∧
      (∀ f, s.leavesColumn i d (e.2 != 2) = false → d.illegal b (e.2 != 2) (e.2 != 3) (s.scratchBytes i) = some f → Faults e.1 causeSt f) ∧
      (s.leavesColumn i d (e.2 != 2) = false → d.illegal b (e.2 != 2) (e.2 != 3) (s.scratchBytes i) = none →
        (∀ k, convRefusal d.conv (d.n 0) = some k → Faults e.1 causeConv (d.conv + 2 ^ 16 * k)) ∧
        (convRefusal d.conv (d.n 0) = none →
          exec e.1 s = .next ((s.stEnter i w e.2 d).nextPc i)))) ∧
    (opIs w 3 4 = true → onlyBits w 56 [(0, 6)] = true →
      s.getF (F.CORE_PC_PC i) + 1 < (s.core i).prog.length →
      ∃ t x, exec (.stmark i w) s = .next t ∧ x.op = 4 ∧ x.tally = bits w.toNat 0 6 ∧ PcNext i s t ∧ OnlyCore i (pcReg i) s t ∧
        t.core i = { s.core i with streams := (s.core i).streams ++ [x], nextStream := (s.core i).nextStream + 1 })

/-- A stream whose requests are all answered ends: counted, its tally and remote signal sent, its place free; a mark at the head ends likewise. STREAM_COMPLETE of a stream with nothing left to request and nothing outstanding answers a next state in which the stream has left, CORE_ST_DONE has counted it and, with TEN, its tally has been incremented; an STPF writes neither scratchpad nor flags; RSIG then sends one increment through its route entry; last, the streams that waited go on. STMARK_DONE with a mark at the head takes it off and increments its tally. (05_core_engines under R117, 05_core_engines under R127, 05_core_engines under R129, 05_core_engines under R139) -/
def Obligations.StreamEnds : Prop :=
  ∀ (i sid : Nat) (s : State),
    (∀ x, s.streamOf i sid = some x → x.op = 3 → x.todo = [] → x.waiting = 0 →
      let u := (s.killStream i sid).countF (F.CORE_ST_DONE_COUNT i) 1
      let v := if x.ten then u.tallyAdd i x.tally 1 else u
      exec (.streamComplete i sid) s = .next ((if x.desc.rsig then v.signal i x.desc.rroute x.desc.rtally 1 else v).pumpCore i)) ∧
    (∀ x, s.streamOf i sid = some x → x.op = 2 → x.writing = true → x.todo = [] → x.waiting = 0 →
      let u := ((s.killStream i sid).addFlags i x.flags).countF (F.CORE_ST_DONE_COUNT i) 1
      let v := if x.ten then u.tallyAdd i x.tally 1 else u
      exec (.streamComplete i sid) s = .next ((if x.desc.rsig then v.signal i x.desc.rroute x.desc.rtally 1 else v).pumpCore i)) ∧
    (∀ x, s.streamOf i sid = some x → x.op = 1 → x.todo = [] → x.waiting = 0 →
      let r := x.convert (joined x.got) (joined x.gotAux)
      let u := (((s.killStream i sid).stLand i x r.1 r.2.1).addFlags i r.2.2).countF (F.CORE_ST_DONE_COUNT i) 1
      let v := if x.ten then u.tallyAdd i x.tally 1 else u
      exec (.streamComplete i sid) s = .next ((if x.desc.rsig then v.signal i x.desc.rroute x.desc.rtally 1 else v).pumpCore i)) ∧
    (∀ x rest, (s.core i).streams = x :: rest → x.op = 4 →
      exec (.stmarkDone i) s = .next (((s.setCore i { s.core i with streams := rest }).tallyAdd i x.tally 1).pumpCore i))

/-- A launch in IDLE or ENDED clears the core and enters LOADED; an abort faults the core; a new L1 size keeps the scratchpad below it. For an admitted write of CORE_VOY_CMD: LAUNCH in IDLE or ENDED, whatever ABORT, answers a next state with the core in LOADED, every tally, the flags, the counter n, k and the program counter 0, no scalar, vector or mask register set, no fault, and program 0 being fetched; ABORT alone in LOADED, RUNNING or BERTHED, where no fault is waiting, leaves the fault ABORT with the program counter and k. LAUNCH alone in another state, and ABORT alone in another state, change nothing. An admitted write of CORE_LS_SPLIT outside a voyage with another size of 0 to 4 sets the size, empties the L1 and leaves every scratchpad byte below the new boundary; the size already in force changes nothing. Only that core changes. (05_core_engines under R131, 05_core_engines under R133, 05_core_engines under R136) -/
def Obligations.VoyageWrites : Prop :=
  ∀ (who : Requester) (i : Nat) (v : Word) (s u : State),
    (Admitted s u who (pgCore i + 0x124) 1 v → bit v.toNat 0 = true →
      (u.coreSt i = coreIdle ∨ u.coreSt i = coreEnded → (u.core i).fault = none →
        ∃ t, exec (.voyageLaunch who i v) s = .next t ∧ t.coreSt i = coreLoaded ∧ (∀ k, k < 64 → t.getF (tallyFld i k) = 0) ∧
          t.word (pgCore i + 0x130) = 0 ∧ t.getF (F.CORE_SR_N_N i) = 0 ∧ t.getF (F.CORE_PROG_K_K i) = 0 ∧ t.getF (F.CORE_PC_PC i) = 0 ∧
          t.core i = { u.core i with scalars := [], vregs := [], masks := [], prog := [], fetch := .running 0, hold := .none, fault := none, l1 := [], wdog := 0, kTurns := 0 } ∧
          OnlyCore i (onPage (pgCore i)) u t) ∧
      ((u.coreSt i ≠ coreIdle ∧ u.coreSt i ≠ coreEnded) ∨ (u.core i).fault.isSome = true → bit v.toNat 1 = false → exec (.voyageLaunch who i v) s = .next u)) ∧
    (Admitted s u who (pgCore i + 0x124) 2 v → bit v.toNat 1 = true → bit v.toNat 0 = false →
      let live := u.coreSt i = coreLoaded ∨ u.coreSt i = coreRunning ∨ u.coreSt i = coreBerthed
      (live → (u.core i).fault = none → exec (.voyageAbort who i v) s = .next (u.setCore i
        { u.core i with fault := some ⟨causeAbort, u.getF (F.CORE_PC_PC i), u.getF (F.CORE_PROG_K_K i), 0⟩ })) ∧
      (¬ live → exec (.voyageAbort who i v) s = .next u)) ∧
    (Admitted s u who (pgCore i + 0x104) 7 v → u.inVoyage i = false → bits v.toNat 0 3 ≤ 4 →
      (u.getF (F.CORE_LS_SPLIT_L1 i) = bits v.toNat 0 3 → exec (.localStoreSplitChange who i v) s = .next u) ∧
      (u.getF (F.CORE_LS_SPLIT_L1 i) ≠ bits v.toNat 0 3 →
        ∃ t, exec (.localStoreSplitChange who i v) s = .next t ∧ t.getF (F.CORE_LS_SPLIT_L1 i) = bits v.toNat 0 3 ∧ (t.core i).l1 = [] ∧
          (∀ a, a < u.scratchBytes i → a < t.scratchBytes i → (t.core i).ls.read a = (u.core i).ls.read a) ∧
          SameRegs (fun a => a = pgCore i + 0x104) u t ∧ (∀ j, j ≠ i → t.core j = u.core j) ∧
          t = { u with regs := t.regs, cores := t.cores, freeCtr := u.freeCtr + 1 }))

/-- A program starts when its orbit has come and it is fetched, berths, ends or faults as the rules of a voyage say. PROGRAM_START of a LOADED or BERTHED core without a fault whose program k is fetched and whose orbit has come, outside a tick window, answers a next state RUNNING that program from index 0 with the wait counted and the next program's fetch begun where there is one. PROGRAM_FETCH_COMPLETE ends the fetch in progress with the program or with its failure. BERTH_COMPLETE, where the test of R52 holds, resets the counter n, increments k and enters BERTHED, or, at the last program or with END, ENDED with an event. CORE_FAULTED enters FAULTED with the fault's record and an event once the engines are done, and counts the cycles for which SYWAIT or SYFENCE had held issue. WATCHDOG_HANG faults the core once its orbits in one program reach the limit. (05_core_engines under R134, 05_core_engines under R135, 05_core_engines under R136, 05_core_engines under R137, 02_orbit_timing under R53) -/
def Obligations.ProgramLife : Prop :=
  ∀ (i stall held : Nat) (s : State),
    (s.coreSt i = coreLoaded ∨ s.coreSt i = coreBerthed → (s.core i).fault = none → s.programOrbit i ≤ s.orbit → s.orb.tickAt = none →
      ∀ ws, (s.core i).fetch = .ready (s.getF (F.CORE_PROG_K_K i)) ws →
      ∃ t, exec (.programStart i stall) s = .next t ∧ t.coreSt i = coreRunning ∧ t.getF (F.CORE_PC_PC i) = 0 ∧
        (t.core i).prog = ws ∧ (t.core i).hold = .none ∧ (t.core i).wdog = 0 ∧
        (t.core i).fetch = (if s.hasNext i (s.getF (F.CORE_PROG_K_K i)) then .running ((s.getF (F.CORE_PROG_K_K i) + 1) % 2 ^ 32) else .idle) ∧
        OnlyCore i (onPage (pgCore i)) s t) ∧
    (∀ k, (s.core i).fetch = .running k →
      let r := s.fetchProgram i k
      exec (.programFetchComplete i) s = .next (r.1.setCore i { r.1.core i with
        fetch := match r.2 with | some ws => .ready k ws | none => .failed k })) ∧
    (∀ last, (s.core i).hold = .berth last → s.coreSt i = coreRunning → (s.core i).fault = none → s.berthTest i = true →
      let k := s.getF (F.CORE_PROG_K_K i)
      ∃ t, exec (.berthComplete i) s = .next t ∧ t.coreSt i = (if last = true ∨ s.hasNext i k = false then coreEnded else coreBerthed) ∧
        t.getF (F.CORE_PROG_K_K i) = (k + 1) % 2 ^ 32 ∧ t.getF (F.CORE_SR_N_N i) = 0 ∧ (t.core i).hold = .none ∧
        t = { s with regs := t.regs, cores := t.cores, rings := t.rings } ∧ SameRegs (fun a => onPage (pgCore i) a ∨ onRings a) s t) ∧
    (∀ f, (s.core i).fault = some f → s.enginesDone i = true → s.canFault i = true →
      ∃ t, exec (.coreFaulted i held) s = .next t ∧ t.coreSt i = coreFaulted ∧ t.getF (F.CORE_FAULT_CAUSE i) = f.cause % 2 ^ 8 ∧
        t.getF (F.CORE_FAULT_PC_PC i) = f.pc % 2 ^ 12 ∧ t.getF (F.CORE_FAULT_PC_K i) = f.k % 2 ^ 20 ∧
        t.getF (F.CORE_FAULT_INFO_INFO i) = f.info % 2 ^ 32 ∧ ((∃ k n, (s.core i).hold = .sywait k n) ∨ (s.core i).hold = .fence → HeldCounted i held s t) ∧
        t = { s with regs := t.regs, rings := t.rings } ∧ SameRegs (fun a => onPage (pgCore i) a ∨ onRings a) s t) ∧
    (s.coreSt i = coreRunning → s.getF (F.CORE_WDOG_ORBITS i) ≠ 0 → s.getF (F.CORE_WDOG_ORBITS i) ≤ (s.core i).wdog → (s.core i).fault = none →
      exec (.watchdogHang i) s = .next (s.setCore i
        { s.core i with fault := some ⟨causeHang, s.getF (F.CORE_PC_PC i), s.getF (F.CORE_PROG_K_K i), 0⟩ }))

/-- A link page goes through the states of R160 in order, from OFF to ACTIVE and through RETRAIN, each by its own event. For every link: an admitted write of ENABLE 1 takes an OFF link with both ends powered to SB_INIT; SIDEBAND_UP takes it to MB_TRAIN at LNK_CFG's rate, with REPLAY_LIMIT and NO_X32 taken; of three failed attempts the third goes to half width, or with that tried or NO_X32 to the next lower rate; MAINBAND_TRAINED takes it to PARAM and shows rate, width and repaired lanes. IDENT messages that agree take a compute-compute link to ACTIVE; on an I/O link the die takes the port number heard, the first or the same as the other I/O die's, for its identity; a good capability record takes a moonlet link there, answered with the part's own, its credits kept. Each begins a delay measurement. LANE_FAILURE and RETRAIN take an ACTIVE link to RETRAIN and count the entry, and RETRAIN_COMPLETE takes it back; PROBE begins a measurement, and LINK_DELAY_MEASURED shows the quantiles of 1,024 halved round trips. Nothing but the link, its pages and what is named changes. (06_fabric_links under R159, 06_fabric_links under R160, 06_fabric_links under R164, 06_fabric_links under R168, 06_fabric_links under R169) -/
def Obligations.LinkTraining : Prop :=
  ∀ (n : Nat) (s : State), n < 24 →
    let l := s.linkSt n
    let ea := (linkEnds n).1
    let eb := (linkEnds n).2
    let Active (u t : State) : Prop := LinkGoes n linkActive u t ∧ (t.linkSt n).probe = some ⟨0, []⟩
    (∀ who v u, Admitted s u who (pgLnk n + 0x8) 1 v → v.toNat % 2 = 1 → u.lnk n = lnkOff → u.endPowered ea = true → u.endPowered eb = true →
      ∃ t, exec (.linkEnable who n v) s = .next t ∧ LinkGoes n lnkSbInit u t ∧ t.getF (F.LNK_CAUSE_CAUSE n) = 0) ∧
    (s.lnk n = lnkSbInit → ∃ t, exec (.sidebandUp n) s = .next t ∧ LinkGoes n lnkMbTrain s t ∧
      (t.linkSt n).attempts = 0 ∧ (t.linkSt n).tryX32 = false ∧ (t.linkSt n).tryRate = s.getF (F.LNK_CFG_MAX_RATE n) ∧
      (t.linkSt n).replayLimit = s.getF (F.LNK_CFG_REPLAY_LIMIT n) ∧ (t.linkSt n).noX32 = s.on (F.LNK_CFG_NO_X32 n)) ∧
    (s.lnk n = lnkMbTrain → ∀ fr rep, ∃ t, exec (.mainbandTrained n fr rep) s = .next t ∧ LinkGoes n lnkParam s t ∧
      t.getF (F.LNK_STATUS_RATE n) = l.tryRate % 4 ∧ t.getF (F.LNK_STATUS_X32 n) = b2n l.tryX32 ∧ t.getF (F.LNK_STATUS_REPAIRED n) = rep % 256) ∧
    (s.lnk n = lnkMbTrain → l.attempts + 1 < 3 →
      let u := s.advanceTo (l.since + 2000000)
      exec (.mbTrainTimeout n) s = .next (u.setLink n { l with attempts := l.attempts + 1, since := u.now })) ∧
    (s.lnk n = lnkMbTrain → 3 ≤ l.attempts + 1 →
      let u := s.advanceTo (l.since + 2000000)
      let Tries (x : Bool) (r : Nat) : Prop := exec (.mbTrainTimeout n) s = .next (u.setLink n { l with attempts := 0, since := u.now, tryX32 := x, tryRate := r })
      (l.tryX32 = false → l.noX32 = false → Tries true l.tryRate) ∧ (∀ r, l.tryX32 = true ∨ l.noX32 = true → l.tryRate = r + 1 → Tries l.tryX32 r)) ∧
    (s.lnk n = lnkParam → n < 12 → ∀ io, ∃ t,
      exec (.ident n io (Nat.xor (s.dieIdent ea) (Nat.xor ea eb)) (Nat.xor (s.dieIdent eb) (Nat.xor ea eb))) s = .next t ∧ Active s t) ∧
    (s.lnk n = lnkParam → 12 ≤ n → n < 20 → ∀ io k seen, (∀ x, s.ioAnswer ea (5 - eb) = some x → x = k) →
      ∃ t, exec (.ident n io k seen) s = .next t ∧ Active { s with power := t.power } t ∧
        t.power = { s.power with idents := t.power.idents } ∧ t.ioAnswer ea (eb - 4) = some k ∧ t.dieIdent ea = k) ∧
    (s.lnk n = lnkParam → 20 ≤ n → ∀ r : List Nat, r.getD 4 0 = 1 → 8 ≤ r.getD 10 0 + 256 * r.getD 11 0 →
      ∃ t, exec (.capabilityRecord n r) s = .next t ∧ (∀ k < 4, t.getF (F.MNL_CAP k) = recWord r k % 2 ^ 32 ∧
          (t.linkSt n).toB.credits.getD k 0 = r.getD (6 + 2 * k) 0 + 256 * r.getD (7 + 2 * k) 0) ∧
        t.mtOut = s.mtOut ++ [⟨n, 0, 0, 0, toBytes ownRecord⟩] ∧ Active { s with mtOut := t.mtOut } t) ∧
    (s.lnk n = linkActive →
      let Retrains (x : Instr) (u : State) : Prop := ∃ t, exec x s = .next t ∧ LinkGoes n lnkRetrain u t ∧ (t.linkSt n).asking = true ∧
        t.getF (F.LNK_RETRAINS_COUNT n) = satAdd (u.getF (F.LNK_RETRAINS_COUNT n)) 1 (2 ^ (F.LNK_RETRAINS_COUNT n).width - 1)
      Retrains (.laneFailure n) s ∧
      (∀ who v u, Admitted s u who (pgLnk n + 0x10C) 1 v → v.toNat % 2 = 1 → u.lnk n = linkActive → Retrains (.retrain who n v) u) ∧
      (∀ who v u, Admitted s u who (pgLnk n + 0x10C) 2 v → bit v.toNat 1 = true → u.lnk n = linkActive →
        exec (.probe who n v) s = .next (u.setLink n { u.linkSt n with probe := some ⟨0, []⟩ })) ∧
      (∀ p, l.probe = some p → 1024 ≤ p.trips.length →
        let d := p.trips.map (fun x => min 255 (halfTrip (s.getF (F.LNK_STATUS_RATE n)) x))
        ∃ t, exec (.linkDelayMeasured n) s = .next t ∧ t.getF (F.LNK_DLY_P50 n) = quantile d 5000 ∧ t.getF (F.LNK_DLY_P99 n) = quantile d 9900 ∧
          t.getF (F.LNK_DLY_P9999 n) = quantile d 9999 ∧ t.getF (F.LNK_DLY_MAX n) = quantile d 10000 ∧ t.linkSt n = { l with probe := none } ∧ OnlyLink n s t)) ∧
    (s.lnk n = lnkRetrain → ∃ t, exec (.retrainComplete n) s = .next t ∧ Active s t)

/-- Each limit of link training that passes takes the link to FAILED with its cause, and the packets it holds are sunk and counted. SB_TIMEOUT in SB_INIT (8 ms), MB_TRAIN_TIMEOUT of the last attempt at ×32 or with NO_X32 and 8 GT/s (20 ms), PARAM_TIMEOUT in PARAM (10 ms) and RETRAIN_TIMEOUT in RETRAIN (2 ms) answer a next state, not sooner than the limit, in which the link is FAILED with SB_TIMEOUT, TRAIN_FAIL, PARAM or TRAIN_FAIL; so does an IDENT from a peer other than the expected one (WIRING), and a capability record of another version or with fewer than 8 RSP slots (PARAM). IDENTITY_TIMEOUT of a die whose fabric is off and that no I/O port has answered, and an IDENT with another port number than the other I/O die gave it, fail both its I/O links with WIRING. LINK_DISABLE takes a link to OFF. The packets the link held are gone; on FAILED their flits are counted in LNK_LOST, which holds at its maximum; nothing else but time changes. That a disabled link sinks its packets is the model's choice. (06_fabric_links under R159, 06_fabric_links under R160, 06_fabric_links under R162, 06_fabric_links under R164) -/
def Obligations.LinkFailure : Prop :=
  ∀ (n : Nat) (s : State), n < 24 →
    let l := s.linkSt n
    let ea := (linkEnds n).1
    let eb := (linkEnds n).2
    let Fails (x : Instr) (u : State) (cause : Nat) : Prop := ∃ t, exec x s = .next t ∧ LinkFails n cause u t
    let Wiring (x : Instr) (d : Nat) : Prop := ∃ t, exec x s = .next t ∧ t.lnk (12 + 2 * d) = lnkFailed ∧ t.lnk (13 + 2 * d) = lnkFailed ∧
      t.getF (F.LNK_CAUSE_CAUSE (12 + 2 * d)) = 3 ∧ t.getF (F.LNK_CAUSE_CAUSE (13 + 2 * d)) = 3
    (s.lnk n = lnkSbInit → Fails (.sbTimeout n) (s.advanceTo (l.since + 800000)) 1) ∧
    (s.lnk n = lnkMbTrain → 2 ≤ l.attempts → l.tryRate = 0 → (l.tryX32 = true ∨ l.noX32 = true) →
      Fails (.mbTrainTimeout n) (s.advanceTo (l.since + 2000000)) 2) ∧
    (s.lnk n = lnkParam → Fails (.paramTimeout n) (s.advanceTo (l.since + 1000000)) 4) ∧
    (s.lnk n = lnkRetrain → Fails (.retrainTimeout n) (s.advanceTo (l.since + 200000)) 2) ∧
    (s.lnk n = lnkParam → n < 12 → ∀ io a b, a ≠ Nat.xor (s.dieIdent ea) (Nat.xor ea eb) ∨ b ≠ Nat.xor (s.dieIdent eb) (Nat.xor ea eb) → Fails (.ident n io a b) s 3) ∧
    (s.lnk n = lnkParam → 20 ≤ n → ∀ r : List Nat, r.getD 4 0 ≠ 1 ∨ r.getD 10 0 + 256 * r.getD 11 0 < 8 → Fails (.capabilityRecord n r) s 4) ∧
    (∀ d, d < 4 → s.ioAnswer d 0 = none → s.ioAnswer d 1 = none → s.lnk (12 + 2 * d) ≠ linkActive →
      s.lnk (13 + 2 * d) ≠ linkActive → s.power.fabOn.contains d = false → Wiring (.identityTimeout d) d) ∧
    (s.lnk n = lnkParam → 12 ≤ n → n < 20 → ∀ io k k' seen, s.ioAnswer ea (5 - eb) = some k' → k' ≠ k → s.power.fabOn.contains ea = false →
      Wiring (.ident n io k seen) ea) ∧
    (∀ who v u, Admitted s u who (pgLnk n + 0x8) 1 v → v.toNat % 2 = 0 →
      ∃ t, exec (.linkDisable who n v) s = .next t ∧ t.lnk n = lnkOff ∧ t.packets = u.packets.filter (fun e => !onLink n e) ∧
        OnlyLink n { u with packets := t.packets } t)

/-- A sender sends frames in sequence while its replay buffer has room; a receiver takes only the next good one, and a NAK starts a replay. On an ACTIVE link: FRAME_SEND with no replay running and fewer than 64 frames unacknowledged answers a next state with one new frame on the mainband and in the replay buffer, carrying the next sequence number, at most seven slots, the last good number (with NAK after a bad CRC) and freed credits of the other direction, and the link control that is due; with 64, nothing changes; in a replay the next frame of the buffer is sent again and nothing else changes. A frame as sent has a good CRC. FRAME_RECEIVE of a bad CRC counts it and takes nothing from the frame; of a frame out of sequence nothing but the frame is gone; of the next frame in sequence, whose one slot ends a packet bound for a compute die, the packet leaves at the same lane of the far port, ARRIVED where it crossed between compute dies. A received NAK, without slots, starts the sender again from its oldest unacknowledged frame and counts the replay, or after REPLAY_LIMIT replays without progress the link enters RETRAIN. (06_fabric_links under R146, 06_fabric_links under R161, 06_fabric_links under R162, 06_fabric_links under R163, 06_fabric_links under R168) -/
def Obligations.LinkFrames : Prop :=
  (∀ f : Frame, f.badCrc [] = false) ∧
  ∀ (n : Nat) (toB : Bool) (stamp : Nat) (s : State), n < 24 → s.lnk n = linkActive →
    let l := s.linkSt n
    let d := l.dir toB
    let back := l.dir (!toB)
    let sat (f : Fld) (t : State) : Prop := t.getF f = satAdd (s.getF f) 1 (2 ^ f.width - 1)
    (d.again = none → d.replay.length < 64 → ∃ t f, exec (.frameSend n toB stamp) s = .next t ∧ f.seq = d.seq ∧ f.slots.length ≤ 7 ∧
      f.ack = back.good ∧ f.nak = back.bad ∧ f.cred = back.freed ∧ f.lctl = (l.control toB stamp).1 ∧ ((t.linkSt n).dir toB).wire = d.wire ++ [f] ∧
      ((t.linkSt n).dir toB).replay = d.replay ++ [f] ∧ ((t.linkSt n).dir toB).seq = (d.seq + 1) % 4096 ∧ OnlyLink n s t) ∧
    (d.again = none → 64 ≤ d.replay.length → exec (.frameSend n toB stamp) s = .next s) ∧
    (∀ i f, d.again = some i → d.replay[i]? = some f → exec (.frameSend n toB stamp) s = .next (s.setLink n (l.setDir toB
      { d with wire := d.wire ++ [f], again := if i + 1 < d.replay.length then some (i + 1) else none }))) ∧
    (∀ f rest flips, d.wire = f :: rest →
      (f.badCrc flips = true → ∃ t, exec (.frameReceive n toB flips stamp) s = .next t ∧ t.linkSt n = l.setDir toB { d with wire := rest, bad := true } ∧
        sat (F.LNK_CRC_ERR_COUNT n) t ∧ OnlyLink n s t ∧ SameRegs (fun a => a = pgLnk n + 0x110) s t) ∧
      (f.badCrc flips = false → f.seq ≠ (d.good + 1) % 4096 →
        exec (.frameReceive n toB flips stamp) s = .next (s.setLink n (l.setDir toB { d with wire := rest }))) ∧
      (f.badCrc flips = false → f.seq = (d.good + 1) % 4096 → f.nak = false →
        ∀ x lane p, f.slots = [x] → s.pkt x.pkt = some p → p.place = .link n toB lane → linkFlits n p ≤ (tabGet d.got x.pkt).getD 0 + 1 →
          let e := if toB then (linkEnds n).2 else (linkEnds n).1
          e < 4 →
          ∃ t, exec (.frameReceive n toB flips stamp) s = .next t ∧ ((t.linkSt n).dir toB).good = f.seq ∧ ((t.linkSt n).dir toB).wire = rest ∧
            t.pkt x.pkt = some { p with place := .router (siteIdx e (stripAt (portOf n e) lane).1 (stripAt (portOf n e) lane).2), xed := p.xed || decide (n < 12) } ∧
            t.regs = s.regs ∧ t = { s with links := t.links, packets := t.packets } ∧ (∀ j, j ≠ x.pkt → t.pkt j = s.pkt j)) ∧
      (f.badCrc flips = false → f.seq = (d.good + 1) % 4096 → f.nak = true → f.slots = [] →
        let left := dropAcked f.ack back.replay
        let tries := if left.length = back.replay.length then back.tries else 0
        left ≠ [] → ∃ t, exec (.frameReceive n toB flips stamp) s = .next t ∧ ((t.linkSt n).dir (!toB)).replay = left ∧ OnlyLink n s t ∧
          (tries < l.replayLimit → ((t.linkSt n).dir (!toB)).again = some 0 ∧ ((t.linkSt n).dir (!toB)).tries = tries + 1 ∧ sat (F.LNK_REPLAYS_COUNT n) t ∧ t.lnk n = linkActive) ∧
          (l.replayLimit ≤ tries → t.lnk n = lnkRetrain ∧ sat (F.LNK_RETRAINS_COUNT n) t)))

/-- One router executes the current segment of the packet that wins its output: it delivers it, moves it one hop, sends it into a link, or drops it with its cause. A packet that no earlier one precedes on its way, at a router whose fabric is on: where another packet wins its output, or the output has no credit for it, nothing changes; of two that hold a credit for one output, CTRL goes before RSP before the others, a packet that has crossed a die before one that has not, and else the lower of the round-robin. A packet that wins: after END or segment 7 it is delivered to its EXIT (CORE where the core takes packets and, for a tally addition, the partition is the site's; HAL; CLU at columns 4 and 12), sunk and counted in HYP_RT_ABSORB where the core does not take it, or dropped with cause 7 (a port the router lacks) or 6 (a reserved EXIT). A move segment takes it to the neighbour with one hop fewer left, or drops it with cause 4 (turn) or 1 (off the die). A LINK segment sends it into the gateway of the port's link, or drops it with cause 6, 2, 3, 5 or 8 as R145 says. Only the packet, the buffers, the router's counters and the gateway change. (06_fabric_links under R143, 06_fabric_links under R144, 06_fabric_links under R145, 06_fabric_links under R150, 06_fabric_links under R151, 06_fabric_links under R152, 06_fabric_links under R155, 06_fabric_links under R171) -/
def Obligations.RouterHop : Prop :=
  ∀ (id i : Nat) (p : Packet) (s : State), s.pkt id = some p → p.place = .router i → s.inOrder id p = true → s.fabricOn (siteDie i) = true →
    let op := (seg p.route p.cur).1
    let arg := (seg p.route p.cur).2
    let out := exec (.packetHop id) s
    let Drops (cause : Nat) : Prop := ∃ t, out = .next t ∧ Dropped i id cause p.src s t
    let At (q : Packet) : Prop := ∃ t, out = .next t ∧ t.pkt id = some q ∧ (∀ j, j ≠ id → t.pkt j = s.pkt j) ∧ t = { s with packets := t.packets, mesh := t.mesh }
    (s.winsOutput i id p = false → out = .next s) ∧
    (∀ j q, j ≠ id → s.pkt j = some q → q.place = .router i → q.output = p.output → s.holdsCredit i p = true →
      (s.arbRank i id p < s.arbRank i j q → s.winsOutput i j q = false) ∧
      (p.vc = 0 → q.vc ≠ 0 → s.winsOutput i j q = false) ∧ (p.vc = 2 → q.vc ≠ 0 → q.vc ≠ 2 → s.winsOutput i j q = false) ∧
      (p.vc = q.vc → p.xed = true → q.xed = false → s.winsOutput i j q = false)) ∧
    (s.winsOutput i id p = true →
      (8 ≤ p.cur ∨ op = 0 →
        (routeExit p.route = 0 → s.coreTakes i = true → (p.ty = 1 → s.partOfSite i = some p.part) → At { p with place := .core i }) ∧
        (routeExit p.route = 0 → s.coreTakes i = false ∨ (p.ty = 1 ∧ s.partOfSite i ≠ some p.part) → ∃ t, out = .next t ∧ t.pkt id = none ∧
          t.getF (F.HYP_RT_ABSORB_COUNT i) = satAdd (s.getF (F.HYP_RT_ABSORB_COUNT i)) 1 (2 ^ (F.HYP_RT_ABSORB_COUNT i).width - 1) ∧
          SameRegs (fun a => a = pgHyp i + 0x70C) s t ∧ t = { s with regs := t.regs, packets := t.packets, mesh := t.mesh }) ∧
        (routeExit p.route = 1 → At { p with place := .hal i }) ∧
        (routeExit p.route = 2 → (siteCol i = 4 ∨ siteCol i = 12) → At { p with place := .clu i }) ∧
        (routeExit p.route = 2 → siteCol i ≠ 4 → siteCol i ≠ 12 → Drops 7) ∧ (routeExit p.route = 3 → Drops 7) ∧ (4 ≤ routeExit p.route → Drops 6)) ∧
      (p.cur < 8 → 1 ≤ op → op ≤ 4 →
        (p.left = 0 → turnOk p.vc p.route p.cur op = false → Drops 4) ∧
        (p.left ≠ 0 ∨ turnOk p.vc p.route p.cur op = true →
          (neighbour i op = none → Drops 1) ∧
          (∀ j, neighbour i op = some j →
            (p.left = 1 ∨ (p.left = 0 ∧ arg = 0) → At { p with place := .router j, left := 0, cur := p.cur + 1 }) ∧
            (2 ≤ p.left → At { p with place := .router j, left := p.left - 1 }) ∧
            (p.left = 0 → 0 < arg → At { p with place := .router j, left := arg })))) ∧
      (p.cur < 8 → op = 5 → ∀ n, n = linkOf (siteDie i) arg →
        (8 < arg → Drops 6) ∧
        (arg ≤ 8 → laneOf arg (siteRow i) (siteCol i) = none → Drops 2) ∧
        (arg ≤ 8 → ∀ lane, laneOf arg (siteRow i) (siteCol i) = some lane →
          (s.linkTakes n = false → Drops 3) ∧
          (s.linkTakes n = true → arg ≤ 5 → p.xed = true → Drops 5) ∧
          (s.linkTakes n = true → 6 ≤ arg → restEnds p.route (p.cur + 1) = false ∨ routeExit p.route ≠ 3 → Drops 8) ∧
          (s.linkTakes n = true → (arg ≤ 5 ∧ p.xed = false) ∨ (6 ≤ arg ∧ restEnds p.route (p.cur + 1) = true ∧ routeExit p.route = 3) →
            (20 ≤ n → At { p with place := .ext n, cur := p.cur + 1, left := 0 }) ∧
            (n < 20 → ∃ t, out = .next t ∧ ∀ toB, toB = decide ((linkEnds n).1 = siteDie i) →
              t.pkt id = some { p with place := .link n toB lane, cur := p.cur + 1, left := 0 } ∧
              ((t.linkSt n).dir toB).waiting = ((s.linkSt n).dir toB).waiting ++ [(id, 0)] ∧
              t = { s with links := t.links, packets := t.packets, mesh := t.mesh })))) ∧
      (p.cur < 8 → 6 ≤ op → Drops 6))

/-- A synthesized route within a die leads every request to its destination's halyard port, and its reversal leads the response back to the core. For every two sites of one compute die with its fabric on: a CTRL, REQ or BULK packet alone in the fabric, at the source's router with the route that the route unit builds, is, after as many hops as rows and columns apart and one more for the delivery, at the destination's halyard port. The response that the port then injects, on the reversed route, is after as many hops delivered to the source's core where that takes packets. No turn is refused and no hop leaves the die, for any pair. (06_fabric_links under R144, 06_fabric_links under R147, 06_fabric_links under R148, 06_fabric_links under R155) -/
def Obligations.RouteArrives : Prop :=
  ∀ (src dst vc sel id : Nat) (s : State) (p : Packet), src < nSites → dst < nSites → siteDie src = siteDie dst → vc ≠ 2 →
    s.fabricOn (siteDie src) = true → s.packets = [(id, p)] → p.place = .router src → p.route = synthRoute sel src dst 1 →
    p.cur = 0 → p.left = 0 → p.vc = vc →
    let hops := ((siteRow src - siteRow dst) + (siteRow dst - siteRow src)) + ((siteCol src - siteCol dst) + (siteCol dst - siteCol src)) + 1
    (∃ t q, hopTimes id hops s = t ∧ t.pkt id = some q ∧ q.place = .hal dst) ∧
    (∀ ty aux d r k, p.srcKind = 0 → p.clu = false → ty ≠ 1 → s.coreTakes src = true → r = { s with packets := [] } → k = s.nextPkt →
      ∃ q, (hopTimes k hops (r.respond p dst ty aux d)).pkt k = some q ∧ q.place = .core src ∧ q.tag = p.tag ∧ q.data = d)

/-- SYSIG sends a tally addition along its route-table entry, the egress gate passes it, and TALLY_ADD adds its count where it has arrived. A core that issues a legal SYSIG answers a next state: with entry 0 its own tally has grown by COUNT; with another entry whose EXIT is CORE, one TALLY_ADD packet on CTRL with the entry's route, the tally and the count stands at the site's egress gate; with an entry of another EXIT the router has dropped it with cause 7. PACKET_HOP takes a packet past the gate of a core that is not eclipsed. TALLY_ADD at a core adds the packet's count to the tally its AUX names and takes the packet away; a sum above 0xFFFF leaves 0xFFFF and faults a core in its voyage. (06_fabric_links under R147, 06_fabric_links under R149, 06_fabric_links under R155, 06_fabric_links under R172, 05_core_engines under R117, 05_core_engines under R119) -/
def Obligations.TallyPackets : Prop :=
  ∀ (i id : Nat) (w : Word64) (s : State),
    let e := bits w.toNat 42 8
    let k := bits w.toNat 50 6
    let n := bits w.toNat 0 16
    let route := s.getF (F.HYP_RTAB_LO_ROUTE i e) + 2 ^ 32 * s.getF (F.HYP_RTAB_HI_ROUTE i e)
    let Adds (u t : State) (k n : Nat) : Prop :=
      (u.getF (tallyFld i k) + n ≤ 0xFFFF → t.getF (tallyFld i k) = u.getF (tallyFld i k) + n ∧ (t.core i).fault = (u.core i).fault) ∧
      (0xFFFF < u.getF (tallyFld i k) + n → t.getF (tallyFld i k) = 0xFFFF ∧ ((u.core i).fault = none → u.canFault i = true →
        (t.core i).fault = some ⟨causeTally, u.getF (F.CORE_PC_PC i), u.getF (F.CORE_PROG_K_K i), k⟩))
    (Issues s i w → opIs w 4 2 = true → onlyBits w 56 [(50, 6), (42, 8), (0, 16)] = true →
      (e = 0 → s.getF (tallyFld i k) + n ≤ 0xFFFF → ∃ t, exec (.sysig i w) s = .next t ∧ Adds s t k n ∧ PcNext i s t ∧
        OnlyRegs (fun a => pcReg i a ∨ tallyReg i k a) s t) ∧
      (e ≠ 0 → routeExit route = 0 → ∃ t q, exec (.sysig i w) s = .next t ∧ PcNext i s t ∧ t.pkt s.nextPkt = some q ∧
        q.place = .gate i ∧ q.route = route ∧ q.vc = 0 ∧ q.ty = 1 ∧ q.src = siteNum i ∧ q.cur = 0 ∧ bits q.aux 0 6 = k ∧ bits q.aux 16 16 = n ∧ q.data = [] ∧
        (∀ j, j ≠ s.nextPkt → t.pkt j = s.pkt j) ∧ SameRegs (pcReg i) s t ∧ t = { s with regs := t.regs, packets := t.packets, nextPkt := s.nextPkt + 1 }) ∧
      (e ≠ 0 → routeExit route ≠ 0 → ∃ t, exec (.sysig i w) s = .next t ∧ PcNext i s t ∧ t.getF (F.HYP_RT_LASTDROP_CAUSE i) = 7 ∧
        t.getF (F.HYP_RT_DROP_COUNT i) = satAdd (s.getF (F.HYP_RT_DROP_COUNT i)) 1 (2 ^ (F.HYP_RT_DROP_COUNT i).width - 1) ∧
        OnlyRegs (fun a => pcReg i a ∨ a = pgHyp i + 0x704 ∨ a = pgHyp i + 0x708) s t)) ∧
    (∀ p, s.pkt id = some p → p.place = .gate i → s.coreSt i ≠ coreEclipsed → s.inOrder id p = true →
      exec (.packetHop id) s = .next { s with packets := tabPut s.packets id { p with place := .router i } }) ∧
    (∀ p, s.pkt id = some p → p.place = .core i → p.ty = 1 → s.inOrder id p = true →
      ∃ t, exec (.tallyAdd id) s = .next t ∧ t.pkt id = none ∧ Adds s t (bits p.aux 0 6) (bits p.aux 16 16) ∧
        SameRegs (tallyReg i (bits p.aux 0 6)) s t ∧ t = { s with regs := t.regs, cores := t.cores, packets := t.packets, mesh := t.mesh })

/-- A moonlet message to an open window goes on at VBASE plus its offset; any other is answered or dropped by R166, counted and recorded. On an ACTIVE moonlet link: MRD, MWR and MWRB that are malformed, of a closed window or out of range answer a next state with an MRSP or MACK of that status and tag waiting at the same link, the refusal counted and recorded, and no byte of memory changed; of an open window and in range, the access begins at the partition virtual address VBASE + ADDR of the window's partition. MSIG to a site of the window's partition injects one tally addition; MEVT posts the event with CODE to the partition's default ring; MSIG to another site and either of them to a window that is not open is dropped and recorded with status 0xF. (06_fabric_links under R165, 06_fabric_links under R166, 06_fabric_links under R168, 06_fabric_links under R170) -/
def Obligations.MoonletMessages : Prop :=
  ∀ (die win tag len addr mask count code : Nat) (d : List Byte) (s : State), s.mnlUp die = true →
    let part := s.getF (F.MNL_WIN_CTRL_PART win)
    let va := s.getF (F.MNL_WIN_VBASE_LO_ADDR win) * 2 ^ 21 + s.getF (F.MNL_WIN_VBASE_HI_ADDR win) * 2 ^ 32 + addr
    let Refuses (x : Instr) (ty : Nat) (d : List Byte) : Prop := s.mnlCheck ty win len addr d ≠ 0 →
      ∃ t, exec x s = .next t ∧ MnlRefused die ty win (s.mnlCheck ty win len addr d) s t ∧ MnlAnswered die (if ty = 1 then 0x81 else 0x82) tag (s.mnlCheck ty win len addr d) s t
    let Drops (x : Instr) (ty : Nat) : Prop := ∃ t, exec x s = .next t ∧ MnlRefused die ty win 0xF s t ∧ t = { s with regs := t.regs }
    let Goes (x : Instr) (ty : Nat) (d : List Byte) (wr : Bool) (mask bytes : Nat) : Prop := s.mnlCheck ty win len addr d = 0 →
      exec x s = .next (((s.mnlHeard die bytes).startJob (.moonlet (20 + die) ty win tag) (130 + die) (if s.pgState (pgPrt part) = prtReset then none else some part) wr va len d mask).settle)
    Refuses (.mrd die win tag len addr) 1 [] ∧ Refuses (.mwr die win tag len addr d) 2 d ∧ Refuses (.mwrb die win tag len addr d mask) 3 d ∧
    Goes (.mrd die win tag len addr) 1 [] false 0 0 ∧ Goes (.mwr die win tag len addr d) 2 d true (2 ^ len - 1) d.length ∧
    Goes (.mwrb die win tag len addr d mask) 3 d true (mask % 2 ^ 32) (d.length + 4) ∧
    (∀ i, win < 16 → siteOfNum (addr % 2 ^ 16) = some i → s.winOpen win = true → s.partOfSite i = some part →
      ∃ t q, exec (.msig die win addr count) s = .next t ∧ t.pkt s.nextPkt = some q ∧ q.ty = 1 ∧ q.vc = 0 ∧ q.srcKind = 3 ∧
        q.part = part ∧ bits q.aux 0 6 = bits addr 16 6 ∧ bits q.aux 16 16 = count % 2 ^ 16 ∧
        t = { s with regs := t.regs, packets := t.packets, nextPkt := s.nextPkt + 1 } ∧ SameRegs (onPage (pgLnk (20 + die))) s t) ∧
    ((16 ≤ win ∨ s.winOpen win = false ∨ siteOfNum (addr % 2 ^ 16) = none ∨ ∃ i, siteOfNum (addr % 2 ^ 16) = some i ∧ s.partOfSite i ≠ some part) →
      Drops (.msig die win addr count) 4) ∧
    ((16 ≤ win ∨ s.winOpen win = false) → Drops (.mevt die win code) 5) ∧
    (win < 16 → s.winOpen win = true →
      let u := s.mnlHeard die 0
      exec (.mevt die win code) s = .next (u.postTo (s.getF (F.PRT_DEFRING_RING part)) ⟨0x06, 0, win, code % 2 ^ 16, s.orbit, 0, 0, 12⟩))

/-- A halyard port answers a request of a hole, a broken rule, a failed port or a retired bank at once with its status, and queues every other. HRD or HWR, at the port of site i: of a FAILED port it is answered COL_FAIL; of an ACTIVE one it is answered HOLE for a hole of R178, MALFORMED where R181 or R187 is broken (an HWR in SPACE 1 always), COL_FAIL for a retired bank; each such answer is counted in HYP_ERR and shown in HYP_LASTERR, and no memory changes. Otherwise the request, with the free number of the port's next request, joins the port's queue, as OWN where the site's own core sent it, and is not answered. AGED_REMOTE_GRANT, with fewer than 32 in flight and room for an expansion where it asks for one, grants the oldest waiting REMOTE request not sooner than AGE × 100 ns after its arrival and after the last such grant, and counts it only while an OWN request waits; with 32 in flight nothing changes. (07_halyards_dram under R178, 07_halyards_dram under R179, 07_halyards_dram under R181, 07_halyards_dram under R183, 07_halyards_dram under R187, 07_halyards_dram under R193) -/
def Obligations.PortTakes : Prop :=
  ∀ (id i : Nat) (p : Packet) (s : State), s.pkt id = some p → p.place = .hal i → s.inOrder id p = true → (p.ty = 0x10 ∨ p.ty = 0x11) →
    let out := exec (if p.ty = 0x10 then .hrd id else .hwr id) s
    let formed := if dpaSpace p.addr = 1 then p.ty = 0x10 ∧ s.expandOk i p = true else plainOk p = true
    let Refuses (st : Nat) : Prop := ∃ t, out = .next t ∧ Answered i (answerTy p) st [] p s t ∧
      t.getF (F.HYP_ERR_COUNT i) = satAdd (s.getF (F.HYP_ERR_COUNT i)) 1 (2 ^ (F.HYP_ERR_COUNT i).width - 1) ∧
      t.getF (F.HYP_LASTERR_TYPE i) = p.ty ∧ t.getF (F.HYP_LASTERR_STATUS i) = st ∧ t.getF (F.HYP_LASTERR_SPACE i) = dpaSpace p.addr ∧
      SameRegs (fun a => a = pgHyp i + 0x108 ∨ a = pgHyp i + 0x10C) s t ∧ t = { s with regs := t.regs, packets := t.packets, nextPkt := t.nextPkt, mesh := t.mesh }
    (s.hal i = halFailed → Refuses stColFail) ∧
    (s.hal i = halActive →
      (isHole p.addr = true → Refuses stHole) ∧
      (isHole p.addr = false → ¬ formed → Refuses stMalformed) ∧
      (isHole p.addr = false → formed → dpaSpace p.addr ≠ 2 → s.bankRetired i (dpaBank p.addr) = true → Refuses stColFail) ∧
      (isHole p.addr = false → formed → (dpaSpace p.addr = 2 ∨ s.bankRetired i (dpaBank p.addr) = false) → tabGet (s.port i).reqs (s.port i).nextReq = none →
        ∃ t r, out = .next t ∧ tabGet (t.port i).reqs (s.port i).nextReq = some r ∧ r.pkt = p ∧ r.since = s.now ∧
          (r.own = true ↔ p.srcKind = 0 ∧ p.clu = false ∧ p.src = siteNum i) ∧ (t.port i).nextReq = (s.port i).nextReq + 1 ∧
          t.pkt id = none ∧ t.dram = s.dram ∧ SameRegs (fun a => a = pgHyp i + 0x414) s t ∧ (∀ j, j ≠ i → t.port j = s.port j))) ∧
    (32 ≤ ((s.port i).reqs.filter (fun e => e.2.granted)).length → exec (.agedRemoteGrant i) s = .next s) ∧
    (∀ e, (s.port i).reqs.find? (fun e => !e.2.own && !e.2.granted) = some e → ((s.port i).reqs.filter (fun e => e.2.granted)).length < 32 →
      (dpaSpace e.2.pkt.addr = 1 → (s.port i).expand.length + ((s.port i).reqs.filter (fun e => e.2.granted && dpaSpace e.2.pkt.addr == 1)).length < 16) →
      ∃ t, exec (.agedRemoteGrant i) s = .next t ∧ max e.2.since (s.port i).agedAt + 10 * s.getF (F.HYP_ARB_AGE i) ≤ t.now ∧
        tabGet (t.port i).reqs e.1 = some { e.2 with granted := true } ∧ t.dram = s.dram ∧
        t.getF (F.HYP_ARB_AGED_COUNT i) = satAdd (s.getF (F.HYP_ARB_AGED_COUNT i))
          (b2n ((s.port i).reqs.any (fun x => x.2.own && !x.2.granted))) (2 ^ (F.HYP_ARB_AGED_COUNT i).width - 1))

/-- A served read answers the bytes that the memory holds; a served write writes exactly its enabled bytes; an expanded vector is the product of R188. HALYARD_REQUEST_COMPLETE of a granted request, before no earlier request on a common atom, at a bank that is free, answers a next state: an HRD of DRAM without an uncorrectable byte is answered OK with the bytes as the code delivers them, its atoms counted as OWN or REMOTE, and no byte of DRAM changes; with one, UNCORR and no data. An HWR of DRAM writes every enabled byte and no other, and is answered OK. In SPACE 2 the same happens in the expansion buffer and DRAM is untouched. An expanding read leaves its latent with the expansion unit; EXPANSION_COMPLETE answers it OK with the vector of R188 and counts it, where no byte of the matrix is uncorrectable. (07_halyards_dram under R174, 07_halyards_dram under R180, 07_halyards_dram under R181, 07_halyards_dram under R182, 07_halyards_dram under R186, 07_halyards_dram under R188) -/
def Obligations.PortServes : Prop :=
  ∀ (i n : Nat) (r : PortReq) (s : State), tabGet (s.port i).reqs n = some r → s.hal i = halActive →
    r.granted = true → s.firstOnAtom i n r.pkt = true → s.bankVerdict i n r.pkt = 0 →
    let p := r.pkt
    let out := exec (.halyardRequestComplete i n) s
    let Sent (p : Packet) (ty st : Nat) (d : List Byte) (t : State) : Prop := ∃ q, t.pkt s.nextPkt = some q ∧ q.ty = ty ∧ q.aux = st ∧ q.tag = p.tag ∧ q.data = d ∧ q.route = reverseRoute p ∧ q.vc = 2
    (p.ty = 0x10 → dpaSpace p.addr = 0 → s.dramBad p.addr p.len = false →
      ∃ t, out = .next t ∧ Sent p 0x12 stOk (toBytes (s.dramData p.addr p.len)) t ∧ (∀ a, t.dram.read a = s.dram.read a)) ∧
    (p.ty = 0x10 → dpaSpace p.addr = 0 → s.dramBad p.addr p.len = true → ∃ t, out = .next t ∧ Sent p 0x12 stUncorr [] t ∧ ∀ a, t.dram.read a = s.dram.read a) ∧
    (p.ty = 0x11 → dpaSpace p.addr = 0 → ∃ t, out = .next t ∧ Sent p 0x13 stOk [] t ∧
      (atomsOn (writeMask p) p.len ≠ 0 → ∀ k b, bit (writeMask p) k = true → p.data[k]? = some b → t.dram.read (p.addr + k) = b) ∧
      (∀ a, (∀ k, a = p.addr + k → bit (writeMask p) k = false ∨ p.data[k]? = none) → t.dram.read a = s.dram.read a)) ∧
    (p.ty = 0x11 → dpaSpace p.addr = 2 → ∃ t, out = .next t ∧ Sent p 0x13 stOk [] t ∧ t.dram = s.dram ∧
      (∀ k b, bit (writeMask p) k = true → p.data[k]? = some b → (t.port i).xbuf.read (dpaOff p.addr + k) = b) ∧
      (∀ a, (∀ k, a = dpaOff p.addr + k → bit (writeMask p) k = false ∨ p.data[k]? = none) → (t.port i).xbuf.read a = (s.port i).xbuf.read a)) ∧
    (p.ty = 0x10 → dpaSpace p.addr = 2 → (s.port i).xbuf.errors (dpaOff p.addr) p.len = [] →
      ∃ t, out = .next t ∧ Sent p 0x12 stOk (toBytes ((s.port i).xbuf.deliver (dpaOff p.addr) p.len)) t ∧ t.dram = s.dram) ∧
    (p.ty = 0x10 → dpaSpace p.addr = 1 → s.dramBad (colBase i + dpaOff p.addr) (2 * s.xDin i (dpaXset p.addr)) = false →
      ∃ t k, out = .next t ∧ tabGet (t.port i).expand k = some (r, s.dramData (colBase i + dpaOff p.addr) (2 * s.xDin i (dpaXset p.addr))) ∧ t.nextPkt = s.nextPkt) ∧
    (∀ k lat e, tabGet (s.port i).expand k = some (e, lat) →
      let x := dpaXset e.pkt.addr
      (s.port i).xbuf.errors (s.xBase i x) (2 * s.xDin i x * s.xDout i x) = [] →
      ∃ t, exec (.expansionComplete i k) s = .next t ∧ tabGet (t.port i).expand k = none ∧ t.dram = s.dram ∧
        Sent e.pkt (answerTy e.pkt) stOk (toBytes (expandVec ((s.port i).xbuf.deliver (s.xBase i x) (2 * s.xDin i x * s.xDout i x)) lat (s.xDin i x) (s.xDout i x) (s.xOut32 i x))) t ∧
        t.getF (F.HYP_XVEC_COUNT i) = satAdd (s.getF (F.HYP_XVEC_COUNT i)) 1 (2 ^ (F.HYP_XVEC_COUNT i).width - 1))

/-- A refresh operation that falls due runs, is postponed into debt while its bank is busy, or is urgent at the debt limit; debt is paid back. With a bank's DRAM on: REFRESH_DUE, an operation interval after the last, answers a next state in which the operation has begun where the bank is idle and not taken and a token is free, or where it is busy and the debt it would make reaches the limit (then urgent), and in which otherwise the debt has grown by one. REFRESH_PAYBACK begins a postponed operation and takes one from the debt where the bank, not taken, is idle or its debt has reached the limit, and a token is free, below the limit not before 200 ns of idle. REFRESH_COMPLETE frees the token, and begins the next urgent operation at once while the debt is at or above the limit. ROW_IDLE_CLOSE closes an open row 200 ns after its last use. No byte of memory changes. (07_halyards_dram under R173, 07_halyards_dram under R190, 07_halyards_dram under R191, 08_bank_engines under R206) -/
def Obligations.Refresh : Prop :=
  ∀ (i b : Nat) (s : State), s.refreshOn i b = true →
    let q := s.port i
    let taken := q.inOp b || q.refreshing.contains b || q.scrubbing.any (fun x => x.1 == b)
    let due := (tabGet q.refAt b).getD 0 + s.refInterval i b
    let d := q.debtOf b
    let lim := s.debtLimit i b
    (taken = false → q.tokens < 8 → q.busyBank b = false →
      ∃ t, exec (.refreshDue i b) s = .next t ∧ due ≤ t.now ∧ RefreshBegins i b (decide (lim ≤ d)) d s t) ∧
    (taken = false → q.tokens < 8 → q.busyBank b = true → lim ≤ d + 1 →
      ∃ t, exec (.refreshDue i b) s = .next t ∧ due ≤ t.now ∧ RefreshBegins i b true d s t) ∧
    ((taken = true ∨ 8 ≤ q.tokens ∨ (q.busyBank b = true ∧ d + 1 < lim)) →
      ∃ t, exec (.refreshDue i b) s = .next t ∧ due ≤ t.now ∧ (t.port i).debtOf b = d + 1 ∧ (t.port i).refreshing = q.refreshing ∧ t.regs = s.regs ∧ t.dram = s.dram) ∧
    (taken = false → q.tokens < 8 → 0 < d → (q.busyBank b = false ∨ lim ≤ d) →
      ∃ t, exec (.refreshPayback i b) s = .next t ∧ RefreshBegins i b (decide (lim ≤ d)) (d - 1) s t ∧ (d < lim → (tabGet q.idleFrom b).getD 0 + 20 ≤ t.now)) ∧
    (q.refreshing.contains b = true →
      (0 < d → lim ≤ d → ∃ t, exec (.refreshComplete i b) s = .next t ∧ (t.port i).refreshing = q.refreshing.filter (· != b) ++ [b] ∧ (t.port i).debtOf b = d - 1 ∧
        t.getF (F.HYP_REF_URGENT_COUNT i) = satAdd (s.getF (F.HYP_REF_URGENT_COUNT i)) 1 (2 ^ (F.HYP_REF_URGENT_COUNT i).width - 1) ∧ t.dram = s.dram) ∧
      (d < lim → ∃ t, exec (.refreshComplete i b) s = .next t ∧ (t.port i).refreshing = q.refreshing.filter (· != b) ∧ (t.port i).debtOf b = d ∧
        t.regs = s.regs ∧ t.dram = s.dram)) ∧
    (∀ row at_, tabGet q.openRows b = some (row, at_) →
      ∃ t, exec (.rowIdleClose i b) s = .next t ∧ at_ + 20 ≤ t.now ∧ tabGet (t.port i).openRows b = none ∧ (∀ c, c ≠ b → tabGet (t.port i).openRows c = tabGet q.openRows c) ∧
        t.regs = s.regs ∧ t.dram = s.dram)

/-- BKCAST and BKSETK read their descriptor and send one packet to each target, or fault with the case of R202; BKMARK queues; at most four wait. A core that issues BKCAST or BKSETK with its descriptor (and BKSETK's data) in the scratchpad and without error: with no case of R202 and fewer than four BK instructions held, and every target's tower on, the instruction joins the BK queue, one packet of its type goes to the target column or to each row head (FWD 1), with SO added to the rows of a BKCAST, which alone is counted in HYP_BK_ISSUED, and the program counter goes on; memory and the local store are as before. A case of R202, 8 first and then the lowest, faults the core with BK_ILLEGAL and the case, and nothing is sent. With four held, or the port's sends full, issue is held, whatever the word. BKMARK joins the queue, and BKMARK_DONE of a BKMARK that leads the queue increments its tally. (08_bank_engines under R200, 08_bank_engines under R201, 08_bank_engines under R202, 08_bank_engines under R203, 08_bank_engines under R213) -/
def Obligations.BkIssue : Prop :=
  ∀ (i : Nat) (w : Word64) (s : State),
    ((4 ≤ (s.core i).bk.length ∨ s.sendsFull i = true) → (opIs w 5 1 = true → exec (.bkcast i w) s = .next s) ∧ (opIs w 5 2 = true → exec (.bksetk i w) s = .next s)) ∧
    (4 ≤ (s.core i).bk.length → opIs w 5 3 = true → exec (.bkmark i w) s = .next s) ∧
    (∀ o rest, (s.core i).bk = o :: rest → o.op = 3 → s.getF (tallyFld i o.tally) < 0xFFFF →
      ∃ t, exec (.bkmarkDone i) s = .next t ∧ t.core i = { s.core i with bk := rest } ∧ t.getF (tallyFld i o.tally) = s.getF (tallyFld i o.tally) + 1 ∧
        OnlyCore i (tallyReg i o.tally) s t) ∧
    (Issues s i w →
    let a := 64 * bits w.toNat 41 15
    let l := 64 * bits w.toNat 26 15
    let so := (s.scalar i (bits w.toNat 37 4)).toNat
    let c := s.lsData i a 64
    let d := toBytes (s.lsData i l 256)
    let x := s.core i
    let Faults (y : Instr) (k : Nat) : Prop := exec y s = .next (s.setCore i { x with fault := some ⟨causeBk, s.getF (F.CORE_PC_PC i), s.getF (F.CORE_PROG_K_K i), k⟩ })
    (opIs w 5 1 = true →
      let wordOk := onlyBits w 56 [(41, 15), (37, 4), (6, 1), (0, 6)]
      (s.inScratch i a 64 = false → Faults (.bkcast i w) 8) ∧
      (s.inScratch i a 64 = true → x.ls.errors a 64 = [] →
        (∀ k, s.bkCase i c so wordOk = some k → Faults (.bkcast i w) k) ∧
        (s.bkCase i c so wordOk = none → (∀ j ∈ s.bkTargets i c, s.towerOff j = false) →
          ∃ t, exec (.bkcast i w) s = .next t ∧ PcNext i s t ∧
            t.core i = { x with bk := x.bk ++ [⟨1, cmdPlus c so, [], false, bit w.toNat 6, bits w.toNat 0 6, s.nextTag⟩] } ∧
            BroadcastSent i 0x20 s.nextTag 0 (b2n (cmdGrp c != 0)) (toBytes (cmdPlus c so)) (s.bkTargets i c) s t ∧
            t.getF (F.HYP_BK_ISSUED_COUNT i) = satAdd (s.getF (F.HYP_BK_ISSUED_COUNT i)) 1 (2 ^ (F.HYP_BK_ISSUED_COUNT i).width - 1) ∧
            SameRegs (fun y => pcReg i y ∨ y = pgHyp i + 0x424) s t ∧ t.dram = s.dram))) ∧
    (opIs w 5 2 = true →
      let wordOk := onlyBits w 56 [(41, 15), (26, 15), (25, 1), (6, 1), (0, 6)]
      (s.inScratch i a 64 = false ∨ s.inScratch i l 256 = false → Faults (.bksetk i w) 8) ∧
      (s.inScratch i a 64 = true → s.inScratch i l 256 = true → x.ls.errors a 64 = [] → x.ls.errors l 256 = [] →
        (∀ k, s.bkSetCase i c wordOk = some k → Faults (.bksetk i w) k) ∧
        (s.bkSetCase i c wordOk = none → (∀ j ∈ s.bkTargets i c, s.towerOff j = false) →
          ∃ t, exec (.bksetk i w) s = .next t ∧ PcNext i s t ∧
            t.core i = { x with bk := x.bk ++ [⟨2, c, d, bit w.toNat 25, bit w.toNat 6, bits w.toNat 0 6, s.nextTag⟩] } ∧
            BroadcastSent i 0x21 s.nextTag (cmdBanks c + 2 ^ 32 * b2n (bit w.toNat 25)) (b2n (cmdGrp c != 0)) d (s.bkTargets i c) s t ∧
            SameRegs (pcReg i) s t ∧ t.dram = s.dram))) ∧
    (opIs w 5 3 = true →
      (onlyBits w 56 [(0, 6)] = false → Faults (.bkmark i w) 1) ∧
      (onlyBits w 56 [(0, 6)] = true → ∃ t, exec (.bkmark i w) s = .next t ∧ PcNext i s t ∧
        t.core i = { x with bk := x.bk ++ [⟨3, [], [], false, true, bits w.toNat 0 6, 0⟩] } ∧ OnlyCore i (pcReg i) s t)))

/-- A wave takes the next banks that free tokens and the cap allow; each step then changes exactly its destination row or the K slots. WAVE_START at an ACTIVE port whose front broadcast has banks left, none running and no earlier request waiting at them, with T = min(F - H, C) above 0, answers a next state in which the first T of those banks after the pointer run, counted as one wave. ENGINE_STEP_COMPLETE of a running operation, with no request waiting at the port, leaves memory as that step leaves it: a logic step writes the bitwise result of the stored bits of its source rows over the whole destination row and no other byte; a write step of DOT writes output n, four bytes, at its place, and no byte outside the destination row; reads leave memory alone; KLOAD, with banks still to come, copies sixteen correctable atoms into K0 to K15. An operation with steps left counts the step and goes to its next one. (08_bank_engines under R195, 08_bank_engines under R196, 08_bank_engines under R197, 08_bank_engines under R198, 08_bank_engines under R199, 08_bank_engines under R207, 08_bank_engines under R213) -/
def Obligations.BkEngine : Prop :=
  ∀ (i b cycles : Nat) (s : State) (c : Bcast) (rest : List Bcast), (s.port i).bcasts = c :: rest → c.setk = none →
    let q := s.port i
    let h := b2n (!q.debt.isEmpty && decide (1 ≤ 8 - q.tokens))
    let n := min (8 - q.tokens - h) (s.effCap i)
    let take := (robin q.ptr c.todo).take n
    (s.hal i = halActive → c.active = [] → c.todo ≠ [] → 0 < n → q.reqs = [] →
      ∃ t, exec (.waveStart i) s = .next t ∧
        (t.port i).bcasts = { c with todo := c.todo.filter (fun b => !take.contains b), active := take.map (fun b => ⟨b, 0, 0, false, false⟩), waves := c.waves + 1, started := true } :: rest ∧
        (t.port i).ptr = take.getLastD q.ptr ∧ t.getF (F.HYP_BK_STATUS_HOLDBACK i) = h ∧ t.dram = s.dram ∧
        t.getF (F.HYP_BK_WAVES_COUNT i) = satAdd (s.getF (F.HYP_BK_WAVES_COUNT i)) 1 (2 ^ (F.HYP_BK_WAVES_COUNT i).width - 1)) ∧
    (∀ o x, c.active.find? (fun o => o.bank == b) = some o → o.refreshing = false → q.refreshing.contains b = false → q.scrubbing = none → q.reqs = [] →
      (bkSteps c.cmd)[o.step]? = some x →
      ∃ t, exec (.engineStepComplete i b cycles) s = .next t ∧
        (o.step + 1 < (bkSteps c.cmd).length →
          t.getF (F.HYP_BK_STEPS_COUNT i) = satAdd (s.getF (F.HYP_BK_STEPS_COUNT i)) 1 (2 ^ (F.HYP_BK_STEPS_COUNT i).width - 1) ∧ ∃ c' o', (t.port i).bcasts = c' :: rest ∧ o' ∈ c'.active ∧ o'.bank = b ∧ o'.step = o.step + 1) ∧
        (∀ k, x = .logic k →
          let row (r : Nat) := rowAddr i b r
          let raw (r y : Nat) : Nat := Nat.xor (s.dram.read (row r + y)).toNat ((tabGet s.dram.flips (row r + y)).getD 0 % 256)
          let A := cmdSrc c.cmd + k
          let B := cmdSrc2 c.cmd + k
          (∀ y, y < 2048 → t.dram.read (row (cmdDst c.cmd + k) + y) = BitVec.ofNat 8 (
            if cmdBop c.cmd = 3 then Nat.land (raw A y) (raw B y) else if cmdBop c.cmd = 4 then Nat.lor (raw A y) (raw B y)
            else if cmdBop c.cmd = 5 then Nat.xor (raw A y) (raw B y) else 255 - raw A y)) ∧
          ∀ a, a < row (cmdDst c.cmd + k) ∨ row (cmdDst c.cmd + k) + 2048 ≤ a → t.dram.read a = s.dram.read a) ∧
        (∀ k, x = .write k → (cmdVl c.cmd = 1 ∨ cmdVl c.cmd = 2 ∨ cmdVl c.cmd = 4 ∨ cmdVl c.cmd = 8 ∨ cmdVl c.cmd = 16) →
          let row := rowAddr i b (cmdDst c.cmd + k)
          let ks := (List.range (cmdVl c.cmd)).map (fun j => q.kslot b j)
          (∀ m y, m < 512 → 512 * k + m < cmdRows c.cmd * dotV c.cmd → y < 4 →
            t.dram.read (row + 4 * m + y) = BitVec.ofNat 8 (bits (s.dotOut i b c.cmd ks (512 * k + m)) (8 * y) 8)) ∧
          ∀ a, a < row ∨ row + 2048 ≤ a → t.dram.read a = s.dram.read a) ∧
        ((∃ r, x = .readSrc r ∨ x = .readDst r) → ∀ a, t.dram.read a = s.dram.read a) ∧
        (x = .kload → c.todo ≠ [] → (∀ a, t.dram.read a = s.dram.read a) ∧
          ∀ j, j < 16 → s.dramBad (rowAddr i b (cmdSrc c.cmd) + 32 * cmdAtom c.cmd + 32 * j) 32 = false →
            (t.port i).kslot b j = s.dramData (rowAddr i b (cmdSrc c.cmd) + 32 * cmdAtom c.cmd + 32 * j) 32))

/-- A column takes its broadcast, a row head forwards it to its row, and the last report completes it at the issuer, which then increments its tally. BKCMD for one column of an ACTIVE port with no broadcast before it and a bank selected: the column takes it, behind the requests that reached the port before; of a FAILED one: BKDONE with COL_FAIL, no wave and one column. A BKSETK packet for one column, with none before it, writes K0 to K7 or K8 to K15 of every selected bank that is not retired, and is reported at once. With FWD 1, at a row head with no broadcast before it, the packet is sent on to columns 01 to 16 in ascending order. With no partition in reset, BKDONE that is the last of a BKCAST's reports completes it at the issuer: the instruction leaves the BK queue, HYP_BK_LASTDONE shows the largest wave count (at most 63), the OR of the status bits and the columns covered, and with TEN the tally grows by one; one that is not the last leaves the collection waiting for the others. (08_bank_engines under R203, 08_bank_engines under R204, 08_bank_engines under R205, 08_bank_engines under R208) -/
def Obligations.BkReports : Prop :=
  ∀ (id i : Nat) (p : Packet) (s : State), s.pkt id = some p → p.place = .hal i → s.inOrder id p = true →
    let q := s.port i
    (p.ty = 0x20 → p.aux = 0 → s.hal i = halFailed → ∃ t, exec (.bkcmd id) s = .next t ∧ Answered i 0x22 (doneAux 0 4 1) [] p s t ∧ t.dram = s.dram) ∧
    (p.ty = 0x20 → p.aux = 0 → s.hal i = halActive → q.bcasts = [] →
      let cmd := p.data.map BitVec.toNat
      let sel := (List.range 32).filter (fun b => bit (cmdBanks cmd) b && !s.bankRetired i b)
      sel ≠ [] → ∃ t, exec (.bkcmd id) s = .next t ∧ t.pkt id = none ∧
        (t.port i).bcasts = [⟨none, cmd, cmdBanks cmd, p, q.reqs.map (fun e => e.1), sel, [], 0, false, false⟩] ∧ t.dram = s.dram ∧ t.regs = s.regs) ∧
    (p.ty = 0x21 → p.aux = 0 → s.hal i = halActive → q.bcasts = [] →
      ∃ t, exec (.bksetkPacket id) s = .next t ∧ Answered i 0x22 (doneAux 0 0 1) [] p s t ∧ (t.port i).bcasts = [] ∧ t.dram = s.dram ∧ t.regs = s.regs ∧
        ∀ b j, b < 32 → j < 8 → bit (p.addr % 2 ^ 32) b = true → s.bankRetired i b = false →
          (t.port i).kslot b ((if bit p.addr 32 then 8 else 0) + j) = ((p.data.drop (32 * j)).take 32).map BitVec.toNat) ∧
    (∀ x, (x = .bkcmd id ∧ p.ty = 0x20) ∨ (x = .bksetkPacket id ∧ p.ty = 0x21) → p.aux = 1 → (s.hal i = halActive ∨ s.hal i = halFailed) → q.bcasts = [] →
      (∀ k ∈ q.collects, k.tag ≠ s.nextTag) →
      ∃ t, exec x s = .next t ∧ BroadcastSent i p.ty s.nextTag p.addr 0 p.data ((List.range 16).map (fun k => 17 * (i / 17) + k + 1)) s t ∧ t.dram = s.dram) ∧
    (p.ty = 0x22 → (∀ n, n < 16 → s.pgState (pgPrt n) ≠ prtReset) → ∀ k src, siteOfNum p.src = some src → q.collects = [k] → k.tag = p.tag → src ∈ k.waits →
      let waves := max k.waves (p.aux % 64)
      let status := Nat.lor k.status (bits p.aux 6 3)
      let columns := k.columns + bits p.aux 16 11
      (k.waits.filter (· != src) ≠ [] → ∃ t, exec (.bkdone id) s = .next t ∧
        (t.port i).collects = [{ k with waits := k.waits.filter (· != src), waves := waves, status := status, columns := columns }] ∧ t.regs = s.regs ∧ t.cores = s.cores ∧ t.dram = s.dram) ∧
      (k.waits.filter (· != src) = [] → ∀ hd, k.head = some hd → ∃ t, exec (.bkdone id) s = .next t ∧ (t.port i).collects = [] ∧
        Answered i 0x22 (doneAux waves status columns) [] hd s t ∧ t.regs = s.regs) ∧
      (k.waits.filter (· != src) = [] → k.head = none → k.setk = false → k.ten = true → k.tally < 64 → s.getF (tallyFld i k.tally) < 0xFFFF → columns < 2 ^ 11 →
        (s.core i).bk.any (fun o => o.tag == k.tag && o.op != 3) = true →
        ∃ t, exec (.bkdone id) s = .next t ∧ t.getF (tallyFld i k.tally) = s.getF (tallyFld i k.tally) + 1 ∧
          (t.core i).bk = (s.core i).bk.filter (fun o => o.op == 3 || o.tag != k.tag) ∧
          t.getF (F.HYP_BK_LASTDONE_WAVES i) = min waves 63 ∧ t.getF (F.HYP_BK_LASTDONE_WAVE_OVER i) = b2n (bit status 0) ∧
          t.getF (F.HYP_BK_LASTDONE_UNCORR i) = b2n (bit status 1) ∧ t.getF (F.HYP_BK_LASTDONE_COL_FAIL i) = b2n (bit status 2) ∧
          t.getF (F.HYP_BK_LASTDONE_COLUMNS i) = columns ∧ t.dram = s.dram))

/-- At a cluster cache, an invalidation or a recall leaves the line in I and is answered at once; data and grants install S, E, P or M. CINV at a serving cluster: the line is not held any more, the message is counted, and CIACK is answered. CRECALL: the same, answered by CWBR with exactly the dirty bytes and mask of a line in M or P, those of the write-back buffer where the line waits there, or none. CDATA without an error for an own CRDS, that nothing may have overtaken, installs the line in E where E is granted and in S otherwise, and the waiting accesses go on; for an own CFILL it merges the DRAM data under the mask of the P line, which goes to M. CGRANT puts a line still held in M with its data kept and no byte dirty, and one not held in P. CACK frees the write-back buffer. Nothing of another cluster changes by an invalidation or a recall. (09_caches_translation under R224, 09_caches_translation under R226, 09_caches_translation under R227, 09_caches_translation under R228, 09_caches_translation under R239) -/
def Obligations.CacheSide : Prop :=
  ∀ (id c : Nat) (p : Packet) (s : State),
    let line := p.addr / 128
    let k := s.cluster c
    let Counted (t : State) : Prop := t.getF (F.CLU_CC_RECALL_COUNT c) = satAdd (s.getF (F.CLU_CC_RECALL_COUNT c)) 1 (2 ^ (F.CLU_CC_RECALL_COUNT c).width - 1)
    (AtClu id 0x34 c p s → id ≠ s.nextPkt → ∃ t, exec (.cinv id) s = .next t ∧ tabGet (t.cluster c).lines line = none ∧ Counted t ∧ CluOnly c s t ∧
      Answered (cluSite c) 0x3A 0 [] p s t ∧ ∀ l, l ≠ line → tabGet (t.cluster c).lines l = tabGet k.lines l) ∧
    (AtClu id 0x35 c p s → id ≠ s.nextPkt → ∃ t q, exec (.crecall id) s = .next t ∧ tabGet (t.cluster c).lines line = none ∧ Counted t ∧ CluOnly c s t ∧
      t.pkt s.nextPkt = some q ∧ q.ty = 0x3B ∧ q.vc = 2 ∧ q.route = reverseRoute p ∧ q.tag = p.tag ∧
      (∀ x, tabGet k.lines line = some x → (x.st = .m ∨ x.st = .p) → q.data = x.deliver ∧ q.mask = x.mask) ∧
      (∀ x, tabGet k.lines line = some x → x.st ≠ .m → x.st ≠ .p → q.data = [] ∧ q.mask = 0) ∧
      (∀ b, tabGet k.lines line = none → tabGet k.wb line = some b → q.data = b.1 ∧ q.mask = b.2.1) ∧
      (tabGet k.lines line = none → tabGet k.wb line = none → q.data = [] ∧ q.mask = 0)) ∧
    (AtClu id 0x38 c p s → p.tag = 0 → p.aux % 16 = 0 → ∀ ws,
      (tabGet k.pend line = some ⟨0x30, ws, false⟩ → ∃ u : State, exec (.cdata id) s = .next (u.cohResume c ws).settle ∧ tabGet (u.cluster c).pend line = none ∧
        ∃ x, tabGet (u.cluster c).lines line = some x ∧ x.st = (if bit p.aux 4 then .e else .s) ∧ x.data = p.data ∧ x.mask = 0) ∧
      (∀ x, tabGet k.pend line = some ⟨0x32, ws, false⟩ → tabGet k.lines line = some x → x.st = .p →
        ∃ u : State, exec (.cdata id) s = .next (u.cohResume c ws).settle ∧ ∃ y, tabGet (u.cluster c).lines line = some y ∧ y.st = .m ∧ y.mask = x.mask ∧
          ∀ n, n < 128 → y.data[n]? = some (if bit x.mask n then x.data.getD n 0 else p.data.getD n 0))) ∧
    (AtClu id 0x39 c p s → ∀ ws, tabGet k.pend line = some ⟨0x31, ws, false⟩ →
      (∀ x, tabGet k.lines line = some x → ∃ u : State, exec (.cgrant id) s = .next (u.cohResume c ws) ∧ tabGet (u.cluster c).lines line = some { x with st := .m, mask := 0 }) ∧
      (tabGet k.lines line = none → ∃ (u : State) (x : CLine), exec (.cgrant id) s = .next (u.cohResume c ws) ∧ tabGet (u.cluster c).lines line = some x ∧ x.st = .p ∧ x.mask = 0)) ∧
    (AtClu id 0x3C c p s → tabGet k.pend line = none → ∃ t, exec (.cack id) s = .next t ∧ tabGet (t.cluster c).wb line = none ∧ (t.cluster c).lines = k.lines ∧
      t.regs = s.regs ∧ t.dram = s.dram)

/-- A home runs one transaction per line: holders are seen off first, ownership is granted or memory read, and later requests wait in order. A coherent request at a serving home: while a transaction on the line runs, it joins that line's queue, last. Otherwise, with room in the directory and no other holder to see off: CCLAIM is answered by CGRANT and the directory names the requester as owner; CRDS and CFILL read the line, and CATOM the entry's atom, from the line's halyard port; CWB of the owner goes masked to DRAM, and of any other cluster is answered with CACK and discarded. With an owner other than the requester, CRDS and CCLAIM first send it CRECALL; with sharers, CCLAIM sends CINV to each. CIACK and CWBR that are not the last leave one acknowledgement fewer awaited; the last, with nothing recalled, removes the holders and the claim is granted; recalled dirty bytes are first written to DRAM under their mask. (09_caches_translation under R225, 09_caches_translation under R226, 09_caches_translation under R227, 09_caches_translation under R228, 09_caches_translation under R234) -/
def Obligations.HomeSide : Prop :=
  ∀ (id c : Nat) (p : Packet) (s : State),
    let line := p.addr / 128
    let k := s.cluster c
    let quiet := s.homeHolders c line (some p) = []
    let free := tabGet k.txns line = none ∧ k.dirRoom line = true
    let home (a : Nat) := (dpaSite a).getD 0
    let rows : List (Instr × Nat) := [(.crds id, 0x30), (.cclaim id, 0x31), (.cfill id, 0x32), (.cwb id, 0x33), (.catom id, 0x36)]
    (∀ e ∈ rows, AtClu id e.2 c p s → ∀ t0, tabGet k.txns line = some t0 → ∃ t, exec e.1 s = .next t ∧
      tabGet (t.cluster c).txns line = some { t0 with queue := t0.queue ++ [p] } ∧ t.nextPkt = s.nextPkt ∧ t.dram = s.dram) ∧
    (AtClu id 0x31 c p s → free → quiet → p.srcKind ≠ 4 → ∀ y, reqClu p = some y → ∃ t d, exec (.cclaim id) s = .next t ∧
      Answered (cluSite c) 0x39 0 [] p s t ∧ tabGet (t.cluster c).dir line = some d ∧ d.owned = true ∧ d.ptrs = [y]) ∧
    (∀ e ∈ [((.crds id : Instr), 0x30, line * 128, 128), (.cfill id, 0x32, line * 128, 128), (.catom id, 0x36, p.addr / 32 * 32, 32)],
      AtClu id e.2.1 c p s → free → quiet → ∃ t x r, exec e.1 s = .next t ∧ tabGet (t.cluster c).txns line = some x ∧ x.req = some p ∧ x.phase = .read ∧
        CluSent c (home e.2.2.1) 1 1 0x10 e.2.2.1 s.nextPkt t ∧ tabGet t.reqs s.nextTag = some r ∧ r.org = .home c line ∧ r.len = e.2.2.2 ∧ t.dram = s.dram) ∧
    (AtClu id 0x33 c p s → tabGet k.txns line = none → ∀ y, reqClu p = some y →
      (∀ d, tabGet k.dir line = some d → d.owned = true → d.ptrs.headD 128 = y → ∃ t x q, exec (.cwb id) s = .next t ∧
        tabGet (t.cluster c).txns line = some x ∧ x.phase = .put ∧ CluSent c (home p.addr) 1 3 0x11 p.addr s.nextPkt t ∧
        t.pkt s.nextPkt = some q ∧ q.data = p.data ∧ q.mask = p.mask ∧ q.masked = true) ∧
      ((∀ d, tabGet k.dir line = some d → d.owned = false ∨ d.ptrs.headD 128 ≠ y) → p.srcKind ≠ 4 → ∃ t, exec (.cwb id) s = .next t ∧
        Answered (cluSite c) 0x3C 0 [] p s t ∧ t.dram = s.dram ∧ (t.cluster c).dir = k.dir)) ∧
    (∀ e ∈ [((.crds id : Instr), 0x30), (.cclaim id, 0x31)], AtClu id e.2 c p s → free → ∀ d y, tabGet k.dir line = some d → d.owned = true → d.ptrs = [y] → reqClu p ≠ some y →
      ∃ t x, exec e.1 s = .next t ∧ tabGet (t.cluster c).txns line = some x ∧ x.req = some p ∧ x.phase = .acks ∧ x.acks = 1 ∧
        CluSent c (cluSite y) 2 0 0x35 (line * 128) s.nextPkt t) ∧
    (AtClu id 0x31 c p s → free → ∀ d, tabGet k.dir line = some d → d.owned = false → d.ovf = false → (∀ y ∈ d.ptrs, reqClu p ≠ some y) → d.ptrs ≠ [] →
      ∃ t x, exec (.cclaim id) s = .next t ∧ tabGet (t.cluster c).txns line = some x ∧ x.phase = .acks ∧ x.acks = d.ptrs.length ∧
        ∀ n y, d.ptrs[n]? = some y → CluSent c (cluSite y) 2 0 0x34 (line * 128) (s.nextPkt + n) t) ∧
    (∀ x r y, tabGet k.txns line = some x → x.phase = .acks → x.req = some r → r.ty = 0x31 → r.srcKind ≠ 4 → reqClu r = some y → x.queue = [] →
      (2 ≤ x.acks → AtClu id 0x3A c p s → ∃ t, exec (.ciack id) s = .next t ∧ tabGet (t.cluster c).txns line = some { x with acks := x.acks - 1 } ∧ t.nextPkt = s.nextPkt) ∧
      (x.acks = 1 → tabGet k.dirty line = none → AtClu id 0x3A c p s → r.addr / 128 = line →
        ∃ t d, exec (.ciack id) s = .next t ∧ Answered (cluSite c) 0x39 0 [] r s t ∧ tabGet (t.cluster c).dir line = some d ∧ d.owned = true ∧ d.ptrs = [y] ∧
          tabGet (t.cluster c).txns line = none) ∧
      (x.acks = 1 → AtClu id 0x3B c p s → p.mask ≠ 0 → ∃ t z q, exec (.cwbr id) s = .next t ∧ tabGet (t.cluster c).txns line = some z ∧ z.phase = .write ∧
        CluSent c (home (line * 128)) 1 3 0x11 (line * 128) s.nextPkt t ∧ t.pkt s.nextPkt = some q ∧ q.data = p.data ∧ q.mask = p.mask))

/-- The census operations do to an entry what R234 says, each through PRT_CEN_OP and the entry's home; a copy that finds no page fails in time. Each operation of R234, on an entry below 2^32, gives the entry that its line of the table says, or is refused. An admitted write of PRT_CEN_OP with GO and the operation, with the page in a column of the partition whose tower is on and no operation in progress, sets BUSY and sends a CATOM with the operation and the value through the CLU port of the entry's home to that home; with one in progress it changes nothing. CENSUS_OP_COMPLETE, once the home has answered, shows the entry before the operation and whether it was refused, and clears BUSY. FREE_TAIL_ADVANCE with no copy waiting writes PRT_FREE_TAIL. FREE_PAGE_WAIT_EXPIRY, WAIT_US after a copy began to wait, answers a next state in which the copy is gone. (09_caches_translation under R233, 09_caches_translation under R234, 09_caches_translation under R235, 09_caches_translation under R236, 09_caches_translation under R241) -/
def Obligations.Census : Prop :=
  (∀ op e v free : Nat, e < 2 ^ 32 → op ≤ 6 → CensusRule op e v (cenApply op e v free)) ∧
  (∀ x ∈ censusRows, ∀ (who : Requester) (part : Nat) (v : Word) (s u : State), part < 16 → bits v.toNat 0 3 = x.2 → bit v.toNat 3 = true →
    Admitted s u who (pgPrt part + 0x440) 15 v →
    let page := u.getF (F.PRT_CEN_PAGE_LO_ADDR part) * 65536 + u.getF (F.PRT_CEN_PAGE_HI_ADDR part) * 2 ^ 32
    (u.on (F.PRT_CEN_OP_BUSY part) = true → exec (x.1 who part v) s = .next u) ∧
    (u.on (F.PRT_CEN_OP_BUSY part) = false → ∀ a h, u.cenEntry part page = some a → homeOf a = some h → u.routeStatus a = none →
      ∃ t q, exec (x.1 who part v) s = .next t ∧ t.on (F.PRT_CEN_OP_BUSY part) = true ∧ CluSent h (cluSite h) 2 1 0x36 a u.nextPkt t ∧ t.pkt u.nextPkt = some q ∧ q.aux = x.2 ∧ q.data = toBytes (leBytes 4 (u.getF (F.PRT_CEN_VALUE_REFS part))) ∧ t.dram = u.dram ∧
        SameRegs (fun b => b = pgPrt part + 0x440) u t)) ∧
  (∀ (part tag : Nat) (r : MReq) (s : State), s.reqs.find? (fun e => decide (e.2.org = .census part) && e.2.wr) = some (tag, r) →
    ∃ t, exec (.censusOpComplete part) s = .next t ∧ t.on (F.PRT_CEN_OP_BUSY part) = false ∧ t.on (F.PRT_CEN_OP_REFUSED part) = decide (r.mask % 16 ≠ 0) ∧
      (r.data ≠ [] → t.getF (F.PRT_CEN_RESULT_ENTRY part) = leNat (r.data.map BitVec.toNat) % 2 ^ 32) ∧ tabGet t.reqs tag = none ∧ t.dram = s.dram) ∧
  (∀ (who : Requester) (part : Nat) (v : Word) (s u : State), part < 16 → Admitted s u who (pgPrt part + 0x454) 0xFFFFFFFF v → (∀ e ∈ u.cows, e.2.part ≠ part) →
    ∃ t : State, exec (.freeTailAdvance who part v) s = .next t.settle ∧ t.getF (F.PRT_FREE_TAIL_COUNT part) = v.toNat ∧ SameRegs (fun b => b = pgPrt part + 0x454) u t ∧ t.dram = u.dram) ∧
  (∀ (id : Nat) (c : Cow) (s : State), tabGet s.cows id = some c → c.step = .freePage →
    let u := s.advanceTo (c.since + 100 * s.getF (F.PRT_FREE_LOW_WAIT_US c.part))
    exec (.freePageWaitExpiry id) s = .next (u.cowGiveUp id c (0x100 + kNoFree + 16 * 3)).settle ∧
    c.since + 100 * s.getF (F.PRT_FREE_LOW_WAIT_US c.part) ≤ u.now ∧ tabGet (u.cowGiveUp id c (0x100 + kNoFree + 16 * 3)).cows id = none)

/-- Answers reach whoever asked: a stream takes its bytes, a fill answers every waiter and its line becomes RO, a copied page goes out in 256-byte reads. HRSP and HACK of status OK for a request of a stream that holds it: the request is gone, the stream has fewer bytes and requests outstanding, and a load's bytes stand at their place. LINE_FILL_RETURN of status OK, with a free way, installs the line as RO and answers the waiters in order. MISS_ADMIT admits the oldest waiting miss that fits. INVAL_RO drops every RO line and no other where no core of the cluster is in a voyage; WB_ALL leaves no line in M or P; either sets BUSY, which CACHE_COMMAND_COMPLETE clears once no write-back is outstanding. HCOPY at an ACTIVE port starts a page copy with 32 reads of 256 bytes outstanding. (09_caches_translation under R218, 09_caches_translation under R221, 09_caches_translation under R222, 09_caches_translation under R236, 09_caches_translation under R239, 07_halyards_dram under R181) -/
def Obligations.MemoryAnswers : Prop :=
  ∀ (id : Nat) (p : Packet) (s : State),
    (∀ r i sid pos skip take x, s.pkt id = some p → p.place = .core i → s.inOrder id p = true → p.aux % 16 = 0 → tabGet s.reqs p.tag = some r → r.org = .stream i sid 0 pos skip take →
      s.streamOf i sid = some x → r.pf = false → r.alloc = 0 →
      (p.ty = 0x12 → r.wr = false → ∃ u : State, exec (.hrsp id) s = .next u.settle ∧ tabGet u.reqs p.tag = none ∧ u.pkt id = none ∧
        u.streamOf i sid = some { x with waiting := x.waiting - 1, out := x.out - take, got := tabPut x.got pos ((p.data.drop skip).take take) } ∧ u.dram = s.dram ∧ u.regs = s.regs) ∧
      (p.ty = 0x13 → r.wr = true → ∃ u : State, exec (.hack id) s = .next u.settle ∧ tabGet u.reqs p.tag = none ∧ u.pkt id = none ∧
        u.streamOf i sid = some { x with waiting := x.waiting - 1, out := x.out - take } ∧ u.dram = s.dram ∧ u.regs = s.regs)) ∧
    (∀ r c line i, s.pkt id = some p → p.place = .clu i → p.ty = 0x12 → s.inOrder id p = true → p.aux % 16 = 0 → tabGet s.reqs p.tag = some r → r.org = .fill c line → s.cluSt c = cluUp →
      tabGet (s.cluster c).lines line = none → ((s.cluster c).lines.filter (fun e => cluSet e.1 == cluSet line && e.1 != line)).length < 16 - (s.cluster c).dirWays →
      ∃ (u : State) (x : CLine), exec (.lineFillReturn id) s = .next (((tabGet (s.cluster c).fills line).getD []).foldl (fun s w => s.streamAnswer w.req (line * 128) 0 p.data) u) ∧
        tabGet (u.cluster c).lines line = some x ∧ x.st = .ro ∧ x.data = p.data ∧ tabGet (u.cluster c).fills line = none) ∧
    (∀ c w rest, (s.cluster c).missQueue = w :: rest → s.missFits c (w.dpa / 128) = true → tabGet (s.cluster c).lines (w.dpa / 128) = none →
      exec (.missAdmit c) s = .next ((s.setCluster c { s.cluster c with missQueue := rest }).missTake c w)) ∧
    (∀ who c v u, Admitted s u who (pgClu c + 0x204) 1 v → s.cluSt c = cluUp → bit v.toNat 0 = true → bit v.toNat 1 = false → u.cluBusyCores c = false →
      ∃ t, exec (.invalRo who c v) s = .next t ∧ (t.cluster c).lines = (u.cluster c).lines.filter (fun e => e.2.st != .ro) ∧ t.on (F.CLU_CC_STATUS_BUSY c) = true ∧
        t.dram = u.dram ∧ SameRegs (fun a => a = pgClu c + 0x208) u t ∧ ∀ j, j ≠ c → t.cluster j = u.cluster j) ∧
    (∀ who c v u, Admitted s u who (pgClu c + 0x204) 2 v → s.cluSt c = cluUp → bit v.toNat 1 = true →
      ∃ t, exec (.wbAll who c v) s = .next t ∧ (∀ l x, tabGet (t.cluster c).lines l = some x → tabSorted (u.cluster c).lines = true → x.st ≠ .m ∧ x.st ≠ .p) ∧
        t.on (F.CLU_CC_STATUS_BUSY c) = true ∧ t.dram = u.dram) ∧
    (∀ c, s.on (F.CLU_CC_STATUS_BUSY c) = true → (s.cluster c).wb = [] → ∃ t, exec (.cacheCommandComplete c) s = .next t ∧ t.on (F.CLU_CC_STATUS_BUSY c) = false ∧
      OnlyRegs (fun a => a = pgClu c + 0x208) s t) ∧
    (∀ i, s.pkt id = some p → p.place = .hal i → p.ty = 0x14 → s.inOrder id p = true → s.hal i = halActive → (∀ b, b < 32 → s.bankRetired i b = false) → isHole p.addr = false →
      dpaSpace p.addr = 0 → p.addr % 65536 = 0 → s.routeStatus (leNat (p.data.map BitVec.toNat)) = none →
      ∃ t c, exec (.hcopy id) s = .next t ∧ tabGet (t.port i).copies (s.port i).nextCopy = some c ∧ c.pkt = p ∧ c.fresh = p.addr ∧ c.waits = 32 ∧
        c.todo = (List.range 256).drop 32 ∧ t.nextPkt = s.nextPkt + 32 ∧ t.dram = s.dram ∧
        ∀ n, n < 32 → ∃ q, t.pkt (s.nextPkt + n) = some q ∧ q.place = .router i ∧ q.ty = 0x10 ∧ q.len = 256 ∧ q.addr = leNat (p.data.map BitVec.toNat) + 256 * n)

/-- A walk follows the levels of R229 to its leaf, the page offset is kept, and after an invalidation no translation cache holds a leaf of its range. Where the entries of R229 lie in memory without an error, two legal non-leaf entries and then a legal leaf at level 2, or three and then a leaf at level 3, the walk of a VA ends at that leaf, and at an entry that is not legal it fails with the entry's kind and level. A translation in use gives the page's address plus the VA's offset in the page. A VA of 2^48 or more is RANGE, and a partition whose PRT_XCTRL.EN is 0 is DISABLED. XINV, admitted with GO, clears DONE and starts an invalidation of the range in the registers; XINV_DONE leaves no core, cluster, I/O die or gateway with a leaf in that range and, where it was the partition's last, sets DONE; memory is as before. (09_caches_translation under R229, 09_caches_translation under R230, 09_caches_translation under R231, 09_caches_translation under R232) -/
def Obligations.Translation : Prop :=
  (∀ (p va e0 e1 e2 e3 : Nat) (s : State),
    let root := s.getF (F.PRT_PT_ROOT_LO_ADDR p) * 4096 + s.getF (F.PRT_PT_ROOT_HI_ADDR p) * 2 ^ 32
    dpaSpace root = 0 → s.partOfDpa root = some p → EntryAt s (root + 8 * bits va 39 9) e0 →
    (∀ k, s.pteFault p e0 0 = some k → ∃ t, s.walk p va = (t, .error (xlErr k 0))) ∧
    (s.pteFault p e0 0 = none → EntryAt s (pteAddr e0 + 8 * bits va 30 9) e1 → s.pteFault p e1 1 = none → EntryAt s (pteAddr e1 + 8 * bits va 21 9) e2 → s.pteFault p e2 2 = none →
      (pteLeaf e2 = true → ∃ t, s.walk p va = (t, .ok (pteAddr e1 + 8 * bits va 21 9, e2, true)) ∧ t.dram = s.dram) ∧
      (pteLeaf e2 = false → EntryAt s (pteAddr e2 + 8 * bits va 16 5) e3 → s.pteFault p e3 3 = none →
        ∃ t, s.walk p va = (t, .ok (pteAddr e2 + 8 * bits va 16 5, e3, false)) ∧ t.dram = s.dram))) ∧
  (∀ (x : Xlat) (va : Nat), x.dpa va = pteAddr x.leaf + va % (if x.big then 2 ^ 21 else 2 ^ 16)) ∧
  (∀ (i va : Nat) (wr : Bool) (s : State), 2 ^ 48 ≤ va → s.xlCore i va wr = (s, .error (xlErr kRange 0))) ∧
  (∀ (i p va : Nat) (wr : Bool) (s : State), va < 2 ^ 48 → s.partOfSite i = some p → s.on (F.PRT_XCTRL_EN p) = false → s.xlCore i va wr = (s, .error (xlErr kDisabled 0))) ∧
  (∀ (who : Requester) (part : Nat) (v : Word) (s u : State), part < 16 → bit v.toNat 0 = true → Admitted s u who (pgPrt part + 0x40C) 1 v →
    ∃ t, exec (.xinv who part v) s = .next t ∧ t.on (F.PRT_XINV_DONE part) = false ∧ t.on (F.PRT_XINV_GO part) = true ∧ t.dram = u.dram ∧
      t.xinvs = u.xinvs ++ [⟨part, bit v.toNat 1, u.getF (F.PRT_XINV_VA_LO_VA part) * 65536 + u.getF (F.PRT_XINV_VA_HI_VA part) * 2 ^ 32, u.getF (F.PRT_XINV_PAGES_COUNT part), none⟩] ∧
      SameRegs (fun a => a = pgPrt part + 0x40C) u t) ∧
  (∀ (n : Nat) (v : Xinv) (s : State), s.xinvs[n]? = some v → v.cow = none →
    ∃ t, exec (.xinvDone n) s = .next t ∧ (∀ i, ∀ x ∈ (t.core i).tlb, v.covers x = false) ∧ (∀ c, ∀ x ∈ (t.cluster c).tlb, v.covers x = false) ∧
      (∀ e ∈ t.unitTlb, ∀ x ∈ e.2, v.covers x = false) ∧ t.dram = s.dram ∧ t.xinvs = dropAt s.xinvs n ∧
      ((dropAt s.xinvs n).any (fun w => w.part == v.part && w.cow.isNone) = false → t.on (F.PRT_XINV_DONE v.part) = true ∧ t.on (F.PRT_XINV_GO v.part) = false))

/-- A latent of a sealed page is one vector of the scoring operation in its bank, and its score lies where R251 puts it. For LW of 64, 128 or 256, an extent whose SDROW is a multiple of 16, a page i below 16 within the bank's rows and a token j of the page: the latent lies in the physical bank (j / V) XOR ((SDROW + i) mod 32), it is vector V i + (j mod V) of a DOT from SDROW in that bank, and with DDROW congruent to SDROW modulo 32 the output of that number, written to the bank's part of row DDROW, lies at byte DDROW x 65,536 + s x 2,048 + 4 n of the column with s = (j / V) XOR i and n = V i + (j mod V). (10_attention_kv under R242, 10_attention_kv under R244, 10_attention_kv under R250, 10_attention_kv under R251, 07_halyards_dram under R177) -/
def Obligations.ScorePlace : Prop :=
  ∀ site sdrow ddrow lw i j : Nat, site < nSites → (lw = 64 ∨ lw = 128 ∨ lw = 256) → sdrow % 16 = 0 → i < 16 → sdrow + i < 12288 → ddrow < 12288 →
    ddrow % 32 = sdrow % 32 → j < kvTpp lw →
    let b := dpaBank (latentDpa site sdrow lw i j)
    let n := scoreIndex lw i j
    b = Nat.xor (j / kvV lw) ((sdrow + i) % 32) ∧ n / kvV lw = i ∧ n < 512 ∧
    rowAddr site b (sdrow + n / kvV lw) + 2 * lw * (n % kvV lw) = latentDpa site sdrow lw i j ∧
    rowAddr site b ddrow + 4 * n = colBase site + ddrow * 65536 + Nat.xor (j / kvV lw) i * 2048 + 4 * (kvV lw * i + j % kvV lw)

/-- Waves ramp the sites of one column, a ramp closes 16 segments or aborts, and faults of regions and domains take down what they feed. POWER_WAVE_START begins a ramp for exactly the sites of the wave's column that may be powered, 50 µs after the wave before; while waves are held nothing happens. GATE_SEGMENT_CLOSE, for one running ramp, closes its next segment at its instant; it aborts on a step current, or on the rail after segment 8, with the site eclipsed (PG_SHORT), latched and reported; after segment 16 the site is IDLE. CURRENT_REGION_TRIP eclipses and latches every powered site of the region, unless a step abort of this instant has explained it; of region 4 it turns the cluster off and latches it. DOMAIN_FAULT turns off the half-layer with all its banks, or the tower with its clusters and half-layers. (11_power_delivery under R270, 11_power_delivery under R271, 11_power_delivery under R272, 11_power_delivery under R274, 11_power_delivery under R278, 11_power_delivery under R283) -/
def Obligations.PowerUp : Prop :=
  ∀ s : State,
    (∀ w, w < 16 → s.power.waveNext = some w →
      (s.wavesHeld = true → exec .powerWaveStart s = .next s) ∧
      (s.wavesHeld = false → let u := s.advanceTo s.power.waveAt
        ∃ t, exec .powerWaveStart s = .next t ∧ t.getF F.PWR_STATUS_WAVE = w ∧ SameRegs (fun a => a = pgPwr + 0x100) u t ∧
          t = { u with regs := t.regs, power := { u.power with ramps := t.power.ramps, waveNext := some (w + 1), waveAt := u.now + 5000 } } ∧
          ∀ i, tabGet t.power.ramps i = (if i < nSites ∧ siteCol i = w ∧ u.mayRamp i = true then some ⟨u.now, 1⟩ else tabGet u.power.ramps i))) ∧
    (∀ i r ovr rails, s.power.ramps = [(i, r)] → s.power.boot = none → (0 < r.seg ∨ s.wavesHeld = false) → i < nSites →
      let u := s.advanceTo (r.since + 50 * r.seg)
      let out := exec (.gateSegmentClose ovr rails) s
      let Aborts (detail : Nat) : Prop := ∃ t, out = .next t ∧ EclipsedBy 3 i t ∧ Faulted 1 10 t ∧ t.getF F.PWR_LASTFAULT_DETAIL = detail ∧
        t.getF F.PWR_LASTFAULT_SITE = siteNum i ∧ t.power.ramps = []
      (r.seg < 16 → (r.seg = 0 ∨ i ∉ ovr) → (r.seg = 8 → u.railOk i rails = true) →
        out = .next { u with power := { u.power with ramps := [(i, ⟨if r.seg = 0 then u.now else r.since, r.seg + 1⟩)] } }) ∧
      (0 < r.seg → i ∈ ovr → s.coreSt i ≠ coreEclipsed → Aborts 0) ∧
      (r.seg = 8 → i ∉ ovr → u.railOk i rails = false → s.coreSt i ≠ coreEclipsed → Aborts 1) ∧
      (16 ≤ r.seg → i ∉ ovr → ∃ t, out = .next t ∧ t.coreSt i = coreIdle ∧ t.power.ramps = [])) ∧
    (∀ clu region, clu < 128 → region ≤ 5 → clu ∈ s.power.cluOn →
      let Hit (i : Nat) : Prop := i ∈ s.sitesOnRail clu ∧ s.gateOn i = true
      let aborted : Prop := ∃ e ∈ s.narrowNow, e.2.1 = true ∧ s.rampClu e.1 = clu ∧ siteRegion e.1 = region
      (region ≠ 4 → aborted → exec (.currentRegionTrip clu region) s = .next s) ∧
      (region ≠ 4 → ¬ aborted → (∃ i, Hit i ∧ siteRegion i = region) → ∃ t, exec (.currentRegionTrip clu region) s = .next t ∧ Faulted 2 11 t ∧
        t.getF F.PWR_LASTFAULT_WHERE = region ∧ (∀ i, Hit i → siteRegion i = region → t.coreSt i = coreEclipsed ∧ t.siteLatched i = true) ∧ t.power.cluOn = s.power.cluOn) ∧
      (region = 4 → ∃ t, exec (.currentRegionTrip clu region) s = .next t ∧ Faulted 3 12 t ∧ (∀ i, Hit i → t.coreSt i = coreEclipsed) ∧
        (∀ e ∈ s.narrowNow, s.rampClu e.1 = clu → t.getF (F.CORE_ECL_CAUSE e.1) = 5) ∧
        clu ∉ t.power.cluOn ∧ t.cluLatched clu = true ∧ t.cluster clu = ClusterState.fresh)) ∧
    (∀ d, d < 4 → d ∈ s.power.fabOn → ∃ t, exec (.domainFault true d) s = .next t ∧ Faulted 4 15 t ∧ bit (t.getF F.PWR_TOWER_FAULT_FAB) d = true ∧
      d ∉ t.power.fabOn ∧ (∀ h ∈ t.power.dramOn, h / 16 ≠ d) ∧ (∀ c ∈ t.power.cluOn, c / 32 ≠ d)) ∧
    (∀ h, h < 64 → h ∈ s.power.dramOn → ∃ t, exec (.domainFault false h) s = .next t ∧ Faulted 5 16 t ∧ bit (t.getF (F.PWR_DRAM_FAULT (h / 32))) (h % 32) = true ∧
      h ∉ t.power.dramOn ∧ t.power.fabOn = s.power.fabOn ∧ (∀ k b, k < 136 → b < 32 → bankLayer b = h % 16 / 2 → t.bankRetired (pointSite h k) b = true))

/-- A field below warning divides CLK_CORE until a release that has qualified, a field fault takes its tower down, and the sense points are sampled. VIN_WARNING sets WARN and DIV, voids a qualification and stops the waves; where nothing was divided it counts the entry and raises VIN_WARN; no core, packet or byte of memory changes. VIN_ABOVE_WARNING starts the counts, RELEASE_QUALIFIED waits for a tick while orbits run and otherwise releases at once with the time divided in PWR_DIV_US, WAVE_RESUME lets waves begin. VIN_BELOW_RESET and VIN_ABOVE_RESET start and stop a field's timer; one field's fault takes its tower down with its FIELD bit and event, and the fault of two is a fault reset. SENSE_POINT_SAMPLE shows the fields' readings, and a point that reaches its 16th (4th) sample at the threshold is reported. (11_power_delivery under R267, 11_power_delivery under R277, 11_power_delivery under R280, 11_power_delivery under R281, 11_power_delivery under R282, 11_power_delivery under R283, 11_power_delivery under R285) -/
def Obligations.VinWarning : Prop :=
  ∀ (dt field : Nat) (s : State), field < 4 →
    let u := s.advance dt
    (s.power.pwrgd = true → field ∉ u.power.warn → ∃ t, exec (.vinWarning dt field) s = .next t ∧ t.power.warn = u.power.warn ++ [field] ∧ t.power.clearAt = none ∧ t.power.resumeAt = none ∧
      t.on F.PWR_STATUS_WARN = true ∧ t.on F.PWR_STATUS_DIV = true ∧ t.on F.PWR_STATUS_QUALIFYING = false ∧ t.on F.PWR_STATUS_QUALIFIED = false ∧
      (u.on F.PWR_STATUS_DIV = false → EvtOn t pgPwr 8 ∧ t.power.divAt = u.now ∧
        t.getF F.PWR_WARN_COUNT_COUNT = satAdd (u.getF F.PWR_WARN_COUNT_COUNT) 1 (2 ^ F.PWR_WARN_COUNT_COUNT.width - 1)) ∧
      (u.on F.PWR_STATUS_DIV = true → OnlyRegs (fun a => a = pgPwr + 0x100) { u with power := t.power } t) ∧
      t.cores = s.cores ∧ t.packets = s.packets ∧ t.dram = s.dram) ∧
    (s.power.pwrgd = true → u.power.warn ≠ [] → ∃ t, exec (.vinAboveWarning dt) s = .next t ∧ t.power = { u.power with warn := [], low := [], clearAt := some u.now, resumeAt := some (u.now + 10000) } ∧
      t.on F.PWR_STATUS_WARN = false ∧ t.on F.PWR_STATUS_QUALIFYING = true ∧ OnlyRegs (fun a => a = pgPwr + 0x100) { u with power := t.power } t) ∧
    (∀ t0, s.power.clearAt = some t0 → let v := s.advanceTo (t0 + 10000)
      (s.running = true → ∃ t, exec .releaseQualified s = .next t ∧ t.on F.PWR_STATUS_QUALIFIED = true ∧ t.on F.PWR_STATUS_QUALIFYING = false ∧
        t.on F.PWR_STATUS_DIV = s.on F.PWR_STATUS_DIV ∧ OnlyRegs (fun a => a = pgPwr + 0x100) { v with power := { v.power with clearAt := none } } t) ∧
      (s.running = false → ∃ t, exec .releaseQualified s = .next t ∧ t.on F.PWR_STATUS_DIV = false ∧ EvtOn t pgPwr 9 ∧
        t.getF F.PWR_DIV_US_COUNT = satAdd (s.getF F.PWR_DIV_US_COUNT) ((v.now - s.power.divAt) / 100) (2 ^ F.PWR_DIV_US_COUNT.width - 1))) ∧
    (∀ t0, s.power.resumeAt = some t0 → ∃ t, exec .waveResume s = .next t ∧ t.power.resumeAt = none ∧ t.on F.PWR_STATUS_WAVE_HELD = false ∧ t0 ≤ t.now) ∧
    (s.power.pwrgd = true → tabGet u.power.low field = none → exec (.vinBelowReset dt field) s = .next { u with power := { u.power with low := tabPut u.power.low field u.now } }) ∧
    (exec (.vinAboveReset dt field) s = .next { u with power := { u.power with low := tabDel u.power.low field } }) ∧
    (∀ t0 boot, tabGet s.power.low field = some t0 → (∀ d, d ≠ field → tabGet s.power.low d = none) →
      ∃ t, exec (.fieldFault [field] boot) s = .next t ∧ Faulted 6 17 t ∧ bit (t.getF F.PWR_TOWER_FAULT_FIELD) field = true ∧ field ∉ t.power.fabOn ∧ t0 + 500 ≤ t.now) ∧
    (∀ t0 t1 other boot, other < 4 → other ≠ field → tabGet s.power.low field = some t0 → tabGet s.power.low other = some t1 →
      ∃ (v : State) (kept : List Nat), field ∉ kept ∧ other ∉ kept ∧ exec (.fieldFault [field, other] boot) s =
        .next (({ v.resetCause 3 kept with power := { (v.resetCause 3 kept).power with faultHeld := true } } : State).tryBringUp boot)) ∧
    (∀ a b c d, a < 4096 → b < 4096 → c < 4096 → d < 4096 → ∃ t, exec (.sensePointSample [] [a, b, c, d] []) s = .next t ∧ t.getF F.PWR_VIN_01_F0 = a ∧
      t.getF F.PWR_VIN_01_F1 = b ∧ t.getF F.PWR_VIN_23_F2 = c ∧ t.getF F.PWR_VIN_23_F3 = d ∧
      t.getF F.PWR_VIN_DIP_DEPTH = max (max (max (max (s.getF F.PWR_VIN_DIP_DEPTH) (1800 - a)) (1800 - b)) (1800 - c)) (1800 - d) ∧ t.power.sampledAt = t.now) ∧
    (∀ h k v, h < 64 → k < 136 →
      let p := (tabGet s.power.points (136 * h + k)).getD SensePt.fresh
      let n : Int := (pointNeighbours k).length
      let t := s.pointSample h v k
      (n * (s.getF F.PWR_CRACK_CFG_SUSPECT_MV : Int) ≤ s.excessDrop h v k → 15 ≤ p.sus → p.saidSus = false →
        t.getF F.PWR_CRACK_LAST_SITE = siteNum (pointSite h k) ∧ t.getF F.PWR_CRACK_LAST_LAYER = h % 16 / 2 ∧ EvtOn t pgPwr 13) ∧
      (n * (s.getF F.PWR_CRACK_CFG_SEVERE_MV : Int) ≤ s.excessDrop h v k → 3 ≤ p.sev → p.saidSev = false →
        t.getF F.PWR_CRACK_LAST_SITE = siteNum (pointSite h k) ∧ t.on F.PWR_CRACK_LAST_SEVERE = true ∧ EvtOn t pgPwr 14))

/-- Energy samples enter the account, and at the end of each window the governor moves its level by the rule of R292. ENERGY_SAMPLE adds the three consumers' energy to the window, the total and, while an orbit is open, the orbit; nothing else but the total's registers changes. ENERGY_TOTAL_READ answers the low word and latches the high word for its requester, and where a function's reach does not have it, it is counted and answers 0. GOVERNOR_WINDOW takes trim_max after a window above 3,800 W, or after 1,000 windows in a row above PPL, and otherwise, in an open orbit, moves the level exactly as the rule does with rational averages; where EN is 1 and the MEM trim changes, every die's token cap is min(BKMAX, 8 - MEM trim). An admitted ENERGY_CTRL_WRITE sets the three bits and leaves a fill level that they do not allow for the lowest allowed; with EN 0 the low bound ends. (12_envelope_thermal under R287, 12_envelope_thermal under R290, 12_envelope_thermal under R291, 12_envelope_thermal under R292, 12_envelope_thermal under R293, 12_envelope_thermal under R305) -/
def Obligations.Governor : Prop :=
  (∀ (g low : Int) (e len drawn t p high lowB : Nat) (lowOn : Bool), 0 < len → 0 < p →
    governorMove g low e len drawn t p high lowB lowOn = LevelRule g low e len drawn t p high lowB lowOn) ∧
  (∀ (links mem comp : Nat) (s : State),
    let u := s.advanceTo (s.gov.sampledAt + 100)
    ∃ t, exec (.energySample links mem comp) s = .next t ∧ t.gov.winE = u.gov.winE + (links + mem + comp) ∧ t.gov.total = u.gov.total + (links + mem + comp) ∧
      (s.running = true → s.orb.tickAt.isSome = true → (u.gov.orbE.add ⟨links, mem, comp⟩).sum ≤ energyTop → t.gov.orbE = u.gov.orbE.add ⟨links, mem, comp⟩) ∧
      (s.running = false → t.gov.orbE = u.gov.orbE) ∧ t.getF F.ORB_EN_TOTAL_LO = t.gov.total / 100 % 2 ^ 32 ∧ t.gov.level = u.gov.level ∧
      OnlyRegs (fun a => a = pgOrb + 0x450 ∨ a = pgOrb + 0x454) { u with gov := t.gov } t) ∧
  (∀ (who : Requester) (s : State), s.power.pwrgd = true →
    (s.readReach who .orbit (pgOrb + 0x450) = true → ∃ t, exec (.energyTotalRead who) s = .next t ∧ t.reply = some (.word (s.word (pgOrb + 0x450))) ∧
      tabGet t.orb.totalLatch (reqIndex who) = some (s.getF F.ORB_EN_TOTAL_HI) ∧ t.regs = s.regs) ∧
    (∀ f, who = .fn f → s.readReach who .orbit (pgOrb + 0x450) = false → ∃ t, exec (.energyTotalRead who) s = .next t ∧ Filtered f (pgOrb + 0x450) false s { t with reply := s.reply } ∧
      t.reply = some (.word 0))) ∧
  (∀ s : State,
    let u := s.advanceTo (s.gov.winFrom + 1000)
    let len := u.now - s.gov.winFrom
    let e := s.gov.winE
    let run := if s.getF F.ORB_PPL_WATTS * len < e * 100 then s.gov.run + 1 else 0
    let order := s.getF F.ORB_EN_ORDER_ORDER
    ∃ t, exec .governorWindow s = .next t ∧ t.gov.winE = 0 ∧ t.gov.winFrom = u.now ∧ t.gov.run = run ∧
      (3800 * len < e * 100 ∨ 1000 ≤ run → t.gov.level = 22) ∧
      (e * 100 ≤ 3800 * len → run < 1000 → s.running = true → s.orb.tickAt.isSome = true → 0 < s.period →
        t.gov.level = LevelRule s.gov.level s.lowestFill e len s.gov.orbE.sum u.orb.len s.period s.gov.high s.gov.low s.gov.lowOn) ∧
      t.getF F.ORB_EN_STATUS_COMP = trimAt order t.gov.level 2 ∧ t.getF F.ORB_EN_STATUS_MEM = trimAt order t.gov.level 1 ∧
      (s.on F.ORB_EN_CTRL_EN = true → trimAt order t.gov.level 1 ≠ trimAt order s.gov.level 1 → ∀ d, d < 4 →
        t.getF (F.DIE_BK_TOKCAP_CAP d) = min (s.getF F.ORB_EN_BKMAX_CAP) (8 - trimAt order t.gov.level 1)) ∧
      t.cores = s.cores ∧ t.packets = s.packets ∧ t.dram = s.dram) ∧
  (∀ (who : Requester) (v : Word) (s u : State), Admitted s u who (pgOrb + 0x400) 7 v →
    let low : Int := if bit v.toNat 1 = false then 0 else if bit v.toNat 2 = true then -3 else -2
    ∃ t, exec (.energyCtrlWrite who v) s = .next t ∧ t.on F.ORB_EN_CTRL_EN = bit v.toNat 0 ∧ t.on F.ORB_EN_CTRL_FILL_EN = bit v.toNat 1 ∧
      t.on F.ORB_EN_CTRL_BALLAST_EN = bit v.toNat 2 ∧ t.gov.level = max u.gov.level low ∧
      (bit v.toNat 0 = false → u.running = true → u.orb.tickAt.isSome = true → t.gov.lowOn = false))

/-- Voltage leads a rise of a die's frequency and trails a fall, and the emergency cap holds the arrays from PCAP_ASSERT on. An admitted FREQ_REQUEST of a step up to 8 by who may steer the die is staged while orbits run and takes effect at once while they are stopped, and where it makes a rise due every cluster of the die has the setpoint of the step in force or due, the higher, as its target. SETPOINT_REACHED ends a slew. STOPPED_FREQUENCY_CHANGE brings the die to the step due where that is no rise, or voltages are ready, and aims every cluster at the setpoint of a lower step. PCAP_ASSERT begins the response, with PCAP_PIN as the pin is, LINKS at its maximum and the arrays held; PCAP_RELEASE, 100 µs after the pin rose, ends it while orbits are stopped and leaves it to the tick while they run. (12_envelope_thermal under R295, 12_envelope_thermal under R297, 12_envelope_thermal under R298, 12_envelope_thermal under R299, 12_envelope_thermal under R300, 12_envelope_thermal under R306) -/
def Obligations.Frequency : Prop :=
  (∀ (who : Requester) (d : Nat) (v : Word) (s u : State), d < 4 → s.steeredBy who d = true → Admitted s u who (pgDie d + 0x240) 15 v → bits v.toNat 0 4 ≤ 8 →
    ∃ t, exec (.freqRequest who d v) s = .next t ∧ (u.running = true ∨ u.staged = [] → t.dueF (F.DIE_FREQ_FSEL d) = bits v.toNat 0 4) ∧
      (u.running = true → t.getF (F.DIE_FREQ_FSEL d) = u.getF (F.DIE_FREQ_FSEL d)) ∧ (u.running = false → u.staged = [] → t.getF (F.DIE_FREQ_FSEL d) = bits v.toNat 0 4) ∧
      t.getF (F.DIE_FREQ_CUR d) = u.getF (F.DIE_FREQ_CUR d) ∧
      ∀ c ∈ clustersOf d, t.getF (F.CLU_PSTATE_VSEL c) = t.vselFor c (max (t.nextStep d) (t.getF (F.DIE_FREQ_CUR d)))) ∧
  (∀ (c : Nat) (s : State), ∃ t, exec (.setpointReached c) s = .next t ∧ t.on (F.CLU_PSTATE_SLEWING c) = false ∧
    t.getF (F.CLU_PSTATE_VSEL c) = s.getF (F.CLU_PSTATE_VSEL c) ∧ OnlyRegs (fun a => a = pgClu c + 0x280) s t) ∧
  (∀ (d : Nat) (s : State), d < 4 → s.running = false →
    let due := s.dueStep d (s.getF (F.DIE_FREQ_FSEL d))
    let cur := s.getF (F.DIE_FREQ_CUR d)
    (due ≤ cur ∨ s.voltReady d due = true → ∃ t, exec (.stoppedFrequencyChange d) s = .next t ∧ t.getF (F.DIE_FREQ_CUR d) = due ∧
      (due < cur → ∀ c ∈ clustersOf d, t.getF (F.CLU_PSTATE_VSEL c) = s.vselFor c due)) ∧
    (cur < due → s.voltReady d due = false → ∃ t, exec (.stoppedFrequencyChange d) s = .next t ∧ t.getF (F.DIE_FREQ_CUR d) = cur ∧
      ∀ c ∈ clustersOf d, s.vselFor c due ≤ t.getF (F.CLU_PSTATE_VSEL c))) ∧
  (∀ (code : Nat), 106 * (500 + 2 * code) ≤ 100 * baseSetpoint code ∧ 100 * baseSetpoint code < 106 * (500 + 2 * code) + 500 ∧ baseSetpoint code % 5 = 0) ∧
  (∀ (dt low : Nat) (s : State),
    let u := s.advance dt
    (s.power.pwrgd = true → s.on F.ORB_EN_STATUS_PCAP = false → ∃ t, exec (.pcapAssert dt low) s = .next t ∧ t.on F.ORB_EN_STATUS_PCAP = true ∧
      (∀ who n, bit (t.view who .orbit n pgOrb 0x420) 13 = decide (0 < low)) ∧
      t.on F.ORB_EN_FLAGS_PCAP_ENTER = true ∧ t.getF F.ORB_EN_STATUS_LINKS = 7 ∧ t.gov.pcapHold = true ∧ t.gov.pcapBound = true ∧ t.gov.level = s.gov.level ∧
      OnlyRegs (fun a => a = pgOrb + 0x420 ∨ a = pgOrb + 0x424) { u with gov := t.gov } t) ∧
    (s.on F.ORB_EN_STATUS_PCAP = true → ∃ t, exec (.pcapRelease dt) s = .next t ∧ s.gov.pinHighAt + 10000 ≤ t.now ∧ t.gov.pinLow = false ∧
      (∀ who n, bit (t.view who .orbit n pgOrb 0x420) 13 = false) ∧
      (s.running = true → t.on F.ORB_EN_STATUS_PCAP = true ∧ t.gov = { s.gov with pinLow := false }) ∧
      (s.running = false → t.on F.ORB_EN_STATUS_PCAP = false ∧ t.on F.ORB_EN_FLAGS_PCAP_EXIT = true ∧ t.gov.pcapHold = false ∧ t.gov.pcapBound = false ∧ t.gov.level = s.gov.level)))

/-- Samples of the sensors set throttling and cause a trip, and COOLREQ follows the Ensign's duty or the hardware's full demand. THERMAL_SENSOR_SAMPLE takes the readings, then does in turn what throttling, refresh, the trip and COOLREQ ask. A tower is shown throttling exactly where one of its sensors is at or above 105 °C (logic) or 95 °C (DRAM), and is then held until the tick. A sensor at or above its trip level in two samples in a row sets THERMTRIP_N with its place and takes every tower down. ENERGY_FORECAST by an active Ensign sets a duty between MIN_DUTY and 100 % and makes the forecasts valid; COOLREQ_PERIOD puts the duty in force unless full demand is forced; COOLREQ_DUTY_TIMEOUT forces it. (12_envelope_thermal under R301, 12_envelope_thermal under R302, 12_envelope_thermal under R303, 12_envelope_thermal under R304, 12_envelope_thermal under R309, 15_reliability under R387) -/
def Obligations.Heat : Prop :=
  (∀ (cores dram caps : List (Nat × Nat)) (s : State), ∃ u : State, u.now = (s.advanceTo (s.therm.sampledAt + 2000)).now ∧ u.therm.sampledAt = u.now ∧
    exec (.thermalSensorSample cores dram caps) s = .next (((u.takeReadings cores dram caps).showMax.throttleStep.doubleStep.tripStep).coolUpdate)) ∧
  (∀ (s : State) (d : Nat), d < 4 →
    let t := s.throttleStep
    bit (t.getF F.THM_STATUS_LTHR) d = s.anyAt d false 840 ∧ bit (t.getF F.THM_STATUS_DTHR) d = s.anyAt d true 760 ∧
    (s.anyAt d false 840 = true ∨ s.anyAt d true 760 = true → d ∈ t.therm.held) ∧
    (s.anyAt d false 840 = true → bit (s.getF F.THM_STATUS_LTHR) d = false → EvtOn t pgThm 8) ∧
    (s.anyAt d true 760 = true → bit (s.getF F.THM_STATUS_DTHR) d = false → EvtOn t pgThm 9)) ∧
  (∀ (s : State) (x : Nat) (rest : List Nat), s.tripSensors.filter (fun y => s.therm.atTrip.contains y) = x :: rest → s.on F.THM_STATUS_TRIP = false →
    let t := s.tripStep
    t.on F.THM_STATUS_TRIP = true ∧ EvtOn t pgThm 10 ∧ t.getF F.THM_TRIP_CAUSE_WHERE = (if x < 2000 then siteNum x else x - 2000) ∧ ∀ d, d < 4 → d ∉ t.power.fabOn) ∧
  (∀ (energy : List Nat) (s : State), s.activeEns.isSome = true → s.beforeReady = false → s.getF F.THM_COOL_CFG_MIN_DUTY ≤ 100 →
    ∃ t, exec (.energyForecast energy) s = .next t ∧ t.on F.THM_STATUS_FCAST_VALID = true ∧ t.therm.live = true ∧ t.therm.dutyAt = t.now ∧
      s.getF F.THM_COOL_CFG_MIN_DUTY ≤ t.therm.ensDuty ∧ t.therm.ensDuty ≤ 100) ∧
  (∀ s : State, ∃ t, exec .coolreqPeriod s = .next t ∧ t.therm.periodAt = t.now ∧
    t.getF F.THM_COOL_DUTY_DUTY = (if s.on F.THM_COOL_DUTY_HW_FULL = true then s.getF F.THM_COOL_DUTY_DUTY else s.therm.ensDuty % 128)) ∧
  (∀ s : State, s.therm.live = true → s.on F.THM_COOL_DUTY_HW_FULL = false → ∃ t, exec .coolreqDutyTimeout s = .next t ∧ t.on F.THM_COOL_DUTY_HW_FULL = true ∧
    t.getF F.THM_COOL_DUTY_DUTY = 100 ∧ t.on F.THM_STATUS_FCAST_VALID = false ∧ EvtOn t pgThm 11 ∧ s.therm.dutyAt + 10000000 ≤ t.now)

/-- Doorbells announce, enabling zeroes, resuming frees, and the head order of a queue is dispatched exactly when it is ready. From READY on, DOORBELL from another function, of a disabled queue or during the partition's reset is counted and recorded in the host-port page and changes nothing else; one too far ahead stops the queue with error 0xF; any other becomes the queue's tail. QUEUE_ENABLE (an admitted write of EN = 1 to a disabled queue) zeroes the three counts and leaves STOPPED; QUEUE_RESUME leaves STOPPED and keeps HEAD. WORK_ORDER_DISPATCH outside the tick's window: where every condition of readiness holds, and the engine has room, the entry read at HEAD becomes an order, MALFORMED where it breaks a rule of R324 or R325, late unless NOW is set, and HEAD moves on by one, QUE_LATE counting; a NOP or EVENT (the commands NOP and EVENT dispatch just these) completes at once, counted done, with its record where one is due; an entry that cannot be read fails with its status; where a condition fails nothing changes. (13_host_partitions under R323, 13_host_partitions under R324, 13_host_partitions under R325, 13_host_partitions under R327, 13_host_partitions under R328, 13_host_partitions under R329, 13_host_partitions under R337) -/
def Obligations.Queues : Prop :=
  ∀ (q : Nat) (s : State), q < 4096 →
    (∀ (fn : Nat) (v : Word), fn < 256 → s.beforeReady = false →
      let inReset : Prop := ∃ p, s.quPart q = some p ∧ s.pgState (pgPrt p) = prtReset
      let hp := fn / 64
      (s.quOn q = false ∨ s.quFn q ≠ fn ∨ inReset → ∃ t, exec (.doorbell fn q v) s = .next t ∧ OnlyRegs (fun a => a = pgHpt hp + 0x108 ∨ a = pgHpt hp + 0x10C) s t ∧
        t.getF (F.HPT_FILT_DROP_COUNT hp) = satAdd (s.getF (F.HPT_FILT_DROP_COUNT hp)) 1 (2 ^ (F.HPT_FILT_DROP_COUNT hp).width - 1) ∧
        t.getF (F.HPT_FILT_LAST_PAGE hp) = q ∧ t.getF (F.HPT_FILT_LAST_FN hp) = fn % 64 ∧ t.getF (F.HPT_FILT_LAST_WRITE hp) = 1 ∧ t.getF (F.HPT_FILT_LAST_DOORBELL hp) = 1) ∧
      (s.quOn q = true → s.quFn q = fn → ¬ inReset →
        let ahead := (v.toNat + 2 ^ 32 - s.quHead q) % 2 ^ 32
        (2 ^ s.quLog2 q < ahead → ∃ t, exec (.doorbell fn q v) s = .next t ∧ t.quIsStopped q = true ∧ t.getF (F.QUE_STATUS_ERR (q / 64) (q % 64)) = 0xF ∧ t.quTail q = s.quTail q ∧
          t.quHead q = s.quHead q ∧ ∀ p, s.quPart q = some p → EvtOn t (pgPrt p) 11) ∧
        (ahead ≤ 2 ^ s.quLog2 q → ∃ t, exec (.doorbell fn q v) s = .next t ∧ t.quTail q = v.toNat ∧ tabGet t.host.marks q = some s.host.nextJob ∧
          t.host.orders = s.host.orders ∧ SameRegs (fun a => a = (F.QUE_TAIL_COUNT (q / 64) (q % 64)).addr) s t ∧ t.dram = s.dram))) ∧
    (∀ (who : Requester) (v : Word) (u : State), Admitted s u who (pgQue (q / 64) + 0x808 + 0x20 * (q % 64)) 1 v → bit v.toNat 0 = true → s.quOn q = false →
      ∃ t, exec (.queueEnable who q v) s = .next t ∧ t.quOn q = true ∧ t.quTail q = 0 ∧ t.quHead q = 0 ∧ t.quDone q = 0 ∧ t.quIsStopped q = false ∧ OnlyRegs (queueReg q) u t) ∧
    (∀ (who : Requester) (v : Word) (u : State), Admitted s u who (pgQue (q / 64) + 0x818 + 0x20 * (q % 64)) (2 ^ 31) v → bit v.toNat 31 = true →
      (u.quIsStopped q = true → ∃ t, exec (.queueResume who q v) s = .next t ∧ t.quIsStopped q = false ∧ t.getF (F.QUE_STATUS_ERR (q / 64) (q % 64)) = 0 ∧ t.quHead q = u.quHead q ∧
        OnlyRegs (queueReg q) u t) ∧
      (u.quIsStopped q = false → exec (.queueResume who q v) s = .next u)) ∧
    (s.inWindow = false →
      let room : Prop := s.executing q < 8 ∧ (s.host.orders.filter (fun e => ioOf e.2.fn == ioOf (s.quFn q))).length < 256
      let able : Prop := s.beforeReady = false ∧ s.getF F.SEC_STATUS_SCAN ≠ 2 ∧ s.quOn q = true ∧ s.quIsStopped q = false ∧ s.quHead q ≠ s.quTail q ∧ s.ringSettled q = true ∧ room ∧
        ∃ p, s.quPart q = some p ∧ s.pgState (pgPrt p) = prtActive
      (¬ able → exec (.workOrderDispatch q) s = .next s) ∧
      (able → ∀ u r, s.ringEntry q (s.quHead q) = (u, .ok r) →
        let ready : Prop := (ordFlag r 0 = true ∨ stampOrbit (ordStamp r) s.orbit ≤ s.orbit) ∧ (ordFlag r 1 = false ∨ s.executing q = 0)
        (¬ ready → exec (.workOrderDispatch q) s = .next s) ∧
        let ends : Prop := ordOk (u.quCompat q) r = true ∧ (ordOp r = 0 ∨ ordOp r = 5)
        let ring := u.getF (F.QUE_CFG_RING (q / 64) (q % 64))
        let Moved (t : State) : Prop := t.quHead q = (u.quHead q + 1) % 2 ^ 32 ∧
          t.getF (F.QUE_LATE_COUNT (q / 64) (q % 64)) = satAdd (u.getF (F.QUE_LATE_COUNT (q / 64) (q % 64))) (b2n (!ordFlag r 0)) (2 ^ (F.QUE_LATE_COUNT (q / 64) (q % 64)).width - 1) ∧
          t.dram = u.dram ∧ t.cores = u.cores
        (¬ (ordOk (u.quCompat q) r = true ∧ ordOp r = 0) → exec (.nop q) s = .next s) ∧
        (¬ (ordOk (u.quCompat q) r = true ∧ ordOp r = 5) → exec (.event q) s = .next s) ∧
        (ready → ends → u.on (F.EVT_CFG_DEV ring) = false → ∃ t, exec (.workOrderDispatch q) s = .next t ∧ exec (if ordOp r = 0 then .nop q else .event q) s = .next t ∧ Moved t ∧
          (∀ k, tabGet t.host.orders k = if k = u.host.nextOrder then none else tabGet u.host.orders k) ∧ t.quDone q = (u.quDone q + 1) % 2 ^ 32 ∧ t.quIsStopped q = u.quIsStopped q ∧
          SameRegs (fun a => queueReg q a ∨ onRings a) u t ∧ (ordOp r = 0 → ordFlag r 2 = false → t.rings = u.rings) ∧
          (ordOp r = 5 ∨ ordFlag r 2 = true → RingTakes ring
            ⟨0x01, b2n (!ordFlag r 0), q, if ordOp r = 5 then ordF r 0x10 2 else 0, u.orbit, ordTag r, u.quHead q, 0⟩ u t)) ∧
        (ready → ¬ ends → ∃ t o, exec (.workOrderDispatch q) s = .next t ∧ Moved t ∧ tabGet t.host.orders u.host.nextOrder = some o ∧ t.host.nextOrder = u.host.nextOrder + 1 ∧
          o.queue = q ∧ o.idx = u.quHead q ∧ o.fn = u.quFn q ∧ o.raw = r ∧ o.late = !ordFlag r 0 ∧ o.begun = false ∧ o.quiet = false ∧
          o.done = (if ordOk (u.quCompat q) r = true then none else some (1, 0)) ∧ SameRegs (queueReg q) u t)) ∧
      (able → ∀ u e, s.ringEntry q (s.quHead q) = (u, .error e) → ∃ t o, exec (.workOrderDispatch q) s = .next t ∧ tabGet t.host.orders u.host.nextOrder = some o ∧
        o.queue = q ∧ o.done = some e ∧ o.late = false ∧ t.quHead q = (u.quHead q + 1) % 2 ^ 32 ∧ SameRegs (queueReg q) u t))

/-- Each work order does what its operation says, and completes with its status, its record and the queue's stop. SIGNAL to a site of the partition sends one TALLY_ADD on CTRL with the tally and count, and completes; to another site it completes FOREIGN and sends nothing. LAUNCH first checks the records it reads: the first bad one ends it LAUNCH_REFUSED with its index and launches nothing; then, given again, each listed core in IDLE or ENDED takes the registers of its record, and a core in neither takes the watchdog alone and makes the order PARTIAL. COPY and WRITE begin; a move of a COPY asks for the next piece, not crossing a 128-byte line of either side, or writes a piece read, bytes unchanged, at its place. With ATS off a host address goes as it is; with it on, by a translation held, or after a request that HOST_COMPLETION answers into the translation cache of 1,024 entries. HOST_COMPLETION keeps good data for its write and counts an error, which fails the order HOST_ERR. WORK_ORDER_COMPLETE of an ended order removes it, counts it done, stops the queue on failure without CONT, and posts the record where one is due. (13_host_partitions under R325, 13_host_partitions under R326, 13_host_partitions under R329, 13_host_partitions under R330, 13_host_partitions under R332) -/
def Obligations.WorkOrders : Prop :=
  ∀ (id : Nat) (o : Order) (s : State), tabGet s.host.orders id = some o →
    (o.done = none → o.begun = false →
      let Ends (x : Instr) (st : Nat × Nat) : Prop := ∃ t, exec x s = .next t ∧ tabGet t.host.orders id = some { o with begun := true, done := some st } ∧ t = { s with host := t.host }
      (ordOp o.raw = 3 → ∀ i, siteOfNum (ordF o.raw 0x10 2) = some i →
        (s.partOfSite i ≠ some o.part → Ends (.signal id) (4, 0)) ∧
        (s.partOfSite i = some o.part → ioOf o.fn < 2 → ∃ t p, exec (.signal id) s = .next t ∧ tabGet t.host.orders id = some { o with begun := true, done := some (0, 0) } ∧
          t.pkt s.nextPkt = some p ∧ t.nextPkt = s.nextPkt + 1 ∧ p.ty = 0x01 ∧ p.vc = 0 ∧ p.part = o.part ∧ p.route = synthRouteExt (ioOf o.fn) i 0 0 ∧
          p.aux = o.raw.getD 0x12 0 + 2 ^ 16 * ordF o.raw 0x14 2 ∧ t.regs = s.regs ∧ t.cores = s.cores ∧ t.dram = s.dram)) ∧
      (ordOp o.raw = 1 → ∀ u d c, s.peek (128 + ioOf o.fn) o.part (ordF o.raw 0x10 8) (32 * ordF o.raw 0x18 2) = (u, .ok (d, c)) →
        let rs := recordsOf (ordF o.raw 0x18 2) d
        (∀ k, u.badRecord o.part rs 0 [] = some k → ∃ t, exec (.launch id) s = .next t ∧ tabGet t.host.orders id = some { o with begun := true, done := some (5 + 2 ^ 8 * k, 0) } ∧
          t.cores = u.cores ∧ t.regs = u.regs) ∧
        (u.badRecord o.part rs 0 [] = none → ∃ t o', exec (.launch id) s = .next t ∧ tabGet t.host.orders id = some o' ∧ o'.begun = true ∧ o'.done = none ∧
          o'.cores.map (fun e => e.2) = rs ∧ (∀ e ∈ o'.cores, siteOfNum (ordF e.2 0 2) = some e.1) ∧ t.cores = u.cores ∧ t.regs = u.regs)) ∧
      (ordOp o.raw = 2 → exec (.copy id) s = .next (s.setOrder id { o with begun := true }).settle) ∧
      (ordOp o.raw = 4 → exec (.write id) s = .next ((s.setOrder id { o with begun := true, inflight := 1 }).orderJob id { o with begun := true, inflight := 1 } 0 true
        (ordF o.raw 0x10 8) (toBytes ((o.raw.drop 0x20).take (o.raw.getD 0x18 0))) (o.raw.getD 0x18 0)).settle)) ∧
    (o.done = none → o.begun = true → ordOp o.raw = 1 → ∀ i r, o.cores = [(i, r)] → i < 1088 →
      (s.coreSt i ≠ coreIdle → s.coreSt i ≠ coreEnded → ∃ t, exec (.launch id) s = .next t ∧ tabGet t.host.orders id = some { o with cores := [], done := some (6, 0) } ∧
        SameRegs (fun a => a = pgCore i + 0x140) s t ∧ t.getF (F.CORE_WDOG_ORBITS i) = r.getD 0x14 0 % 2 ^ 8 ∧ t.cores = s.cores) ∧
      (s.coreSt i = coreIdle ∨ s.coreSt i = coreEnded → ∃ t, exec (.launch id) s = .next t ∧ tabGet t.host.orders id = some { o with cores := [], done := some (0, 0) } ∧
        t.getF (F.CORE_VOY_LCORE_LCORE i) = ordF r 2 2 % 2 ^ 10 ∧ t.getF (F.CORE_VOY_SEED_SEED i) = ordF r 4 4 ∧ t.getF (F.CORE_VOY_PROGS_COUNT i) = ordF r 0x10 2 ∧
        t.coreSt i ≠ coreIdle ∧ t.coreSt i ≠ coreEnded)) ∧
    (o.done = none → o.begun = true → ordOp o.raw = 2 → o.failed = none →
      let src := ordF o.raw 0x10 8
      let dst := ordF o.raw 0x18 8
      let sp := copySpaces o.gcompat o.raw
      (o.writes = [] → o.next < copyLen o.gcompat o.raw → o.inflight < 32 →
        let n := min (copyLen o.gcompat o.raw - o.next) (min (128 - (src + o.next) % 128) (128 - (dst + o.next) % 128))
        0 < n ∧ (src + o.next) % 128 + n ≤ 128 ∧ (dst + o.next) % 128 + n ≤ 128 ∧
        (bit sp 0 = true → ∀ a xl, s.hostXl id o.fn ((src + o.next) % 2 ^ 64) false = .go a xl → ∃ u : State, s.copyMove id = (u, true) ∧
          tabGet u.host.orders id = some { o with next := o.next + n, inflight := o.inflight + 1 } ∧
          u.egress = s.egress ++ [.hostRead o.fn a xl n s.nextTag] ∧ tabGet u.host.reads s.nextTag = some (id, o.next, n, o.fn)) ∧
        (bit sp 0 = true → s.hostXl id o.fn ((src + o.next) % 2 ^ 64) false = .ask → s.copyMove id = (s.atsAsk id o.fn ((src + o.next) % 2 ^ 64) false, false)) ∧
        (bit sp 0 = false → s.copyMove id = ((s.setOrder id { o with next := o.next + n, inflight := o.inflight + 1 }).orderJob id o o.next false ((src + o.next) % 2 ^ 64) [] n, true))) ∧
      (∀ off d rest, o.writes = (off, d) :: rest →
        (bit sp 1 = true → ∀ a xl, s.hostXl id o.fn ((dst + off) % 2 ^ 64) true = .go a xl → ∃ u : State, s.copyMove id = (u, true) ∧
          u.egress = s.egress ++ [.hostWrite o.fn a xl d] ∧ tabGet u.host.orders id = some { o with writes := rest }) ∧
        (bit sp 1 = false → s.copyMove id = ((s.setOrder id { o with writes := rest, inflight := o.inflight + 1 }).orderJob id o off true ((dst + off) % 2 ^ 64) d d.length, true))) ∧
      (o.writes = [] → o.next = copyLen o.gcompat o.raw → o.inflight = 0 → s.copyMove id = (s.setOrder id { o with done := some (0, 0) }, false))) ∧
    (∀ a wr, s.busMaster o.fn = true →
      ((s.cfg o.fn).ats = false → s.hostXl id o.fn a wr = .go a false) ∧
      (∀ e l, (s.cfg o.fn).ats = true → tabGet s.host.atc (o.fn / 64) = some (e :: l) → e.fn = o.fn → e.page = a / 4096 → (if wr then e.wr else e.rd) = true →
        s.hostXl id o.fn a wr = .go (e.frame * 4096 + a % 4096) true) ∧
      ((s.cfg o.fn).ats = true → tabGet s.host.atc (o.fn / 64) = none → s.host.atsReqs = [] → s.hostXl id o.fn a wr = .ask)) ∧
    (∀ tag page wr d, tabGet s.host.atsReqs tag = some (o.fn, page, id, wr) →
      let w := leNat ((d.take 8).map BitVec.toNat)
      ∃ u : State, exec (.hostCompletion tag true d) s = .next u.settle ∧
        (∃ l, tabGet u.host.atc (o.fn / 64) = some (⟨o.fn, page, w / 4096, bit w 0, bit w 1⟩ :: l) ∧ l.length < 1024) ∧
        tabGet u.host.orders id = some (if bit w (if wr then 1 else 0) = true then o else { o with failed := some (o.failed.getD (7, 0)) }) ∧ u.regs = s.regs) ∧
    (∀ (tag off n fn : Nat) (d : List Byte), tabGet s.host.atsReqs tag = none → tabGet s.host.reads tag = some (id, off, n, fn) →
      (d.length = n → ∃ u : State, exec (.hostCompletion tag true d) s = .next u.settle ∧ tabGet u.host.orders id = some { o with inflight := o.inflight - 1, writes := o.writes ++ [(off, d)] } ∧
        u.regs = s.regs) ∧
      (∃ u : State, exec (.hostCompletion tag false d) s = .next u.settle ∧ tabGet u.host.orders id = some { o with inflight := o.inflight - 1, failed := some (o.failed.getD (7, 0)) } ∧
        u.getF (F.HPT_DMA_ERR_COUNT (fn / 64)) = satAdd (s.getF (F.HPT_DMA_ERR_COUNT (fn / 64))) 1 (2 ^ (F.HPT_DMA_ERR_COUNT (fn / 64)).width - 1))) ∧
    (∀ st kind, o.done = some (st, kind) → o.queue < 4096 →
      let q := o.queue
      let ring := s.getF (F.QUE_CFG_RING (q / 64) (q % 64))
      let ev := ordOp o.raw = 5 ∧ st = 0
      (∀ p, s.quPart q = some p → p < 16) → s.on (F.EVT_CFG_DEV ring) = false →
      ∃ t, exec (.workOrderComplete id) s = .next t ∧ t.host.orders = tabDel s.host.orders id ∧ t.quDone q = (s.quDone q + 1) % 2 ^ 32 ∧ t.quHead q = s.quHead q ∧
        (st % 256 ≠ 0 → ordFlag o.raw 3 = false → o.quiet = false → t.quIsStopped q = true ∧ t.getF (F.QUE_STATUS_ERR (q / 64) (q % 64)) = st % 16) ∧
        (st % 256 = 0 ∨ ordFlag o.raw 3 = true ∨ o.quiet = true → t.quIsStopped q = s.quIsStopped q) ∧
        ((∀ p, p < 16 → s.pgState (pgPrt p) ≠ prtQuiescing) →
          (o.quiet = true ∨ (st % 256 = 0 ∧ ordFlag o.raw 2 = false ∧ ¬ ev) → t.rings = s.rings) ∧
          (o.quiet = false → st % 256 = 0 → (ordFlag o.raw 2 = true ∨ ev) → RingTakes ring
            ⟨0x01, b2n o.late, q, if ordOp o.raw = 5 ∧ st = 0 then ordF o.raw 0x10 2 else st, s.orbit, ordTag o.raw, o.idx, 0⟩ s t)))

/-- BAR2 accesses are refused, or translated and answered; resets of functions and ports disable exactly their queues and rings. BAR2_READ or BAR2_WRITE of a function that is not bound, or past its window or BAR, is refused and counted: the read with Unsupported Request, the write with its AER status bit, and memory is unchanged. Any other becomes an access at WBASE + o of its partition, a read not before the function's earlier writes have arrived. A job whose pieces are all answered ends: a read's completion carries the bytes, Completer Abort on a translation fault, or poisoned data, and each failure is counted. FLR and HOST_PORT_RESET disable the queues and rings of their functions and no others, reset their configuration spaces and drop their translations, keep bindings, and silence the orders dispatched. PERST_RELEASE, Ensign boot ended, shows rate and width, and before waits for it. An admitted write of HPT_CTRL.MGMT = 1 makes this port alone the management view's. ATS_INVALIDATION drops the translations named and completes. (13_host_partitions under R310, 13_host_partitions under R312, 13_host_partitions under R316, 13_host_partitions under R317, 13_host_partitions under R335) -/
def Obligations.HostAccess : Prop :=
  (∀ (fn off : Nat) (s : State), fn < 256 →
    let hp := fn / 64
    let bound (p : Nat) : Prop := s.partOfFn fn = some p ∧ s.pgState (pgPrt p) ≠ prtReset
    let within (len : Nat) : Prop := off + len ≤ s.winBytes fn ∧ off + len ≤ 2 ^ (s.cfg fn).bar2Log2
    let Counted (t : State) : Prop := t.getF (F.HPT_XLATE_ERR_COUNT hp) = satAdd (s.getF (F.HPT_XLATE_ERR_COUNT hp)) 1 (2 ^ (F.HPT_XLATE_ERR_COUNT hp).width - 1) ∧
      SameRegs (fun a => a = pgHpt hp + 0x110) s t
    (∀ len tag, 0 < len → ((∀ p, ¬ bound p) ∨ ¬ within len) → ∃ t, exec (.bar2Read fn tag off len) s = .next t ∧ Counted t ∧
      t.egress = s.egress ++ [.completion fn tag .unsupported] ∧ t = { s with regs := t.regs, egress := t.egress }) ∧
    (∀ (d : List Byte) mask, d ≠ [] → ((∀ p, ¬ bound p) ∨ ¬ within d.length) → ∃ t, exec (.bar2Write fn off d mask) s = .next t ∧ Counted t ∧
      bit (t.cfg fn).aerUncorr 20 = true ∧ (∀ f, f ≠ fn → t.cfg f = s.cfg f) ∧ t = { s with regs := t.regs, host := { s.host with cfg := t.host.cfg } }) ∧
    (∀ p len tag, 0 < len → bound p → within len →
      let u : State := { s with host := { s.host with heldReads := s.host.heldReads ++ [⟨fn, tag, some p, s.winBase fn + off, len⟩] } }
      exec (.bar2Read fn tag off len) s = .next u.settle ∧
      (s.host.heldReads = [] → s.bar2Writing fn = true → u.startHeld = u) ∧
      (s.host.heldReads = [] → s.bar2Writing fn = false → u.startHeld = s.startJob (.bar2 fn tag) (128 + fn / 128) (some p) false (s.winBase fn + off) len [] 0)) ∧
    (∀ p (d : List Byte) mask, d ≠ [] → bound p → within d.length → mask < 2 ^ d.length →
      exec (.bar2Write fn off d mask) s = .next (s.startJob (.bar2 fn off) (128 + fn / 128) (some p) true (s.winBase fn + off) d.length d mask).settle)) ∧
  (∀ (j fn tag : Nat) (x : MemJob) (s : State), tabGet s.host.jobs j = some x → x.kind = .bar2 fn tag → x.waiting = 0 → fn < 256 →
    let t := s.jobSettle j
    let bad := x.err.isSome
    tabGet t.host.jobs j = none ∧ t.dram = s.dram ∧
    t.getF (F.HPT_XLATE_ERR_COUNT (fn / 64)) = satAdd (s.getF (F.HPT_XLATE_ERR_COUNT (fn / 64))) (b2n bad) (2 ^ (F.HPT_XLATE_ERR_COUNT (fn / 64)).width - 1) ∧
    (x.wr = true → t.egress = s.egress ∧ (bad = true → bit (t.cfg fn).aerCorr 13 = true)) ∧
    (x.wr = false → x.err = none → t.egress = s.egress ++ [.completion fn tag (.bytes ((x.got.flatMap (fun e => e.2)).take x.len))]) ∧
    (∀ st, x.wr = false → x.err = some st → t.egress = s.egress ++ [.completion fn tag (if (xlKind st).isSome then .aborted else .poisoned)])) ∧
  (∀ (s : State),
    let Drops (mine : Nat → Prop) (t : State) : Prop :=
      (∀ q, q < 4096 → (mine (s.quFn q) → t.quOn q = false) ∧ (¬ mine (s.quFn q) → t.quOn q = s.quOn q) ∧ t.quHead q = s.quHead q) ∧
      (∀ e, e < 64 → (mine (s.getF (F.EVT_CFG_FN e)) → t.on (F.EVT_CFG_EN e) = false) ∧ (¬ mine (s.getF (F.EVT_CFG_FN e)) → t.ring e = s.ring e ∧ t.on (F.EVT_CFG_EN e) = s.on (F.EVT_CFG_EN e))) ∧
      (∀ id o, tabGet s.host.orders id = some o → (mine o.fn → tabGet t.host.orders id = some { o with quiet := true }) ∧ (¬ mine o.fn → tabGet t.host.orders id = some o)) ∧
      (∀ f, t.partOfFn f = s.partOfFn f) ∧ (∀ f, mine f → t.cfg f = FnCfg.fresh) ∧ (∀ f, ¬ mine f → t.cfg f = s.cfg f) ∧
      (∀ n, ∀ e ∈ (tabGet t.host.atc n).getD [], ¬ mine e.fn) ∧ t.cores = s.cores ∧ t.dram = s.dram
    (∀ fn, fn < 256 → ∃ t, exec (.flr fn) s = .next t ∧ Drops (fun f => f = fn) t) ∧
    (∀ port, port < 4 → ∃ t, exec (.hostPortReset port) s = .next t ∧ Drops (fun f => f / 64 = port) t ∧ t.word (pgHpt port + 0x104) = 0 ∧ tabGet t.host.perst port = none)) ∧
  (∀ (port rate : Nat) (x8 : Bool) (s : State), port < 4 → 1 ≤ rate → rate ≤ 6 →
    (s.ensBooted = true → s.on (F.HPT_LINK_UP port) = false → ∃ t, exec (.perstRelease port rate x8) s = .next t ∧ t.on (F.HPT_LINK_UP port) = true ∧
      t.getF (F.HPT_LINK_RATE port) = rate ∧ t.on (F.HPT_LINK_X8 port) = x8 ∧ OnlyRegs (fun a => a = pgHpt port + 0x104) { s with host := t.host } t) ∧
    (s.ensBooted = false → exec (.perstRelease port rate x8) s = .next { s with host := { s.host with perst := tabPut s.host.perst port (rate, x8) } })) ∧
  (∀ (port : Nat) (who : Requester) (v : Word) (s u : State), port < 4 → bit v.toNat 0 = true → Admitted s u who (pgHpt port + 0x100) 1 v →
    ∃ t, exec (.mgmt who port v) s = .next t ∧ (∀ n, n < 4 → t.on (F.HPT_CTRL_MGMT n) = decide (n = port)) ∧ OnlyRegs (fun a => ∃ n, n < 4 ∧ a = pgHpt n + 0x100) u t) ∧
  (∀ (port fn addr pages tag : Nat) (s : State), port < 4 → fn / 64 = port →
    ∃ t, exec (.atsInvalidation port fn addr pages tag) s = .next t ∧ t.egress = s.egress ++ [.atsDone port tag] ∧ t.regs = s.regs ∧
      (∀ e, e ∈ (tabGet t.host.atc port).getD [] ↔ e ∈ (tabGet s.host.atc port).getD [] ∧ ¬ (e.fn = fn ∧ addr / 4096 ≤ e.page ∧ e.page < addr / 4096 + pages)))

/-- An event is staged, started or counted; a record of 32 bytes is written with its message; a summary goes ahead of staged events. CTEVT gives its partition's ring a record of kind 2 with CODE, and the program goes on; an admitted write of PG_EVT_EN that enables events already set posts one. A disabled ring takes nothing; a full staging queue or ring keeps the class and counts. EVENT_RECORD_WRITTEN of an enabled ring in host memory sends the 32 bytes of the record (little-endian fields, SEQ the write count, PHASE flipping at each wrap) to its place, sends MSI-X unless a holdoff runs (pending where it is masked), moves the tail, and starts the summary if classes are pending, else the oldest staged record, where the ring has space. An admitted write of EVT_HEAD does the same for a ring that waited for space. At the end of a holdoff one more message is sent if records were written. (05_core_engines under R115, 13_host_partitions under R331, 13_host_partitions under R332, 13_host_partitions under R333, 13_host_partitions under R334, 16_register_map under R405) -/
def Obligations.EventRecords : Prop :=
  (∀ (i : Nat) (w : Word64) (s : State), Issues s i w → opIs w 0 6 = true → onlyBits w 56 [(0, 16)] = true →
    ∃ t, exec (.ctevt i w) s = .next t ∧ PcNext i s t ∧ t.core i = s.core i ∧ SameRegs (fun a => pcReg i a ∨ onRings a) s t ∧ t.dram = s.dram ∧
      (∀ p, s.partOfSite i = some p → RingTakes (s.getF (F.PRT_DEFRING_RING p)) ⟨0x02, 0, siteNum i, bits w.toNat 0 16, s.orbit, s.coreData0 i, 0, 1⟩ s t) ∧
      (s.partOfSite i = none → t.rings = s.rings)) ∧
  (∀ (ev : EvRec) (log2 tail : Nat),
    let d := (recordBytes ev log2 tail).map BitVec.toNat
    let field (o n : Nat) : Nat := leNat ((d.drop o).take n)
    d.length = 32 ∧ field 0 1 = ev.kind % 256 ∧ field 1 1 % 128 = ev.flags % 128 ∧ field 2 2 = ev.src % 2 ^ 16 ∧ field 4 4 = ev.code % 2 ^ 32 ∧ field 8 8 = ev.orbit % 2 ^ 64 ∧
    field 16 8 = ev.data0 % 2 ^ 64 ∧ field 24 4 = ev.data1 % 2 ^ 32 ∧ field 28 4 = tail % 2 ^ 32 ∧
    (ev.flags < 128 → field 1 1 / 128 = (if tail / 2 ^ log2 % 2 = 0 then 1 else 0))) ∧
  (∀ (e : Nat) (s : State), e < 64 →
    let r := s.ring e
    let fn := s.getF (F.EVT_CFG_FN e)
    let vec := s.getF (F.EVT_CFG_VEC e)
    let msg : List Egress := if s.msixOpen fn vec = true then [.msix fn vec (s.msixEntry fn vec).1 (s.msixEntry fn vec).2.1] else []
    let Pends (t : State) : Prop := (s.cfg fn).msixOn = true → s.msixOpen fn vec = false → 64 * fn + vec ∈ t.host.pba
    let summary (s : State) : EvRec := ⟨0x0F, 0, e, s.getF (F.EVT_PENDING_MASK e), s.orbit, 0, r.lost, 15⟩
    let Starts (u t : State) : Prop :=
      (t.ringFull e = true → (t.ring e).inProgress = none ∧ (t.ring e).staged = r.staged ∧ (t.ring e).lost = r.lost) ∧
      (t.ringFull e = false → u.getF (F.EVT_PENDING_MASK e) ≠ 0 → (t.ring e).inProgress = some (summary u) ∧ (t.ring e).staged = r.staged ∧ (t.ring e).lost = 0 ∧ t.getF (F.EVT_PENDING_MASK e) = 0) ∧
      (t.ringFull e = false → u.getF (F.EVT_PENDING_MASK e) = 0 → (t.ring e).inProgress = r.staged.head? ∧ (t.ring e).staged = r.staged.tail)
    (∀ ev, r.inProgress = some ev → s.on (F.EVT_CFG_EN e) = true → s.on (F.EVT_CFG_DEV e) = false → s.busMaster fn = true →
      let tail := s.getF (F.EVT_TAIL_COUNT e)
      ∃ t, exec (.eventRecordWritten e) s = .next t.settle.resetsGo ∧ t.getF (F.EVT_TAIL_COUNT e) = (tail + 1) % 2 ^ 32 ∧
        t.egress = s.egress ++ [.hostWrite fn (s.getF (F.EVT_BASE_LO_ADDR e) * 4096 + s.getF (F.EVT_BASE_HI_ADDR e) * 2 ^ 32 + 32 * (tail % 2 ^ s.getF (F.EVT_CFG_LOG2 e))) false
            (recordBytes ev (s.getF (F.EVT_CFG_LOG2 e)) tail)] ++ (if s.getF (F.EVT_IRQ_HOLDOFF_US e) = 0 ∨ r.holdFrom = none then msg else []) ∧
        (s.getF (F.EVT_IRQ_HOLDOFF_US e) = 0 ∨ r.holdFrom = none → Pends t) ∧
        (s.getF (F.EVT_IRQ_HOLDOFF_US e) ≠ 0 → (t.ring e).holdFrom = some (r.holdFrom.getD s.now) ∧ (r.holdFrom.isSome = true → (t.ring e).owed = true)) ∧ Starts s t) ∧
    (∀ (who : Requester) (v : Word) (u : State), Admitted s u who (pgEvt e + 0x10C) 0xFFFFFFFF v → r.inProgress = none → s.on (F.EVT_CFG_EN e) = true → u.rings = s.rings →
      ∃ t, exec (.eventHeadAdvance who e v) s = .next t ∧ t.getF (F.EVT_HEAD_COUNT e) = v.toNat ∧ Starts u t ∧ t.dram = u.dram) ∧
    (∀ t0, r.holdFrom = some t0 → s.on (F.EVT_CFG_EN e) = true → ∃ t, exec (.msixHoldoffExpiry e) s = .next t ∧ t0 + 100 * s.getF (F.EVT_IRQ_HOLDOFF_US e) ≤ t.now ∧
      (r.owed = true → t.egress = s.egress ++ msg ∧ Pends t ∧ (t.ring e).holdFrom = some t.now ∧ (t.ring e).owed = false) ∧
      (r.owed = false → t.egress = s.egress ∧ (t.ring e).holdFrom = none))) ∧
  (∀ (who : Requester) (page : Nat) (v : Word) (k : PageKind) (n : Nat) (s u : State), pageKind page = some (k, n) → Admitted s u who (0x1000 * page + 0x14) 0xFFFFFFFF v →
    let pg := 0x1000 * page
    let newly := Nat.land (v.toNat - Nat.land v.toNat (u.word (pg + 0x14)).toNat) (u.word (pg + 0x10)).toNat
    ∃ t, exec (.eventEnableWrite who page v) s = .next t ∧ t.word (pg + 0x14) = v ∧ t.word (pg + 0x10) = u.word (pg + 0x10) ∧
      (newly = 0 → t.rings = u.rings) ∧
      (newly ≠ 0 → RingTakes (u.getF (F.PG_EVT_ROUTE_RING pg)) ⟨0x05, 0, page, newly, u.orbit, u.getF (F.PG_ERRCAP pg 0), 0, evClass k newly⟩ u t))

/-- A partition takes rows that no other has, and its state follows its rows, ENABLE and QUIESCE_REQ. For a partition p of the 16, an admitted whole write of PRT_ROWS_LO or PRT_ROWS_HI in OFF or IDLE that names no row of another partition sets the rows; one in another state, or one that names such a row, changes nothing. Admitted writes of ENABLE and QUIESCE_REQ outside RESET set their bit. In each case PG_STATE then reads OFF with no rows, IDLE with ENABLE 0, QUIESCING with QUIESCE_REQ 1, and ACTIVE otherwise; a partition that comes to QUIESCING with no order in execution raises QUIESCED (bit 12). Only the partition's page and event rings change. (13_host_partitions under R318, 13_host_partitions under R319, 13_host_partitions under R336, 14_bringup_reset under R354) -/
def Obligations.Partitions : Prop :=
  ∀ (p : Nat) (who : Requester) (v : Word) (s u : State), p < 16 →
    let shown (t : State) : Nat :=
      if t.getF (F.PRT_ROWS_LO_ROWS p) = 0 ∧ t.getF (F.PRT_ROWS_HI_ROWS p) = 0 then prtOff
      else if t.on (F.PG_CTRL_ENABLE (pgPrt p)) = false then prtIdle else if t.on (F.PG_CTRL_QUIESCE_REQ (pgPrt p)) = true then prtQuiescing else prtActive
    let Comes (t : State) : Prop := t.pgState (pgPrt p) = shown t ∧ SameRegs (fun a => onPage (pgPrt p) a ∨ onRings a) u t ∧ t.cores = u.cores ∧ t.dram = u.dram ∧ t.host = u.host ∧
      (shown t = prtQuiescing → u.pgState (pgPrt p) ≠ prtQuiescing → u.host.orders.all (fun e => e.2.part != p) = true → EvtOn t (pgPrt p) 12)
    (∀ high, Admitted s u who (pgPrt p + (if high then 0x104 else 0x100)) 0xFFFFFFFF v →
      let word (x : Nat) : Word := u.word (pgPrt x + (if high then 0x104 else 0x100))
      let free : Prop := ∀ x, x < 16 → x ≠ p → v &&& word x = 0
      let may : Prop := u.pgState (pgPrt p) = prtOff ∨ u.pgState (pgPrt p) = prtIdle
      (may → free → ∃ t, exec (.partitionRowsWrite who p high v) s = .next t ∧ t.word (pgPrt p + (if high then 0x104 else 0x100)) = v ∧ Comes t) ∧
      (¬ may ∨ ¬ free → exec (.partitionRowsWrite who p high v) s = .next u)) ∧
    (Admitted s u who (pgPrt p + 0x8) 1 v → u.pgState (pgPrt p) ≠ prtReset →
      ∃ t, exec (.partitionEnable who p v) s = .next t ∧ t.on (F.PG_CTRL_ENABLE (pgPrt p)) = bit v.toNat 0 ∧
        t.on (F.PG_CTRL_QUIESCE_REQ (pgPrt p)) = u.on (F.PG_CTRL_QUIESCE_REQ (pgPrt p)) ∧ Comes t) ∧
    (Admitted s u who (pgPrt p + 0x8) 2 v → u.pgState (pgPrt p) ≠ prtReset →
      ∃ t, exec (.quiesceReq who p v) s = .next t ∧ t.on (F.PG_CTRL_QUIESCE_REQ (pgPrt p)) = bit v.toNat 1 ∧
        t.on (F.PG_CTRL_ENABLE (pgPrt p)) = u.on (F.PG_CTRL_ENABLE (pgPrt p)) ∧ Comes t)

/-- Core, cluster and partition reset return exactly what they name to reset, and leave what they name alone. An admitted write of RESET_REQ. CORE_RESET: the site's page, but for PG_LOCK, CORE_SITE, CORE_TEMP, CORE_ECL, CORE_GHOST, its state and the shape it shows, is at reset; the core is fresh with its local store zeroed and in IDLE, or stays OFF or ECLIPSED; what it had not sent from its gate is gone, every other packet, core and page is as before, and so is memory where no store was under way. CLUSTER_RESET: each of its cores is in IDLE or stays OFF or ECLIPSED, unless readmitted; CLU_CC_CFG, CLU_PSTATE, CLU_VMIN, CLU_SPARE and PG_LOCK keep their values; an only dirty line of the part, homed or held there, is back in DRAM. PARTITION_RESET, no other partition in reset: its orders are gone and others kept, and it stays in RESET until its broadcasts and records have drained, and then its cores are in IDLE, OFF or ECLIPSED, its queues and rings are disabled and keep FN, rows and grant stay, GCOMPAT is the strap's, and its state is IDLE, or OFF with no rows. (14_bringup_reset under R351, 14_bringup_reset under R352, 14_bringup_reset under R353, 14_bringup_reset under R355, 05_core_engines under R140) -/
def Obligations.Resets : Prop :=
  (∀ (i : Nat) (who : Requester) (v : Word) (s u : State), i < nSites → bit v.toNat 2 = true → Admitted s u who (pgCore i + 0x8) 4 v →
    let kept (a : Nat) : Prop := a = pgCore i + 0x30 ∨ a = pgCore i + 0x100 ∨ a = pgCore i + 0x280 ∨ a = pgCore i + 0x284 ∨ a = pgCore i + 0x288
    let off : Prop := u.coreSt i = coreOff ∨ u.coreSt i = coreEclipsed
    ∃ t : State, exec (.coreReset who i v) s = .next t ∧
      (∀ a, onPage (pgCore i) a → ¬ kept a → a ≠ (F.PG_STATE_STATE (pgCore i)).addr → a ≠ (F.CORE_MX_STATUS_SHAPE i).addr → t.word a = resetWord a) ∧
      SameRegs (fun a => onPage (pgCore i) a ∧ ¬ kept a) u t ∧ (off → t.coreSt i = u.coreSt i ∧ t.core i = { CoreState.fresh with ls := (u.core i).ls }) ∧
      (¬ off → t.coreSt i = Sys2Proof.Machine.coreIdle ∧ t.core i = CoreState.fresh) ∧
      (∀ c, u.clusterOf i = some c → t.getF (F.CORE_MX_STATUS_SHAPE i) = u.getF (F.CLU_MXCFG_SHAPE c)) ∧
      (∀ j, j ≠ i → t.core j = u.core j) ∧ t.packets = u.packets.filter (fun e => decide (e.2.place ≠ .gate i)) ∧
      ((∀ x ∈ (u.core i).streams, x.op ≠ 2) → t.dram = u.dram) ∧ t.host = u.host ∧ t.clusters = u.clusters) ∧
  (∀ (c : Nat) (who : Requester) (v : Word) (s u : State), c < 128 → bit v.toNat 2 = true → Admitted s u who (pgClu c + 0x8) 4 v →
    ∃ t : State, exec (.clusterReset who c v) s = .next t.settle ∧
      (∀ i ∈ u.sitesOfCluster c, (u.coreSt i = coreOff → t.coreSt i = coreOff) ∧ (u.coreSt i = coreEclipsed → t.coreSt i = coreEclipsed ∨ t.coreSt i = coreOff) ∧
        (u.coreSt i ≠ coreOff → u.coreSt i ≠ coreEclipsed → t.coreSt i = Sys2Proof.Machine.coreIdle ∧ (t.core i).streams = [] ∧ (t.core i).bk = [])) ∧
      (∀ i ∈ u.sitesOfCluster c, u.coreSt i = coreEclipsed → bit (u.getF (relWord i)) (siteBit i) = false → t.coreSt i = coreEclipsed) ∧
      (∀ o, o = 0x30 ∨ o = 0x200 ∨ (0x280 ≤ o ∧ o ≤ 0x28C) ∨ o = 0x2C0 → t.word (pgClu c + o) = u.word (pgClu c + o)) ∧
      (∀ line x, (∀ i ∈ u.sitesOfCluster c, (u.core i).streams = []) → u.packets = [] → u.ports = [] → (dpaSite (line * 128)).isSome = true → u.clusters = [(c, { u.cluster c with lines := [(line, x)], wb := [], txns := [], held := [] })] →
        (x.st = .m ∨ x.st = .p) → x.flips = [] → ∀ k, k < 128 → t.dram.read (line * 128 + k) = (if bit x.mask k = true then x.data.getD k 0 else u.dram.read (line * 128 + k)))) ∧
  (∀ (p : Nat) (who : Requester) (v : Word) (s u : State), p < 16 → bit v.toNat 2 = true → Admitted s u who (pgPrt p + 0x8) 4 v →
    (∀ n, n < 16 → n ≠ p → u.pgState (pgPrt n) ≠ prtReset) →
    ∃ b : State,
      (∀ e ∈ b.host.orders, e.2.part ≠ p) ∧ (∀ id o, (∀ e ∈ u.host.orders, e.1 = id → e.2 = o) → tabGet u.host.orders id = some o → o.part ≠ p → tabGet b.host.orders id = some o) ∧
      (∀ i ∈ u.sitesOf p, b.coreSt i = Sys2Proof.Machine.coreIdle ∨ b.coreSt i = coreOff ∨ b.coreSt i = coreEclipsed) ∧ b.pgState (pgPrt p) = prtReset ∧
      (b.resetDrained p = false → exec (.partitionReset who p v) s = .next b.settle) ∧
      (b.resetDrained p = true → ∃ t : State, exec (.partitionReset who p v) s = .next t.settle.settle ∧
        (∀ e ∈ t.host.orders, e.2.part ≠ p) ∧ (∀ i ∈ u.sitesOf p, t.coreSt i = Sys2Proof.Machine.coreIdle ∨ t.coreSt i = coreOff ∨ t.coreSt i = coreEclipsed) ∧
        (∀ q, q < 4096 → u.quPart q = some p → t.quOn q = false ∧ t.quFn q = u.quFn q ∧ t.quTail q = 0 ∧ t.quHead q = 0) ∧
        (∀ e, e < 64 → u.partOfFn (u.getF (F.EVT_CFG_FN e)) = some p → t.on (F.EVT_CFG_EN e) = false ∧ t.getF (F.EVT_CFG_FN e) = u.getF (F.EVT_CFG_FN e) ∧ t.ring e = RingState.fresh) ∧
        t.word (pgPrt p + 0x100) = u.word (pgPrt p + 0x100) ∧ t.word (pgPrt p + 0x104) = u.word (pgPrt p + 0x104) ∧ t.word (pgPrt p + 0x108) = u.word (pgPrt p + 0x108) ∧
        t.on (F.PG_CTRL_GCOMPAT (pgPrt p)) = u.on F.G_STRAPS_GCOMPAT ∧
        t.pgState (pgPrt p) = (if u.word (pgPrt p + 0x100) = 0 ∧ u.word (pgPrt p + 0x104) = 0 then prtOff else prtIdle)))

/-- Falling supplies and whole-part resets leave all but held fields at reset; rising ones begin bring-up, step by step; a shutdown goes slice by slice. POWER_GOOD ends the reset that a low PWRGD holds; it, or AUX_SUPPLY_IN_REGULATION, completing PWRGD, VSB, VAUX and VPHY in RESET begins bring-up: FAILED with NO_IMAGE, or with HOT under a held trip, or POWER with the towers that no fault bit keeps off, the first wave next, and every valid quick-start record consumed. PWRGD_FALL and AUX_SUPPLY_FAULT with PWRGD high leave every register but h fields at reset, cause 1. VSB_LOSS and VSB_POWER_ON clear h fields too. An admitted RESET_ALL with no field below warning resets, cause 2, and brings up again. FORCE_COLD sets its bit. SHUTDOWN is refused with its reason, or enters SHUTDOWN with gates open and queues disabled; then, no command waiting, each step tests a link slice, writes the record that the next start takes, or ends in SD_DONE with its result and no domain on. From step 5 on bring-up goes on likewise: self-test, DRAM, screen, READY or NO_TOWER. (14_bringup_reset under R340, 14_bringup_reset under R341, 14_bringup_reset under R343, 14_bringup_reset under R346, 14_bringup_reset under R348, 14_bringup_reset under R349, 14_bringup_reset under R350, 14_bringup_reset under R351, 14_bringup_reset under R360, 17_package_pins under R427, 17_package_pins under R428, 17_package_pins under R429) -/
def Obligations.Supplies : Prop :=
  (∀ (b : BootIn) (s : State),
    (s.power.pwrgd = true → exec (.powerGood b) s = .next s) ∧
    (s.power.pwrgd = false → ∃ m t : State, exec (.powerGood b) s = .next t ∧ AtReset s m ∧ m.power.pwrgd = true ∧ m.power.vsb = s.power.vsb ∧ m.power.aux = s.power.aux ∧
      (s.power.vsb = true → s.power.aux = true → BringsUp b m t) ∧ (s.power.vsb = false ∨ s.power.aux = false → t = m))) ∧
  (∀ (b : BootIn) (s : State),
    ∃ t : State, exec (.auxSupplyInRegulation b) s = .next t ∧ t.power.aux = true ∧
      (s.power.vsb = true → s.power.pwrgd = true → s.getF F.G_BOOT_STATE_STATE = 0 → BringsUp b s t) ∧
      (s.power.vsb = false ∨ s.power.pwrgd = false → t = { s with power := { s.power with aux := true } })) ∧
  (∀ (dt : Nat) (s : State), s.power.pwrgd = true →
    (∃ t : State, exec (.pwrgdFall dt) s = .next t ∧ AtReset s t ∧ t.power.pwrgd = false ∧ t.getF F.G_BOOT_CAUSE_CAUSE = 1) ∧
    (∃ t : State, exec (.auxSupplyFault dt) s = .next t ∧ AtReset s t ∧ t.power.aux = false ∧ t.getF F.G_BOOT_CAUSE_CAUSE = 1)) ∧
  (∀ (dt : Nat) (s : State), ∃ t : State, exec (.vsbLoss dt) s = .next t ∧ t.power.vsb = false ∧ (∀ a, t.word a = resetWord a) ∧ t.cores = [] ∧ t.packets = [] ∧ t.power.fabOn = []) ∧
  (∀ (strap : Nat) (b : BootIn) (s : State), s.power.vsb = false → s.power.pwrgd = false →
    ∃ t : State, exec (.vsbPowerOn strap b) s = .next t ∧ t.power.vsb = true ∧ t.power.strap = strap % 4 ∧ (∀ a, t.word a = resetWord a)) ∧
  (∀ (who : Requester) (v : Word) (b : BootIn) (s u : State), bit v.toNat 0 = true → Admitted s u who (pgBoot + 0x10C) 1 v → u.power.warn = [] → u.power.clearAt = none →
    ∃ m t : State, exec (.resetAll who v b) s = .next t ∧ AtReset u m ∧ m.getF F.G_BOOT_CAUSE_CAUSE = 2 ∧
      ((u.power.vsb = true ∧ u.power.aux = true) → BringsUp b m t) ∧
      ((u.power.vsb = false ∨ u.power.aux = false) → t = m)) ∧
  (∀ (who : Requester) (v : Word) (s u : State), bit v.toNat 2 = true → Admitted s u who (pgBoot + 0x10C) 4 v →
    ∃ t : State, exec (.forceCold who v) s = .next t ∧ t.on F.G_QS_STATUS_FORCE_COLD = true ∧ OnlyRegs (fun a => a = pgBoot + 0x114) u t) ∧
  (∀ (who : Requester) (v : Word) (x : ShutIn) (s u : State), bit v.toNat 1 = true → Admitted s u who (pgBoot + 0x10C) 2 v →
    let busy : Prop := ∃ p, p < 16 ∧ 2 ≤ u.pgState (pgPrt p)
    let out := exec (.shutdown who v x) s
    (u.power.sd ≠ none → out = .next u) ∧
    (u.power.sd = none → busy → ∃ t, out = .next t ∧ t.getF F.G_SD_STATUS_STATUS = 3 ∧ OnlyRegs (fun a => a = pgBoot + 0x110) u t) ∧
    (u.power.sd = none → ¬ busy → u.activeEns = none → ∃ t, out = .next t ∧ t.getF F.G_SD_STATUS_STATUS = 4 ∧ OnlyRegs (fun a => a = pgBoot + 0x110) u t) ∧
    (u.power.sd = none → ¬ busy → u.activeEns ≠ none → ∃ t, out = .next t ∧ t.getF F.G_BOOT_STATE_STATE = 8 ∧ t.getF F.G_SD_STATUS_STATUS = 1 ∧
      t.getF F.G_SD_STATUS_SLICES = 0 ∧ t.getF F.G_SD_STATUS_FAILS = 0 ∧ t.now = u.now + 100000 ∧ t.power.cluOn = [] ∧ t.power.fabOn = u.power.fabOn ∧ t.power.dramOn = u.power.dramOn ∧
      (∀ i, i < nSites → t.coreSt i = coreOff ∨ t.coreSt i = coreEclipsed) ∧ (∀ q, q < 4096 → t.quOn q = false) ∧ (∀ e, e < 64 → t.on (F.EVT_CFG_EN e) = false) ∧
      ∃ d, t.power.sd = some d ∧ d.meets = x ∧ d.from_ = t.now ∧ d.slices = 0 ∧ d.fails = 0 ∧ d.cut = false ∧ d.written = false ∧
        d.todo = ((List.range 24).filter (fun n => t.lnk n == linkActive)).flatMap (fun n => [.link n 0, .link n 1]) ++ (List.range 64).map .row ++ [.scan] ++ (List.range 8).map .pin ∧
        (∀ n, n < 24 → (bit d.linkPass n = true ↔ t.lnk n = linkActive)) ∧ (∀ i, i < nSites → (bit d.portPass i = true ↔ t.hal i = halActive)))) ∧
  (∀ (d : Shutdown) (s : State), s.pending = [] → s.bootUnderWay = false → s.power.sd = some d →
    (s.activeEns = none → Machine.step s = .next (s.advance 1)) ∧
    (s.activeEns ≠ none →
      (∀ n dir rest, d.todo = .link n dir :: rest →
        let bad : Prop := (n, dir) ∈ d.meets.linkFails ∨ s.lnk n ≠ linkActive
        let late : Prop := d.from_ + 40000000 < s.now + 200000
        ∃ (t : State) (d' : Shutdown), Machine.step s = .next t ∧ t.power.sd = some d' ∧ d'.todo = rest ∧ (bad ∨ late → bit d'.linkPass n = false) ∧ (¬ bad → ¬ late → d'.linkPass = d.linkPass) ∧
          d'.portPass = d.portPass ∧ (∀ m, m ≠ n → bit d'.linkPass m = bit d.linkPass m) ∧
          (late → d'.cut = true ∧ d'.slices = d.slices ∧ d'.fails = d.fails ∧ t = { s with power := t.power }) ∧
          (¬ late → d'.cut = d.cut ∧ d'.slices = d.slices + 1 ∧ t.getF F.G_SD_STATUS_SLICES = min (d.slices + 1) 255 ∧ t.getF F.G_SD_STATUS_FAILS = min d'.fails 255 ∧
            (bad → d'.fails = d.fails + 1) ∧ (¬ bad → d'.fails = d.fails) ∧ t.now = s.now + min 200000 (d.meets.lens.getD d.slices 0) + 50000)) ∧
      (d.todo = [] → d.written = false → ∃ (t : State) (d' : Shutdown) (r : QsRecord), Machine.step s = .next t ∧ t.now = s.now + 12000000 ∧
        t.power.sd = some d' ∧ d'.written = true ∧ d'.flashOk = d.meets.flashOk ∧ (if s.qsTarget then t.flash.slotB else t.flash.slotA) = some r ∧
        (if s.qsTarget then t.flash.slotA = s.flash.slotA else t.flash.slotB = s.flash.slotB) ∧ r.seq = s.qsNextSeq ∧ r.magic = 0x53515154 ∧ r.version = 1 ∧ r.len = 0x11E04 ∧
        r.linkPass = d.linkPass ∧ r.portPass = d.portPass ∧ r.slices = d.slices ∧ r.fails = d.fails ∧ (d.meets.flashOk = true → t.qsValid r = true)) ∧
      (d.todo = [] → d.written = true → ∃ t : State, Machine.step s = .next t ∧ t.getF F.G_BOOT_STATE_STATE = 9 ∧
        t.getF F.G_SD_STATUS_STATUS = (if d.flashOk = false then 6 else if d.cut = true then 5 else 2) ∧
        t.power.sd = none ∧ t.power.fabOn = [] ∧ t.power.dramOn = [] ∧ t.packets = [] ∧ (∀ n, n < 24 → t.lnk n = lnkOff) ∧ (∀ i, i < nSites → t.hal i = halOff)))) ∧
  (∀ (b : BootIn) (s : State), s.pending = [] → s.power.boot = some b →
    let at_ (k : Nat) : Prop := s.getF F.G_BOOT_STATE_STATE = k
    let fresh : List Nat := (List.range 4).filter (fun d => s.power.fabOn.contains d && !s.power.kept.contains d)
    let screen : Prop := s.on F.G_BOOT_STATE_QUICK = false ∧ fresh ≠ []
    (at_ 3 → ∃ t : State, Machine.step s = .next t ∧ t.getF F.G_BOOT_STATE_STATE = 4 ∧ t.on F.SEC_STATUS_KEY_LOADED = true ∧ t.on F.SEC_STATUS_SEEDS_LOADED = true ∧
      (∀ i ∈ b.bistFailed, i < nSites → t.coreSt i = coreEclipsed) ∧ ∀ i, i < nSites → t.coreSt i = Sys2Proof.Machine.coreIdle → t.core i = CoreState.fresh) ∧
    (at_ 4 → ∃ t : State, Machine.step s = .next t ∧ t.getF F.G_BOOT_STATE_STATE = 5 ∧ (∀ d ∈ fresh, ∀ a, a < 2 ^ 39 → t.dram.read (d * 2 ^ 39 + a) = 0) ∧
      (∀ a, a / 2 ^ 39 ∉ fresh → t.dram.read a = s.dram.read a)) ∧
    (at_ 5 → screen → ∃ t : State, Machine.step s = .next t ∧ t.getF F.G_BOOT_STATE_STATE = 6 ∧
      (∀ x ∈ b.weakRows, x.1 < nSites → siteDie x.1 ∈ fresh → x ∈ t.flash.repairs) ∧ (∀ x ∈ s.flash.repairs, x ∈ t.flash.repairs)) ∧
    (at_ 6 ∨ (at_ 5 ∧ ¬ screen) →
      ((∃ d, d < 4 ∧ d ∈ s.power.fabOn) → ∃ t : State, Machine.step s = .next t ∧ t.getF F.G_BOOT_STATE_STATE = 7 ∧ t.getF F.G_BOOT_TIME_MS = min b.ms 65535 ∧
        t.power.boot = none ∧ (if s.qsTarget then t.flash.slotB else t.flash.slotA) = none ∧ s.power.bootAt + 100000 * b.ms ≤ t.now) ∧
      ((∀ d, d < 4 → d ∉ s.power.fabOn) → ∃ t : State, Machine.step s = .next t ∧ t.getF F.G_BOOT_STATE_STATE = 10 ∧ t.getF F.G_BOOT_CAUSE_FAIL = 2)))

/-- Beats, claims, time-outs and resets move the roles of the Ensigns; an Ensign reset changes nothing outside it; ALERT_N follows. ENSIGN_HEARTBEAT over an ACTIVE link records the beat, and shows a rebooted Ensign alive. ENS_RESET_A, ENS_RESET_B (admitted) and ENSIGN_WATCHDOG_EXPIRY of one alive show it not alive for 30 ms, lose the mailbox command it ran, and change no power, thermal, energy, orbit, core, packet or register state outside the reliability, security and mailbox pages and event rings. STEWARD_TIMEOUT grants the die to the other Ensign, not before 4 ms of silence, and ENSIGN_CLAIM where the steward is silent, cut off, or the die stewardless; where the die is the lowest live one and the role passes, FAILOVER is counted and raised. STEWARDLESS marks the die, raises its event for the first one, and with orbits stopped brings the die to step 0. ENSIGN_ROLE_GIVE_UP without an ACTIVE link leaves no active Ensign. From READY on ALERT_N is low exactly in the cases of R384. (14_bringup_reset under R351, 14_bringup_reset under R356, 14_bringup_reset under R358, 15_reliability under R381, 15_reliability under R382, 15_reliability under R383, 15_reliability under R384, 16_register_map under R414) -/
def Obligations.Ensigns : Prop :=
  (∀ (e d : Nat) (s : State), e < 2 → d < 4 → d ∈ s.power.fabOn → s.ensLink e d = true →
    (s.ensAlive e = false → (tabGet s.rel.booting e).isNone = true → exec (.ensignHeartbeat e d) s = .next s) ∧
    ((s.ensAlive e = true ∨ (tabGet s.rel.booting e).isSome = true) → ∃ t : State, exec (.ensignHeartbeat e d) s = .next t ∧ t.ensAlive e = true ∧
      tabGet t.rel.beats (2 * d + e) = some s.now ∧ t.cores = s.cores ∧ t.packets = s.packets ∧ t.power = s.power ∧ (s.ensAlive e = true → t.regs = s.regs))) ∧
  (∀ (e : Nat) (u : State) (out : Out), e < 2 →
    ((∃ (s : State) (who : Requester) (v : Word), Admitted s u who (pgBoot + 0x10C) (2 ^ (3 + e)) v ∧ bit v.toNat (3 + e) = true ∧ out = exec (if e = 0 then .ensResetA who v else .ensResetB who v) s) ∨
      (u.ensAlive e = true ∧ out = exec (.ensignWatchdogExpiry e) u)) →
    ∃ t : State, out = .next t ∧ t.ensAlive e = false ∧ t.ensAlive (1 - e) = u.ensAlive (1 - e) ∧ tabGet t.rel.booting e = some (u.now + 3000000) ∧
      SameRegs (fun a => a = pgRel + 0x100 ∨ onPage pgSec a ∨ onPage pgEns a ∨ onRings a) u t ∧
      t.power = u.power ∧ t.therm = u.therm ∧ t.gov = u.gov ∧ t.orb = u.orb ∧ t.cores = u.cores ∧ t.packets = u.packets ∧ t.dram = u.dram ∧ t.host = u.host ∧
      (u.activeEns = some e → u.on F.ENS_STATUS_BUSY = true → t.on F.ENS_STATUS_BUSY = false ∧ t.getF F.ENS_STATUS_RESULT = 6)) ∧
  (∀ (d : Nat) (s : State), d < 4 → d ∈ s.power.fabOn →
    let st := s.steward d
    let Grants (e : Nat) (u : State) (x : Instr) : Prop := ∃ t : State, exec x s = .next t ∧ t.steward d = e ∧ bit (t.getF F.G_REL_STATUS_STEWARDLESS) d = false ∧
      tabGet t.rel.beats (2 * d + e) = some u.now ∧ (∀ c, c < 4 → c ≠ d → t.steward c = s.steward c) ∧ t.cores = s.cores ∧
      ((∀ c, c < d → c ∉ s.power.fabOn) → t.getF F.G_REL_STATUS_ACTIVE = e ∧
        (e ≠ s.getF F.G_REL_STATUS_ACTIVE → t.getF F.G_REL_FAILOVERS_COUNT = satAdd (s.getF F.G_REL_FAILOVERS_COUNT) 1 (2 ^ F.G_REL_FAILOVERS_COUNT.width - 1) ∧ EvtOn t pgRel 11))
    (s.ensAlive (1 - st) = true → s.ensLink (1 - st) d = true → Grants (1 - st) (s.advanceTo (s.beat st d + 400000)) (.stewardTimeout d)) ∧
    (∀ e, e < 2 → s.ensAlive e = true → s.ensLink e d = true →
      (bit (s.getF F.G_REL_STATUS_STEWARDLESS) d = true ∨ (st ≠ e ∧ (s.ensLink st d = false ∨ s.beat st d + 400000 ≤ s.now)) → Grants e s (.ensignClaim e d)) ∧
      (bit (s.getF F.G_REL_STATUS_STEWARDLESS) d = false → st = e ∨ (s.ensLink st d = true ∧ s.now < s.beat st d + 400000) → exec (.ensignClaim e d) s = .next s)) ∧
    (bit (s.getF F.G_REL_STATUS_STEWARDLESS) d = false → ∃ t : State, exec (.stewardless d) s = .next t ∧ bit (t.getF F.G_REL_STATUS_STEWARDLESS) d = true ∧
      s.beat 0 d + 400000 ≤ t.now ∧ s.beat 1 d + 400000 ≤ t.now ∧ (s.getF F.G_REL_STATUS_STEWARDLESS = 0 → EvtOn t pgRel 12) ∧ t.cores = s.cores ∧
      (s.running = false → t.getF (F.DIE_FREQ_CUR d) = 0) ∧ (s.running = true → t.getF (F.DIE_FREQ_CUR d) = s.getF (F.DIE_FREQ_CUR d)))) ∧
  (∀ (dt : Nat) (s : State), ((∀ e, s.activeEns = some e → ∀ d, d < 4 → s.ensLink e d = false) → ∃ t : State, exec (.ensignRoleGiveUp dt) s = .next t ∧ t.activeEns = none ∧ t.cores = s.cores) ∧
    (∀ e d, s.activeEns = some e → d < 4 → s.ensLink e d = true → exec (.ensignRoleGiveUp dt) s = .next (s.advance dt))) ∧
  (∀ s : State, s.powered = true → s.getF F.G_BOOT_STATE_STATE = 7 →
    (s.alertN = .low ↔ s.on F.G_REL_STATUS_ENS_A = false ∨ s.on F.G_REL_STATUS_ENS_B = false ∨ s.getF F.G_REL_STATUS_STEWARDLESS ≠ 0 ∨ s.getF F.G_REL_STATUS_TOWER_LOST ≠ 0 ∨
      s.on F.G_REL_STATUS_REF0_OK = false ∨ s.on F.G_REL_STATUS_REF1_OK = false))

/-- Driver eclipse, ghosts, port failure, bank retirement, row spares and reference clocks act on exactly what they name. An admitted write of one DIE_ECL bit eclipses that site with cause DRIVER, its core's work and what waits at its gate gone; one of DIE_PFAIL takes that port to FAILED, and one of DIE_BRET retires those banks. A ghost flit is dropped and counted at its site and die, and the first is raised. ASSIGN of an idle cluster pair's spare ramps it, or shows the refusal of R379; RELEASE opens its gate and unassigns it, or shows the refusal. A die that loses its reference switches to the other where that is good, the first loss raised; REFCLK_RESTORED shows it good again and no die switches back; an admitted write of PREF switches every die where the chosen reference is good, and none otherwise. (15_reliability under R372, 15_reliability under R375, 15_reliability under R376, 15_reliability under R377, 15_reliability under R379, 15_reliability under R385, 15_reliability under R392) -/
def Obligations.Retirement : Prop :=
  (∀ (die index b : Nat) (who : Requester) (v : Word) (s u : State), die < 4 → index < 9 → b < 32 → 32 * index + b < 272 → v.toNat = 2 ^ b →
    let i := 272 * die + (32 * index + b)
    (Admitted s u who (F.DIE_ECL die index).addr v.toNat v → u.coreSt i ≠ coreEclipsed → ∃ t : State, exec (.driverEclipse who die index v) s = .next t ∧ t.coreSt i = coreEclipsed ∧
      t.getF (F.CORE_ECL_CAUSE i) = 6 ∧ t.getF (F.CORE_ECL_ORBIT i) = u.orbit % 2 ^ 28 ∧ bit (t.getF (F.DIE_ECL die index)) b = true ∧ EvtOn t (pgCore i) 8 ∧
      (t.core i).streams = [] ∧ (t.core i).bk = [] ∧ (∀ e ∈ t.packets, e.2.place ≠ .gate i) ∧ (∀ j, j ≠ i → t.core j = u.core j) ∧ t.hal i = u.hal i) ∧
    (Admitted s u who (F.DIE_PFAIL die index).addr v.toNat v → ∃ t : State, exec (.portFail who die index v) s = .next t ∧ t.hal i = halFailed ∧
      bit (t.getF (F.DIE_PFAIL die index)) b = true ∧ (u.hal i ≠ halFailed → (t.port i).reqs = [] ∧ (t.port i).expand = []) ∧ (∀ j, j ≠ i → t.core j = u.core j) ∧ ((u.port i).bcasts = [] → t.cores = u.cores) ∧ t.dram = u.dram)) ∧
  (∀ (die index : Nat) (who : Requester) (v : Word) (s u : State), die < 4 → index < 272 → Admitted s u who (F.DIE_BRET die index).addr v.toNat v →
    ∃ t : State, exec (.bankRetire who die index v) s = .next t ∧ t.getF (F.DIE_BRET die index) = Nat.lor (u.getF (F.DIE_BRET die index)) v.toNat ∧
      OnlyRegs (fun a => a = (F.DIE_BRET die index).addr) u t) ∧
  (∀ (i : Nat) (s : State), i < nSites → s.coreSt i = coreEclipsed → ∃ t : State, exec (.ghostFlit i) s = .next t ∧ t.packets = s.packets ∧ t.cores = s.cores ∧
    t.getF (F.CORE_GHOST_COUNT i) = satAdd (s.getF (F.CORE_GHOST_COUNT i)) 1 (2 ^ (F.CORE_GHOST_COUNT i).width - 1) ∧
    t.getF (F.DIE_GHOST_COUNT (siteDie i)) = satAdd (s.getF (F.DIE_GHOST_COUNT (siteDie i))) 1 (2 ^ (F.DIE_GHOST_COUNT (siteDie i)).width - 1) ∧
    t.getF (F.DIE_GHOST_LAST_SITE (siteDie i)) = siteNum i ∧ i ∈ t.rel.ghosted ∧ (i ∉ s.rel.ghosted → EvtOn t pgRel 14)) ∧
  (∀ (c : Nat) (who : Requester) (v : Word) (s u : State), c < 128 → Admitted s u who (pgClu c + 0x2C0) 3 v → u.on (F.CLU_SPARE_BUSY c) = false → u.on (F.CLU_SPARE_BUSY (if c % 2 = 0 then c + 1 else c - 1)) = false →
    let i := spareOfRow (c / 2)
    let busy : Prop := ∃ j ∈ u.sitesOfCluster c, u.coreSt j = coreLoaded ∨ u.coreSt j = coreRunning ∨ u.coreSt j = coreBerthed
    (bits v.toNat 0 2 = 1 → u.clusterOf i ≠ some c → ∃ t : State, exec (.assign who c v) s = .next t ∧
      let taken : Prop := u.clusterOf i ≠ none
      let latched : Prop := u.siteLatched i = true ∨ u.coreSt i = coreEclipsed
      let full : Prop := (if Config.gradeB = true then 7 else 8) ≤ ((clusterSites c).filter (fun j => fusedActive j && u.coreSt j != coreEclipsed)).length
      (taken → t.getF (F.CLU_SPARE_RESULT c) = 1) ∧ (¬ taken → latched → t.getF (F.CLU_SPARE_RESULT c) = 2) ∧ (¬ taken → ¬ latched → full → t.getF (F.CLU_SPARE_RESULT c) = 3) ∧
      (¬ taken → ¬ latched → ¬ full → busy → t.getF (F.CLU_SPARE_RESULT c) = 4) ∧
      (taken ∨ latched ∨ full ∨ busy → OnlyRegs (fun a => a = pgClu c + 0x2C0) u t) ∧
      (¬ taken → ¬ latched → ¬ full → ¬ busy → t.getF (F.CLU_SPARE_RESULT c) = 0 ∧ t.on (F.CLU_SPARE_BUSY c) = true ∧ (tabGet t.power.ramps i).isSome = true)) ∧
    (bits v.toNat 0 2 = 2 → ∃ t : State, exec (.release who c v) s = .next t ∧
      (u.clusterOf i ≠ some c → t.getF (F.CLU_SPARE_RESULT c) = 0) ∧ (u.clusterOf i = some c → fusedServes c = true → t.getF (F.CLU_SPARE_RESULT c) = 6) ∧
      (u.clusterOf i = some c → fusedServes c = false → busy → t.getF (F.CLU_SPARE_RESULT c) = 4) ∧
      (u.clusterOf i = some c → fusedServes c = false → ¬ busy → t.getF (F.CLU_SPARE_RESULT c) = 0 ∧ t.on (F.CORE_SITE_ASSIGNED i) = false ∧ t.on (F.CLU_SPARE_ASSIGNED c) = false ∧
        t.coreSt i = (if u.coreSt i = coreEclipsed then coreEclipsed else coreOff)))) ∧
  (∀ (ref : Bool) (n : Nat) (s : State), n < 6 →
    (s.refOf n = ref → ∃ t : State, exec (.refclkLoss ref n) s = .next t ∧ t.on (refOk ref) = false ∧ (s.on (refOk ref) = true → EvtOn t pgRel 13) ∧
      t.refOf n = (if s.on (refOk (!ref)) = true then !ref else ref) ∧ (∀ m, m < 6 → m ≠ n → t.refOf m = s.refOf m) ∧ t.cores = s.cores ∧ t.packets = s.packets) ∧
    (s.refOf n ≠ ref → exec (.refclkLoss ref n) s = .next s)) ∧
  (∀ (ref : Bool) (s : State), ∃ t : State, exec (.refclkRestored ref) s = .next t ∧ t.on (refOk ref) = true ∧ t.on (refOk (!ref)) = s.on (refOk (!ref)) ∧ (∀ n, n < 6 → t.refOf n = s.refOf n) ∧
    OnlyRegs (fun a => a = pgRel + 0x100) s t) ∧
  (∀ (who : Requester) (v : Word) (s u : State), Admitted s u who (pgRel + 0x108) 1 v → ∃ t : State, exec (.refclkSelect who v) s = .next t ∧ t.on F.G_CLKSEL_PREF = bit v.toNat 0 ∧
    OnlyRegs (fun a => a = pgRel + 0x108) u t ∧ ∀ n, n < 6 → t.refOf n = (if u.on (refOk (bit v.toNat 0)) = true then bit v.toNat 0 else u.refOf n))

/-- Patrol scrub, test flips, self-test and the scan-enable sequence run only where they may, and leave what the rules say. PATROL_SCRUB_DUE makes a column's step due an interval after the last; SCRUB_STEP_START takes a token for it at an idle bank in a wave gap, and otherwise leaves it due. An admitted write of G_FLIP_CTRL with ARM = 1 arms; the next DRAM write of the byte then stores it with MASK, and ARM clears. BIST_ALL, BIST_ROW and BIST_LINK are refused with NO_ENSIGN, BUSY or REFUSED_ACTIVE, or run; BIST_DONE shows count and duration, eclipses sites that failed with cause BIST, and leaves the row's DRAM zero. SCAN_OPEN_REQUEST is refused with its reason, or SCAN becomes CLEARING with key and seeds gone; a JTAG instruction that needs scan makes it PENDING while a partition is busy, and acts as BYPASS until SCAN is OPEN; SCAN_SEQUENCE_START takes a sequence that may run to OPEN with local stores zero. (15_reliability under R367, 15_reliability under R371, 15_reliability under R390, 16_register_map under R410, 16_register_map under R411, 16_register_map under R412, 16_register_map under R413, 17_package_pins under R443) -/
def Obligations.SelfTest : Prop :=
  (∀ (i : Nat) (s : State), i < nSites → siteDie i ∈ s.power.fabOn → s.getF F.G_SCRUB_HOURS ≠ 0 →
    ∃ t : State, exec (.patrolScrubDue i) s = .next t ∧ i ∈ t.rel.scrubDue ∧ (tabGet s.rel.scrubAt i).getD 0 + s.getF F.G_SCRUB_HOURS * 360000000000 / 393216 ≤ t.now ∧
      t.regs = s.regs ∧ t.ports = s.ports ∧ t.dram = s.dram) ∧
  (∀ (i : Nat) (s : State), i < nSites → i ∈ s.rel.scrubDue →
    let q := s.port i
    let k := (tabGet s.rel.scrubNext i).getD 0 % 393216
    let b := k / 12288
    let free : Prop := q.scrubbing = none ∧ q.tokens < 8 ∧ (∀ c ∈ q.bcasts, c.active = []) ∧ q.refreshing.contains b = false ∧ q.busyBank b = false
    s.refreshOn i b = true →
    (free → ∃ t : State, exec (.scrubStepStart i) s = .next t ∧ (t.port i).scrubbing = some (b, k % 12288) ∧ (t.port i).tokens = q.tokens + 1 ∧ t.rel.scrubDue = s.rel.scrubDue.erase i ∧
      tabGet t.rel.scrubNext i = some ((k + 1) % 393216) ∧ t.dram = s.dram) ∧
    (¬ free → exec (.scrubStepStart i) s = .next s)) ∧
  (∀ (who : Requester) (v : Word) (s u : State), Admitted s u who (pgRel + 0x130) 0x3FFFFF v → bit v.toNat 0 = true →
    ∃ t : State, exec (.testFlipArm who v) s = .next t ∧ t.on F.G_FLIP_CTRL_ARM = true ∧ t.on F.G_FLIP_CTRL_DONE = false ∧ t.getF F.G_FLIP_CTRL_UNIT = bits v.toNat 1 2 ∧
      t.getF F.G_FLIP_CTRL_BYTE = bits v.toNat 3 7 ∧ t.getF F.G_FLIP_CTRL_MASK = bits v.toNat 10 12 ∧ OnlyRegs (fun a => a = pgRel + 0x130) u t) ∧
  (∀ (a : Nat) (b : Byte) (s : State), s.flipAt 0 = some a → ∃ m, tabGet (s.dramPut [(a, b)]).dram.flips a = some m ∧ m % 2 ^ 12 = s.getF F.G_FLIP_CTRL_MASK ∧
    (s.dramPut [(a, b)]).dram.read a = b ∧ (s.dramPut [(a, b)]).on F.G_FLIP_CTRL_ARM = false ∧ (s.dramPut [(a, b)]).on F.G_FLIP_CTRL_DONE = true ∧
    ∀ a', a' ≠ a → (s.dramPut [(a', b)]).on F.G_FLIP_CTRL_ARM = true) ∧
  (∀ (who : Requester) (v : Word) (s u : State) (x : Instr) (scope : Nat),
    ((x = .bistAll who v ∧ scope = 0) ∨ (x = .bistRow who v ∧ scope = 1) ∨ (x = .bistLink who v ∧ scope = 2)) → bits v.toNat 0 2 = scope → bit v.toNat 8 = true →
    Admitted s u who (pgRel + 0x140) 0x1FF v →
    let index := bits v.toNat 2 6
    let blocked : Prop := if scope = 1 then ∃ p, u.partOfRow index = some p ∧ 2 ≤ u.pgState (pgPrt p) else ∃ p, p < 16 ∧ 2 ≤ u.pgState (pgPrt p)
    let lost : Prop := u.getF F.G_REL_STATUS_STEWARDLESS ≠ 0 ∨ u.activeEns = none
    ∃ t : State, exec x s = .next t ∧
      (lost → t.getF F.G_BIST_STATUS_STATUS = 5 ∧ t.rel.bist = u.rel.bist) ∧ (¬ lost → u.rel.bist ≠ none → t.getF F.G_BIST_STATUS_STATUS = 6 ∧ t.rel.bist = u.rel.bist) ∧
      (¬ lost → u.rel.bist = none → blocked → t.getF F.G_BIST_STATUS_STATUS = 4 ∧ t.rel.bist = none) ∧
      (¬ lost → u.rel.bist = none → ¬ blocked → t.getF F.G_BIST_STATUS_STATUS = 1 ∧ t.on F.G_BIST_CMD_GO = true ∧ t.rel.bist = some (scope, index, u.now))) ∧
  (∀ (scope index since ms i code : Nat) (s : State), s.rel.bist = some (scope, index, since) → i < nSites →
    (∃ t : State, exec (.bistDone [] [] ms) s = .next t ∧ t.rel.bist = none ∧ t.getF F.G_BIST_STATUS_STATUS = 2 ∧ t.getF F.G_BIST_STATUS_FAILS = 0 ∧
      t.getF F.G_BIST_STATUS_MS = min ms 65535 ∧ t.on F.G_BIST_CMD_GO = false ∧ EvtOn t pgRel 16 ∧
      (scope = 1 → ∀ j a, 17 * index ≤ j → j < 17 * index + 17 → a < 0x30000000 → t.dram.read (colBase j + a) = 0)) ∧
    (∃ t : State, exec (.bistDone [(i, code)] [] ms) s = .next t ∧ t.getF F.G_BIST_STATUS_STATUS = 3 ∧ t.getF F.G_BIST_STATUS_FAILS = 1 ∧ t.coreSt i = coreEclipsed ∧
      (s.coreSt i ≠ coreEclipsed → t.getF (F.CORE_ECL_CAUSE i) = 2))) ∧
  (∀ (who : Requester) (v : Word) (s u : State), bit v.toNat 0 = true → Admitted s u who (pgSec + 0x104) 1 v →
    let busy : Prop := ∃ p, p < 16 ∧ 2 ≤ u.pgState (pgPrt p)
    let scan := u.getF F.SEC_STATUS_SCAN
    ∃ t : State, exec (.scanOpenRequest who v) s = .next t ∧ t.getF F.SEC_SCAN_INFO_SOURCE = 1 ∧
      (2 ≤ scan → t.getF F.SEC_SCAN_INFO_REFUSED = 2 ∧ t.getF F.SEC_STATUS_SCAN = scan) ∧ (scan < 2 → busy → t.getF F.SEC_SCAN_INFO_REFUSED = 1 ∧ t.getF F.SEC_STATUS_SCAN = scan) ∧
      (scan < 2 → ¬ busy → t.getF F.SEC_SCAN_INFO_REFUSED = 0 ∧ t.getF F.SEC_STATUS_SCAN = 2 ∧ t.on F.SEC_STATUS_KEY_LOADED = false ∧ t.on F.SEC_STATUS_SEEDS_LOADED = false)) ∧
  (∀ s : State,
    let busy : Prop := ∃ p, p < 16 ∧ 2 ≤ s.pgState (pgPrt p)
    (∃ t : State, exec (.jtagInstruction .idcode) s = .next t ∧ ∃ w, t.reply = some (.word w) ∧ w.toNat % 2 = 1 ∧ bits w.toNat 12 16 = 0x0A44 ∧
      bits w.toNat 28 4 = s.getF F.G_PART_ID_STEPPING % 16 ∧ t.regs = s.regs) ∧
    (s.power.pwrgd = true → s.getF F.SEC_STATUS_SCAN = 0 → ∃ t : State, exec (.jtagInstruction .scan) s = .next t ∧ t.getF F.SEC_SCAN_INFO_SOURCE = 2 ∧ t.jtagActs = .bypass ∧
      (busy → t.getF F.SEC_STATUS_SCAN = 1) ∧ (¬ busy → t.getF F.SEC_STATUS_SCAN = 2 ∧ t.on F.SEC_STATUS_KEY_LOADED = false)) ∧
    (s.getF F.SEC_STATUS_SCAN = 1 → busy → exec .scanSequenceStart s = .next s) ∧
    ((s.getF F.SEC_STATUS_SCAN = 1 ∧ ¬ busy) ∨ s.getF F.SEC_STATUS_SCAN = 2 → ∃ t : State, exec .scanSequenceStart s = .next t ∧ t.getF F.SEC_STATUS_SCAN = 3 ∧ s.now + 10000 ≤ t.now ∧
      EvtOn t pgSec 8 ∧ ∀ i, i < nSites → s.coreSt i ≠ coreOff → s.coreSt i ≠ coreEclipsed → (t.core i).ls = ⟨[], [], []⟩))

/-- A mailbox command is accepted, refused or completes at once; its completion gives the result of R416 and moves the update along. An admitted write of ENS_CMD with GO = 1 and one of the six opcodes: while BUSY nothing happens; with no active Ensign it completes at once with NO_ENSIGN; otherwise BUSY is 1. A completion clears BUSY, shows result and length, adds one to ENS_DONE and raises DONE. GET_INFO answers 16 bytes, the others IN_USE while PLDM owns an update. FW_BEGIN opens an update of its length, or BAD_ARG; FW_WRITE keeps its chunk where offset and length are right; FW_VERIFY shows AUTH_FAIL, FLASH_ERR or OK and whether the image may be put in service; FW_ACTIVATE needs a verified image, answers SINGLE with one Ensign alive and ALONE 0, and with both alive puts the new image in slot 0 and leaves the other Ensign active on every live die; FW_ABORT ends the update. FLASH_LOCK_TIMEOUT frees the lock after 100 ms. (16_register_map under R414, 16_register_map under R415, 16_register_map under R416, 16_register_map under R417, 17_package_pins under R440, 17_package_pins under R442) -/
def Obligations.Mailbox : Prop :=
  (∀ (who : Requester) (v : Word) (s u : State) (x : Instr) (op : Nat),
    ((x = .getInfo who v ∧ op = 1) ∨ (x = .fwBegin who v ∧ op = 0x10) ∨ (x = .fwWrite who v ∧ op = 0x11) ∨ (x = .fwVerify who v ∧ op = 0x12) ∨ (x = .fwActivate who v ∧ op = 0x13) ∨
      (x = .fwAbort who v ∧ op = 0x14)) → v.toNat % 2 ^ 16 = op → bit v.toNat 31 = true → Admitted s u who (pgEns + 0x100) 0x80000000 v →
    (u.on F.ENS_STATUS_BUSY = true → exec x s = .next u) ∧
    (u.on F.ENS_STATUS_BUSY = false → u.activeEns = none → ∃ t : State, exec x s = .next t ∧ t.on F.ENS_STATUS_BUSY = false ∧ t.getF F.ENS_STATUS_RESULT = 8 ∧
      t.getF F.ENS_DONE_COUNT = (u.getF F.ENS_DONE_COUNT + 1) % 2 ^ 32 ∧ EvtOn t pgEns 8 ∧ t.mgmt = u.mgmt) ∧
    (u.on F.ENS_STATUS_BUSY = false → u.activeEns ≠ none → ∃ t : State, exec x s = .next t ∧ t.on F.ENS_STATUS_BUSY = true ∧ t.getF F.ENS_CMD_OP = op ∧ t.getF F.ENS_CMD_LEN = bits v.toNat 16 11 ∧
      t.getF F.ENS_DONE_COUNT = u.getF F.ENS_DONE_COUNT ∧ t.mgmt.update = u.mgmt.update ∧ t.cores = u.cores)) ∧
  (∀ (outcome version : Nat) (s : State),
    let x : Instr := .mailboxCommandComplete outcome version
    let op := s.getF F.ENS_CMD_OP
    let len := s.getF F.ENS_CMD_LEN
    let m := s.mgmt
    let arg := s.getF (F.ENS_DATA 0)
    let Done (result : Nat) (P : State → Prop) : Prop := ∃ t : State, exec x s = .next t ∧ t.on F.ENS_STATUS_BUSY = false ∧ t.getF F.ENS_STATUS_RESULT = result ∧
      t.getF F.ENS_DONE_COUNT = (s.getF F.ENS_DONE_COUNT + 1) % 2 ^ 32 ∧ EvtOn t pgEns 8 ∧ t.mgmt.flash = none ∧ P t
    let Same (t : State) : Prop := t.mgmt = { m with flash := none }
    (s.on F.ENS_STATUS_BUSY = false → exec x s = .next s) ∧
    (s.on F.ENS_STATUS_BUSY = true →
      (op = 1 → Done 0 (fun t => t.getF F.ENS_STATUS_RLEN = 16 ∧ t.getF (F.ENS_DATA 2) = s.getF (F.G_SERIAL 2) ∧ t.getF (F.ENS_DATA 3) = s.getF (F.G_SERIAL 3) ∧ Same t)) ∧
      (0x10 ≤ op → m.update = some true → Done 3 Same) ∧
      (op = 0x10 → m.update ≠ some true →
        let bad : Prop := len ≠ 4 ∨ arg = 0 ∨ 2 ^ 24 < arg ∨ m.update = some false
        (bad → Done 2 Same) ∧ (¬ bad → outcome = 5 → Done 5 Same) ∧
        (¬ bad → outcome ≠ 5 → Done 0 (fun t => t.mgmt.update = some false ∧ t.mgmt.imgLen = arg ∧ t.mgmt.verified = false ∧ t.flash.image1 = []))) ∧
      (0x11 ≤ op → m.update = none → Done 2 Same) ∧
      (m.update = some false →
        (op = 0x11 →
          let bad : Prop := len ≤ 8 ∨ 1024 < len ∨ arg % 1016 ≠ 0 ∨ m.imgLen < arg + (len - 8)
          (bad → Done 2 Same) ∧ (¬ bad → outcome = 5 → Done 5 Same) ∧
          (¬ bad → outcome ≠ 5 → Done 0 (fun t => t.mgmt.verified = false ∧ ∃ d : List Byte, tabGet t.flash.image1 arg = some d ∧ d.length = len - 8 ∧
            ∀ k, k < len - 8 → (d.getD k 0).toNat = bits (s.getF (F.ENS_DATA ((8 + k) / 4))) (8 * ((8 + k) % 4)) 8))) ∧
        (op = 0x12 → (outcome = 5 → Done 5 Same) ∧ (outcome = 4 → Done 4 (fun t => t.mgmt.verified = false)) ∧ (outcome ≠ 5 → outcome ≠ 4 → Done 0 (fun t => t.mgmt.verified = true))) ∧
        (op = 0x13 → (m.verified = false → Done 2 Same) ∧ (m.verified = true → outcome = 5 → Done 5 Same) ∧
          (m.verified = true → outcome ≠ 5 → s.ensAlive 0 = true → s.ensAlive 1 = true → Done 0 (fun t => t.mgmt.update = none ∧ t.ensAlive (s.getF F.G_REL_STATUS_ACTIVE) = false ∧
            t.ensAlive (1 - s.getF F.G_REL_STATUS_ACTIVE) = true ∧ t.flash.image0 = s.flash.image1 ∧ ∀ d, d < 4 → d ∈ s.power.fabOn → t.steward d = 1 - s.getF F.G_REL_STATUS_ACTIVE)) ∧
          (m.verified = true → outcome ≠ 5 → (s.ensAlive 0 = false ∨ s.ensAlive 1 = false) → arg % 2 = 0 → Done 7 Same)) ∧
        (op = 0x14 → Done 0 (fun t => t.mgmt.update = none ∧ t.mgmt.verified = false))))) ∧
  (∀ (die since : Nat) (s : State), s.mgmt.flash = some (die, since) → ∃ t : State, exec (.flashLockTimeout die) s = .next t ∧ t.mgmt.flash = none ∧ since + 10000000 ≤ t.now ∧ t.regs = s.regs)

/-- Attestation and management messages are answered as the rules name them; a power cap is staged, or armed for its orbit. Each supported SPDM request that reaches the responder is answered and counted; another slot or measurement block answers ERROR InvalidRequest; what needs the key answers ERROR Busy while SCAN is CLEARING and Unspecified without the key; each ERROR is counted and raises SPDM_ERR. DOE discovery lists two protocols. Set Endpoint ID assigns an ID that is not reserved; ENTDAA, and SETDASA to the static address, assign a dynamic address once. Sensors read their registers, and another sensor answers an error. A cap outside 1,200 to 3,200 W changes nothing; with no cap orbit it is a staged write of ORB_PPL; otherwise entries of that orbit among 56 to 63 are disarmed and the first free one is armed with it, and the cap orbit is 0 again. REQUEST_UPDATE is refused while an update runs; ACTIVATE_FIRMWARE needs its update, an image that verifies and both Ensigns alive. The codes of the answers are the model's choice (PRESUMED from the standards). (16_register_map under R409, 17_package_pins under R435, 17_package_pins under R436, 17_package_pins under R437, 17_package_pins under R438, 17_package_pins under R439, 17_package_pins under R440) -/
def Obligations.Messages : Prop :=
  (∀ (via : Nat) (s : State), s.spdmHeard via = true →
    let Answers (x : Instr) (code : Nat) (P : List Nat → Prop) : Prop := ∃ (t : State) (d : List Nat), exec x s = .next t ∧ t.reply = some (.message code d) ∧ P d ∧
      t.getF F.SEC_SPDM_REQS_COUNT = satAdd (s.getF F.SEC_SPDM_REQS_COUNT) 1 (2 ^ F.SEC_SPDM_REQS_COUNT.width - 1) ∧
      t.getF F.SEC_SPDM_ERRS_COUNT = satAdd (s.getF F.SEC_SPDM_ERRS_COUNT) (b2n (code == 0x7F)) (2 ^ F.SEC_SPDM_ERRS_COUNT.width - 1) ∧ (code = 0x7F → EvtOn t pgSec 9) ∧
      t.cores = s.cores ∧ t.packets = s.packets ∧ t.dram = s.dram
    let Keyed (x : Instr) (code : Nat) (P : List Nat → Prop) : Prop :=
      (s.getF F.SEC_STATUS_SCAN = 2 → Answers x 0x7F (fun d => d = [3])) ∧
      (s.getF F.SEC_STATUS_SCAN ≠ 2 → s.on F.SEC_STATUS_KEY_LOADED = false → Answers x 0x7F (fun d => d = [5])) ∧
      (s.getF F.SEC_STATUS_SCAN ≠ 2 → s.on F.SEC_STATUS_KEY_LOADED = true → Answers x code P)
    Answers (.getVersion via) 0x04 (fun d => d = [0x12]) ∧ Answers (.getCapabilities via) 0x61 (fun d => d = [0x16]) ∧ Answers (.negotiateAlgorithms via) 0x63 (fun d => d = [0x80, 0x02]) ∧
    Answers (.getDigests via) 0x01 (fun d => d.tail = Config.certDigest.map BitVec.toNat) ∧
    (∀ off len, Answers (.getCertificate via 0 off len) 0x02 (fun d => d = ((Config.certChain.drop off).take len).map BitVec.toNat)) ∧
    (∀ slot off len nonce, slot ≠ 0 → Answers (.getCertificate via slot off len) 0x7F (fun d => d = [1]) ∧ Answers (.challenge via slot nonce) 0x7F (fun d => d = [1])) ∧
    (∀ nonce, Keyed (.challenge via 0 nonce) 0x03 (fun d => d.take 2 = [0, nonce])) ∧
    (∀ index nonce, 1 ≤ index → index ≤ 3 → Answers (.getMeasurements via index false nonce) 0x60 (fun d => d = s.measurement index) ∧
      Keyed (.getMeasurements via index true nonce) 0x60 (fun d => d.take ((s.measurement index).length + 1) = s.measurement index ++ [nonce])) ∧
    (∀ index signed nonce, 3 < index → index ≠ 0xFF → Answers (.getMeasurements via index signed nonce) 0x7F (fun d => d = [1]))) ∧
  (∀ (port : Nat) (s : State), port < 4 → s.ensBooted = true →
    (∃ t : State, exec (.doeDiscovery port 0) s = .next t ∧ t.reply = some (.message 0 [1, 0, 1]) ∧ t.regs = s.regs) ∧ (∃ t : State, exec (.doeDiscovery port 1) s = .next t ∧ t.reply = some (.message 0 [1, 1, 0]) ∧ t.regs = s.regs)) ∧
  (∀ (addr static : Nat) (s : State), s.power.vsb = true →
    (s.mgmt.dynAddr = none → exec (.entdaa addr) s = .next { s with mgmt := { s.mgmt with dynAddr := some (addr % 128) } } ∧
      exec (.setdasa (0x4C + s.power.strap) addr) s = .next { s with mgmt := { s.mgmt with dynAddr := some (addr % 128) } } ∧
      (static ≠ 0x4C + s.power.strap → exec (.setdasa static addr) s = .next s)) ∧
    (s.mgmt.dynAddr ≠ none → exec (.entdaa addr) s = .next s ∧ exec (.setdasa static addr) s = .next s)) ∧
  (∀ s : State, s.activeEns ≠ none →
    let Says (x : Instr) (code : Nat) (P : State → Prop) : Prop := ∃ (t : State) (d : List Nat), exec x s = .next t ∧ t.reply = some (.message code d) ∧ P t ∧ t.cores = s.cores
    let Same (t : State) : Prop := t.regs = s.regs ∧ t.mgmt = s.mgmt
    (∀ eid, (8 ≤ eid ∧ eid ≤ 0xFE → Says (.setEndpointId eid) 0 (fun t => t.mgmt = { s.mgmt with eid := eid })) ∧ (eid < 8 ∨ 0xFE < eid → Says (.setEndpointId eid) 2 Same)) ∧
    (∀ n l, 1 < n → s.sensor n = some l → ∃ t : State, exec (.getSensorReading n) s = .next t ∧ t.reply = some (.message 0 l) ∧ Same t) ∧
    (∀ n, n = 0 ∨ 27 < n → Says (.getSensorReading n) 0x80 Same) ∧ (∀ d, d < 4 → s.sensor (10 + d) = some [s.getF (F.THM_MAX_A d)]) ∧ s.sensor 26 = some [s.getF F.THM_COOL_DUTY_DUTY] ∧
    (∃ (t : State) (w : Nat), exec (.getSensorReading 1) s = .next t ∧ t.reply = some (.message 0 [w]) ∧
      let e := s.getF F.ORB_EN_NORM_E * 100
      let p := s.getF F.ORB_PERIOD_PERIOD_US
      (w = e / p ∨ (e % p ≠ 0 ∧ w = e / p + 1)) ∧ t.regs = s.regs) ∧
    (∀ watts, (watts < 1200 ∨ 3200 < watts → Says (.setPowerCap watts) 2 Same) ∧
      (1200 ≤ watts → watts ≤ 3200 → s.mgmt.capOrbit = 0 → Says (.setPowerCap watts) 0 (fun t =>
        (s.running = false → t.getF F.ORB_PPL_WATTS = watts) ∧ (s.running = true → t.getF F.ORB_PPL_WATTS = s.getF F.ORB_PPL_WATTS ∧ t.dueF F.ORB_PPL_WATTS = watts))) ∧
      (∀ n, 1200 ≤ watts → watts ≤ 3200 → s.mgmt.capOrbit ≠ 0 → 56 ≤ n → n < 64 →
        let a := (stampOrbit s.mgmt.capOrbit s.orbit % 2 ^ 64).toNat
        let free (k : Nat) : Prop := s.on (F.ORB_ACT_CTRL_ARM k) = false ∨ s.actOrbit k = a
        free n → (∀ k, 56 ≤ k → k < n → ¬ free k) → Says (.setPowerCap watts) 0 (fun t => t.on (F.ORB_ACT_CTRL_ARM n) = true ∧ t.actOrbit n = a ∧
          t.getF (F.ORB_ACT_TARGET_OFFSET n) = F.ORB_PPL_WATTS.addr / 4 ∧ t.getF (F.ORB_ACT_VALUE_VALUE n) = watts ∧ t.mgmt.capOrbit = 0)) ∧
      (1200 ≤ watts → watts ≤ 3200 → s.mgmt.capOrbit ≠ 0 →
        (∀ k, 56 ≤ k → k < 64 → s.on (F.ORB_ACT_CTRL_ARM k) = true ∧ s.actOrbit k ≠ (stampOrbit s.mgmt.capOrbit s.orbit % 2 ^ 64).toNat) → Says (.setPowerCap watts) 4 Same)) ∧
    (∀ stamp, (stamp < 2 ^ 32 → Says (.setCapOrbit stamp) 0 (fun t => t.regs = s.regs ∧ t.mgmt = { s.mgmt with capOrbit := stamp })) ∧ (2 ^ 32 ≤ stamp → Says (.setCapOrbit stamp) 2 Same)) ∧
    (∀ p, (p ≤ 100 → Says (.setMinDuty p) 0 (fun t => t.getF F.THM_COOL_CFG_MIN_DUTY = p)) ∧ (100 < p → Says (.setMinDuty p) 2 Same)) ∧
    (s.mgmt.update = none → Says .requestUpdate 0 (fun t => t.mgmt.update = some true)) ∧ (s.mgmt.update ≠ none → Says .requestUpdate 0x81 Same) ∧
    (∀ version, (s.mgmt.update ≠ some true → Says (.activateFirmware true version) 0x80 Same) ∧ (s.mgmt.update = some true → Says (.activateFirmware false version) 0x85 Same) ∧
      (s.mgmt.update = some true → (s.ensAlive 0 = false ∨ s.ensAlive 1 = false) → Says (.activateFirmware true version) 1 Same) ∧
      (s.mgmt.update = some true → s.ensAlive 0 = true → s.ensAlive 1 = true → Says (.activateFirmware true version) 0 (fun t => t.mgmt.update = none ∧
        t.ensAlive (s.getF F.G_REL_STATUS_ACTIVE) = false ∧ t.ensAlive (1 - s.getF F.G_REL_STATUS_ACTIVE) = true))))

/-- A step runs the command at the front of the queue on the state with the rest; with no command waiting the part goes on by itself. With command c in front of the queue, step answers what exec answers for c on the state with the queue's rest. On an empty queue the part goes on by itself; outside bring-up from its step 5, an orderly shutdown and a partition reset one CLK_ORB cycle passes: the time, TIM_NS and the open orbit's length go on and nothing else changes (the model's own choice, log entries 1 and 161). (95_what_each_step_holds, 00_scope under R11) -/
def Obligations.StepRunsFront : Prop :=
  (∀ (c : Instr) (rest : List Instr) (s : State), Machine.step { s with pending := c :: rest } = exec c { s with pending := rest }) ∧
  (∀ s : State, s.pending = [] → Machine.step s = .next s.idle) ∧
  (∀ s : State, s.pending = [] → s.bootUnderWay = false → s.power.sd = none → (∀ p, p < 16 → s.pgState (pgPrt p) ≠ prtReset) →
    Machine.step s = .next (s.advance 1) ∧ (s.advance 1).now = s.now + 1 ∧ (s.advance 1).orb.ns = s.orb.ns + 10 ∧
    (s.orb.tickAt.isSome = true → (s.advance 1).orb.len = min (s.orb.len + 1) (2 ^ 48 - 1)) ∧
    s.advance 1 = { s with now := s.now + 1, orb := { s.orb with ns := s.orb.ns + 10, len := (s.advance 1).orb.len } })

/-- Every step of the part answers a next state, and keeps the form of the registers, the staged values and device memory. From every state whose register table and staged values list each address once in rising order, whose staged values wait for registers with a staged field, and whose device memory lists each byte once and none that an unlisted address reads, a step, whatever command stands in front, answers a next state, never a fault or a refusal, and that state has the same form. (The form is the model's own, log entry 3.) (00_scope under R10, 00_scope under R11, 00_scope under R13, 08_bank_engines, 95_what_each_step_holds) -/
def Obligations.FormKept : Prop :=
  ∀ s : State, KeptForm s → ∃ t, Machine.step s = .next t ∧ KeptForm t

/-- The state after reset has the form that every step keeps; the orbit count is 0, orbits are stopped and ORB_PERIOD holds its default. State.reset has the form of the register table, the staged values and memory. Its queue is empty, the orbit count is 0, RUN and SRC are 0, ORB_PERIOD holds 500 µs, nothing is staged and no packet is in the fabric. (02_orbit_timing under R46, 00_scope under R14, 14_bringup_reset under R340) -/
def Obligations.FormAtReset : Prop :=
  KeptForm State.reset ∧ State.reset.pending = [] ∧ State.reset.orbit = 0 ∧ State.reset.running = false ∧ State.reset.src = 0 ∧
  State.reset.period = 50000 ∧ State.reset.staged = [] ∧ State.reset.packets = []
end

