-- ==== Sys2Proof/Laws/Tables.lean ====
section
/-! SUPPORT. Laws of sparse tables, bit fields and counts that hold at their maximum. -/
namespace Sys2Proof.Machine

/-! Sparse tables -/

@[simp] theorem tabGet_nil {α : Type} (n : Nat) : tabGet ([] : Tab α) n = none := rfl

@[simp] theorem tabGet_tabPut_same {α : Type} (t : Tab α) (n : Nat) (v : α) : tabGet (tabPut t n v) n = some v := by
  induction t with
  | nil => simp [tabPut, tabGet]
  | cons e t ih =>
    obtain ⟨k, w⟩ := e
    unfold tabPut
    split
    · simp [tabGet]
    · split
      · simp [tabGet]
      · next h => simp [tabGet, h, ih]

theorem tabGet_tabPut_ne {α : Type} (t : Tab α) {n m : Nat} (v : α) (h : m ≠ n) : tabGet (tabPut t n v) m = tabGet t m := by
  induction t with
  | nil => simp [tabPut, tabGet, Ne.symm h]
  | cons e t ih =>
    obtain ⟨k, w⟩ := e
    unfold tabPut
    split
    · simp [tabGet, Ne.symm h]
    · split
      · next _ hk => subst hk; simp [tabGet, Ne.symm h]
      · simp only [tabGet, ih]

theorem tabGet_tabDel_ne {α : Type} (t : Tab α) {n m : Nat} (h : m ≠ n) : tabGet (tabDel t n) m = tabGet t m := by
  induction t with
  | nil => rfl
  | cons e t ih =>
    obtain ⟨k, w⟩ := e
    unfold tabDel
    split
    · next hk => subst hk; simp [tabGet, Ne.symm h, ih]
    · simp only [tabGet, ih]

/-- A table's numbers rise strictly: the list form. -/
theorem tabSorted_iff {α : Type} (t : Tab α) : tabSorted t = true ↔ (t.map Prod.fst).Pairwise (· < ·) := by
  induction t with
  | nil => simp [tabSorted]
  | cons e t ih =>
    obtain ⟨a, v⟩ := e
    cases t with
    | nil => simp [tabSorted]
    | cons f t =>
      obtain ⟨b, w⟩ := f
      simp only [tabSorted, Bool.and_eq_true, decide_eq_true_eq, ih, List.map_cons, List.pairwise_cons, List.mem_cons]
      constructor
      · rintro ⟨h, hb, ht⟩
        refine ⟨?_, hb, ht⟩
        rintro x (rfl | hx)
        · exact h
        · exact lt_trans h (hb x hx)
      · rintro ⟨h, hb, ht⟩
        exact ⟨h b (.inl rfl), hb, ht⟩

theorem mem_tabPut {α : Type} (t : Tab α) (n : Nat) (v : α) (x : Nat) (h : x ∈ (tabPut t n v).map Prod.fst) :
    x = n ∨ x ∈ t.map Prod.fst := by
  induction t with
  | nil => simpa [tabPut] using h
  | cons e t ih =>
    obtain ⟨k, w⟩ := e
    unfold tabPut at h
    split at h
    · simpa using h
    · split at h
      · next hk => subst hk; simp at h ⊢; tauto
      · simp only [List.map_cons, List.mem_cons] at h ⊢
        rcases h with h | h
        · tauto
        · have := ih h; tauto

/-- Setting an entry keeps the order. -/
theorem tabSorted_tabPut {α : Type} (t : Tab α) (n : Nat) (v : α) (h : tabSorted t = true) : tabSorted (tabPut t n v) = true := by
  rw [tabSorted_iff] at *
  induction t with
  | nil => simp [tabPut]
  | cons e t ih =>
    obtain ⟨k, w⟩ := e
    simp only [List.map_cons, List.pairwise_cons] at h
    unfold tabPut
    split
    · next hn =>
      simp only [List.map_cons, List.pairwise_cons, List.mem_cons]
      refine ⟨?_, h.1, h.2⟩
      rintro x (rfl | hx)
      · exact hn
      · exact lt_trans hn (h.1 x hx)
    · split
      · next hk => subst hk; simpa using h
      · next h1 h2 =>
        simp only [List.map_cons, List.pairwise_cons]
        refine ⟨fun x hx => ?_, ih h.2⟩
        rcases mem_tabPut t n v x hx with rfl | hx
        · omega
        · exact h.1 x hx

/-- Dropping an entry keeps the order. -/
theorem tabSorted_tabDel {α : Type} (t : Tab α) (n : Nat) (h : tabSorted t = true) : tabSorted (tabDel t n) = true := by
  rw [tabSorted_iff] at *
  refine h.sublist (List.Sublist.map _ ?_)
  clear h
  induction t with
  | nil => exact .slnil
  | cons e t ih =>
    obtain ⟨k, w⟩ := e
    unfold tabDel
    split
    · exact ih.cons _
    · exact ih.cons_cons _

/-- A selection of entries keeps the order. -/
theorem tabSorted_filter {α : Type} (t : Tab α) (p : Nat × α → Bool) (h : tabSorted t = true) : tabSorted (t.filter p) = true := by
  rw [tabSorted_iff] at *
  exact h.sublist (List.Sublist.map _ List.filter_sublist)

@[simp] theorem tabSorted_nil {α : Type} : tabSorted ([] : Tab α) = true := rfl

/-- A dropped entry is absent. -/
@[simp] theorem tabGet_tabDel_same {α : Type} (t : Tab α) (n : Nat) : tabGet (tabDel t n) n = none := by
  induction t with
  | nil => rfl
  | cons e t ih =>
    obtain ⟨k, w⟩ := e
    unfold tabDel
    split
    · exact ih
    · next hk => simp only [tabGet, if_neg hk, ih]

/-! Bit fields -/

theorem bits_lt (w lsb width : Nat) : bits w lsb width < 2 ^ width := Nat.mod_lt _ (by positivity)

/-- The field that was set reads the value set. -/
theorem bits_setBits_same (w lsb width v : Nat) : bits (setBits w lsb width v) lsb width = v % 2 ^ width := by
  unfold bits setBits
  rw [Nat.shiftRight_eq_div_pow, Nat.shiftRight_eq_div_pow]
  have h1 : w % 2 ^ lsb < 2 ^ lsb := Nat.mod_lt _ (by positivity)
  have : w % 2 ^ lsb + v % 2 ^ width * 2 ^ lsb + w / 2 ^ (lsb + width) * 2 ^ (lsb + width) =
      w % 2 ^ lsb + 2 ^ lsb * (v % 2 ^ width + 2 ^ width * (w / 2 ^ (lsb + width))) := by rw [pow_add]; ring
  rw [this, Nat.add_mul_div_left _ _ (by positivity), Nat.div_eq_of_lt h1, zero_add, Nat.add_mul_mod_self_left, Nat.mod_mod]

/-- A field below the one that was set is as before. -/
theorem bits_setBits_below (w lsb width v l n : Nat) (h : l + n ≤ lsb) : bits (setBits w lsb width v) l n = bits w l n := by
  unfold bits setBits
  rw [Nat.shiftRight_eq_div_pow, Nat.shiftRight_eq_div_pow, Nat.shiftRight_eq_div_pow]
  obtain ⟨d, rfl⟩ := Nat.exists_eq_add_of_le h
  have e : w % 2 ^ (l + n + d) + v % 2 ^ width * 2 ^ (l + n + d) + w / 2 ^ (l + n + d + width) * 2 ^ (l + n + d + width) =
      w % 2 ^ (l + n + d) + 2 ^ l * (2 ^ n * (2 ^ d * (v % 2 ^ width + 2 ^ width * (w / 2 ^ (l + n + d + width))))) := by
    simp only [pow_add]; ring
  rw [e, Nat.add_mul_div_left _ _ (by positivity), Nat.add_mul_mod_self_left]
  rw [show w % 2 ^ (l + n + d) / 2 ^ l % 2 ^ n = w % 2 ^ (l + n + d) % 2 ^ (l + n) / 2 ^ l from by
      rw [pow_add 2 l n, Nat.mod_mul_right_div_self]]
  rw [Nat.mod_mod_of_dvd _ (pow_dvd_pow 2 (by omega)), pow_add, Nat.mod_mul_right_div_self]

/-- A field above the one that was set is as before. -/
theorem bits_setBits_above (w lsb width v l n : Nat) (h : lsb + width ≤ l) : bits (setBits w lsb width v) l n = bits w l n := by
  unfold bits setBits
  rw [Nat.shiftRight_eq_div_pow, Nat.shiftRight_eq_div_pow, Nat.shiftRight_eq_div_pow]
  obtain ⟨d, rfl⟩ := Nat.exists_eq_add_of_le h
  have h1 : w % 2 ^ lsb + v % 2 ^ width * 2 ^ lsb < 2 ^ (lsb + width) := by
    have ha : w % 2 ^ lsb < 2 ^ lsb := Nat.mod_lt _ (by positivity)
    have hb : v % 2 ^ width + 1 ≤ 2 ^ width := Nat.mod_lt _ (by positivity)
    calc w % 2 ^ lsb + v % 2 ^ width * 2 ^ lsb < (v % 2 ^ width + 1) * 2 ^ lsb := by nlinarith
      _ ≤ 2 ^ width * 2 ^ lsb := Nat.mul_le_mul_right _ hb
      _ = 2 ^ (lsb + width) := by rw [pow_add]; ring
  rw [pow_add 2 (lsb + width) d, ← Nat.div_div_eq_div_mul, Nat.add_mul_div_right _ _ (by positivity), Nat.div_eq_of_lt h1, zero_add,
    Nat.div_div_eq_div_mul]

/-- A field set in a word of 32 bits leaves a word of 32 bits. -/
theorem setBits_lt (w lsb width v : Nat) (hw : w < 2 ^ 32) (h : lsb + width ≤ 32) : setBits w lsb width v < 2 ^ 32 := by
  unfold setBits
  rw [Nat.shiftRight_eq_div_pow]
  obtain ⟨d, hd⟩ := Nat.exists_eq_add_of_le h
  have ha : w % 2 ^ lsb < 2 ^ lsb := Nat.mod_lt _ (by positivity)
  have hb : v % 2 ^ width + 1 ≤ 2 ^ width := Nat.mod_lt _ (by positivity)
  have hc : w / 2 ^ (lsb + width) + 1 ≤ 2 ^ d := by
    have : w / 2 ^ (lsb + width) < 2 ^ d := by
      rw [Nat.div_lt_iff_lt_mul (by positivity), ← pow_add, Nat.add_comm d, ← hd]; exact hw
    omega
  have h1 : w % 2 ^ lsb + v % 2 ^ width * 2 ^ lsb < 2 ^ (lsb + width) := by
    calc w % 2 ^ lsb + v % 2 ^ width * 2 ^ lsb < (v % 2 ^ width + 1) * 2 ^ lsb := by nlinarith
      _ ≤ 2 ^ width * 2 ^ lsb := Nat.mul_le_mul_right _ hb
      _ = 2 ^ (lsb + width) := by rw [pow_add]; ring
  calc _ < (w / 2 ^ (lsb + width) + 1) * 2 ^ (lsb + width) := by nlinarith
    _ ≤ 2 ^ d * 2 ^ (lsb + width) := Nat.mul_le_mul_right _ hc
    _ = 2 ^ 32 := by rw [← pow_add, hd]; congr 1; omega

/-! Counts -/

theorem satAdd_le (a b top : Nat) : satAdd a b top ≤ top := min_le_right _ _
theorem satAdd_eq {a b top : Nat} (h : a + b ≤ top) : satAdd a b top = a + b := min_eq_left h

end Sys2Proof.Machine
end

