-- ==== Sys2Proof/Laws/State.lean ====
section
/-! SUPPORT. What each update of the state leaves alone: one law per update and field. -/
namespace Sys2Proof.Machine

variable (s : State)

@[simp] theorem State.setWord_pending (a : Nat) (w : Word) : (s.setWord a w).pending = s.pending := rfl
@[simp] theorem State.setWord_freeCtr (a : Nat) (w : Word) : (s.setWord a w).freeCtr = s.freeCtr := rfl
@[simp] theorem State.setWord_now (a : Nat) (w : Word) : (s.setWord a w).now = s.now := rfl
@[simp] theorem State.setWord_staged (a : Nat) (w : Word) : (s.setWord a w).staged = s.staged := rfl
@[simp] theorem State.setWord_written1 (a : Nat) (w : Word) : (s.setWord a w).written1 = s.written1 := rfl
@[simp] theorem State.setWord_reply (a : Nat) (w : Word) : (s.setWord a w).reply = s.reply := rfl
@[simp] theorem State.setWord_egress (a : Nat) (w : Word) : (s.setWord a w).egress = s.egress := rfl
@[simp] theorem State.setWord_orb (a : Nat) (w : Word) : (s.setWord a w).orb = s.orb := rfl
@[simp] theorem State.setWord_gov (a : Nat) (w : Word) : (s.setWord a w).gov = s.gov := rfl
@[simp] theorem State.setWord_therm (a : Nat) (w : Word) : (s.setWord a w).therm = s.therm := rfl
@[simp] theorem State.setWord_rings (a : Nat) (w : Word) : (s.setWord a w).rings = s.rings := rfl
@[simp] theorem State.setWord_cores (a : Nat) (w : Word) : (s.setWord a w).cores = s.cores := rfl
@[simp] theorem State.setWord_clusters (a : Nat) (w : Word) : (s.setWord a w).clusters = s.clusters := rfl
@[simp] theorem State.setWord_packets (a : Nat) (w : Word) : (s.setWord a w).packets = s.packets := rfl
@[simp] theorem State.setWord_nextPkt (a : Nat) (w : Word) : (s.setWord a w).nextPkt = s.nextPkt := rfl
@[simp] theorem State.setWord_links (a : Nat) (w : Word) : (s.setWord a w).links = s.links := rfl
@[simp] theorem State.setWord_mtOut (a : Nat) (w : Word) : (s.setWord a w).mtOut = s.mtOut := rfl
@[simp] theorem State.setWord_dram (a : Nat) (w : Word) : (s.setWord a w).dram = s.dram := rfl
@[simp] theorem State.setWord_reqs (a : Nat) (w : Word) : (s.setWord a w).reqs = s.reqs := rfl
@[simp] theorem State.setWord_nextTag (a : Nat) (w : Word) : (s.setWord a w).nextTag = s.nextTag := rfl
@[simp] theorem State.setWord_ports (a : Nat) (w : Word) : (s.setWord a w).ports = s.ports := rfl
@[simp] theorem State.setWord_cows (a : Nat) (w : Word) : (s.setWord a w).cows = s.cows := rfl
@[simp] theorem State.setWord_nextCow (a : Nat) (w : Word) : (s.setWord a w).nextCow = s.nextCow := rfl
@[simp] theorem State.setWord_xinvs (a : Nat) (w : Word) : (s.setWord a w).xinvs = s.xinvs := rfl
@[simp] theorem State.setWord_unitTlb (a : Nat) (w : Word) : (s.setWord a w).unitTlb = s.unitTlb := rfl
@[simp] theorem State.setWord_host (a : Nat) (w : Word) : (s.setWord a w).host = s.host := rfl
@[simp] theorem State.setWord_power (a : Nat) (w : Word) : (s.setWord a w).power = s.power := rfl
@[simp] theorem State.setWord_rel (a : Nat) (w : Word) : (s.setWord a w).rel = s.rel := rfl
@[simp] theorem State.setWord_mgmt (a : Nat) (w : Word) : (s.setWord a w).mgmt = s.mgmt := rfl
@[simp] theorem State.setWord_flash (a : Nat) (w : Word) : (s.setWord a w).flash = s.flash := rfl
@[simp] theorem State.setWord_mesh (a : Nat) (w : Word) : (s.setWord a w).mesh = s.mesh := rfl

@[simp] theorem State.setF_pending (f : Fld) (v : Nat) : (s.setF f v).pending = s.pending := rfl
@[simp] theorem State.setF_freeCtr (f : Fld) (v : Nat) : (s.setF f v).freeCtr = s.freeCtr := rfl
@[simp] theorem State.setF_now (f : Fld) (v : Nat) : (s.setF f v).now = s.now := rfl
@[simp] theorem State.setF_staged (f : Fld) (v : Nat) : (s.setF f v).staged = s.staged := rfl
@[simp] theorem State.setF_written1 (f : Fld) (v : Nat) : (s.setF f v).written1 = s.written1 := rfl
@[simp] theorem State.setF_reply (f : Fld) (v : Nat) : (s.setF f v).reply = s.reply := rfl
@[simp] theorem State.setF_egress (f : Fld) (v : Nat) : (s.setF f v).egress = s.egress := rfl
@[simp] theorem State.setF_orb (f : Fld) (v : Nat) : (s.setF f v).orb = s.orb := rfl
@[simp] theorem State.setF_gov (f : Fld) (v : Nat) : (s.setF f v).gov = s.gov := rfl
@[simp] theorem State.setF_therm (f : Fld) (v : Nat) : (s.setF f v).therm = s.therm := rfl
@[simp] theorem State.setF_rings (f : Fld) (v : Nat) : (s.setF f v).rings = s.rings := rfl
@[simp] theorem State.setF_cores (f : Fld) (v : Nat) : (s.setF f v).cores = s.cores := rfl
@[simp] theorem State.setF_clusters (f : Fld) (v : Nat) : (s.setF f v).clusters = s.clusters := rfl
@[simp] theorem State.setF_packets (f : Fld) (v : Nat) : (s.setF f v).packets = s.packets := rfl
@[simp] theorem State.setF_nextPkt (f : Fld) (v : Nat) : (s.setF f v).nextPkt = s.nextPkt := rfl
@[simp] theorem State.setF_links (f : Fld) (v : Nat) : (s.setF f v).links = s.links := rfl
@[simp] theorem State.setF_mtOut (f : Fld) (v : Nat) : (s.setF f v).mtOut = s.mtOut := rfl
@[simp] theorem State.setF_dram (f : Fld) (v : Nat) : (s.setF f v).dram = s.dram := rfl
@[simp] theorem State.setF_reqs (f : Fld) (v : Nat) : (s.setF f v).reqs = s.reqs := rfl
@[simp] theorem State.setF_nextTag (f : Fld) (v : Nat) : (s.setF f v).nextTag = s.nextTag := rfl
@[simp] theorem State.setF_ports (f : Fld) (v : Nat) : (s.setF f v).ports = s.ports := rfl
@[simp] theorem State.setF_cows (f : Fld) (v : Nat) : (s.setF f v).cows = s.cows := rfl
@[simp] theorem State.setF_nextCow (f : Fld) (v : Nat) : (s.setF f v).nextCow = s.nextCow := rfl
@[simp] theorem State.setF_xinvs (f : Fld) (v : Nat) : (s.setF f v).xinvs = s.xinvs := rfl
@[simp] theorem State.setF_unitTlb (f : Fld) (v : Nat) : (s.setF f v).unitTlb = s.unitTlb := rfl
@[simp] theorem State.setF_host (f : Fld) (v : Nat) : (s.setF f v).host = s.host := rfl
@[simp] theorem State.setF_power (f : Fld) (v : Nat) : (s.setF f v).power = s.power := rfl
@[simp] theorem State.setF_rel (f : Fld) (v : Nat) : (s.setF f v).rel = s.rel := rfl
@[simp] theorem State.setF_mgmt (f : Fld) (v : Nat) : (s.setF f v).mgmt = s.mgmt := rfl
@[simp] theorem State.setF_flash (f : Fld) (v : Nat) : (s.setF f v).flash = s.flash := rfl
@[simp] theorem State.setF_mesh (f : Fld) (v : Nat) : (s.setF f v).mesh = s.mesh := rfl

@[simp] theorem State.orF_pending (f : Fld) (v : Nat) : (s.orF f v).pending = s.pending := rfl
@[simp] theorem State.orF_freeCtr (f : Fld) (v : Nat) : (s.orF f v).freeCtr = s.freeCtr := rfl
@[simp] theorem State.orF_now (f : Fld) (v : Nat) : (s.orF f v).now = s.now := rfl
@[simp] theorem State.orF_staged (f : Fld) (v : Nat) : (s.orF f v).staged = s.staged := rfl
@[simp] theorem State.orF_written1 (f : Fld) (v : Nat) : (s.orF f v).written1 = s.written1 := rfl
@[simp] theorem State.orF_reply (f : Fld) (v : Nat) : (s.orF f v).reply = s.reply := rfl
@[simp] theorem State.orF_egress (f : Fld) (v : Nat) : (s.orF f v).egress = s.egress := rfl
@[simp] theorem State.orF_orb (f : Fld) (v : Nat) : (s.orF f v).orb = s.orb := rfl
@[simp] theorem State.orF_gov (f : Fld) (v : Nat) : (s.orF f v).gov = s.gov := rfl
@[simp] theorem State.orF_therm (f : Fld) (v : Nat) : (s.orF f v).therm = s.therm := rfl
@[simp] theorem State.orF_rings (f : Fld) (v : Nat) : (s.orF f v).rings = s.rings := rfl
@[simp] theorem State.orF_cores (f : Fld) (v : Nat) : (s.orF f v).cores = s.cores := rfl
@[simp] theorem State.orF_clusters (f : Fld) (v : Nat) : (s.orF f v).clusters = s.clusters := rfl
@[simp] theorem State.orF_packets (f : Fld) (v : Nat) : (s.orF f v).packets = s.packets := rfl
@[simp] theorem State.orF_nextPkt (f : Fld) (v : Nat) : (s.orF f v).nextPkt = s.nextPkt := rfl
@[simp] theorem State.orF_links (f : Fld) (v : Nat) : (s.orF f v).links = s.links := rfl
@[simp] theorem State.orF_mtOut (f : Fld) (v : Nat) : (s.orF f v).mtOut = s.mtOut := rfl
@[simp] theorem State.orF_dram (f : Fld) (v : Nat) : (s.orF f v).dram = s.dram := rfl
@[simp] theorem State.orF_reqs (f : Fld) (v : Nat) : (s.orF f v).reqs = s.reqs := rfl
@[simp] theorem State.orF_nextTag (f : Fld) (v : Nat) : (s.orF f v).nextTag = s.nextTag := rfl
@[simp] theorem State.orF_ports (f : Fld) (v : Nat) : (s.orF f v).ports = s.ports := rfl
@[simp] theorem State.orF_cows (f : Fld) (v : Nat) : (s.orF f v).cows = s.cows := rfl
@[simp] theorem State.orF_nextCow (f : Fld) (v : Nat) : (s.orF f v).nextCow = s.nextCow := rfl
@[simp] theorem State.orF_xinvs (f : Fld) (v : Nat) : (s.orF f v).xinvs = s.xinvs := rfl
@[simp] theorem State.orF_unitTlb (f : Fld) (v : Nat) : (s.orF f v).unitTlb = s.unitTlb := rfl
@[simp] theorem State.orF_host (f : Fld) (v : Nat) : (s.orF f v).host = s.host := rfl
@[simp] theorem State.orF_power (f : Fld) (v : Nat) : (s.orF f v).power = s.power := rfl
@[simp] theorem State.orF_rel (f : Fld) (v : Nat) : (s.orF f v).rel = s.rel := rfl
@[simp] theorem State.orF_mgmt (f : Fld) (v : Nat) : (s.orF f v).mgmt = s.mgmt := rfl
@[simp] theorem State.orF_flash (f : Fld) (v : Nat) : (s.orF f v).flash = s.flash := rfl
@[simp] theorem State.orF_mesh (f : Fld) (v : Nat) : (s.orF f v).mesh = s.mesh := rfl

@[simp] theorem State.countF_pending (f : Fld) (n : Nat) : (s.countF f n).pending = s.pending := rfl
@[simp] theorem State.countF_freeCtr (f : Fld) (n : Nat) : (s.countF f n).freeCtr = s.freeCtr := rfl
@[simp] theorem State.countF_now (f : Fld) (n : Nat) : (s.countF f n).now = s.now := rfl
@[simp] theorem State.countF_staged (f : Fld) (n : Nat) : (s.countF f n).staged = s.staged := rfl
@[simp] theorem State.countF_written1 (f : Fld) (n : Nat) : (s.countF f n).written1 = s.written1 := rfl
@[simp] theorem State.countF_reply (f : Fld) (n : Nat) : (s.countF f n).reply = s.reply := rfl
@[simp] theorem State.countF_egress (f : Fld) (n : Nat) : (s.countF f n).egress = s.egress := rfl
@[simp] theorem State.countF_orb (f : Fld) (n : Nat) : (s.countF f n).orb = s.orb := rfl
@[simp] theorem State.countF_gov (f : Fld) (n : Nat) : (s.countF f n).gov = s.gov := rfl
@[simp] theorem State.countF_therm (f : Fld) (n : Nat) : (s.countF f n).therm = s.therm := rfl
@[simp] theorem State.countF_rings (f : Fld) (n : Nat) : (s.countF f n).rings = s.rings := rfl
@[simp] theorem State.countF_cores (f : Fld) (n : Nat) : (s.countF f n).cores = s.cores := rfl
@[simp] theorem State.countF_clusters (f : Fld) (n : Nat) : (s.countF f n).clusters = s.clusters := rfl
@[simp] theorem State.countF_packets (f : Fld) (n : Nat) : (s.countF f n).packets = s.packets := rfl
@[simp] theorem State.countF_nextPkt (f : Fld) (n : Nat) : (s.countF f n).nextPkt = s.nextPkt := rfl
@[simp] theorem State.countF_links (f : Fld) (n : Nat) : (s.countF f n).links = s.links := rfl
@[simp] theorem State.countF_mtOut (f : Fld) (n : Nat) : (s.countF f n).mtOut = s.mtOut := rfl
@[simp] theorem State.countF_dram (f : Fld) (n : Nat) : (s.countF f n).dram = s.dram := rfl
@[simp] theorem State.countF_reqs (f : Fld) (n : Nat) : (s.countF f n).reqs = s.reqs := rfl
@[simp] theorem State.countF_nextTag (f : Fld) (n : Nat) : (s.countF f n).nextTag = s.nextTag := rfl
@[simp] theorem State.countF_ports (f : Fld) (n : Nat) : (s.countF f n).ports = s.ports := rfl
@[simp] theorem State.countF_cows (f : Fld) (n : Nat) : (s.countF f n).cows = s.cows := rfl
@[simp] theorem State.countF_nextCow (f : Fld) (n : Nat) : (s.countF f n).nextCow = s.nextCow := rfl
@[simp] theorem State.countF_xinvs (f : Fld) (n : Nat) : (s.countF f n).xinvs = s.xinvs := rfl
@[simp] theorem State.countF_unitTlb (f : Fld) (n : Nat) : (s.countF f n).unitTlb = s.unitTlb := rfl
@[simp] theorem State.countF_host (f : Fld) (n : Nat) : (s.countF f n).host = s.host := rfl
@[simp] theorem State.countF_power (f : Fld) (n : Nat) : (s.countF f n).power = s.power := rfl
@[simp] theorem State.countF_rel (f : Fld) (n : Nat) : (s.countF f n).rel = s.rel := rfl
@[simp] theorem State.countF_mgmt (f : Fld) (n : Nat) : (s.countF f n).mgmt = s.mgmt := rfl
@[simp] theorem State.countF_flash (f : Fld) (n : Nat) : (s.countF f n).flash = s.flash := rfl
@[simp] theorem State.countF_mesh (f : Fld) (n : Nat) : (s.countF f n).mesh = s.mesh := rfl

@[simp] theorem State.wrapF_pending (f : Fld) (n : Nat) : (s.wrapF f n).pending = s.pending := rfl
@[simp] theorem State.wrapF_freeCtr (f : Fld) (n : Nat) : (s.wrapF f n).freeCtr = s.freeCtr := rfl
@[simp] theorem State.wrapF_now (f : Fld) (n : Nat) : (s.wrapF f n).now = s.now := rfl
@[simp] theorem State.wrapF_staged (f : Fld) (n : Nat) : (s.wrapF f n).staged = s.staged := rfl
@[simp] theorem State.wrapF_written1 (f : Fld) (n : Nat) : (s.wrapF f n).written1 = s.written1 := rfl
@[simp] theorem State.wrapF_reply (f : Fld) (n : Nat) : (s.wrapF f n).reply = s.reply := rfl
@[simp] theorem State.wrapF_egress (f : Fld) (n : Nat) : (s.wrapF f n).egress = s.egress := rfl
@[simp] theorem State.wrapF_orb (f : Fld) (n : Nat) : (s.wrapF f n).orb = s.orb := rfl
@[simp] theorem State.wrapF_gov (f : Fld) (n : Nat) : (s.wrapF f n).gov = s.gov := rfl
@[simp] theorem State.wrapF_therm (f : Fld) (n : Nat) : (s.wrapF f n).therm = s.therm := rfl
@[simp] theorem State.wrapF_rings (f : Fld) (n : Nat) : (s.wrapF f n).rings = s.rings := rfl
@[simp] theorem State.wrapF_cores (f : Fld) (n : Nat) : (s.wrapF f n).cores = s.cores := rfl
@[simp] theorem State.wrapF_clusters (f : Fld) (n : Nat) : (s.wrapF f n).clusters = s.clusters := rfl
@[simp] theorem State.wrapF_packets (f : Fld) (n : Nat) : (s.wrapF f n).packets = s.packets := rfl
@[simp] theorem State.wrapF_nextPkt (f : Fld) (n : Nat) : (s.wrapF f n).nextPkt = s.nextPkt := rfl
@[simp] theorem State.wrapF_links (f : Fld) (n : Nat) : (s.wrapF f n).links = s.links := rfl
@[simp] theorem State.wrapF_mtOut (f : Fld) (n : Nat) : (s.wrapF f n).mtOut = s.mtOut := rfl
@[simp] theorem State.wrapF_dram (f : Fld) (n : Nat) : (s.wrapF f n).dram = s.dram := rfl
@[simp] theorem State.wrapF_reqs (f : Fld) (n : Nat) : (s.wrapF f n).reqs = s.reqs := rfl
@[simp] theorem State.wrapF_nextTag (f : Fld) (n : Nat) : (s.wrapF f n).nextTag = s.nextTag := rfl
@[simp] theorem State.wrapF_ports (f : Fld) (n : Nat) : (s.wrapF f n).ports = s.ports := rfl
@[simp] theorem State.wrapF_cows (f : Fld) (n : Nat) : (s.wrapF f n).cows = s.cows := rfl
@[simp] theorem State.wrapF_nextCow (f : Fld) (n : Nat) : (s.wrapF f n).nextCow = s.nextCow := rfl
@[simp] theorem State.wrapF_xinvs (f : Fld) (n : Nat) : (s.wrapF f n).xinvs = s.xinvs := rfl
@[simp] theorem State.wrapF_unitTlb (f : Fld) (n : Nat) : (s.wrapF f n).unitTlb = s.unitTlb := rfl
@[simp] theorem State.wrapF_host (f : Fld) (n : Nat) : (s.wrapF f n).host = s.host := rfl
@[simp] theorem State.wrapF_power (f : Fld) (n : Nat) : (s.wrapF f n).power = s.power := rfl
@[simp] theorem State.wrapF_rel (f : Fld) (n : Nat) : (s.wrapF f n).rel = s.rel := rfl
@[simp] theorem State.wrapF_mgmt (f : Fld) (n : Nat) : (s.wrapF f n).mgmt = s.mgmt := rfl
@[simp] theorem State.wrapF_flash (f : Fld) (n : Nat) : (s.wrapF f n).flash = s.flash := rfl
@[simp] theorem State.wrapF_mesh (f : Fld) (n : Nat) : (s.wrapF f n).mesh = s.mesh := rfl

@[simp] theorem State.setPgState_pending (pg v : Nat) : (s.setPgState pg v).pending = s.pending := rfl
@[simp] theorem State.setPgState_freeCtr (pg v : Nat) : (s.setPgState pg v).freeCtr = s.freeCtr := rfl
@[simp] theorem State.setPgState_now (pg v : Nat) : (s.setPgState pg v).now = s.now := rfl
@[simp] theorem State.setPgState_staged (pg v : Nat) : (s.setPgState pg v).staged = s.staged := rfl
@[simp] theorem State.setPgState_written1 (pg v : Nat) : (s.setPgState pg v).written1 = s.written1 := rfl
@[simp] theorem State.setPgState_reply (pg v : Nat) : (s.setPgState pg v).reply = s.reply := rfl
@[simp] theorem State.setPgState_egress (pg v : Nat) : (s.setPgState pg v).egress = s.egress := rfl
@[simp] theorem State.setPgState_orb (pg v : Nat) : (s.setPgState pg v).orb = s.orb := rfl
@[simp] theorem State.setPgState_gov (pg v : Nat) : (s.setPgState pg v).gov = s.gov := rfl
@[simp] theorem State.setPgState_therm (pg v : Nat) : (s.setPgState pg v).therm = s.therm := rfl
@[simp] theorem State.setPgState_rings (pg v : Nat) : (s.setPgState pg v).rings = s.rings := rfl
@[simp] theorem State.setPgState_cores (pg v : Nat) : (s.setPgState pg v).cores = s.cores := rfl
@[simp] theorem State.setPgState_clusters (pg v : Nat) : (s.setPgState pg v).clusters = s.clusters := rfl
@[simp] theorem State.setPgState_packets (pg v : Nat) : (s.setPgState pg v).packets = s.packets := rfl
@[simp] theorem State.setPgState_nextPkt (pg v : Nat) : (s.setPgState pg v).nextPkt = s.nextPkt := rfl
@[simp] theorem State.setPgState_links (pg v : Nat) : (s.setPgState pg v).links = s.links := rfl
@[simp] theorem State.setPgState_mtOut (pg v : Nat) : (s.setPgState pg v).mtOut = s.mtOut := rfl
@[simp] theorem State.setPgState_dram (pg v : Nat) : (s.setPgState pg v).dram = s.dram := rfl
@[simp] theorem State.setPgState_reqs (pg v : Nat) : (s.setPgState pg v).reqs = s.reqs := rfl
@[simp] theorem State.setPgState_nextTag (pg v : Nat) : (s.setPgState pg v).nextTag = s.nextTag := rfl
@[simp] theorem State.setPgState_ports (pg v : Nat) : (s.setPgState pg v).ports = s.ports := rfl
@[simp] theorem State.setPgState_cows (pg v : Nat) : (s.setPgState pg v).cows = s.cows := rfl
@[simp] theorem State.setPgState_nextCow (pg v : Nat) : (s.setPgState pg v).nextCow = s.nextCow := rfl
@[simp] theorem State.setPgState_xinvs (pg v : Nat) : (s.setPgState pg v).xinvs = s.xinvs := rfl
@[simp] theorem State.setPgState_unitTlb (pg v : Nat) : (s.setPgState pg v).unitTlb = s.unitTlb := rfl
@[simp] theorem State.setPgState_host (pg v : Nat) : (s.setPgState pg v).host = s.host := rfl
@[simp] theorem State.setPgState_power (pg v : Nat) : (s.setPgState pg v).power = s.power := rfl
@[simp] theorem State.setPgState_rel (pg v : Nat) : (s.setPgState pg v).rel = s.rel := rfl
@[simp] theorem State.setPgState_mgmt (pg v : Nat) : (s.setPgState pg v).mgmt = s.mgmt := rfl
@[simp] theorem State.setPgState_flash (pg v : Nat) : (s.setPgState pg v).flash = s.flash := rfl
@[simp] theorem State.setPgState_mesh (pg v : Nat) : (s.setPgState pg v).mesh = s.mesh := rfl

@[simp] theorem State.setCoreSt_pending (i v : Nat) : (s.setCoreSt i v).pending = s.pending := rfl
@[simp] theorem State.setCoreSt_freeCtr (i v : Nat) : (s.setCoreSt i v).freeCtr = s.freeCtr := rfl
@[simp] theorem State.setCoreSt_now (i v : Nat) : (s.setCoreSt i v).now = s.now := rfl
@[simp] theorem State.setCoreSt_staged (i v : Nat) : (s.setCoreSt i v).staged = s.staged := rfl
@[simp] theorem State.setCoreSt_written1 (i v : Nat) : (s.setCoreSt i v).written1 = s.written1 := rfl
@[simp] theorem State.setCoreSt_reply (i v : Nat) : (s.setCoreSt i v).reply = s.reply := rfl
@[simp] theorem State.setCoreSt_egress (i v : Nat) : (s.setCoreSt i v).egress = s.egress := rfl
@[simp] theorem State.setCoreSt_orb (i v : Nat) : (s.setCoreSt i v).orb = s.orb := rfl
@[simp] theorem State.setCoreSt_gov (i v : Nat) : (s.setCoreSt i v).gov = s.gov := rfl
@[simp] theorem State.setCoreSt_therm (i v : Nat) : (s.setCoreSt i v).therm = s.therm := rfl
@[simp] theorem State.setCoreSt_rings (i v : Nat) : (s.setCoreSt i v).rings = s.rings := rfl
@[simp] theorem State.setCoreSt_cores (i v : Nat) : (s.setCoreSt i v).cores = s.cores := rfl
@[simp] theorem State.setCoreSt_clusters (i v : Nat) : (s.setCoreSt i v).clusters = s.clusters := rfl
@[simp] theorem State.setCoreSt_packets (i v : Nat) : (s.setCoreSt i v).packets = s.packets := rfl
@[simp] theorem State.setCoreSt_nextPkt (i v : Nat) : (s.setCoreSt i v).nextPkt = s.nextPkt := rfl
@[simp] theorem State.setCoreSt_links (i v : Nat) : (s.setCoreSt i v).links = s.links := rfl
@[simp] theorem State.setCoreSt_mtOut (i v : Nat) : (s.setCoreSt i v).mtOut = s.mtOut := rfl
@[simp] theorem State.setCoreSt_dram (i v : Nat) : (s.setCoreSt i v).dram = s.dram := rfl
@[simp] theorem State.setCoreSt_reqs (i v : Nat) : (s.setCoreSt i v).reqs = s.reqs := rfl
@[simp] theorem State.setCoreSt_nextTag (i v : Nat) : (s.setCoreSt i v).nextTag = s.nextTag := rfl
@[simp] theorem State.setCoreSt_ports (i v : Nat) : (s.setCoreSt i v).ports = s.ports := rfl
@[simp] theorem State.setCoreSt_cows (i v : Nat) : (s.setCoreSt i v).cows = s.cows := rfl
@[simp] theorem State.setCoreSt_nextCow (i v : Nat) : (s.setCoreSt i v).nextCow = s.nextCow := rfl
@[simp] theorem State.setCoreSt_xinvs (i v : Nat) : (s.setCoreSt i v).xinvs = s.xinvs := rfl
@[simp] theorem State.setCoreSt_unitTlb (i v : Nat) : (s.setCoreSt i v).unitTlb = s.unitTlb := rfl
@[simp] theorem State.setCoreSt_host (i v : Nat) : (s.setCoreSt i v).host = s.host := rfl
@[simp] theorem State.setCoreSt_power (i v : Nat) : (s.setCoreSt i v).power = s.power := rfl
@[simp] theorem State.setCoreSt_rel (i v : Nat) : (s.setCoreSt i v).rel = s.rel := rfl
@[simp] theorem State.setCoreSt_mgmt (i v : Nat) : (s.setCoreSt i v).mgmt = s.mgmt := rfl
@[simp] theorem State.setCoreSt_flash (i v : Nat) : (s.setCoreSt i v).flash = s.flash := rfl
@[simp] theorem State.setCoreSt_mesh (i v : Nat) : (s.setCoreSt i v).mesh = s.mesh := rfl

@[simp] theorem State.advance_pending (n : Nat) : (s.advance n).pending = s.pending := rfl
@[simp] theorem State.advance_freeCtr (n : Nat) : (s.advance n).freeCtr = s.freeCtr := rfl
@[simp] theorem State.advance_regs (n : Nat) : (s.advance n).regs = s.regs := rfl
@[simp] theorem State.advance_staged (n : Nat) : (s.advance n).staged = s.staged := rfl
@[simp] theorem State.advance_written1 (n : Nat) : (s.advance n).written1 = s.written1 := rfl
@[simp] theorem State.advance_reply (n : Nat) : (s.advance n).reply = s.reply := rfl
@[simp] theorem State.advance_egress (n : Nat) : (s.advance n).egress = s.egress := rfl
@[simp] theorem State.advance_gov (n : Nat) : (s.advance n).gov = s.gov := rfl
@[simp] theorem State.advance_therm (n : Nat) : (s.advance n).therm = s.therm := rfl
@[simp] theorem State.advance_rings (n : Nat) : (s.advance n).rings = s.rings := rfl
@[simp] theorem State.advance_cores (n : Nat) : (s.advance n).cores = s.cores := rfl
@[simp] theorem State.advance_clusters (n : Nat) : (s.advance n).clusters = s.clusters := rfl
@[simp] theorem State.advance_packets (n : Nat) : (s.advance n).packets = s.packets := rfl
@[simp] theorem State.advance_nextPkt (n : Nat) : (s.advance n).nextPkt = s.nextPkt := rfl
@[simp] theorem State.advance_links (n : Nat) : (s.advance n).links = s.links := rfl
@[simp] theorem State.advance_mtOut (n : Nat) : (s.advance n).mtOut = s.mtOut := rfl
@[simp] theorem State.advance_dram (n : Nat) : (s.advance n).dram = s.dram := rfl
@[simp] theorem State.advance_reqs (n : Nat) : (s.advance n).reqs = s.reqs := rfl
@[simp] theorem State.advance_nextTag (n : Nat) : (s.advance n).nextTag = s.nextTag := rfl
@[simp] theorem State.advance_ports (n : Nat) : (s.advance n).ports = s.ports := rfl
@[simp] theorem State.advance_cows (n : Nat) : (s.advance n).cows = s.cows := rfl
@[simp] theorem State.advance_nextCow (n : Nat) : (s.advance n).nextCow = s.nextCow := rfl
@[simp] theorem State.advance_xinvs (n : Nat) : (s.advance n).xinvs = s.xinvs := rfl
@[simp] theorem State.advance_unitTlb (n : Nat) : (s.advance n).unitTlb = s.unitTlb := rfl
@[simp] theorem State.advance_host (n : Nat) : (s.advance n).host = s.host := rfl
@[simp] theorem State.advance_power (n : Nat) : (s.advance n).power = s.power := rfl
@[simp] theorem State.advance_rel (n : Nat) : (s.advance n).rel = s.rel := rfl
@[simp] theorem State.advance_mgmt (n : Nat) : (s.advance n).mgmt = s.mgmt := rfl
@[simp] theorem State.advance_flash (n : Nat) : (s.advance n).flash = s.flash := rfl
@[simp] theorem State.advance_mesh (n : Nat) : (s.advance n).mesh = s.mesh := rfl

@[simp] theorem State.advanceTo_pending (t : Nat) : (s.advanceTo t).pending = s.pending := rfl
@[simp] theorem State.advanceTo_freeCtr (t : Nat) : (s.advanceTo t).freeCtr = s.freeCtr := rfl
@[simp] theorem State.advanceTo_regs (t : Nat) : (s.advanceTo t).regs = s.regs := rfl
@[simp] theorem State.advanceTo_staged (t : Nat) : (s.advanceTo t).staged = s.staged := rfl
@[simp] theorem State.advanceTo_written1 (t : Nat) : (s.advanceTo t).written1 = s.written1 := rfl
@[simp] theorem State.advanceTo_reply (t : Nat) : (s.advanceTo t).reply = s.reply := rfl
@[simp] theorem State.advanceTo_egress (t : Nat) : (s.advanceTo t).egress = s.egress := rfl
@[simp] theorem State.advanceTo_gov (t : Nat) : (s.advanceTo t).gov = s.gov := rfl
@[simp] theorem State.advanceTo_therm (t : Nat) : (s.advanceTo t).therm = s.therm := rfl
@[simp] theorem State.advanceTo_rings (t : Nat) : (s.advanceTo t).rings = s.rings := rfl
@[simp] theorem State.advanceTo_cores (t : Nat) : (s.advanceTo t).cores = s.cores := rfl
@[simp] theorem State.advanceTo_clusters (t : Nat) : (s.advanceTo t).clusters = s.clusters := rfl
@[simp] theorem State.advanceTo_packets (t : Nat) : (s.advanceTo t).packets = s.packets := rfl
@[simp] theorem State.advanceTo_nextPkt (t : Nat) : (s.advanceTo t).nextPkt = s.nextPkt := rfl
@[simp] theorem State.advanceTo_links (t : Nat) : (s.advanceTo t).links = s.links := rfl
@[simp] theorem State.advanceTo_mtOut (t : Nat) : (s.advanceTo t).mtOut = s.mtOut := rfl
@[simp] theorem State.advanceTo_dram (t : Nat) : (s.advanceTo t).dram = s.dram := rfl
@[simp] theorem State.advanceTo_reqs (t : Nat) : (s.advanceTo t).reqs = s.reqs := rfl
@[simp] theorem State.advanceTo_nextTag (t : Nat) : (s.advanceTo t).nextTag = s.nextTag := rfl
@[simp] theorem State.advanceTo_ports (t : Nat) : (s.advanceTo t).ports = s.ports := rfl
@[simp] theorem State.advanceTo_cows (t : Nat) : (s.advanceTo t).cows = s.cows := rfl
@[simp] theorem State.advanceTo_nextCow (t : Nat) : (s.advanceTo t).nextCow = s.nextCow := rfl
@[simp] theorem State.advanceTo_xinvs (t : Nat) : (s.advanceTo t).xinvs = s.xinvs := rfl
@[simp] theorem State.advanceTo_unitTlb (t : Nat) : (s.advanceTo t).unitTlb = s.unitTlb := rfl
@[simp] theorem State.advanceTo_host (t : Nat) : (s.advanceTo t).host = s.host := rfl
@[simp] theorem State.advanceTo_power (t : Nat) : (s.advanceTo t).power = s.power := rfl
@[simp] theorem State.advanceTo_rel (t : Nat) : (s.advanceTo t).rel = s.rel := rfl
@[simp] theorem State.advanceTo_mgmt (t : Nat) : (s.advanceTo t).mgmt = s.mgmt := rfl
@[simp] theorem State.advanceTo_flash (t : Nat) : (s.advanceTo t).flash = s.flash := rfl
@[simp] theorem State.advanceTo_mesh (t : Nat) : (s.advanceTo t).mesh = s.mesh := rfl

@[simp] theorem State.setCore_pending (i : Nat) (c : CoreState) : (s.setCore i c).pending = s.pending := rfl
@[simp] theorem State.setCore_freeCtr (i : Nat) (c : CoreState) : (s.setCore i c).freeCtr = s.freeCtr := rfl
@[simp] theorem State.setCore_now (i : Nat) (c : CoreState) : (s.setCore i c).now = s.now := rfl
@[simp] theorem State.setCore_regs (i : Nat) (c : CoreState) : (s.setCore i c).regs = s.regs := rfl
@[simp] theorem State.setCore_staged (i : Nat) (c : CoreState) : (s.setCore i c).staged = s.staged := rfl
@[simp] theorem State.setCore_written1 (i : Nat) (c : CoreState) : (s.setCore i c).written1 = s.written1 := rfl
@[simp] theorem State.setCore_reply (i : Nat) (c : CoreState) : (s.setCore i c).reply = s.reply := rfl
@[simp] theorem State.setCore_egress (i : Nat) (c : CoreState) : (s.setCore i c).egress = s.egress := rfl
@[simp] theorem State.setCore_orb (i : Nat) (c : CoreState) : (s.setCore i c).orb = s.orb := rfl
@[simp] theorem State.setCore_gov (i : Nat) (c : CoreState) : (s.setCore i c).gov = s.gov := rfl
@[simp] theorem State.setCore_therm (i : Nat) (c : CoreState) : (s.setCore i c).therm = s.therm := rfl
@[simp] theorem State.setCore_rings (i : Nat) (c : CoreState) : (s.setCore i c).rings = s.rings := rfl
@[simp] theorem State.setCore_clusters (i : Nat) (c : CoreState) : (s.setCore i c).clusters = s.clusters := rfl
@[simp] theorem State.setCore_packets (i : Nat) (c : CoreState) : (s.setCore i c).packets = s.packets := rfl
@[simp] theorem State.setCore_nextPkt (i : Nat) (c : CoreState) : (s.setCore i c).nextPkt = s.nextPkt := rfl
@[simp] theorem State.setCore_links (i : Nat) (c : CoreState) : (s.setCore i c).links = s.links := rfl
@[simp] theorem State.setCore_mtOut (i : Nat) (c : CoreState) : (s.setCore i c).mtOut = s.mtOut := rfl
@[simp] theorem State.setCore_dram (i : Nat) (c : CoreState) : (s.setCore i c).dram = s.dram := rfl
@[simp] theorem State.setCore_reqs (i : Nat) (c : CoreState) : (s.setCore i c).reqs = s.reqs := rfl
@[simp] theorem State.setCore_nextTag (i : Nat) (c : CoreState) : (s.setCore i c).nextTag = s.nextTag := rfl
@[simp] theorem State.setCore_ports (i : Nat) (c : CoreState) : (s.setCore i c).ports = s.ports := rfl
@[simp] theorem State.setCore_cows (i : Nat) (c : CoreState) : (s.setCore i c).cows = s.cows := rfl
@[simp] theorem State.setCore_nextCow (i : Nat) (c : CoreState) : (s.setCore i c).nextCow = s.nextCow := rfl
@[simp] theorem State.setCore_xinvs (i : Nat) (c : CoreState) : (s.setCore i c).xinvs = s.xinvs := rfl
@[simp] theorem State.setCore_unitTlb (i : Nat) (c : CoreState) : (s.setCore i c).unitTlb = s.unitTlb := rfl
@[simp] theorem State.setCore_host (i : Nat) (c : CoreState) : (s.setCore i c).host = s.host := rfl
@[simp] theorem State.setCore_power (i : Nat) (c : CoreState) : (s.setCore i c).power = s.power := rfl
@[simp] theorem State.setCore_rel (i : Nat) (c : CoreState) : (s.setCore i c).rel = s.rel := rfl
@[simp] theorem State.setCore_mgmt (i : Nat) (c : CoreState) : (s.setCore i c).mgmt = s.mgmt := rfl
@[simp] theorem State.setCore_flash (i : Nat) (c : CoreState) : (s.setCore i c).flash = s.flash := rfl
@[simp] theorem State.setCore_mesh (i : Nat) (c : CoreState) : (s.setCore i c).mesh = s.mesh := rfl

@[simp] theorem State.setCluster_pending (i : Nat) (c : ClusterState) : (s.setCluster i c).pending = s.pending := rfl
@[simp] theorem State.setCluster_freeCtr (i : Nat) (c : ClusterState) : (s.setCluster i c).freeCtr = s.freeCtr := rfl
@[simp] theorem State.setCluster_now (i : Nat) (c : ClusterState) : (s.setCluster i c).now = s.now := rfl
@[simp] theorem State.setCluster_regs (i : Nat) (c : ClusterState) : (s.setCluster i c).regs = s.regs := rfl
@[simp] theorem State.setCluster_staged (i : Nat) (c : ClusterState) : (s.setCluster i c).staged = s.staged := rfl
@[simp] theorem State.setCluster_written1 (i : Nat) (c : ClusterState) : (s.setCluster i c).written1 = s.written1 := rfl
@[simp] theorem State.setCluster_reply (i : Nat) (c : ClusterState) : (s.setCluster i c).reply = s.reply := rfl
@[simp] theorem State.setCluster_egress (i : Nat) (c : ClusterState) : (s.setCluster i c).egress = s.egress := rfl
@[simp] theorem State.setCluster_orb (i : Nat) (c : ClusterState) : (s.setCluster i c).orb = s.orb := rfl
@[simp] theorem State.setCluster_gov (i : Nat) (c : ClusterState) : (s.setCluster i c).gov = s.gov := rfl
@[simp] theorem State.setCluster_therm (i : Nat) (c : ClusterState) : (s.setCluster i c).therm = s.therm := rfl
@[simp] theorem State.setCluster_rings (i : Nat) (c : ClusterState) : (s.setCluster i c).rings = s.rings := rfl
@[simp] theorem State.setCluster_cores (i : Nat) (c : ClusterState) : (s.setCluster i c).cores = s.cores := rfl
@[simp] theorem State.setCluster_packets (i : Nat) (c : ClusterState) : (s.setCluster i c).packets = s.packets := rfl
@[simp] theorem State.setCluster_nextPkt (i : Nat) (c : ClusterState) : (s.setCluster i c).nextPkt = s.nextPkt := rfl
@[simp] theorem State.setCluster_links (i : Nat) (c : ClusterState) : (s.setCluster i c).links = s.links := rfl
@[simp] theorem State.setCluster_mtOut (i : Nat) (c : ClusterState) : (s.setCluster i c).mtOut = s.mtOut := rfl
@[simp] theorem State.setCluster_dram (i : Nat) (c : ClusterState) : (s.setCluster i c).dram = s.dram := rfl
@[simp] theorem State.setCluster_reqs (i : Nat) (c : ClusterState) : (s.setCluster i c).reqs = s.reqs := rfl
@[simp] theorem State.setCluster_nextTag (i : Nat) (c : ClusterState) : (s.setCluster i c).nextTag = s.nextTag := rfl
@[simp] theorem State.setCluster_ports (i : Nat) (c : ClusterState) : (s.setCluster i c).ports = s.ports := rfl
@[simp] theorem State.setCluster_cows (i : Nat) (c : ClusterState) : (s.setCluster i c).cows = s.cows := rfl
@[simp] theorem State.setCluster_nextCow (i : Nat) (c : ClusterState) : (s.setCluster i c).nextCow = s.nextCow := rfl
@[simp] theorem State.setCluster_xinvs (i : Nat) (c : ClusterState) : (s.setCluster i c).xinvs = s.xinvs := rfl
@[simp] theorem State.setCluster_unitTlb (i : Nat) (c : ClusterState) : (s.setCluster i c).unitTlb = s.unitTlb := rfl
@[simp] theorem State.setCluster_host (i : Nat) (c : ClusterState) : (s.setCluster i c).host = s.host := rfl
@[simp] theorem State.setCluster_power (i : Nat) (c : ClusterState) : (s.setCluster i c).power = s.power := rfl
@[simp] theorem State.setCluster_rel (i : Nat) (c : ClusterState) : (s.setCluster i c).rel = s.rel := rfl
@[simp] theorem State.setCluster_mgmt (i : Nat) (c : ClusterState) : (s.setCluster i c).mgmt = s.mgmt := rfl
@[simp] theorem State.setCluster_flash (i : Nat) (c : ClusterState) : (s.setCluster i c).flash = s.flash := rfl
@[simp] theorem State.setCluster_mesh (i : Nat) (c : ClusterState) : (s.setCluster i c).mesh = s.mesh := rfl

@[simp] theorem State.setPort_pending (i : Nat) (p : PortState) : (s.setPort i p).pending = s.pending := rfl
@[simp] theorem State.setPort_freeCtr (i : Nat) (p : PortState) : (s.setPort i p).freeCtr = s.freeCtr := rfl
@[simp] theorem State.setPort_now (i : Nat) (p : PortState) : (s.setPort i p).now = s.now := rfl
@[simp] theorem State.setPort_regs (i : Nat) (p : PortState) : (s.setPort i p).regs = s.regs := rfl
@[simp] theorem State.setPort_staged (i : Nat) (p : PortState) : (s.setPort i p).staged = s.staged := rfl
@[simp] theorem State.setPort_written1 (i : Nat) (p : PortState) : (s.setPort i p).written1 = s.written1 := rfl
@[simp] theorem State.setPort_reply (i : Nat) (p : PortState) : (s.setPort i p).reply = s.reply := rfl
@[simp] theorem State.setPort_egress (i : Nat) (p : PortState) : (s.setPort i p).egress = s.egress := rfl
@[simp] theorem State.setPort_orb (i : Nat) (p : PortState) : (s.setPort i p).orb = s.orb := rfl
@[simp] theorem State.setPort_gov (i : Nat) (p : PortState) : (s.setPort i p).gov = s.gov := rfl
@[simp] theorem State.setPort_therm (i : Nat) (p : PortState) : (s.setPort i p).therm = s.therm := rfl
@[simp] theorem State.setPort_rings (i : Nat) (p : PortState) : (s.setPort i p).rings = s.rings := rfl
@[simp] theorem State.setPort_cores (i : Nat) (p : PortState) : (s.setPort i p).cores = s.cores := rfl
@[simp] theorem State.setPort_clusters (i : Nat) (p : PortState) : (s.setPort i p).clusters = s.clusters := rfl
@[simp] theorem State.setPort_packets (i : Nat) (p : PortState) : (s.setPort i p).packets = s.packets := rfl
@[simp] theorem State.setPort_nextPkt (i : Nat) (p : PortState) : (s.setPort i p).nextPkt = s.nextPkt := rfl
@[simp] theorem State.setPort_links (i : Nat) (p : PortState) : (s.setPort i p).links = s.links := rfl
@[simp] theorem State.setPort_mtOut (i : Nat) (p : PortState) : (s.setPort i p).mtOut = s.mtOut := rfl
@[simp] theorem State.setPort_dram (i : Nat) (p : PortState) : (s.setPort i p).dram = s.dram := rfl
@[simp] theorem State.setPort_reqs (i : Nat) (p : PortState) : (s.setPort i p).reqs = s.reqs := rfl
@[simp] theorem State.setPort_nextTag (i : Nat) (p : PortState) : (s.setPort i p).nextTag = s.nextTag := rfl
@[simp] theorem State.setPort_cows (i : Nat) (p : PortState) : (s.setPort i p).cows = s.cows := rfl
@[simp] theorem State.setPort_nextCow (i : Nat) (p : PortState) : (s.setPort i p).nextCow = s.nextCow := rfl
@[simp] theorem State.setPort_xinvs (i : Nat) (p : PortState) : (s.setPort i p).xinvs = s.xinvs := rfl
@[simp] theorem State.setPort_unitTlb (i : Nat) (p : PortState) : (s.setPort i p).unitTlb = s.unitTlb := rfl
@[simp] theorem State.setPort_host (i : Nat) (p : PortState) : (s.setPort i p).host = s.host := rfl
@[simp] theorem State.setPort_power (i : Nat) (p : PortState) : (s.setPort i p).power = s.power := rfl
@[simp] theorem State.setPort_rel (i : Nat) (p : PortState) : (s.setPort i p).rel = s.rel := rfl
@[simp] theorem State.setPort_mgmt (i : Nat) (p : PortState) : (s.setPort i p).mgmt = s.mgmt := rfl
@[simp] theorem State.setPort_flash (i : Nat) (p : PortState) : (s.setPort i p).flash = s.flash := rfl
@[simp] theorem State.setPort_mesh (i : Nat) (p : PortState) : (s.setPort i p).mesh = s.mesh := rfl

@[simp] theorem State.setRing_pending (e : Nat) (r : RingState) : (s.setRing e r).pending = s.pending := rfl
@[simp] theorem State.setRing_freeCtr (e : Nat) (r : RingState) : (s.setRing e r).freeCtr = s.freeCtr := rfl
@[simp] theorem State.setRing_now (e : Nat) (r : RingState) : (s.setRing e r).now = s.now := rfl
@[simp] theorem State.setRing_staged (e : Nat) (r : RingState) : (s.setRing e r).staged = s.staged := rfl
@[simp] theorem State.setRing_written1 (e : Nat) (r : RingState) : (s.setRing e r).written1 = s.written1 := rfl
@[simp] theorem State.setRing_reply (e : Nat) (r : RingState) : (s.setRing e r).reply = s.reply := rfl
@[simp] theorem State.setRing_egress (e : Nat) (r : RingState) : (s.setRing e r).egress = s.egress := rfl
@[simp] theorem State.setRing_orb (e : Nat) (r : RingState) : (s.setRing e r).orb = s.orb := rfl
@[simp] theorem State.setRing_gov (e : Nat) (r : RingState) : (s.setRing e r).gov = s.gov := rfl
@[simp] theorem State.setRing_therm (e : Nat) (r : RingState) : (s.setRing e r).therm = s.therm := rfl
@[simp] theorem State.setRing_cores (e : Nat) (r : RingState) : (s.setRing e r).cores = s.cores := rfl
@[simp] theorem State.setRing_clusters (e : Nat) (r : RingState) : (s.setRing e r).clusters = s.clusters := rfl
@[simp] theorem State.setRing_packets (e : Nat) (r : RingState) : (s.setRing e r).packets = s.packets := rfl
@[simp] theorem State.setRing_nextPkt (e : Nat) (r : RingState) : (s.setRing e r).nextPkt = s.nextPkt := rfl
@[simp] theorem State.setRing_links (e : Nat) (r : RingState) : (s.setRing e r).links = s.links := rfl
@[simp] theorem State.setRing_mtOut (e : Nat) (r : RingState) : (s.setRing e r).mtOut = s.mtOut := rfl
@[simp] theorem State.setRing_dram (e : Nat) (r : RingState) : (s.setRing e r).dram = s.dram := rfl
@[simp] theorem State.setRing_reqs (e : Nat) (r : RingState) : (s.setRing e r).reqs = s.reqs := rfl
@[simp] theorem State.setRing_nextTag (e : Nat) (r : RingState) : (s.setRing e r).nextTag = s.nextTag := rfl
@[simp] theorem State.setRing_ports (e : Nat) (r : RingState) : (s.setRing e r).ports = s.ports := rfl
@[simp] theorem State.setRing_cows (e : Nat) (r : RingState) : (s.setRing e r).cows = s.cows := rfl
@[simp] theorem State.setRing_nextCow (e : Nat) (r : RingState) : (s.setRing e r).nextCow = s.nextCow := rfl
@[simp] theorem State.setRing_xinvs (e : Nat) (r : RingState) : (s.setRing e r).xinvs = s.xinvs := rfl
@[simp] theorem State.setRing_unitTlb (e : Nat) (r : RingState) : (s.setRing e r).unitTlb = s.unitTlb := rfl
@[simp] theorem State.setRing_host (e : Nat) (r : RingState) : (s.setRing e r).host = s.host := rfl
@[simp] theorem State.setRing_power (e : Nat) (r : RingState) : (s.setRing e r).power = s.power := rfl
@[simp] theorem State.setRing_rel (e : Nat) (r : RingState) : (s.setRing e r).rel = s.rel := rfl
@[simp] theorem State.setRing_mgmt (e : Nat) (r : RingState) : (s.setRing e r).mgmt = s.mgmt := rfl
@[simp] theorem State.setRing_flash (e : Nat) (r : RingState) : (s.setRing e r).flash = s.flash := rfl
@[simp] theorem State.setRing_mesh (e : Nat) (r : RingState) : (s.setRing e r).mesh = s.mesh := rfl

@[simp] theorem State.addFlags_pending (i : Nat) (f : FpFlags) : (s.addFlags i f).pending = s.pending := rfl
@[simp] theorem State.addFlags_freeCtr (i : Nat) (f : FpFlags) : (s.addFlags i f).freeCtr = s.freeCtr := rfl
@[simp] theorem State.addFlags_now (i : Nat) (f : FpFlags) : (s.addFlags i f).now = s.now := rfl
@[simp] theorem State.addFlags_staged (i : Nat) (f : FpFlags) : (s.addFlags i f).staged = s.staged := rfl
@[simp] theorem State.addFlags_written1 (i : Nat) (f : FpFlags) : (s.addFlags i f).written1 = s.written1 := rfl
@[simp] theorem State.addFlags_reply (i : Nat) (f : FpFlags) : (s.addFlags i f).reply = s.reply := rfl
@[simp] theorem State.addFlags_egress (i : Nat) (f : FpFlags) : (s.addFlags i f).egress = s.egress := rfl
@[simp] theorem State.addFlags_orb (i : Nat) (f : FpFlags) : (s.addFlags i f).orb = s.orb := rfl
@[simp] theorem State.addFlags_gov (i : Nat) (f : FpFlags) : (s.addFlags i f).gov = s.gov := rfl
@[simp] theorem State.addFlags_therm (i : Nat) (f : FpFlags) : (s.addFlags i f).therm = s.therm := rfl
@[simp] theorem State.addFlags_rings (i : Nat) (f : FpFlags) : (s.addFlags i f).rings = s.rings := rfl
@[simp] theorem State.addFlags_cores (i : Nat) (f : FpFlags) : (s.addFlags i f).cores = s.cores := rfl
@[simp] theorem State.addFlags_clusters (i : Nat) (f : FpFlags) : (s.addFlags i f).clusters = s.clusters := rfl
@[simp] theorem State.addFlags_packets (i : Nat) (f : FpFlags) : (s.addFlags i f).packets = s.packets := rfl
@[simp] theorem State.addFlags_nextPkt (i : Nat) (f : FpFlags) : (s.addFlags i f).nextPkt = s.nextPkt := rfl
@[simp] theorem State.addFlags_links (i : Nat) (f : FpFlags) : (s.addFlags i f).links = s.links := rfl
@[simp] theorem State.addFlags_mtOut (i : Nat) (f : FpFlags) : (s.addFlags i f).mtOut = s.mtOut := rfl
@[simp] theorem State.addFlags_dram (i : Nat) (f : FpFlags) : (s.addFlags i f).dram = s.dram := rfl
@[simp] theorem State.addFlags_reqs (i : Nat) (f : FpFlags) : (s.addFlags i f).reqs = s.reqs := rfl
@[simp] theorem State.addFlags_nextTag (i : Nat) (f : FpFlags) : (s.addFlags i f).nextTag = s.nextTag := rfl
@[simp] theorem State.addFlags_ports (i : Nat) (f : FpFlags) : (s.addFlags i f).ports = s.ports := rfl
@[simp] theorem State.addFlags_cows (i : Nat) (f : FpFlags) : (s.addFlags i f).cows = s.cows := rfl
@[simp] theorem State.addFlags_nextCow (i : Nat) (f : FpFlags) : (s.addFlags i f).nextCow = s.nextCow := rfl
@[simp] theorem State.addFlags_xinvs (i : Nat) (f : FpFlags) : (s.addFlags i f).xinvs = s.xinvs := rfl
@[simp] theorem State.addFlags_unitTlb (i : Nat) (f : FpFlags) : (s.addFlags i f).unitTlb = s.unitTlb := rfl
@[simp] theorem State.addFlags_host (i : Nat) (f : FpFlags) : (s.addFlags i f).host = s.host := rfl
@[simp] theorem State.addFlags_power (i : Nat) (f : FpFlags) : (s.addFlags i f).power = s.power := rfl
@[simp] theorem State.addFlags_rel (i : Nat) (f : FpFlags) : (s.addFlags i f).rel = s.rel := rfl
@[simp] theorem State.addFlags_mgmt (i : Nat) (f : FpFlags) : (s.addFlags i f).mgmt = s.mgmt := rfl
@[simp] theorem State.addFlags_flash (i : Nat) (f : FpFlags) : (s.addFlags i f).flash = s.flash := rfl
@[simp] theorem State.addFlags_mesh (i : Nat) (f : FpFlags) : (s.addFlags i f).mesh = s.mesh := rfl

@[simp] theorem State.resetPage_pending (pg : Nat) (keep : Nat → Bool) : (s.resetPage pg keep).pending = s.pending := rfl
@[simp] theorem State.resetPage_freeCtr (pg : Nat) (keep : Nat → Bool) : (s.resetPage pg keep).freeCtr = s.freeCtr := rfl
@[simp] theorem State.resetPage_now (pg : Nat) (keep : Nat → Bool) : (s.resetPage pg keep).now = s.now := rfl
@[simp] theorem State.resetPage_reply (pg : Nat) (keep : Nat → Bool) : (s.resetPage pg keep).reply = s.reply := rfl
@[simp] theorem State.resetPage_egress (pg : Nat) (keep : Nat → Bool) : (s.resetPage pg keep).egress = s.egress := rfl
@[simp] theorem State.resetPage_orb (pg : Nat) (keep : Nat → Bool) : (s.resetPage pg keep).orb = s.orb := rfl
@[simp] theorem State.resetPage_gov (pg : Nat) (keep : Nat → Bool) : (s.resetPage pg keep).gov = s.gov := rfl
@[simp] theorem State.resetPage_therm (pg : Nat) (keep : Nat → Bool) : (s.resetPage pg keep).therm = s.therm := rfl
@[simp] theorem State.resetPage_rings (pg : Nat) (keep : Nat → Bool) : (s.resetPage pg keep).rings = s.rings := rfl
@[simp] theorem State.resetPage_cores (pg : Nat) (keep : Nat → Bool) : (s.resetPage pg keep).cores = s.cores := rfl
@[simp] theorem State.resetPage_clusters (pg : Nat) (keep : Nat → Bool) : (s.resetPage pg keep).clusters = s.clusters := rfl
@[simp] theorem State.resetPage_packets (pg : Nat) (keep : Nat → Bool) : (s.resetPage pg keep).packets = s.packets := rfl
@[simp] theorem State.resetPage_nextPkt (pg : Nat) (keep : Nat → Bool) : (s.resetPage pg keep).nextPkt = s.nextPkt := rfl
@[simp] theorem State.resetPage_links (pg : Nat) (keep : Nat → Bool) : (s.resetPage pg keep).links = s.links := rfl
@[simp] theorem State.resetPage_mtOut (pg : Nat) (keep : Nat → Bool) : (s.resetPage pg keep).mtOut = s.mtOut := rfl
@[simp] theorem State.resetPage_dram (pg : Nat) (keep : Nat → Bool) : (s.resetPage pg keep).dram = s.dram := rfl
@[simp] theorem State.resetPage_reqs (pg : Nat) (keep : Nat → Bool) : (s.resetPage pg keep).reqs = s.reqs := rfl
@[simp] theorem State.resetPage_nextTag (pg : Nat) (keep : Nat → Bool) : (s.resetPage pg keep).nextTag = s.nextTag := rfl
@[simp] theorem State.resetPage_ports (pg : Nat) (keep : Nat → Bool) : (s.resetPage pg keep).ports = s.ports := rfl
@[simp] theorem State.resetPage_cows (pg : Nat) (keep : Nat → Bool) : (s.resetPage pg keep).cows = s.cows := rfl
@[simp] theorem State.resetPage_nextCow (pg : Nat) (keep : Nat → Bool) : (s.resetPage pg keep).nextCow = s.nextCow := rfl
@[simp] theorem State.resetPage_xinvs (pg : Nat) (keep : Nat → Bool) : (s.resetPage pg keep).xinvs = s.xinvs := rfl
@[simp] theorem State.resetPage_unitTlb (pg : Nat) (keep : Nat → Bool) : (s.resetPage pg keep).unitTlb = s.unitTlb := rfl
@[simp] theorem State.resetPage_host (pg : Nat) (keep : Nat → Bool) : (s.resetPage pg keep).host = s.host := rfl
@[simp] theorem State.resetPage_power (pg : Nat) (keep : Nat → Bool) : (s.resetPage pg keep).power = s.power := rfl
@[simp] theorem State.resetPage_rel (pg : Nat) (keep : Nat → Bool) : (s.resetPage pg keep).rel = s.rel := rfl
@[simp] theorem State.resetPage_mgmt (pg : Nat) (keep : Nat → Bool) : (s.resetPage pg keep).mgmt = s.mgmt := rfl
@[simp] theorem State.resetPage_flash (pg : Nat) (keep : Nat → Bool) : (s.resetPage pg keep).flash = s.flash := rfl
@[simp] theorem State.resetPage_mesh (pg : Nat) (keep : Nat → Bool) : (s.resetPage pg keep).mesh = s.mesh := rfl

end Sys2Proof.Machine
end

