-- ==== Sys2Proof/Laws/Registers.lean ====
section
/-! SUPPORT. Laws of registers and fields: a field that is set reads what was set, and every other register and field is as before. -/
namespace Sys2Proof.Machine

variable (s : State)

/-! Words -/

@[simp] theorem State.word_setWord_same (a : Nat) (w : Word) : (s.setWord a w).word a = w := by
  simp [State.word, State.setWord]

theorem State.word_setWord_ne {a b : Nat} (w : Word) (h : b ≠ a) : (s.setWord a w).word b = s.word b := by
  simp [State.word, State.setWord, tabGet_tabPut_ne _ _ h]

/-- Registers depend on the register table alone. -/
theorem State.word_congr {s t : State} (h : s.regs = t.regs) (a : Nat) : s.word a = t.word a := by simp [State.word, h]
theorem State.getF_congr {s t : State} (h : s.regs = t.regs) (f : Fld) : s.getF f = t.getF f := by simp [State.getF, State.word_congr h]
theorem State.on_congr {s t : State} (h : s.regs = t.regs) (f : Fld) : s.on f = t.on f := by simp [State.on, State.getF_congr h]

/-! Fields -/

/-- A field lies in its word. -/
def Fld.fits (f : Fld) : Prop := f.lsb + f.width ≤ 32

/-- Two fields share no bit. -/
def Fld.apart (f g : Fld) : Prop := f.addr ≠ g.addr ∨ f.lsb + f.width ≤ g.lsb ∨ g.lsb + g.width ≤ f.lsb

theorem State.getF_lt (f : Fld) : s.getF f < 2 ^ f.width := bits_lt _ _ _

theorem State.getF_setF_same {f : Fld} (h : f.fits) (v : Nat) : (s.setF f v).getF f = v % 2 ^ f.width := by
  unfold State.getF State.setF
  rw [State.word_setWord_same, BitVec.toNat_ofNat, Nat.mod_eq_of_lt (setBits_lt _ _ _ _ (s.word f.addr).isLt h), bits_setBits_same]

theorem State.getF_setF_apart {f g : Fld} (hf : f.fits) (h : f.apart g) (v : Nat) : (s.setF f v).getF g = s.getF g := by
  unfold State.getF State.setF
  by_cases ha : g.addr = f.addr
  · rw [ha, State.word_setWord_same, BitVec.toNat_ofNat, Nat.mod_eq_of_lt (setBits_lt _ _ _ _ (s.word f.addr).isLt hf)]
    rcases h with h | h | h
    · exact absurd ha.symm h
    · exact bits_setBits_above _ _ _ _ _ _ h
    · exact bits_setBits_below _ _ _ _ _ _ h
  · rw [State.word_setWord_ne _ _ ha]

theorem State.word_setF_ne {f : Fld} {a : Nat} (h : a ≠ f.addr) (v : Nat) : (s.setF f v).word a = s.word a :=
  State.word_setWord_ne _ _ h

theorem State.getF_orF_same {f : Fld} (h : f.fits) (v : Nat) : (s.orF f v).getF f = Nat.lor (s.getF f) v % 2 ^ f.width :=
  State.getF_setF_same _ h _
theorem State.getF_orF_apart {f g : Fld} (hf : f.fits) (h : f.apart g) (v : Nat) : (s.orF f v).getF g = s.getF g :=
  State.getF_setF_apart _ hf h _

/-- A count holds at its field's maximum. -/
theorem State.getF_countF_same {f : Fld} (h : f.fits) (n : Nat) : (s.countF f n).getF f = satAdd (s.getF f) n (2 ^ f.width - 1) := by
  unfold State.countF
  rw [State.getF_setF_same _ h, Nat.mod_eq_of_lt]
  have := satAdd_le (s.getF f) n (2 ^ f.width - 1)
  have : 0 < 2 ^ f.width := by positivity
  omega
theorem State.getF_countF_apart {f g : Fld} (hf : f.fits) (h : f.apart g) (n : Nat) : (s.countF f n).getF g = s.getF g :=
  State.getF_setF_apart _ hf h _

theorem State.getF_wrapF_same {f : Fld} (h : f.fits) (n : Nat) : (s.wrapF f n).getF f = (s.getF f + n) % 2 ^ f.width := by
  unfold State.wrapF
  rw [State.getF_setF_same _ h, Nat.mod_mod]
theorem State.getF_wrapF_apart {f g : Fld} (hf : f.fits) (h : f.apart g) (n : Nat) : (s.wrapF f n).getF g = s.getF g :=
  State.getF_setF_apart _ hf h _

/-! Time leaves registers alone -/

@[simp] theorem State.word_advance (n a : Nat) : (s.advance n).word a = s.word a := rfl
@[simp] theorem State.getF_advance (n : Nat) (f : Fld) : (s.advance n).getF f = s.getF f := rfl
@[simp] theorem State.on_advance (n : Nat) (f : Fld) : (s.advance n).on f = s.on f := rfl
@[simp] theorem State.getF_advanceTo (t : Nat) (f : Fld) : (s.advanceTo t).getF f = s.getF f := rfl
@[simp] theorem State.on_advanceTo (t : Nat) (f : Fld) : (s.advanceTo t).on f = s.on f := rfl
@[simp] theorem State.now_advance (n : Nat) : (s.advance n).now = s.now + n := rfl
theorem State.now_advanceTo (t : Nat) : (s.advanceTo t).now = max s.now t := by simp [State.advanceTo]; omega

/-! What a refused access changes -/

/-- A refused access of a function changes only its port's record of refused accesses. -/
theorem State.filtDrop_frame (who : Requester) (a : Nat) (w : Bool) :
    ∃ l, s.filtDrop who a w = { s with regs := l } := by
  unfold State.filtDrop
  split
  · exact ⟨_, rfl⟩
  · exact ⟨s.regs, rfl⟩

/-- An Ensign's write of an implemented register is admitted, but for the header bits that no requester writes (R395, R401). -/
theorem State.admit_ensign {a n : Nat} {k : PageKind} {d : RegDesc} (b : Bool) (v : Word) (hp : s.power.pwrgd = true) (h : regAt a = some (k, n, d)) :
    s.admitted (.ensign b) a v = (s, some (0xFFFFFFFF - if a % 0x1000 = 0x8 then fixedCtrlBits k else 0)) := by
  simp [State.admitted, State.heldInReset, State.shutOut, State.mgmtView, h, hp]

/-- An Ensign's write of an address that no register has does nothing (R397). -/
theorem State.admit_ensign_none {a : Nat} (b : Bool) (v : Word) (h : regAt a = none) :
    s.admitted (.ensign b) a v = (s, none) := by
  simp [State.admitted, State.shutOut, h, State.filtDrop]

/-- The I3C path writes nothing (R395). -/
theorem State.admit_i3c (a : Nat) (v : Word) : s.admitted .i3c a v = (s, none) := by
  unfold State.admitted
  split
  · rfl
  · simp only [State.mgmtView, State.filtDrop, Bool.false_eq_true, ↓reduceIte]
    split <;> rfl

/-- A write that is one row's: admitted with every bit it needs, it has the row's effect. -/
theorem trigger_admitted {s s' : State} {who : Requester} {a need m : Nat} {v : Word} (eff : State → State)
    (h : s.admitted who a v = (s', some m)) (hm : Nat.land m need = need) : trigger s who a need v eff = .next (eff s') := by
  unfold trigger
  rw [h]
  exact if_pos hm

/-- Not admitted, it does no more than to be counted. -/
theorem trigger_refused {s s' : State} {who : Requester} {a need : Nat} {v : Word} (eff : State → State)
    (h : s.admitted who a v = (s', none)) : trigger s who a need v eff = .next s' := by
  unfold trigger
  rw [h]

/-- Every such write answers a next state. -/
theorem trigger_next (s : State) (who : Requester) (a need : Nat) (v : Word) (eff : State → State) : ∃ t, trigger s who a need v eff = .next t := by
  unfold trigger
  dsimp only
  split
  · exact ⟨_, rfl⟩
  · split <;> exact ⟨_, rfl⟩

theorem triggerM_next (s : State) (who : Requester) (a need : Nat) (v : Word) (eff : Nat → State → State) : ∃ t, triggerM s who a need v eff = .next t := by
  unfold triggerM
  dsimp only
  split
  · exact ⟨_, rfl⟩
  · split <;> exact ⟨_, rfl⟩

end Sys2Proof.Machine
end

