-- ==== Sys2Proof/Laws/Frames.lean ====
section
/-! SUPPORT. Laws of frames: what the register operations leave alone, and how frames join. -/
namespace Sys2Proof.Machine

variable {s t u : State} {p q : Nat → Prop}

theorem SameRegs.refl : SameRegs p s s := fun _ _ => rfl
theorem SameRegs.trans (h : SameRegs p s t) (k : SameRegs p t u) : SameRegs p s u := fun a n => (k a n).trans (h a n)
theorem SameRegs.weaken (h : SameRegs p s t) (k : ∀ a, p a → q a) : SameRegs q s t := fun a n => h a (fun m => n (k a m))
theorem SameRegs.of_regs (h : t.regs = s.regs) : SameRegs p s t := fun a _ => State.word_congr h a
theorem SameRegs.setWord (h : SameRegs p s t) {a : Nat} (w : Word) (k : p a) : SameRegs p s (t.setWord a w) := fun b n =>
  (State.word_setWord_ne t w (fun (e : b = a) => n (e.symm ▸ k))).trans (h b n)
theorem SameRegs.setF (h : SameRegs p s t) {f : Fld} (v : Nat) (k : p f.addr) : SameRegs p s (t.setF f v) := h.setWord _ k
theorem SameRegs.orF (h : SameRegs p s t) {f : Fld} (v : Nat) (k : p f.addr) : SameRegs p s (t.orF f v) := h.setWord _ k
theorem SameRegs.countF (h : SameRegs p s t) {f : Fld} (v : Nat) (k : p f.addr) : SameRegs p s (t.countF f v) := h.setWord _ k
theorem SameRegs.wrapF (h : SameRegs p s t) {f : Fld} (v : Nat) (k : p f.addr) : SameRegs p s (t.wrapF f v) := h.setWord _ k

theorem OnlyRegs.refl : OnlyRegs p s s := ⟨rfl, SameRegs.refl⟩
theorem OnlyRegs.setWord (h : OnlyRegs p s t) {a : Nat} (w : Word) (k : p a) : OnlyRegs p s (t.setWord a w) :=
  ⟨by rw [h.1]; rfl, h.2.setWord w k⟩
theorem OnlyRegs.setF (h : OnlyRegs p s t) {f : Fld} (v : Nat) (k : p f.addr) : OnlyRegs p s (t.setF f v) := h.setWord _ k
theorem OnlyRegs.orF (h : OnlyRegs p s t) {f : Fld} (v : Nat) (k : p f.addr) : OnlyRegs p s (t.orF f v) := h.setWord _ k
theorem OnlyRegs.countF (h : OnlyRegs p s t) {f : Fld} (v : Nat) (k : p f.addr) : OnlyRegs p s (t.countF f v) := h.setWord _ k
theorem OnlyRegs.wrapF (h : OnlyRegs p s t) {f : Fld} (v : Nat) (k : p f.addr) : OnlyRegs p s (t.wrapF f v) := h.setWord _ k

/-! Cores -/

@[simp] theorem State.core_setWord (a : Nat) (w : Word) (i : Nat) : (s.setWord a w).core i = s.core i := rfl
@[simp] theorem State.core_setF (f : Fld) (v i : Nat) : (s.setF f v).core i = s.core i := rfl
@[simp] theorem State.core_countF (f : Fld) (v i : Nat) : (s.countF f v).core i = s.core i := rfl
@[simp] theorem State.core_wrapF (f : Fld) (v i : Nat) : (s.wrapF f v).core i = s.core i := rfl
@[simp] theorem State.core_orF (f : Fld) (v i : Nat) : (s.orF f v).core i = s.core i := rfl
@[simp] theorem State.core_setCoreSt (i v j : Nat) : (s.setCoreSt i v).core j = s.core j := rfl
@[simp] theorem State.core_setCore_same (i : Nat) (c : CoreState) : (s.setCore i c).core i = c := by simp [State.core, State.setCore]
theorem State.core_setCore_ne {i j : Nat} (c : CoreState) (h : j ≠ i) : (s.setCore i c).core j = s.core j := by
  simp [State.core, State.setCore, tabGet_tabPut_ne _ _ h]
@[simp] theorem State.word_setCore (i : Nat) (c : CoreState) (a : Nat) : (s.setCore i c).word a = s.word a := rfl
@[simp] theorem State.getF_setCore (i : Nat) (c : CoreState) (f : Fld) : (s.setCore i c).getF f = s.getF f := rfl

theorem OnlyCore.refl {i : Nat} : OnlyCore i p s s := ⟨rfl, SameRegs.refl, fun _ _ => rfl⟩
theorem OnlyCore.setWord {i : Nat} (h : OnlyCore i p s t) {a : Nat} (w : Word) (k : p a) : OnlyCore i p s (t.setWord a w) :=
  ⟨by rw [h.1]; rfl, h.2.1.setWord w k, h.2.2⟩
theorem OnlyCore.setF {i : Nat} (h : OnlyCore i p s t) {f : Fld} (v : Nat) (k : p f.addr) : OnlyCore i p s (t.setF f v) := h.setWord _ k
theorem OnlyCore.countF {i : Nat} (h : OnlyCore i p s t) {f : Fld} (v : Nat) (k : p f.addr) : OnlyCore i p s (t.countF f v) := h.setWord _ k
theorem OnlyCore.setCore {i : Nat} (h : OnlyCore i p s t) (c : CoreState) : OnlyCore i p s (t.setCore i c) :=
  ⟨by rw [h.1]; rfl, fun a n => h.2.1 a n, fun j k => by rw [State.core_setCore_ne c k, h.2.2 j k]⟩

/-! Events -/

/-- Nothing but registers in `p` and the event rings has changed. -/
def OnlyEvents (p : Nat → Prop) (s t : State) : Prop :=
  t = { s with regs := t.regs, rings := t.rings } ∧ SameRegs p s t

theorem OnlyEvents.refl : OnlyEvents p s s := ⟨rfl, SameRegs.refl⟩
theorem OnlyEvents.trans (h : OnlyEvents p s t) (k : OnlyEvents p t u) : OnlyEvents p s u := ⟨by rw [k.1, h.1], h.2.trans k.2⟩
theorem OnlyEvents.weaken (h : OnlyEvents p s t) (k : ∀ a, p a → q a) : OnlyEvents q s t := ⟨h.1, h.2.weaken k⟩
theorem OnlyEvents.setWord (h : OnlyEvents p s t) {a : Nat} (w : Word) (k : p a) : OnlyEvents p s (t.setWord a w) :=
  ⟨by rw [h.1]; rfl, h.2.setWord w k⟩
theorem OnlyEvents.setF (h : OnlyEvents p s t) {f : Fld} (v : Nat) (k : p f.addr) : OnlyEvents p s (t.setF f v) := h.setWord _ k
theorem OnlyEvents.orF (h : OnlyEvents p s t) {f : Fld} (v : Nat) (k : p f.addr) : OnlyEvents p s (t.orF f v) := h.setWord _ k
theorem OnlyEvents.countF (h : OnlyEvents p s t) {f : Fld} (v : Nat) (k : p f.addr) : OnlyEvents p s (t.countF f v) := h.setWord _ k
theorem OnlyEvents.of_regs (h : OnlyRegs p s t) : OnlyEvents p s t := ⟨by rw [h.1], h.2⟩

/-- The registers of one event ring's page. -/
def onRing (e : Nat) (a : Nat) : Prop := 0x80000 + 0x1000 * e ≤ a ∧ a < 0x81000 + 0x1000 * e

theorem OnlyEvents.setRing {e : Nat} (h : OnlyEvents p s t) (r : RingState) (k : ∀ a, onRing e a → p a) : OnlyEvents p s (t.setRing e r) := by
  have h1 : OnlyEvents p s ({ t with rings := tabPut t.rings e r } : State) := ⟨by rw [h.1], h.2⟩
  exact h1.setF (f := F.EVT_STAGED_COUNT e) r.staged.length (k _ (by simp [onRing, F.EVT_STAGED_COUNT]; omega))

theorem ringKick_events (s : State) (e : Nat) : OnlyEvents (onRing e) s (s.ringKick e) := by
  unfold State.ringKick
  dsimp only
  split
  · exact .refl
  · split
    · exact (OnlyEvents.refl.setRing _ (fun _ h => h)).setF _ (by simp [onRing, F.EVT_PENDING_MASK]; omega)
    · split
      · exact .refl
      · exact OnlyEvents.refl.setRing _ (fun _ h => h)

/-- An event that reaches a ring changes that ring and its page alone (R331, R334). -/
theorem postTo_events (s : State) (e : Nat) (ev : EvRec) : OnlyEvents (onRing e) s (s.postTo e ev) := by
  unfold State.postTo
  split
  · exact .refl
  · dsimp only
    split
    · exact ((OnlyEvents.refl.setRing _ (fun _ h => h)).orF _ (by simp [onRing, F.EVT_PENDING_MASK]; omega)).countF _
        (by simp [onRing, F.EVT_FLOOD_COUNT]; omega)
    · exact (OnlyEvents.refl.setRing _ (fun _ h => h)).trans (ringKick_events _ e)

/-- A ring field names one of the 64 rings. -/
theorem ring_lt {f : Fld} (h : f.width = 6) (s : State) : s.getF f < 64 := by
  have := s.getF_lt f; rw [h] at this; exact this

theorem onRing_onRings {e a : Nat} (h : e < 64) (k : onRing e a) : onRings a := by
  unfold onRing at k; unfold onRings; omega

/-- A core's event changes an event ring alone (R331). -/
theorem postCore_events (s : State) (i : Nat) (ev : EvRec) : OnlyEvents onRings s (s.postCore i ev) := by
  unfold State.postCore
  split
  · exact .refl
  · next p _ => exact (postTo_events _ _ _).weaken (fun a k => onRing_onRings (ring_lt rfl s) k)

/-- A block's event changes an event ring alone (R331, R405). -/
theorem postBlock_events (s : State) (pg mask : Nat) : OnlyEvents onRings s (s.postBlock pg mask) := by
  unfold State.postBlock
  split
  · exact .refl
  · exact (postTo_events _ _ _).weaken (fun a k => onRing_onRings (ring_lt rfl s) k)

/-- Raising bits of a page's PG_EVT changes PG_EVT, its count and, where one is posted, an event ring (R401, R405). -/
theorem raise_events (s : State) (pg mask : Nat) : OnlyEvents (fun a => a = pg + 0x10 ∨ a = pg + 0x1C ∨ onRings a) s (s.raise pg mask) := by
  unfold State.raise
  have h1 : OnlyEvents (fun a => a = pg + 0x10 ∨ a = pg + 0x1C ∨ onRings a) s
      ((s.setWord (pg + 0x10) (BitVec.ofNat 32 (Nat.lor (s.word (pg + 0x10)).toNat mask))).countF (F.PG_EVT_COUNT_COUNT pg)
        (popcount (Nat.lor (s.word (pg + 0x10)).toNat mask - (s.word (pg + 0x10)).toNat))) :=
    (OnlyEvents.refl.setWord _ (.inl rfl)).countF _ (.inr (.inl rfl))
  dsimp only
  split
  · exact h1.trans ((postBlock_events _ _ _).weaken (fun a k => .inr (.inr k)))
  · exact h1

end Sys2Proof.Machine
end

