-- ==== Sys2Proof/Laws/Memory.lean ====
section
/-! SUPPORT. Laws of byte memory: a byte written reads what was written, every other byte is as before, and every operation keeps the canonical form. -/
namespace Sys2Proof.Machine

variable (m : Memory)

theorem Memory.read_write_same (a : Nat) (b : Byte) : (m.write a b).read a = b := by
  unfold Memory.read Memory.write
  by_cases h : b = fillAt m.fill a
  · simp only [if_pos h, tabGet_tabDel_same]; exact h.symm
  · simp only [if_neg h, tabGet_tabPut_same]

theorem Memory.read_write_ne {a c : Nat} (b : Byte) (h : c ≠ a) : (m.write a b).read c = m.read c := by
  unfold Memory.read Memory.write
  by_cases h' : b = fillAt m.fill a
  · simp only [if_pos h', tabGet_tabDel_ne _ h]
  · simp only [if_neg h', tabGet_tabPut_ne _ _ h]

/-- Bytes outside the written run are as before. -/
theorem Memory.read_writeL_out (l : List Byte) (a c : Nat) (h : c < a ∨ a + l.length ≤ c) : (m.writeL a l).read c = m.read c := by
  induction l generalizing m a with
  | nil => rfl
  | cons b t ih =>
    simp only [List.length_cons] at h
    simp only [Memory.writeL]
    rw [ih (m.write a b) (a + 1) (by omega), Memory.read_write_ne m b (by omega)]

/-- Bytes of the written run read what was written. -/
theorem Memory.read_writeL_in (l : List Byte) (a k : Nat) (b : Byte) (h : l[k]? = some b) : (m.writeL a l).read (a + k) = b := by
  induction l generalizing m a k with
  | nil => simp at h
  | cons x t ih =>
    simp only [Memory.writeL]
    cases k with
    | zero =>
      simp only [List.getElem?_cons_zero, Option.some.injEq] at h
      rw [Memory.read_writeL_out _ t (a + 1) (a + 0) (by omega), Nat.add_zero, Memory.read_write_same, h]
    | succ k =>
      simp only [List.getElem?_cons_succ] at h
      have := ih (m.write a x) (a + 1) k h
      rwa [show a + (k + 1) = a + 1 + k by omega]

@[simp] theorem Memory.fill_write (a : Nat) (b : Byte) : (m.write a b).fill = m.fill := rfl

theorem Memory.wf_iff : m.wf = true ↔ tabSorted m.cells = true ∧ ∀ e ∈ m.cells, e.2 ≠ fillAt m.fill e.1 := by
  simp [Memory.wf]

theorem mem_tabDel {α : Type} {t : Tab α} {n : Nat} {e : Nat × α} (h : e ∈ tabDel t n) : e ∈ t := by
  induction t with
  | nil => exact h
  | cons f t ih =>
    obtain ⟨k, v⟩ := f
    unfold tabDel at h
    split at h
    · exact List.mem_cons_of_mem _ (ih h)
    · rcases List.mem_cons.mp h with h | h
      · exact h ▸ List.mem_cons_self
      · exact List.mem_cons_of_mem _ (ih h)

theorem mem_tabPut_entry {α : Type} {t : Tab α} {n : Nat} {v : α} {e : Nat × α} (h : e ∈ tabPut t n v) : e = (n, v) ∨ e ∈ t := by
  induction t with
  | nil => simpa [tabPut] using h
  | cons f t ih =>
    obtain ⟨k, w⟩ := f
    unfold tabPut at h
    split at h
    · rcases List.mem_cons.mp h with h | h
      · exact .inl h
      · exact .inr h
    · split at h
      · rcases List.mem_cons.mp h with h | h
        · exact .inl h
        · exact .inr (List.mem_cons_of_mem _ h)
      · rcases List.mem_cons.mp h with h | h
        · exact .inr (h ▸ List.mem_cons_self)
        · rcases ih h with h | h
          · exact .inl h
          · exact .inr (List.mem_cons_of_mem _ h)

/-- A write keeps the canonical form. -/
theorem Memory.wf_write (a : Nat) (b : Byte) (h : m.wf = true) : (m.write a b).wf = true := by
  rw [Memory.wf_iff] at *
  unfold Memory.write
  by_cases hb : b = fillAt m.fill a
  · simp only [if_pos hb]
    exact ⟨tabSorted_tabDel _ _ h.1, fun e he => h.2 e (mem_tabDel he)⟩
  · simp only [if_neg hb]
    refine ⟨tabSorted_tabPut _ _ _ h.1, fun e he => ?_⟩
    rcases mem_tabPut_entry he with rfl | he
    · exact hb
    · exact h.2 e he

theorem Memory.wf_writeL (l : List Byte) (a : Nat) (h : m.wf = true) : (m.writeL a l).wf = true := by
  induction l generalizing m a with
  | nil => exact h
  | cons b t ih => exact ih _ _ (m.wf_write a b h)

/-- A refill keeps the canonical form: no byte of the range stays listed. -/
theorem Memory.wf_refill (lo hi : Nat) (g : Option Nat) (h : m.wf = true) : (m.refill lo hi g).wf = true := by
  rw [Memory.wf_iff] at *
  refine ⟨tabSorted_filter _ _ h.1, fun e he => ?_⟩
  simp only [Memory.refill, List.mem_filter, Bool.or_eq_true, decide_eq_true_eq] at he
  have : fillAt (m.refill lo hi g).fill e.1 = fillAt m.fill e.1 := by
    simp only [Memory.refill, fillAt]
    rw [if_neg (by omega)]
  rw [this]
  exact h.2 e he.1

/-- Marks of codeword bits that differ are no part of the canonical form. -/
theorem Memory.wf_flips (f : Tab Nat) (h : m.wf = true) : ({ m with flips := f } : Memory).wf = true := h

theorem Memory.wf_foldl_write (l : List (Nat × Byte)) (h : m.wf = true) : (l.foldl (fun m e => m.write e.1 e.2) m).wf = true := by
  induction l generalizing m with
  | nil => exact h
  | cons e t ih => exact ih _ (m.wf_write e.1 e.2 h)

end Sys2Proof.Machine
end

