-- ==== Sys2Proof/Laws/PerInstr.lean ====
section
/-! SUPPORT. Laws per command: a well-formed command names a core site that the part has (R23). One lemma per constructor. -/
namespace Sys2Proof

/-- The core, or the core site, a command names (R23). -/
def Instr.siteOf : Instr → Option Nat
  | .registerWrite _ _ _ _ _ => none
  | .readClearCounter _ _ _ _ => none
  | .orbitTimerExpiry => none
  | .otickEdge _ => none
  | .otickMiss => none
  | .stopOrbits _ _ => none
  | .startOrbits _ _ => none
  | .tickSourceChange _ _ => none
  | .countLoad _ _ => none
  | .actionArm _ _ _ => none
  | .actionDisarm _ _ _ => none
  | .serviceSliceStart => none
  | .linkPhaseRecentre _ _ _ => none
  | .halyardTsvRecentre _ _ _ => none
  | .thermalSensorTrim _ _ _ => none
  | .calibrationComplete _ _ _ => none
  | .nsRollover => none
  | .ppsEdge _ => none
  | .ppsMiss => none
  | .secLoad _ _ => none
  | .timebaseSnapshotRead _ => none
  | .energyTotalRead _ => none
  | .mxwld core _ _ => some core
  | .mxpass core _ _ => some core
  | .mxbunt core _ _ => some core
  | .mxidle core _ _ => some core
  | .mxmark core _ _ => some core
  | .mxmarkDone core _ => some core
  | .weightLoadStart core _ => some core
  | .weightLoadComplete core _ _ => some core
  | .passStart core _ _ => some core
  | .passComplete core _ _ => some core
  | .rampDownStart core _ => some core
  | .rampStepExpiry core _ => some core
  | .rampUpStart core _ => some core
  | .transitionAdmit core _ _ => some core
  | .ctnop core _ => some core
  | .ctli core _ => some core
  | .ctadd core _ => some core
  | .ctloop core _ => some core
  | .ctbr core _ => some core
  | .ctid core _ => some core
  | .ctevt core _ => some core
  | .ctberth core _ => some core
  | .berthComplete core => some core
  | .programStart core _ => some core
  | .programFetchComplete core => some core
  | .sywait core _ => some core
  | .sywaitSatisfied core _ => some core
  | .sysig core _ => some core
  | .syfence core _ => some core
  | .syfenceSatisfied core _ => some core
  | .syset core _ => some core
  | .vadd core _ => some core
  | .vsub core _ => some core
  | .vmul core _ => some core
  | .vfma core _ => some core
  | .vfms core _ => some core
  | .vmax core _ => some core
  | .vmin core _ => some core
  | .vabs core _ => some core
  | .vneg core _ => some core
  | .vcmplt core _ => some core
  | .vcmpeq core _ => some core
  | .vsel core _ => some core
  | .vbci core _ => some core
  | .vexp2 core _ => some core
  | .vlog2 core _ => some core
  | .vrcp core _ => some core
  | .vrsq core _ => some core
  | .vsqrt core _ => some core
  | .vtanh core _ => some core
  | .vredsum core _ => some core
  | .vredmax core _ => some core
  | .vld core _ => some core
  | .vst core _ => some core
  | .vldb core _ => some core
  | .vmark core _ => some core
  | .vmarkDone core => some core
  | .stld core _ => some core
  | .stst core _ => some core
  | .stpf core _ => some core
  | .stmark core _ => some core
  | .stmarkDone core => some core
  | .streamComplete core _ => some core
  | .coreFaulted core _ => some core
  | .watchdogHang core => some core
  | .voyageLaunch _ core _ => some core
  | .voyageAbort _ core _ => some core
  | .localStoreSplitChange _ core _ => some core
  | .packetHop _ => none
  | .tallyAdd _ => none
  | .frameSend _ _ _ => none
  | .frameReceive _ _ _ _ => none
  | .linkEnable _ _ _ => none
  | .linkDisable _ _ _ => none
  | .sidebandUp _ => none
  | .sbTimeout _ => none
  | .mainbandTrained _ _ _ => none
  | .mbTrainTimeout _ => none
  | .ident _ _ _ _ => none
  | .identityTimeout _ => none
  | .capabilityRecord _ _ => none
  | .paramTimeout _ => none
  | .laneFailure _ => none
  | .retrain _ _ _ => none
  | .retrainComplete _ => none
  | .retrainTimeout _ => none
  | .probe _ _ _ => none
  | .linkDelayMeasured _ => none
  | .mrd _ _ _ _ _ => none
  | .mwr _ _ _ _ _ _ => none
  | .mwrb _ _ _ _ _ _ _ => none
  | .msig _ _ _ _ => none
  | .mevt _ _ _ => none
  | .hrd _ => none
  | .hwr _ => none
  | .halyardRequestComplete site _ => some site
  | .expansionComplete site _ => some site
  | .hrsp _ => none
  | .hack _ => none
  | .agedRemoteGrant site => some site
  | .rowIdleClose site _ => some site
  | .refreshDue site _ => some site
  | .refreshPayback site _ => some site
  | .refreshComplete site _ => some site
  | .hcopy _ => none
  | .bkcast core _ => some core
  | .bksetk core _ => some core
  | .bkmark core _ => some core
  | .bkmarkDone core => some core
  | .bkcmd _ => none
  | .bksetkPacket _ => none
  | .bkdone _ => none
  | .waveStart site => some site
  | .engineStepComplete site _ _ => some site
  | .patrolScrubDue site => some site
  | .scrubStepStart site => some site
  | .lineFillReturn _ => none
  | .missAdmit _ => none
  | .crds _ => none
  | .cclaim _ => none
  | .cfill _ => none
  | .cwb _ => none
  | .cinv _ => none
  | .crecall _ => none
  | .catom _ => none
  | .cdata _ => none
  | .cgrant _ => none
  | .ciack _ => none
  | .cwbr _ => none
  | .cack _ => none
  | .invalRo _ _ _ => none
  | .wbAll _ _ _ => none
  | .cacheCommandComplete _ => none
  | .xinv _ _ _ => none
  | .xinvDone _ => none
  | .censusRead _ _ _ => none
  | .censusInc _ _ _ => none
  | .censusDec _ _ _ => none
  | .censusSet _ _ _ => none
  | .censusLock _ _ _ => none
  | .censusDecunlock _ _ _ => none
  | .censusUnlock _ _ _ => none
  | .censusOpComplete _ => none
  | .freeTailAdvance _ _ _ => none
  | .freePageWaitExpiry _ => none
  | .energySample _ _ _ => none
  | .powerWaveStart => none
  | .gateSegmentClose _ _ => none
  | .currentRegionTrip _ _ => none
  | .sensePointSample _ _ _ => none
  | .domainFault _ _ => none
  | .vinWarning _ _ => none
  | .vinAboveWarning _ => none
  | .releaseQualified => none
  | .waveResume => none
  | .vinBelowReset _ _ => none
  | .fieldFault _ _ => none
  | .governorWindow => none
  | .energyCtrlWrite _ _ => none
  | .freqRequest _ _ _ => none
  | .setpointReached _ => none
  | .stoppedFrequencyChange _ => none
  | .pcapAssert _ _ => none
  | .pcapRelease _ => none
  | .thermalSensorSample _ _ _ => none
  | .energyForecast _ => none
  | .coolreqPeriod => none
  | .coolreqDutyTimeout => none
  | .doorbell _ _ _ => none
  | .workOrderDispatch _ => none
  | .nop _ => none
  | .launch _ => none
  | .copy _ => none
  | .signal _ => none
  | .write _ => none
  | .event _ => none
  | .workOrderComplete _ => none
  | .queueResume _ _ _ => none
  | .queueEnable _ _ _ => none
  | .bar2Read _ _ _ _ => none
  | .bar2Write _ _ _ _ => none
  | .flr _ => none
  | .perstRelease _ _ _ => none
  | .hostPortReset _ => none
  | .mgmt _ _ _ => none
  | .partitionRowsWrite _ _ _ _ => none
  | .partitionEnable _ _ _ => none
  | .quiesceReq _ _ _ => none
  | .partitionReset _ _ _ => none
  | .clusterReset _ _ _ => none
  | .coreReset _ core _ => some core
  | .eventRecordWritten _ => none
  | .eventHeadAdvance _ _ _ => none
  | .msixHoldoffExpiry _ => none
  | .eventEnableWrite _ _ _ => none
  | .powerGood _ => none
  | .pwrgdFall _ => none
  | .vsbPowerOn _ _ => none
  | .vsbLoss _ => none
  | .auxSupplyFault _ => none
  | .resetAll _ _ _ => none
  | .shutdown _ _ _ => none
  | .forceCold _ _ => none
  | .ensResetA _ _ => none
  | .ensResetB _ _ => none
  | .ensignWatchdogExpiry _ => none
  | .ensignHeartbeat _ _ => none
  | .stewardTimeout _ => none
  | .stewardless _ => none
  | .ensignClaim _ _ => none
  | .ensignRoleGiveUp _ => none
  | .refclkLoss _ _ => none
  | .refclkSelect _ _ => none
  | .driverEclipse _ _ _ _ => none
  | .ghostFlit core => some core
  | .bankRetire _ _ _ _ => none
  | .portFail _ _ _ _ => none
  | .assign _ _ _ => none
  | .release _ _ _ => none
  | .testFlipArm _ _ => none
  | .bistAll _ _ => none
  | .bistRow _ _ => none
  | .bistLink _ _ => none
  | .bistDone _ _ _ => none
  | .scanOpenRequest _ _ => none
  | .jtagInstruction _ => none
  | .scanSequenceStart => none
  | .getInfo _ _ => none
  | .fwBegin _ _ => none
  | .fwWrite _ _ => none
  | .fwVerify _ _ => none
  | .fwActivate _ _ => none
  | .fwAbort _ _ => none
  | .mailboxCommandComplete _ _ => none
  | .getVersion _ => none
  | .getCapabilities _ => none
  | .negotiateAlgorithms _ => none
  | .getDigests _ => none
  | .getCertificate _ _ _ _ => none
  | .challenge _ _ _ => none
  | .getMeasurements _ _ _ _ => none
  | .doeDiscovery _ _ => none
  | .setEndpointId _ => none
  | .entdaa _ => none
  | .setdasa _ _ => none
  | .getSensorReading _ => none
  | .setPowerCap _ => none
  | .setCapOrbit _ => none
  | .setMinDuty _ => none
  | .requestUpdate => none
  | .flashLockTimeout _ => none
  | .refclkRestored _ => none
  | .vinAboveReset _ _ => none
  | .auxSupplyInRegulation _ => none
  | .hostCompletion _ _ _ => none
  | .atsInvalidation _ _ _ _ _ => none
  | .reservedInstruction core _ => some core
  | .vxInstructionRetire core _ _ _ => some core
  | .activateFirmware _ _ => none

end Sys2Proof

namespace Sys2Proof.Laws.Sites
set_option Elab.async false

/-- A well-formed command names one of the 1,088 core sites (R23). -/
def Statement (i : Instr) : Prop :=
  i.wellFormed = true → ∀ n ∈ i.siteOf, n < 1088

theorem registerWrite (who : Requester) (addr : RegAddr) (size : Nat) (value : Word64) (sets : Nat) : Statement (.registerWrite who addr size value sets) := fun _ => nofun
theorem readClearCounter (who : Requester) (addr : RegAddr) (size : Nat) (coincident : Nat) : Statement (.readClearCounter who addr size coincident) := fun _ => nofun
theorem orbitTimerExpiry : Statement .orbitTimerExpiry := fun _ => nofun
theorem otickEdge (dt : Nat) : Statement (.otickEdge dt) := fun _ => nofun
theorem otickMiss : Statement .otickMiss := fun _ => nofun
theorem stopOrbits (who : Requester) (value : Word) : Statement (.stopOrbits who value) := fun _ => nofun
theorem startOrbits (who : Requester) (value : Word) : Statement (.startOrbits who value) := fun _ => nofun
theorem tickSourceChange (who : Requester) (value : Word) : Statement (.tickSourceChange who value) := fun _ => nofun
theorem countLoad (who : Requester) (value : Word) : Statement (.countLoad who value) := fun _ => nofun
theorem actionArm (who : Requester) (entry : Nat) (value : Word) : Statement (.actionArm who entry value) := fun _ => nofun
theorem actionDisarm (who : Requester) (entry : Nat) (value : Word) : Statement (.actionDisarm who entry value) := fun _ => nofun
theorem serviceSliceStart : Statement .serviceSliceStart := fun _ => nofun
theorem linkPhaseRecentre (ens : Nat) (link : Nat) (cycles : Nat) : Statement (.linkPhaseRecentre ens link cycles) := fun _ => nofun
theorem halyardTsvRecentre (ens : Nat) (row : Nat) (cycles : Nat) : Statement (.halyardTsvRecentre ens row cycles) := fun _ => nofun
theorem thermalSensorTrim (ens : Nat) (tower : Nat) (cycles : Nat) : Statement (.thermalSensorTrim ens tower cycles) := fun _ => nofun
theorem calibrationComplete (kind : Nat) (target : Nat) (failed : List Nat) : Statement (.calibrationComplete kind target failed) := fun _ => nofun
theorem nsRollover : Statement .nsRollover := fun _ => nofun
theorem ppsEdge (dt : Nat) : Statement (.ppsEdge dt) := fun _ => nofun
theorem ppsMiss : Statement .ppsMiss := fun _ => nofun
theorem secLoad (who : Requester) (value : Word) : Statement (.secLoad who value) := fun _ => nofun
theorem timebaseSnapshotRead (who : Requester) : Statement (.timebaseSnapshotRead who) := fun _ => nofun
theorem energyTotalRead (who : Requester) : Statement (.energyTotalRead who) := fun _ => nofun
theorem mxwld (core : Nat) (word : Word64) (time : MxWhen) : Statement (.mxwld core word time) := fun h _ e => Option.some.inj e ▸ of_decide_eq_true (Bool.and_eq_true_iff.mp h).1
theorem mxpass (core : Nat) (word : Word64) (time : MxWhen) : Statement (.mxpass core word time) := fun h _ e => Option.some.inj e ▸ of_decide_eq_true (Bool.and_eq_true_iff.mp h).1
theorem mxbunt (core : Nat) (word : Word64) (time : MxWhen) : Statement (.mxbunt core word time) := fun h _ e => Option.some.inj e ▸ of_decide_eq_true (Bool.and_eq_true_iff.mp h).1
theorem mxidle (core : Nat) (word : Word64) (time : MxWhen) : Statement (.mxidle core word time) := fun h _ e => Option.some.inj e ▸ of_decide_eq_true (Bool.and_eq_true_iff.mp h).1
theorem mxmark (core : Nat) (word : Word64) (time : MxWhen) : Statement (.mxmark core word time) := fun h _ e => Option.some.inj e ▸ of_decide_eq_true (Bool.and_eq_true_iff.mp h).1
theorem mxmarkDone (core : Nat) (time : MxWhen) : Statement (.mxmarkDone core time) := fun h _ e => Option.some.inj e ▸ of_decide_eq_true h
theorem weightLoadStart (core : Nat) (time : MxWhen) : Statement (.weightLoadStart core time) := fun h _ e => Option.some.inj e ▸ of_decide_eq_true h
theorem weightLoadComplete (core : Nat) (quad : Nat) (time : MxWhen) : Statement (.weightLoadComplete core quad time) := fun h _ e => Option.some.inj e ▸ of_decide_eq_true (Bool.and_eq_true_iff.mp h).1
theorem passStart (core : Nat) (quad : Nat) (time : MxWhen) : Statement (.passStart core quad time) := fun h _ e => Option.some.inj e ▸ of_decide_eq_true (Bool.and_eq_true_iff.mp h).1
theorem passComplete (core : Nat) (quad : Nat) (time : MxWhen) : Statement (.passComplete core quad time) := fun h _ e => Option.some.inj e ▸ of_decide_eq_true (Bool.and_eq_true_iff.mp h).1
theorem rampDownStart (core : Nat) (time : MxWhen) : Statement (.rampDownStart core time) := fun h _ e => Option.some.inj e ▸ of_decide_eq_true h
theorem rampStepExpiry (core : Nat) (time : MxWhen) : Statement (.rampStepExpiry core time) := fun h _ e => Option.some.inj e ▸ of_decide_eq_true h
theorem rampUpStart (core : Nat) (time : MxWhen) : Statement (.rampUpStart core time) := fun h _ e => Option.some.inj e ▸ of_decide_eq_true h
theorem transitionAdmit (core : Nat) (kind : Nat) (time : MxWhen) : Statement (.transitionAdmit core kind time) := fun h _ e => Option.some.inj e ▸ of_decide_eq_true (Bool.and_eq_true_iff.mp h).1
theorem ctnop (core : Nat) (word : Word64) : Statement (.ctnop core word) := fun h _ e => Option.some.inj e ▸ of_decide_eq_true (Bool.and_eq_true_iff.mp h).1
theorem ctli (core : Nat) (word : Word64) : Statement (.ctli core word) := fun h _ e => Option.some.inj e ▸ of_decide_eq_true (Bool.and_eq_true_iff.mp h).1
theorem ctadd (core : Nat) (word : Word64) : Statement (.ctadd core word) := fun h _ e => Option.some.inj e ▸ of_decide_eq_true (Bool.and_eq_true_iff.mp h).1
theorem ctloop (core : Nat) (word : Word64) : Statement (.ctloop core word) := fun h _ e => Option.some.inj e ▸ of_decide_eq_true (Bool.and_eq_true_iff.mp h).1
theorem ctbr (core : Nat) (word : Word64) : Statement (.ctbr core word) := fun h _ e => Option.some.inj e ▸ of_decide_eq_true (Bool.and_eq_true_iff.mp h).1
theorem ctid (core : Nat) (word : Word64) : Statement (.ctid core word) := fun h _ e => Option.some.inj e ▸ of_decide_eq_true (Bool.and_eq_true_iff.mp h).1
theorem ctevt (core : Nat) (word : Word64) : Statement (.ctevt core word) := fun h _ e => Option.some.inj e ▸ of_decide_eq_true (Bool.and_eq_true_iff.mp h).1
theorem ctberth (core : Nat) (word : Word64) : Statement (.ctberth core word) := fun h _ e => Option.some.inj e ▸ of_decide_eq_true (Bool.and_eq_true_iff.mp h).1
theorem berthComplete (core : Nat) : Statement (.berthComplete core) := fun h _ e => Option.some.inj e ▸ of_decide_eq_true h
theorem programStart (core : Nat) (stall : Nat) : Statement (.programStart core stall) := fun h _ e => Option.some.inj e ▸ of_decide_eq_true h
theorem programFetchComplete (core : Nat) : Statement (.programFetchComplete core) := fun h _ e => Option.some.inj e ▸ of_decide_eq_true h
theorem sywait (core : Nat) (word : Word64) : Statement (.sywait core word) := fun h _ e => Option.some.inj e ▸ of_decide_eq_true (Bool.and_eq_true_iff.mp h).1
theorem sywaitSatisfied (core : Nat) (cycles : Nat) : Statement (.sywaitSatisfied core cycles) := fun h _ e => Option.some.inj e ▸ of_decide_eq_true h
theorem sysig (core : Nat) (word : Word64) : Statement (.sysig core word) := fun h _ e => Option.some.inj e ▸ of_decide_eq_true (Bool.and_eq_true_iff.mp h).1
theorem syfence (core : Nat) (word : Word64) : Statement (.syfence core word) := fun h _ e => Option.some.inj e ▸ of_decide_eq_true (Bool.and_eq_true_iff.mp h).1
theorem syfenceSatisfied (core : Nat) (cycles : Nat) : Statement (.syfenceSatisfied core cycles) := fun h _ e => Option.some.inj e ▸ of_decide_eq_true h
theorem syset (core : Nat) (word : Word64) : Statement (.syset core word) := fun h _ e => Option.some.inj e ▸ of_decide_eq_true (Bool.and_eq_true_iff.mp h).1
theorem vadd (core : Nat) (word : Word64) : Statement (.vadd core word) := fun h _ e => Option.some.inj e ▸ of_decide_eq_true (Bool.and_eq_true_iff.mp h).1
theorem vsub (core : Nat) (word : Word64) : Statement (.vsub core word) := fun h _ e => Option.some.inj e ▸ of_decide_eq_true (Bool.and_eq_true_iff.mp h).1
theorem vmul (core : Nat) (word : Word64) : Statement (.vmul core word) := fun h _ e => Option.some.inj e ▸ of_decide_eq_true (Bool.and_eq_true_iff.mp h).1
theorem vfma (core : Nat) (word : Word64) : Statement (.vfma core word) := fun h _ e => Option.some.inj e ▸ of_decide_eq_true (Bool.and_eq_true_iff.mp h).1
theorem vfms (core : Nat) (word : Word64) : Statement (.vfms core word) := fun h _ e => Option.some.inj e ▸ of_decide_eq_true (Bool.and_eq_true_iff.mp h).1
theorem vmax (core : Nat) (word : Word64) : Statement (.vmax core word) := fun h _ e => Option.some.inj e ▸ of_decide_eq_true (Bool.and_eq_true_iff.mp h).1
theorem vmin (core : Nat) (word : Word64) : Statement (.vmin core word) := fun h _ e => Option.some.inj e ▸ of_decide_eq_true (Bool.and_eq_true_iff.mp h).1
theorem vabs (core : Nat) (word : Word64) : Statement (.vabs core word) := fun h _ e => Option.some.inj e ▸ of_decide_eq_true (Bool.and_eq_true_iff.mp h).1
theorem vneg (core : Nat) (word : Word64) : Statement (.vneg core word) := fun h _ e => Option.some.inj e ▸ of_decide_eq_true (Bool.and_eq_true_iff.mp h).1
theorem vcmplt (core : Nat) (word : Word64) : Statement (.vcmplt core word) := fun h _ e => Option.some.inj e ▸ of_decide_eq_true (Bool.and_eq_true_iff.mp h).1
theorem vcmpeq (core : Nat) (word : Word64) : Statement (.vcmpeq core word) := fun h _ e => Option.some.inj e ▸ of_decide_eq_true (Bool.and_eq_true_iff.mp h).1
theorem vsel (core : Nat) (word : Word64) : Statement (.vsel core word) := fun h _ e => Option.some.inj e ▸ of_decide_eq_true (Bool.and_eq_true_iff.mp h).1
theorem vbci (core : Nat) (word : Word64) : Statement (.vbci core word) := fun h _ e => Option.some.inj e ▸ of_decide_eq_true (Bool.and_eq_true_iff.mp h).1
theorem vexp2 (core : Nat) (word : Word64) : Statement (.vexp2 core word) := fun h _ e => Option.some.inj e ▸ of_decide_eq_true (Bool.and_eq_true_iff.mp h).1
theorem vlog2 (core : Nat) (word : Word64) : Statement (.vlog2 core word) := fun h _ e => Option.some.inj e ▸ of_decide_eq_true (Bool.and_eq_true_iff.mp h).1
theorem vrcp (core : Nat) (word : Word64) : Statement (.vrcp core word) := fun h _ e => Option.some.inj e ▸ of_decide_eq_true (Bool.and_eq_true_iff.mp h).1
theorem vrsq (core : Nat) (word : Word64) : Statement (.vrsq core word) := fun h _ e => Option.some.inj e ▸ of_decide_eq_true (Bool.and_eq_true_iff.mp h).1
theorem vsqrt (core : Nat) (word : Word64) : Statement (.vsqrt core word) := fun h _ e => Option.some.inj e ▸ of_decide_eq_true (Bool.and_eq_true_iff.mp h).1
theorem vtanh (core : Nat) (word : Word64) : Statement (.vtanh core word) := fun h _ e => Option.some.inj e ▸ of_decide_eq_true (Bool.and_eq_true_iff.mp h).1
theorem vredsum (core : Nat) (word : Word64) : Statement (.vredsum core word) := fun h _ e => Option.some.inj e ▸ of_decide_eq_true (Bool.and_eq_true_iff.mp h).1
theorem vredmax (core : Nat) (word : Word64) : Statement (.vredmax core word) := fun h _ e => Option.some.inj e ▸ of_decide_eq_true (Bool.and_eq_true_iff.mp h).1
theorem vld (core : Nat) (word : Word64) : Statement (.vld core word) := fun h _ e => Option.some.inj e ▸ of_decide_eq_true (Bool.and_eq_true_iff.mp h).1
theorem vst (core : Nat) (word : Word64) : Statement (.vst core word) := fun h _ e => Option.some.inj e ▸ of_decide_eq_true (Bool.and_eq_true_iff.mp h).1
theorem vldb (core : Nat) (word : Word64) : Statement (.vldb core word) := fun h _ e => Option.some.inj e ▸ of_decide_eq_true (Bool.and_eq_true_iff.mp h).1
theorem vmark (core : Nat) (word : Word64) : Statement (.vmark core word) := fun h _ e => Option.some.inj e ▸ of_decide_eq_true (Bool.and_eq_true_iff.mp h).1
theorem vmarkDone (core : Nat) : Statement (.vmarkDone core) := fun h _ e => Option.some.inj e ▸ of_decide_eq_true h
theorem stld (core : Nat) (word : Word64) : Statement (.stld core word) := fun h _ e => Option.some.inj e ▸ of_decide_eq_true (Bool.and_eq_true_iff.mp h).1
theorem stst (core : Nat) (word : Word64) : Statement (.stst core word) := fun h _ e => Option.some.inj e ▸ of_decide_eq_true (Bool.and_eq_true_iff.mp h).1
theorem stpf (core : Nat) (word : Word64) : Statement (.stpf core word) := fun h _ e => Option.some.inj e ▸ of_decide_eq_true (Bool.and_eq_true_iff.mp h).1
theorem stmark (core : Nat) (word : Word64) : Statement (.stmark core word) := fun h _ e => Option.some.inj e ▸ of_decide_eq_true (Bool.and_eq_true_iff.mp h).1
theorem stmarkDone (core : Nat) : Statement (.stmarkDone core) := fun h _ e => Option.some.inj e ▸ of_decide_eq_true h
theorem streamComplete (core : Nat) (sid : Nat) : Statement (.streamComplete core sid) := fun h _ e => Option.some.inj e ▸ of_decide_eq_true h
theorem coreFaulted (core : Nat) (held : Nat) : Statement (.coreFaulted core held) := fun h _ e => Option.some.inj e ▸ of_decide_eq_true h
theorem watchdogHang (core : Nat) : Statement (.watchdogHang core) := fun h _ e => Option.some.inj e ▸ of_decide_eq_true h
theorem voyageLaunch (who : Requester) (core : Nat) (value : Word) : Statement (.voyageLaunch who core value) := fun h _ e => Option.some.inj e ▸ of_decide_eq_true (Bool.and_eq_true_iff.mp h).2
theorem voyageAbort (who : Requester) (core : Nat) (value : Word) : Statement (.voyageAbort who core value) := fun h _ e => Option.some.inj e ▸ of_decide_eq_true (Bool.and_eq_true_iff.mp h).2
theorem localStoreSplitChange (who : Requester) (core : Nat) (value : Word) : Statement (.localStoreSplitChange who core value) := fun h _ e => Option.some.inj e ▸ of_decide_eq_true (Bool.and_eq_true_iff.mp h).2
theorem packetHop (id : Nat) : Statement (.packetHop id) := fun _ => nofun
theorem tallyAdd (id : Nat) : Statement (.tallyAdd id) := fun _ => nofun
theorem frameSend (link : Nat) (toB : Bool) (stamp : Nat) : Statement (.frameSend link toB stamp) := fun _ => nofun
theorem frameReceive (link : Nat) (toB : Bool) (flips : List Nat) (stamp : Nat) : Statement (.frameReceive link toB flips stamp) := fun _ => nofun
theorem linkEnable (who : Requester) (link : Nat) (value : Word) : Statement (.linkEnable who link value) := fun _ => nofun
theorem linkDisable (who : Requester) (link : Nat) (value : Word) : Statement (.linkDisable who link value) := fun _ => nofun
theorem sidebandUp (link : Nat) : Statement (.sidebandUp link) := fun _ => nofun
theorem sbTimeout (link : Nat) : Statement (.sbTimeout link) := fun _ => nofun
theorem mainbandTrained (link : Nat) (fromRecord : Bool) (repaired : Nat) : Statement (.mainbandTrained link fromRecord repaired) := fun _ => nofun
theorem mbTrainTimeout (link : Nat) : Statement (.mbTrainTimeout link) := fun _ => nofun
theorem ident (link : Nat) (io : Nat) (seenA : Nat) (seenB : Nat) : Statement (.ident link io seenA seenB) := fun _ => nofun
theorem identityTimeout (die : Nat) : Statement (.identityTimeout die) := fun _ => nofun
theorem capabilityRecord (link : Nat) (record : List Nat) : Statement (.capabilityRecord link record) := fun _ => nofun
theorem paramTimeout (link : Nat) : Statement (.paramTimeout link) := fun _ => nofun
theorem laneFailure (link : Nat) : Statement (.laneFailure link) := fun _ => nofun
theorem retrain (who : Requester) (link : Nat) (value : Word) : Statement (.retrain who link value) := fun _ => nofun
theorem retrainComplete (link : Nat) : Statement (.retrainComplete link) := fun _ => nofun
theorem retrainTimeout (link : Nat) : Statement (.retrainTimeout link) := fun _ => nofun
theorem probe (who : Requester) (link : Nat) (value : Word) : Statement (.probe who link value) := fun _ => nofun
theorem linkDelayMeasured (link : Nat) : Statement (.linkDelayMeasured link) := fun _ => nofun
theorem mrd (die : Nat) (win : Nat) (tag : Nat) (len : Nat) (addr : Nat) : Statement (.mrd die win tag len addr) := fun _ => nofun
theorem mwr (die : Nat) (win : Nat) (tag : Nat) (len : Nat) (addr : Nat) (data : List Byte) : Statement (.mwr die win tag len addr data) := fun _ => nofun
theorem mwrb (die : Nat) (win : Nat) (tag : Nat) (len : Nat) (addr : Nat) (data : List Byte) (mask : Nat) : Statement (.mwrb die win tag len addr data mask) := fun _ => nofun
theorem msig (die : Nat) (win : Nat) (addr : Nat) (count : Nat) : Statement (.msig die win addr count) := fun _ => nofun
theorem mevt (die : Nat) (win : Nat) (code : Nat) : Statement (.mevt die win code) := fun _ => nofun
theorem hrd (id : Nat) : Statement (.hrd id) := fun _ => nofun
theorem hwr (id : Nat) : Statement (.hwr id) := fun _ => nofun
theorem halyardRequestComplete (site : Nat) (req : Nat) : Statement (.halyardRequestComplete site req) := fun h _ e => Option.some.inj e ▸ of_decide_eq_true h
theorem expansionComplete (site : Nat) (slot : Nat) : Statement (.expansionComplete site slot) := fun h _ e => Option.some.inj e ▸ of_decide_eq_true h
theorem hrsp (id : Nat) : Statement (.hrsp id) := fun _ => nofun
theorem hack (id : Nat) : Statement (.hack id) := fun _ => nofun
theorem agedRemoteGrant (site : Nat) : Statement (.agedRemoteGrant site) := fun h _ e => Option.some.inj e ▸ of_decide_eq_true h
theorem rowIdleClose (site : Nat) (bank : Nat) : Statement (.rowIdleClose site bank) := fun h _ e => Option.some.inj e ▸ of_decide_eq_true (Bool.and_eq_true_iff.mp h).1
theorem refreshDue (site : Nat) (bank : Nat) : Statement (.refreshDue site bank) := fun h _ e => Option.some.inj e ▸ of_decide_eq_true (Bool.and_eq_true_iff.mp h).1
theorem refreshPayback (site : Nat) (bank : Nat) : Statement (.refreshPayback site bank) := fun h _ e => Option.some.inj e ▸ of_decide_eq_true (Bool.and_eq_true_iff.mp h).1
theorem refreshComplete (site : Nat) (bank : Nat) : Statement (.refreshComplete site bank) := fun h _ e => Option.some.inj e ▸ of_decide_eq_true (Bool.and_eq_true_iff.mp h).1
theorem hcopy (id : Nat) : Statement (.hcopy id) := fun _ => nofun
theorem bkcast (core : Nat) (word : Word64) : Statement (.bkcast core word) := fun h _ e => Option.some.inj e ▸ of_decide_eq_true (Bool.and_eq_true_iff.mp h).1
theorem bksetk (core : Nat) (word : Word64) : Statement (.bksetk core word) := fun h _ e => Option.some.inj e ▸ of_decide_eq_true (Bool.and_eq_true_iff.mp h).1
theorem bkmark (core : Nat) (word : Word64) : Statement (.bkmark core word) := fun h _ e => Option.some.inj e ▸ of_decide_eq_true (Bool.and_eq_true_iff.mp h).1
theorem bkmarkDone (core : Nat) : Statement (.bkmarkDone core) := fun h _ e => Option.some.inj e ▸ of_decide_eq_true h
theorem bkcmd (id : Nat) : Statement (.bkcmd id) := fun _ => nofun
theorem bksetkPacket (id : Nat) : Statement (.bksetkPacket id) := fun _ => nofun
theorem bkdone (id : Nat) : Statement (.bkdone id) := fun _ => nofun
theorem waveStart (site : Nat) : Statement (.waveStart site) := fun h _ e => Option.some.inj e ▸ of_decide_eq_true h
theorem engineStepComplete (site : Nat) (bank : Nat) (cycles : Nat) : Statement (.engineStepComplete site bank cycles) := fun h _ e => Option.some.inj e ▸ of_decide_eq_true (Bool.and_eq_true_iff.mp h).1
theorem patrolScrubDue (site : Nat) : Statement (.patrolScrubDue site) := fun h _ e => Option.some.inj e ▸ of_decide_eq_true h
theorem scrubStepStart (site : Nat) : Statement (.scrubStepStart site) := fun h _ e => Option.some.inj e ▸ of_decide_eq_true h
theorem lineFillReturn (id : Nat) : Statement (.lineFillReturn id) := fun _ => nofun
theorem missAdmit (clu : Nat) : Statement (.missAdmit clu) := fun _ => nofun
theorem crds (id : Nat) : Statement (.crds id) := fun _ => nofun
theorem cclaim (id : Nat) : Statement (.cclaim id) := fun _ => nofun
theorem cfill (id : Nat) : Statement (.cfill id) := fun _ => nofun
theorem cwb (id : Nat) : Statement (.cwb id) := fun _ => nofun
theorem cinv (id : Nat) : Statement (.cinv id) := fun _ => nofun
theorem crecall (id : Nat) : Statement (.crecall id) := fun _ => nofun
theorem catom (id : Nat) : Statement (.catom id) := fun _ => nofun
theorem cdata (id : Nat) : Statement (.cdata id) := fun _ => nofun
theorem cgrant (id : Nat) : Statement (.cgrant id) := fun _ => nofun
theorem ciack (id : Nat) : Statement (.ciack id) := fun _ => nofun
theorem cwbr (id : Nat) : Statement (.cwbr id) := fun _ => nofun
theorem cack (id : Nat) : Statement (.cack id) := fun _ => nofun
theorem invalRo (who : Requester) (clu : Nat) (value : Word) : Statement (.invalRo who clu value) := fun _ => nofun
theorem wbAll (who : Requester) (clu : Nat) (value : Word) : Statement (.wbAll who clu value) := fun _ => nofun
theorem cacheCommandComplete (clu : Nat) : Statement (.cacheCommandComplete clu) := fun _ => nofun
theorem xinv (who : Requester) (part : Nat) (value : Word) : Statement (.xinv who part value) := fun _ => nofun
theorem xinvDone (n : Nat) : Statement (.xinvDone n) := fun _ => nofun
theorem censusRead (who : Requester) (part : Nat) (value : Word) : Statement (.censusRead who part value) := fun _ => nofun
theorem censusInc (who : Requester) (part : Nat) (value : Word) : Statement (.censusInc who part value) := fun _ => nofun
theorem censusDec (who : Requester) (part : Nat) (value : Word) : Statement (.censusDec who part value) := fun _ => nofun
theorem censusSet (who : Requester) (part : Nat) (value : Word) : Statement (.censusSet who part value) := fun _ => nofun
theorem censusLock (who : Requester) (part : Nat) (value : Word) : Statement (.censusLock who part value) := fun _ => nofun
theorem censusDecunlock (who : Requester) (part : Nat) (value : Word) : Statement (.censusDecunlock who part value) := fun _ => nofun
theorem censusUnlock (who : Requester) (part : Nat) (value : Word) : Statement (.censusUnlock who part value) := fun _ => nofun
theorem censusOpComplete (part : Nat) : Statement (.censusOpComplete part) := fun _ => nofun
theorem freeTailAdvance (who : Requester) (part : Nat) (value : Word) : Statement (.freeTailAdvance who part value) := fun _ => nofun
theorem freePageWaitExpiry (cow : Nat) : Statement (.freePageWaitExpiry cow) := fun _ => nofun
theorem energySample (links : Nat) (mem : Nat) (comp : Nat) : Statement (.energySample links mem comp) := fun _ => nofun
theorem powerWaveStart : Statement .powerWaveStart := fun _ => nofun
theorem gateSegmentClose (ovr : List Nat) (rails : List (Nat × Nat)) : Statement (.gateSegmentClose ovr rails) := fun _ => nofun
theorem currentRegionTrip (clu : Nat) (region : Nat) : Statement (.currentRegionTrip clu region) := fun _ => nofun
theorem sensePointSample (volts : List (Nat × List Nat)) (vin : List Nat) (iin : List Nat) : Statement (.sensePointSample volts vin iin) := fun _ => nofun
theorem domainFault (fabric : Bool) (n : Nat) : Statement (.domainFault fabric n) := fun _ => nofun
theorem vinWarning (dt : Nat) (field : Nat) : Statement (.vinWarning dt field) := fun _ => nofun
theorem vinAboveWarning (dt : Nat) : Statement (.vinAboveWarning dt) := fun _ => nofun
theorem releaseQualified : Statement .releaseQualified := fun _ => nofun
theorem waveResume : Statement .waveResume := fun _ => nofun
theorem vinBelowReset (dt : Nat) (field : Nat) : Statement (.vinBelowReset dt field) := fun _ => nofun
theorem fieldFault (fields : List Nat) (boot : BootIn) : Statement (.fieldFault fields boot) := fun _ => nofun
theorem governorWindow : Statement .governorWindow := fun _ => nofun
theorem energyCtrlWrite (who : Requester) (value : Word) : Statement (.energyCtrlWrite who value) := fun _ => nofun
theorem freqRequest (who : Requester) (die : Nat) (value : Word) : Statement (.freqRequest who die value) := fun _ => nofun
theorem setpointReached (cluster : Nat) : Statement (.setpointReached cluster) := fun _ => nofun
theorem stoppedFrequencyChange (die : Nat) : Statement (.stoppedFrequencyChange die) := fun _ => nofun
theorem pcapAssert (dt : Nat) (low : Nat) : Statement (.pcapAssert dt low) := fun _ => nofun
theorem pcapRelease (dt : Nat) : Statement (.pcapRelease dt) := fun _ => nofun
theorem thermalSensorSample (cores : List (Nat × Nat)) (dram : List (Nat × Nat)) (caps : List (Nat × Nat)) : Statement (.thermalSensorSample cores dram caps) := fun _ => nofun
theorem energyForecast (energy : List Nat) : Statement (.energyForecast energy) := fun _ => nofun
theorem coolreqPeriod : Statement .coolreqPeriod := fun _ => nofun
theorem coolreqDutyTimeout : Statement .coolreqDutyTimeout := fun _ => nofun
theorem doorbell (fn : Nat) (queue : Nat) (value : Word) : Statement (.doorbell fn queue value) := fun _ => nofun
theorem workOrderDispatch (queue : Nat) : Statement (.workOrderDispatch queue) := fun _ => nofun
theorem nop (queue : Nat) : Statement (.nop queue) := fun _ => nofun
theorem launch (order : Nat) : Statement (.launch order) := fun _ => nofun
theorem copy (order : Nat) : Statement (.copy order) := fun _ => nofun
theorem signal (order : Nat) : Statement (.signal order) := fun _ => nofun
theorem write (order : Nat) : Statement (.write order) := fun _ => nofun
theorem event (queue : Nat) : Statement (.event queue) := fun _ => nofun
theorem workOrderComplete (order : Nat) : Statement (.workOrderComplete order) := fun _ => nofun
theorem queueResume (who : Requester) (queue : Nat) (value : Word) : Statement (.queueResume who queue value) := fun _ => nofun
theorem queueEnable (who : Requester) (queue : Nat) (value : Word) : Statement (.queueEnable who queue value) := fun _ => nofun
theorem bar2Read (fn : Nat) (tag : Nat) (off : Nat) (len : Nat) : Statement (.bar2Read fn tag off len) := fun _ => nofun
theorem bar2Write (fn : Nat) (off : Nat) (data : List Byte) (mask : Nat) : Statement (.bar2Write fn off data mask) := fun _ => nofun
theorem flr (fn : Nat) : Statement (.flr fn) := fun _ => nofun
theorem perstRelease (port : Nat) (rate : Nat) (x8 : Bool) : Statement (.perstRelease port rate x8) := fun _ => nofun
theorem hostPortReset (port : Nat) : Statement (.hostPortReset port) := fun _ => nofun
theorem mgmt (who : Requester) (port : Nat) (value : Word) : Statement (.mgmt who port value) := fun _ => nofun
theorem partitionRowsWrite (who : Requester) (part : Nat) (high : Bool) (value : Word) : Statement (.partitionRowsWrite who part high value) := fun _ => nofun
theorem partitionEnable (who : Requester) (part : Nat) (value : Word) : Statement (.partitionEnable who part value) := fun _ => nofun
theorem quiesceReq (who : Requester) (part : Nat) (value : Word) : Statement (.quiesceReq who part value) := fun _ => nofun
theorem partitionReset (who : Requester) (part : Nat) (value : Word) : Statement (.partitionReset who part value) := fun _ => nofun
theorem clusterReset (who : Requester) (clu : Nat) (value : Word) : Statement (.clusterReset who clu value) := fun _ => nofun
theorem coreReset (who : Requester) (core : Nat) (value : Word) : Statement (.coreReset who core value) := fun h _ e => Option.some.inj e ▸ of_decide_eq_true (Bool.and_eq_true_iff.mp h).2
theorem eventRecordWritten (ring : Nat) : Statement (.eventRecordWritten ring) := fun _ => nofun
theorem eventHeadAdvance (who : Requester) (ring : Nat) (value : Word) : Statement (.eventHeadAdvance who ring value) := fun _ => nofun
theorem msixHoldoffExpiry (ring : Nat) : Statement (.msixHoldoffExpiry ring) := fun _ => nofun
theorem eventEnableWrite (who : Requester) (page : Nat) (value : Word) : Statement (.eventEnableWrite who page value) := fun _ => nofun
theorem powerGood (boot : BootIn) : Statement (.powerGood boot) := fun _ => nofun
theorem pwrgdFall (dt : Nat) : Statement (.pwrgdFall dt) := fun _ => nofun
theorem vsbPowerOn (strap : Nat) (boot : BootIn) : Statement (.vsbPowerOn strap boot) := fun _ => nofun
theorem vsbLoss (dt : Nat) : Statement (.vsbLoss dt) := fun _ => nofun
theorem auxSupplyFault (dt : Nat) : Statement (.auxSupplyFault dt) := fun _ => nofun
theorem resetAll (who : Requester) (value : Word) (boot : BootIn) : Statement (.resetAll who value boot) := fun _ => nofun
theorem shutdown (who : Requester) (value : Word) (meets : ShutIn) : Statement (.shutdown who value meets) := fun _ => nofun
theorem forceCold (who : Requester) (value : Word) : Statement (.forceCold who value) := fun _ => nofun
theorem ensResetA (who : Requester) (value : Word) : Statement (.ensResetA who value) := fun _ => nofun
theorem ensResetB (who : Requester) (value : Word) : Statement (.ensResetB who value) := fun _ => nofun
theorem ensignWatchdogExpiry (ens : Nat) : Statement (.ensignWatchdogExpiry ens) := fun _ => nofun
theorem ensignHeartbeat (ens : Nat) (die : Nat) : Statement (.ensignHeartbeat ens die) := fun _ => nofun
theorem stewardTimeout (die : Nat) : Statement (.stewardTimeout die) := fun _ => nofun
theorem stewardless (die : Nat) : Statement (.stewardless die) := fun _ => nofun
theorem ensignClaim (ens : Nat) (die : Nat) : Statement (.ensignClaim ens die) := fun _ => nofun
theorem ensignRoleGiveUp (dt : Nat) : Statement (.ensignRoleGiveUp dt) := fun _ => nofun
theorem refclkLoss (ref : Bool) (die : Nat) : Statement (.refclkLoss ref die) := fun _ => nofun
theorem refclkSelect (who : Requester) (value : Word) : Statement (.refclkSelect who value) := fun _ => nofun
theorem driverEclipse (who : Requester) (die : Nat) (index : Nat) (value : Word) : Statement (.driverEclipse who die index value) := fun _ => nofun
theorem ghostFlit (core : Nat) : Statement (.ghostFlit core) := fun h _ e => Option.some.inj e ▸ of_decide_eq_true h
theorem bankRetire (who : Requester) (die : Nat) (index : Nat) (value : Word) : Statement (.bankRetire who die index value) := fun _ => nofun
theorem portFail (who : Requester) (die : Nat) (index : Nat) (value : Word) : Statement (.portFail who die index value) := fun _ => nofun
theorem assign (who : Requester) (clu : Nat) (value : Word) : Statement (.assign who clu value) := fun _ => nofun
theorem release (who : Requester) (clu : Nat) (value : Word) : Statement (.release who clu value) := fun _ => nofun
theorem testFlipArm (who : Requester) (value : Word) : Statement (.testFlipArm who value) := fun _ => nofun
theorem bistAll (who : Requester) (value : Word) : Statement (.bistAll who value) := fun _ => nofun
theorem bistRow (who : Requester) (value : Word) : Statement (.bistRow who value) := fun _ => nofun
theorem bistLink (who : Requester) (value : Word) : Statement (.bistLink who value) := fun _ => nofun
theorem bistDone (sites : List (Nat × Nat)) (others : List (Nat × Nat)) (ms : Nat) : Statement (.bistDone sites others ms) := fun _ => nofun
theorem scanOpenRequest (who : Requester) (value : Word) : Statement (.scanOpenRequest who value) := fun _ => nofun
theorem jtagInstruction (instr : JtagInstr) : Statement (.jtagInstruction instr) := fun _ => nofun
theorem scanSequenceStart : Statement .scanSequenceStart := fun _ => nofun
theorem getInfo (who : Requester) (value : Word) : Statement (.getInfo who value) := fun _ => nofun
theorem fwBegin (who : Requester) (value : Word) : Statement (.fwBegin who value) := fun _ => nofun
theorem fwWrite (who : Requester) (value : Word) : Statement (.fwWrite who value) := fun _ => nofun
theorem fwVerify (who : Requester) (value : Word) : Statement (.fwVerify who value) := fun _ => nofun
theorem fwActivate (who : Requester) (value : Word) : Statement (.fwActivate who value) := fun _ => nofun
theorem fwAbort (who : Requester) (value : Word) : Statement (.fwAbort who value) := fun _ => nofun
theorem mailboxCommandComplete (outcome : Nat) (version : Nat) : Statement (.mailboxCommandComplete outcome version) := fun _ => nofun
theorem getVersion (via : Nat) : Statement (.getVersion via) := fun _ => nofun
theorem getCapabilities (via : Nat) : Statement (.getCapabilities via) := fun _ => nofun
theorem negotiateAlgorithms (via : Nat) : Statement (.negotiateAlgorithms via) := fun _ => nofun
theorem getDigests (via : Nat) : Statement (.getDigests via) := fun _ => nofun
theorem getCertificate (via : Nat) (slot : Nat) (off : Nat) (len : Nat) : Statement (.getCertificate via slot off len) := fun _ => nofun
theorem challenge (via : Nat) (slot : Nat) (nonce : Nat) : Statement (.challenge via slot nonce) := fun _ => nofun
theorem getMeasurements (via : Nat) (index : Nat) (signed : Bool) (nonce : Nat) : Statement (.getMeasurements via index signed nonce) := fun _ => nofun
theorem doeDiscovery (port : Nat) (index : Nat) : Statement (.doeDiscovery port index) := fun _ => nofun
theorem setEndpointId (eid : Nat) : Statement (.setEndpointId eid) := fun _ => nofun
theorem entdaa (addr : Nat) : Statement (.entdaa addr) := fun _ => nofun
theorem setdasa (static : Nat) (addr : Nat) : Statement (.setdasa static addr) := fun _ => nofun
theorem getSensorReading (sensor : Nat) : Statement (.getSensorReading sensor) := fun _ => nofun
theorem setPowerCap (watts : Nat) : Statement (.setPowerCap watts) := fun _ => nofun
theorem setCapOrbit (stamp : Nat) : Statement (.setCapOrbit stamp) := fun _ => nofun
theorem setMinDuty (percent : Nat) : Statement (.setMinDuty percent) := fun _ => nofun
theorem requestUpdate : Statement .requestUpdate := fun _ => nofun
theorem flashLockTimeout (die : Nat) : Statement (.flashLockTimeout die) := fun _ => nofun
theorem refclkRestored (ref : Bool) : Statement (.refclkRestored ref) := fun _ => nofun
theorem vinAboveReset (dt : Nat) (field : Nat) : Statement (.vinAboveReset dt field) := fun _ => nofun
theorem auxSupplyInRegulation (boot : BootIn) : Statement (.auxSupplyInRegulation boot) := fun _ => nofun
theorem hostCompletion (tag : Nat) (ok : Bool) (data : List Byte) : Statement (.hostCompletion tag ok data) := fun _ => nofun
theorem atsInvalidation (port : Nat) (fn : Nat) (addr : Nat) (pages : Nat) (tag : Nat) : Statement (.atsInvalidation port fn addr pages tag) := fun _ => nofun
theorem reservedInstruction (core : Nat) (word : Word64) : Statement (.reservedInstruction core word) := fun h _ e => Option.some.inj e ▸ of_decide_eq_true (Bool.and_eq_true_iff.mp h).1
theorem vxInstructionRetire (core : Nat) (slot : Nat) (cycle : Nat) (banks : List BankCycle) : Statement (.vxInstructionRetire core slot cycle banks) := fun h _ e => Option.some.inj e ▸ of_decide_eq_true h
theorem activateFirmware (verified : Bool) (version : Nat) : Statement (.activateFirmware verified version) := fun _ => nofun

end Sys2Proof.Laws.Sites
end

