-- ==== Sys2Proof/Tests/Slice0.lean ====
section
/-! SUPPORT. Tests: for each statement, a state and operands that meet its hypotheses, and what one command then leaves; the well-formedness checks. Expected values are worked from the rules of spec/. -/
namespace Sys2Proof.Machine

/-- A state with fields set. -/
def State.setFs (s : State) (l : List (Fld × Nat)) : State := l.foldl (fun s e => s.setF e.1 e.2) s

namespace Tests
set_option maxRecDepth 10000
set_option Elab.async false

/-! Helpers: an outcome's state, small states, words of instructions -/

/-- The outcome is a next state, of which `p` holds. -/
def gives (o : Out) (p : State → Bool) : Bool :=
  match o with
  | .next t => p t
  | _ => false

/-- The state after reset, PWRGD high. -/
def rst : State := { State.reset with power := { State.reset.power with pwrgd := true } }
/-- That state with fields set. -/
def st (l : List (Fld × Nat)) : State := rst.setFs l

/-- The word of a class, with an opcode in bits [59:56] and the bits below. -/
def word4 (cls op low : Nat) : Word64 := BitVec.ofNat 64 (cls * 2 ^ 60 + op * 2 ^ 56 + low)

/-- Core 0 runs a program and has done nothing else. -/
def coreRuns (prog : List Word64) (c : CoreState) (l : List (Fld × Nat)) : State :=
  ((st l).setCoreSt 0 coreRunning).setCore 0 { c with prog := prog }

/-! Matrix engine (R90 to R112) -/

/-- MXWLD of granule 0, E4M3, every quadrant. -/
def wWld : Word64 := word4 1 1 (0xF * 2 ^ 34)
/-- MXPASS from granule 0 to granule 1024, one row, E4M3, taking up the waiting weights. -/
def wPass : Word64 := word4 1 2 (1024 * 2 ^ 26 + 2 ^ 11 + 0xF * 2 ^ 7)
def wBunt : Word64 := word4 1 3 (7 * 2 ^ 40)
def wIdle : Word64 := word4 1 4 0
def wMark : Word64 := word4 1 5 63
/-- MXPASS without SWAP: FULL has no active weights, so R110 forbids it. -/
def wBad : Word64 := word4 1 2 (1024 * 2 ^ 26 + 0xF * 2 ^ 7)
def oPass : MxOp := .pass 0 1024 1 0 false true 0xF false 0

def mxCore (m : MxState) : CoreState := { CoreState.fresh with mx := m }
def mxAt (w : Word64) (m : MxState) : State := coreRuns [w, w] (mxCore m) []
/-- A cycle without freezes and contests, and an engine whose time has come to one. -/
def when_ (c : Nat) : MxWhen := ⟨c, [], []⟩
def mxOn (c : Nat) : MxState := { MxState.fresh with started := true, clock := c }
/-- A tile loaded from cycle 0, and a quadrant that holds it waiting. -/
def tile0 (loaded : Bool) : Tile := ⟨0, [], 0, loaded⟩
def quadW (loaded : Bool) : Quad := { Quad.fresh with waiting := some (tile0 loaded), issWaiting := [0] }
def mFull : MxState := { mxOn 9 with queue := List.replicate 8 (0, .mark 1) }
def mWait (c : Nat) (loaded : Bool) : MxState := { mxOn c with quads := [(0, quadW loaded)] }
def mPass (c : Nat) : MxState := { mWait c true with queue := [(0, oPass)], issued := 1 }

theorem test_mx_words : mxDecode wWld = some (.wld 0 0 0xF) ∧ mxDecode wPass = some oPass ∧ mxDecode wBunt = some (.bunt 7) ∧ mxDecode wMark = some (.mark 63) := by decide +kernel
/-- What MxIssue supposes, for a word of opcode `op`, with room in the queue or not. -/
def mxIssueHyp (op : Nat) (w : Word64) (m : MxState) (room legal : Bool) : Bool :=
  (mxAt w m).mxPowered 0 && m.started && m.clock == 9 && (mxAt w m).issueOk 0 w == room && decide ((mxAt w m).getF (F.CORE_PC_PC 0) + 1 < ((mxAt w m).core 0).prog.length) &&
  opIs w 1 op && decide (m.queue.length < 8) == room && mxLegal (mxAt w m) 0 w == legal
theorem test_MxIssue_wld : mxIssueHyp 1 wWld (mxOn 9) true true ∧
    gives (exec (.mxwld 0 wWld (when_ 9)) (mxAt wWld (mxOn 9))) (fun t => (t.core 0).mx.loads == [⟨0, 0, 0xF, 0xF⟩] && t.getF (F.CORE_PC_PC 0) == 1) := by decide +kernel
theorem test_MxIssue_pass : mxIssueHyp 2 wPass (mWait 9 true) true true ∧
    gives (exec (.mxpass 0 wPass (when_ 9)) (mxAt wPass (mWait 9 true))) (fun t => (t.core 0).mx.queue == [(0, oPass)]) := by decide +kernel
theorem test_MxIssue_bunt : mxIssueHyp 3 wBunt (mxOn 9) true true ∧
    gives (exec (.mxbunt 0 wBunt (when_ 9)) (mxAt wBunt (mxOn 9))) (fun t => (t.core 0).mx.gap == .bunt 7 false && (t.core 0).mx.queue == []) := by decide +kernel
theorem test_MxIssue_idle : mxIssueHyp 4 wIdle (mxOn 9) true true ∧
    gives (exec (.mxidle 0 wIdle (when_ 9)) (mxAt wIdle (mxOn 9))) (fun t => (t.core 0).mx.gap == .idle false) := by decide +kernel
theorem test_MxIssue_mark : mxIssueHyp 5 wMark (mxOn 9) true true ∧
    gives (exec (.mxmark 0 wMark (when_ 9)) (mxAt wMark (mxOn 9))) (fun t => (t.core 0).mx.queue == [(0, .mark 63)]) := by decide +kernel
theorem test_MxIssue_full : mxIssueHyp 5 wMark mFull false true ∧
    gives (exec (.mxmark 0 wMark (when_ 9)) (mxAt wMark mFull)) (fun t => t == mxAt wMark mFull) := by decide +kernel
theorem test_MxIssue_illegal : mxIssueHyp 2 wBad (mWait 9 true) true false ∧
    gives (exec (.mxpass 0 wBad (when_ 9)) (mxAt wBad (mWait 9 true))) (fun t => (t.core 0).fault == some ⟨causeMx, 0, 0, 0⟩) := by decide +kernel

def mLoad : MxState := { mxOn 9 with loads := [⟨0, 0, 0xF, 0xF⟩] }
theorem test_MxWeights_start : mxQuads 0 0xF = [0] ∧ (mLoad.quad 0).waiting = none ∧ (mLoad.quad 0).loadFree ≤ mLoad.clock ∧ (mLoad.quad 0).setFree ≤ mLoad.flow ∧
    gives (exec (.weightLoadStart 0 (when_ 9)) (mxAt wWld mLoad))
      (fun t => (((t.core 0).mx.quad 0).waiting.map (fun x => (x.start, x.loaded))) == some (9, false) && (t.core 0).mx.loads == []) ∧
    gives (exec (.weightLoadStart 0 (when_ 9)) (mxAt wWld (mxOn 9))) (fun t => t == mxAt wWld (mxOn 9)) := by decide +kernel
/-- R96: a load of 64 cycles begun in cycle 0 has ended with cycle 63, not with cycle 62. -/
theorem test_MxWeights_complete : (tile0 false).start + mxLw 0 0 ≤ 63 + 1 ∧
    gives (exec (.weightLoadComplete 0 0 (when_ 63)) (mxAt wWld (mWait 63 false))) (fun t => ((t.core 0).mx.quad 0).waiting == some (tile0 true)) ∧
    gives (exec (.weightLoadComplete 0 0 (when_ 62)) (mxAt wWld (mWait 62 false))) (fun t => ((t.core 0).mx.quad 0).waiting == some (tile0 false)) := by decide +kernel
def mMark : MxState := { mWait 5 true with queue := [(0, .mark 63)] }
theorem test_MxWeights_mark : (mxAt wMark mMark).getF (tallyFld 0 63) = 0 ∧ mMark.quiet = true ∧
    gives (exec (.mxmarkDone 0 (when_ 5)) (mxAt wMark mMark)) (fun t => t.getF (tallyFld 0 63) == 1 && (t.core 0).mx.queue == []) := by decide +kernel

theorem test_MxPassStart : (mPass 1).next 0 0 = some (0, oPass) ∧ (mPass 1).passReady 0 1 0 oPass = true ∧ (mPass 1).heads 0 = [(0, oPass)] ∧ (mxAt wPass (mPass 1)).mxHeld 0 1 = false ∧
    gives (exec (.passStart 0 0 (when_ 1)) (mxAt wPass (mPass 1)))
      (fun t => ((t.core 0).mx.runs.map (fun r => (r.seq, r.entered))) == [(0, 0)] && ((t.core 0).mx.quad 0).active == some (tile0 true) &&
        ((t.core 0).mx.quad 0).waiting == none && (t.core 0).mx.queue == []) := by decide +kernel
theorem test_MxPassStart_gated : gives (exec (.passStart 0 0 (when_ 1)) (mxAt wPass { mPass 1 with gated := 1 })) (fun t => t == mxAt wPass { mPass 1 with gated := 1 }) := by decide +kernel

def mRun (entered : Nat) (pipe : List MxRow) (flow : Nat) : MxState :=
  { mxOn 200 with flow := flow, quads := [(0, { Quad.fresh with active := some (tile0 true), rowEnd := 2 })], runs := [⟨0, oPass, [(0, tile0 true)], entered, pipe⟩] }
/-- R91: the one row, entered in array time 1 of a FULL array, of latency 128, is written in 129 and not before. -/
theorem test_MxPassComplete : (0 : Nat) ∈ oPass.quads 0 ∧ oPass.rows = 1 ∧ oPass.rowAt 0 0 = 65536 ∧
    gives (exec (.passComplete 0 0 (when_ 200)) (mxAt wPass (mRun 1 [⟨0, 129, [1, 2, 3, 4], {}⟩] 129)))
      (fun t => (t.core 0).mx.runs == [] && (t.core 0).ls.read 65536 == 1 && (t.core 0).ls.read 65539 == 4 && (t.core 0).ls.read 65540 == 0 && t.getF (F.CORE_MX_PASSES_COUNT 0) == 1) ∧
    gives (exec (.passComplete 0 0 (when_ 200)) (mxAt wPass (mRun 1 [⟨0, 129, [1, 2, 3, 4], {}⟩] 128))) (fun t => (t.core 0).mx.runs.length == 1 && (t.core 0).ls.read 65536 == 0) := by decide +kernel
/-- What a cycle does: a row enters, due L cycles later; in a frozen one, its cause the drain, nothing moves and it is counted. -/
theorem test_MxPassComplete_cycle : (mRun 0 [] 7).rowDue 0 ⟨0, oPass, [(0, tile0 true)], 0, []⟩ = true ∧
    (((mxAt wPass (mRun 0 [] 7)).mxCycle 0 (when_ 201)).core 0).mx.runs.map (fun r => (r.entered, r.pipe.map (fun x => (x.row, x.due)))) = [(1, [(0, 135)])] ∧
    (let t := (mxAt wPass (mRun 0 [] 7)).mxCycle 0 ⟨201, [⟨200, 1, false, false, true⟩], []⟩
     (t.core 0).mx.runs.map (fun r => r.entered) = [0] ∧ (t.core 0).mx.clock = 201 ∧ (t.core 0).mx.flow = 7 ∧ (t.core 0).mx.frozen = true ∧
       t.getF (F.CORE_MX_FRZ_TOTAL_COUNT 0) = 1 ∧ t.getF (F.CORE_MX_FRZ_DRAIN_COUNT 0) = 1 ∧ t.getF (F.CORE_MX_FRZ_A_COUNT 0) = 0) := by decide +kernel
/-- A command of a later cycle does nothing where a row completes a pass before it, and else runs the cycle between. -/
theorem test_MxPassComplete_later :
    (mxAt wPass (mRun 1 [⟨0, 129, [1, 2, 3, 4], {}⟩] 129)).mxDue 0 (when_ 201) = true ∧
    gives (exec (.mxmarkDone 0 (when_ 201)) (mxAt wPass (mRun 1 [⟨0, 129, [1, 2, 3, 4], {}⟩] 129))) (fun t => (t.core 0).mx.clock == 200) ∧
    (mxAt wPass (mRun 1 [⟨0, 131, [1, 2, 3, 4], {}⟩] 129)).mxDue 0 (when_ 201) = false ∧
    gives (exec (.mxmarkDone 0 (when_ 201)) (mxAt wPass (mRun 1 [⟨0, 131, [1, 2, 3, 4], {}⟩] 129))) (fun t => (t.core 0).mx.clock == 201) := by decide +kernel

/-- R105: with BUNT_LEN at its default of 256 the ramp begins after 256 gap cycles. -/
theorem test_MxRamp_down : (mxAt wMark (mxOn 300)).getF (F.CORE_MX_CTRL_BUNT_LEN 0) = 256 ∧ (mxAt wMark (mxOn 300)).limiterFree 0 300 = true ∧
    (mxAt wMark (mxOn 300)).mxFill 0 = 0 ∧ (mxOn 300).asks 0 = false ∧
    gives (exec (.rampDownStart 0 (when_ 300)) (mxAt wMark { mxOn 300 with gapRun := 256 })) (fun t => (t.core 0).mx.gated == 1 && (t.core 0).mx.ramp == .down) ∧
    gives (exec (.rampDownStart 0 (when_ 300)) (mxAt wMark { mxOn 300 with gapRun := 255 })) (fun t => (t.core 0).mx.gated == 0) := by decide +kernel
theorem test_MxRamp_step : (mxAt wMark (mxOn 16)).getF (F.CORE_MX_CTRL_RAMP_STEP 0) = 16 ∧ (mxAt wMark { mxOn 16 with ramp := .down, gated := 3 }).rampUpDue 0 = false ∧
    gives (exec (.rampStepExpiry 0 (when_ 16)) (mxAt wMark { mxOn 16 with ramp := .down, gated := 3 })) (fun t => (t.core 0).mx.gated == 4) ∧
    gives (exec (.rampStepExpiry 0 (when_ 16)) (mxAt wMark { mxOn 16 with ramp := .up, gated := 3 })) (fun t => (t.core 0).mx.gated == 2) := by decide +kernel
/-- R269: a fifth transition of a cluster within 60 cycles waits. -/
theorem test_MxRamp_limiter :
    let s := (mxAt wMark { mxOn 16 with ramp := .down, gated := 1 }).setCluster 0 { ClusterState.fresh with admits := [16, 16, 16, 16] }
    s.limiterFree 0 16 = false ∧ s.limiterFree 0 76 = true ∧ gives (exec (.rampStepExpiry 0 (when_ 16)) s) (fun t => (t.core 0).mx.awaiting && (t.core 0).mx.gated == 1) ∧
    gives (exec (.transitionAdmit 0 0 (when_ 76)) (s.setCore 0 { s.core 0 with mx := { mxOn 76 with ramp := .down, gated := 1, awaiting := true } })) (fun t => (t.core 0).mx.gated == 2) := by decide +kernel
theorem test_MxRamp_up : { mPass 1 with gated := 2 }.asks 0 = true ∧
    gives (exec (.rampUpStart 0 (when_ 1)) (mxAt wPass { mPass 1 with gated := 2 })) (fun t => (t.core 0).mx.ramp == .up && (t.core 0).mx.gated == 2) := by decide +kernel
/-- The vector engine's start waits for the limiter, and its stop follows 64 idle cycles. -/
theorem test_MxRamp_vx :
    gives (exec (.transitionAdmit 0 1 (when_ 9)) (coreRuns [wMark] { mxCore (mxOn 9) with vxWait := true } [])) (fun t => (t.core 0).vxOn && !(t.core 0).vxWait && (t.core 0).vxMark == 9) ∧
    gives (exec (.transitionAdmit 0 2 (when_ 64)) (coreRuns [wMark] { mxCore (mxOn 64) with vxOn := true } [])) (fun t => !(t.core 0).vxOn && (t.core 0).vxMark == 64) := by decide +kernel

/-! Core engines (R113 to R140) -/

def on2 (w : Word64) (c : CoreState) : State := coreRuns [w, w] c []
def mayIssue (w : Word64) (c : CoreState) : Bool := (on2 w c).issueOk 0 w && decide ((on2 w c).getF (F.CORE_PC_PC 0) + 1 < ((on2 w c).core 0).prog.length)

def wNop : Word64 := word4 0 0 0
def wLi : Word64 := word4 0 1 (15 * 2 ^ 52 + 0xFFFFFFFF)
def wAdd : Word64 := word4 0 2 (1 * 2 ^ 52 + 15 * 2 ^ 48 + 2)
def wLoop : Word64 := word4 0 3 (1 * 2 ^ 48 + 1)
def wBr : Word64 := word4 0 4 1
def wId : Word64 := word4 0 5 (2 * 2 ^ 52 + 1)
def wBerth : Word64 := word4 0 7 1
theorem test_CtPlain_ctnop : mayIssue wNop CoreState.fresh ∧ opIs wNop 0 0 ∧ onlyBits wNop 56 [] ∧
    gives (exec (.ctnop 0 wNop) (on2 wNop CoreState.fresh)) (fun t => t.getF (F.CORE_PC_PC 0) == 1) := by decide +kernel
theorem test_CtPlain_ctli : mayIssue wLi CoreState.fresh ∧ opIs wLi 0 1 ∧ onlyBits wLi 56 [(52, 4), (0, 32)] ∧
    gives (exec (.ctli 0 wLi) (on2 wLi CoreState.fresh)) (fun t => t.scalar 0 15 == 0xFFFFFFFF && t.scalar 0 14 == 0) := by decide +kernel
/-- The sum wraps, and source and destination differ. -/
theorem test_CtPlain_ctadd : mayIssue wAdd { CoreState.fresh with scalars := [(15, 0xFFFFFFFF)] } ∧ opIs wAdd 0 2 ∧ onlyBits wAdd 56 [(52, 4), (48, 4), (0, 32)] ∧
    gives (exec (.ctadd 0 wAdd) (on2 wAdd { CoreState.fresh with scalars := [(15, 0xFFFFFFFF)] })) (fun t => t.scalar 0 1 == 1 && t.scalar 0 15 == 0xFFFFFFFF) := by decide +kernel
theorem test_CtPlain_ctid : opIs wId 0 5 ∧ onlyBits wId 56 [(52, 4), (0, 2)] ∧ bits wId.toNat 0 2 < 2 ∧
    gives (exec (.ctid 0 wId) ((on2 wId CoreState.fresh).setF (F.CORE_PROG_K_K 0) 7)) (fun t => t.scalar 0 2 == 7) := by decide +kernel
theorem test_CtPlain_branches : targetOk (on2 wBr CoreState.fresh) 0 wBr ∧ opIs wBr 0 4 ∧ onlyBits wBr 56 [(0, 12)] ∧ opIs wLoop 0 3 ∧ onlyBits wLoop 56 [(48, 4), (0, 12)] ∧
    targetOk (on2 wLoop CoreState.fresh) 0 wLoop ∧ mayIssue wBr CoreState.fresh ∧
    gives (exec (.ctbr 0 wBr) (on2 wBr CoreState.fresh)) (fun t => t.getF (F.CORE_PC_PC 0) == 1) ∧
    gives (exec (.ctloop 0 wLoop) (on2 wLoop CoreState.fresh)) (fun t => t.scalar 0 1 == 0xFFFFFFFF && t.getF (F.CORE_PC_PC 0) == 1) ∧
    gives (exec (.ctloop 0 wLoop) ((on2 wLoop CoreState.fresh).setScalar 0 1 1)) (fun t => t.scalar 0 1 == 0 && t.getF (F.CORE_PC_PC 0) == 1) := by decide +kernel
/-- R116: after the last instruction the counter has run off the program. -/
theorem test_CtPlain_end : (coreRuns [wNop] CoreState.fresh []).issueOk 0 wNop ∧
    gives (exec (.ctnop 0 wNop) (coreRuns [wNop] CoreState.fresh [])) (fun t => (t.core 0).fault == some ⟨causeCt, 1, 0, 0⟩) := by decide +kernel

def wWait : Word64 := word4 4 1 (63 * 2 ^ 50 + 0xFFFF)
def wFence : Word64 := word4 4 3 0
def wSet : Word64 := word4 4 4 (63 * 2 ^ 50 + 0xFFFF)
theorem test_IssueHolds : (on2 wBerth CoreState.fresh).issueOk 0 wBerth ∧ opIs wBerth 0 7 ∧ onlyBits wBerth 56 [(0, 1)] ∧
    (on2 wWait CoreState.fresh).issueOk 0 wWait ∧ opIs wWait 4 1 ∧ onlyBits wWait 56 [(50, 6), (0, 16)] ∧ (on2 wFence CoreState.fresh).issueOk 0 wFence ∧ opIs wFence 4 3 ∧
    gives (exec (.ctberth 0 wBerth) (on2 wBerth CoreState.fresh)) (fun t => (t.core 0).hold == .berth true) ∧
    gives (exec (.sywait 0 wWait) (on2 wWait CoreState.fresh)) (fun t => (t.core 0).hold == .sywait 63 0xFFFF) ∧
    gives (exec (.syfence 0 wFence) (on2 wFence CoreState.fresh)) (fun t => (t.core 0).hold == .fence && t.getF (F.CORE_PC_PC 0) == 0) := by decide +kernel
/-- R119: SYWAIT subtracts, and is satisfied at equality but not below. -/
theorem test_SyncCompletes_wait :
    gives (exec (.sywaitSatisfied 0 9) ((on2 wWait { CoreState.fresh with hold := .sywait 63 5 }).setF (tallyFld 0 63) 5))
      (fun t => t.getF (tallyFld 0 63) == 0 && (t.core 0).hold == .none && t.getF (F.CORE_SYWAIT_CYC_COUNT 0) == 9 && t.getF (F.CORE_PC_PC 0) == 1) ∧
    gives (exec (.sywaitSatisfied 0 9) ((on2 wWait { CoreState.fresh with hold := .sywait 63 5 }).setF (tallyFld 0 63) 4))
      (fun t => t.getF (tallyFld 0 63) == 4 && (t.core 0).hold == .sywait 63 5) := by decide +kernel
theorem test_SyncCompletes_rest : (on2 wFence { CoreState.fresh with hold := .fence }).berthTest 0 ∧ opIs wSet 4 4 ∧ mayIssue wSet CoreState.fresh ∧
    gives (exec (.syfenceSatisfied 0 0) (on2 wFence { CoreState.fresh with hold := .fence })) (fun t => (t.core 0).hold == .none) ∧
    gives (exec (.syset 0 wSet) (on2 wSet CoreState.fresh)) (fun t => t.getF (tallyFld 0 63) == 0xFFFF && t.getF (tallyFld 0 62) == 0) := by decide +kernel

/-- A VX word: opcode, destination, first and second source, and the bits below 34. -/
def vx (op d a b low : Nat) : Word64 := BitVec.ofNat 64 (2 * 2 ^ 60 + op * 2 ^ 54 + d * 2 ^ 49 + a * 2 ^ 44 + b * 2 ^ 39 + low)
def vx8 : CoreState := { CoreState.fresh with vx := List.replicate 8 ⟨vx 1 1 2 3 0, 0⟩ }
/-- A legal word of every opcode, with its vector queue empty. -/
theorem test_VxIssue_all : vxRows.all (fun e =>
    let w := vx e.2 (if e.2 = 0x3F ∨ e.2 = 0x31 then 0 else 1) 0 0 0
    mayIssue w CoreState.fresh && vxIs w e.2 && vxLegal (on2 w CoreState.fresh) 0 w &&
      gives (exec (e.1 0 w) (on2 w CoreState.fresh)) (fun t => (t.core 0).vx == [⟨w, 0⟩])) := by decide +kernel
theorem test_VxIssue_full : vxLegal (on2 (vx 1 1 2 3 0) vx8) 0 (vx 1 1 2 3 0) ∧
    gives (exec (.vadd 0 (vx 1 1 2 3 0)) (on2 (vx 1 1 2 3 0) vx8)) (fun t => (t.core 0).vx.length == 8 && t.getF (F.CORE_PC_PC 0) == 0) := by decide +kernel
/-- VLD at the last 256-byte place of the 2 MiB scratchpad, its address taken from S1. -/
theorem test_VxIssue_addr : vxLegal ((on2 (vx 0x30 1 0 0 (1 * 2 ^ 8)) { CoreState.fresh with scalars := [(1, 32764)] })) 0 (vx 0x30 1 0 0 (1 * 2 ^ 8)) ∧
    gives (exec (.vld 0 (vx 0x30 1 0 0 (1 * 2 ^ 8))) (on2 (vx 0x30 1 0 0 (1 * 2 ^ 8)) { CoreState.fresh with scalars := [(1, 32764)] }))
      (fun t => (t.core 0).vx.map (fun e => e.addr) == [64 * 32764]) := by decide +kernel

/-- The core takes the fault and nothing runs. -/
def faults (c : Instr) (w : Word64) (cause info : Nat) : Bool :=
  (on2 w CoreState.fresh).issueOk 0 w && gives (exec c (on2 w CoreState.fresh)) (fun t => (t.core 0).fault == some ⟨cause, 0, 0, info⟩ && t.getF (F.CORE_PC_PC 0) == 0)
theorem test_IllegalWords_reserved : reservedCause (word4 5 4 0) = some causeBk ∧ reservedCause (word4 6 0 0) = some causeClass ∧
    faults (.reservedInstruction 0 (word4 5 4 0)) (word4 5 4 0) causeBk 1 ∧ faults (.reservedInstruction 0 (word4 6 0 0)) (word4 6 0 0) causeClass 0 := by decide +kernel
theorem test_IllegalWords_ct : faults (.ctnop 0 (word4 0 0 1)) (word4 0 0 1) causeCt 0 ∧ faults (.ctbr 0 (word4 0 4 2)) (word4 0 4 2) causeCt 0 ∧
    faults (.ctloop 0 (word4 0 3 2)) (word4 0 3 2) causeCt 0 ∧ faults (.ctid 0 (word4 0 5 2)) (word4 0 5 2) causeCt 0 ∧
    faults (.sywait 0 (word4 4 1 0)) (word4 4 1 0) causeSy 0 := by decide +kernel
/-- R121: a compare to M0 is illegal; R123: VLD past the scratchpad's end is. -/
theorem test_IllegalWords_vx : vxLegal (on2 (vx 0x0A 0 0 0 0) CoreState.fresh) 0 (vx 0x0A 0 0 0 0) = false ∧ faults (.vcmplt 0 (vx 0x0A 0 0 0 0)) (vx 0x0A 0 0 0 0) causeVx 0 ∧
    faults (.vadd 0 (vx 1 0 0 0 (4 * 2 ^ 28))) (vx 1 0 0 0 (4 * 2 ^ 28)) causeVx 0 := by decide +kernel

/-- One instruction waits to retire, V2 holding 1.0 and V3 holding 2.0 in every lane. -/
def retiring (w : Word64) (addr : Nat) : State :=
  on2 wNop { CoreState.fresh with vx := [⟨w, addr⟩], vxOn := true, vregs := [(2, List.replicate 64 0x3F800000), (3, List.replicate 64 0x40000000)] }
theorem test_VxRetire_add : gives (exec (.vxInstructionRetire 0 0 0 []) (retiring (vx 1 1 2 3 0) 0))
      (fun t => (t.core 0).vreg 1 == List.replicate 64 0x40400000 && (t.core 0).vx == []) := by decide +kernel
theorem test_VxRetire_compare : gives (exec (.vxInstructionRetire 0 0 0 []) (retiring (vx 0x0A 7 2 3 0) 0))
      (fun t => (t.core 0).mask 7 == 0xFFFFFFFFFFFFFFFF && (t.core 0).mask 6 == 0 && (t.core 0).vreg 7 == List.replicate 64 0) := by decide +kernel
theorem test_VxRetire_store : gives (exec (.vxInstructionRetire 0 0 0 []) (retiring (vx 0x31 0 3 0 0) 256))
      (fun t => (t.core 0).ls.read 255 == 0 && (t.core 0).ls.read 259 == 0x40 && (t.core 0).ls.read 511 == 0x40 && (t.core 0).ls.read 512 == 0) := by decide +kernel
/-- R122: an instruction that reads what an earlier one still writes does not retire. -/
theorem test_VxRetire_hazard : vxClash ⟨vx 1 1 2 3 0, 0⟩ ⟨vx 1 4 1 3 0, 0⟩ ∧
    gives (exec (.vxInstructionRetire 0 1 0 []) (on2 wNop { CoreState.fresh with vx := [⟨vx 1 1 2 3 0, 0⟩, ⟨vx 1 4 1 3 0, 0⟩], vxOn := true })) (fun t => (t.core 0).vx.length == 2) := by decide +kernel
/-- R117: a tally holds at 0xFFFF and the core faults. -/
theorem test_TallyMarks : wVxOp (vx 0x3F 0 0 0 5) = 0x3F ∧
    gives (exec (.vmarkDone 0) (on2 wNop { CoreState.fresh with vx := [⟨vx 0x3F 0 0 0 5, 0⟩] })) (fun t => t.getF (tallyFld 0 5) == 1 && (t.core 0).vx == []) ∧
    gives (exec (.vmarkDone 0) ((on2 wNop { CoreState.fresh with vx := [⟨vx 0x3F 0 0 0 5, 0⟩] }).setF (tallyFld 0 5) 0xFFFF))
      (fun t => t.getF (tallyFld 0 5) == 0xFFFF && (t.core 0).fault == some ⟨causeTally, 0, 0, 5⟩) := by decide +kernel

/-! Streams -/

/-- A descriptor's bytes: PAIR, CNT0, MADDR. -/
def descBytes (conv cnt0 maddr : Nat) : List Nat :=
  leBytes 8 maddr ++ leBytes 2 1024 ++ leBytes 2 conv ++ leBytes 4 0 ++ leBytes 4 cnt0 ++ leBytes 2 1 ++ leBytes 2 1 ++ leBytes 2 1 ++ List.replicate 38 0
def lsWith (a : Nat) (l : List Nat) : Memory := (⟨[], [], []⟩ : Memory).writeL a (toBytes l)
/-- The stream word of an opcode: descriptor at granule 0, TEN, tally 5. -/
def wSt (op : Nat) : Word64 := word4 3 op (2 ^ 6 + 5)
def stAt (op : Nat) (d : List Nat) : State := on2 (wSt op) { CoreState.fresh with ls := lsWith 0 d }
theorem test_StreamIssue_bad : stWordOk (wSt 1) ∧ opIs (wSt 1) 3 1 ∧ (stAt 1 (descBytes 0 0 0)).issueOk 0 (wSt 1) ∧
    (descOf (descBytes 0 0 0) 0 0).illegal (descBytes 0 0 0) true true 0x200000 = some 5 ∧
    gives (exec (.stld 0 (wSt 1)) (stAt 1 (descBytes 0 0 0))) (fun t => (t.core 0).fault == some ⟨causeSt, 0, 0, 5⟩) ∧
    (stAt 1 (descBytes 0 0 0)).leavesColumn 0 (descOf (descBytes 0 0 0) 0 0) true = false ∧
    gives (exec (.stst 0 (wSt 2)) (stAt 2 (descBytes 0 0 0))) (fun t => (t.core 0).fault == some ⟨causeSt, 0, 0, 5⟩) ∧
    gives (exec (.stpf 0 (wSt 3)) (stAt 3 (descBytes 0 0 0))) (fun t => (t.core 0).fault == some ⟨causeSt, 0, 0, 5⟩) := by decide +kernel
/-- R85 case 1: PAIR 0x0C is none. -/
theorem test_StreamIssue_conv : (descOf (descBytes 0x0C 4 0) 0 0).illegal (descBytes 0x0C 4 0) true true 0x200000 = none ∧ convRefusal 0x0C 4 = some 1 ∧
    gives (exec (.stld 0 (wSt 1)) (stAt 1 (descBytes 0x0C 4 0))) (fun t => (t.core 0).fault == some ⟨causeConv, 0, 0, 0x0C + 2 ^ 16⟩) := by decide +kernel
theorem test_StreamIssue_good : (descOf (descBytes 0 4 0) 0 0).illegal (descBytes 0 4 0) false true 0x200000 = none ∧ convRefusal 0 4 = none ∧
    (descOf (descBytes 0 4 0) 0 0).illegal (descBytes 0 4 0) true false 0x200000 = none ∧
    gives (exec (.stmark 0 (word4 3 4 63)) (on2 (word4 3 4 63) CoreState.fresh)) (fun t => (t.core 0).streams.map (fun x => (x.op, x.tally)) == [(4, 63)]) := by decide +kernel

/-- A stream with nothing left to do. -/
def doneStream (op : Nat) (writing : Bool) : CoreStream :=
  ⟨0, op, true, 5, descOf (descBytes 0 4 0) 0 0, 0, 0, [], 0, 0, [(0, [1, 2, 3, 4])], [], [], [], [], [], writing, {}⟩
def stDone (op : Nat) (writing : Bool) : State := on2 wNop { CoreState.fresh with streams := [doneStream op writing], nextStream := 1 }
theorem test_StreamEnds_pf : (stDone 3 false).streamOf 0 0 = some (doneStream 3 false) ∧
    gives (exec (.streamComplete 0 0) (stDone 3 false)) (fun t => t.getF (tallyFld 0 5) == 1 && t.getF (F.CORE_ST_DONE_COUNT 0) == 1 && (t.core 0).streams == []) := by decide +kernel
theorem test_StreamEnds_st : (stDone 2 true).streamOf 0 0 = some (doneStream 2 true) ∧
    gives (exec (.streamComplete 0 0) (stDone 2 true)) (fun t => t.getF (tallyFld 0 5) == 1 && (t.core 0).streams == []) := by decide +kernel
/-- PAIR 0 copies bytes: the four land at granule 1024. -/
theorem test_StreamEnds_ld : (stDone 1 false).streamOf 0 0 = some (doneStream 1 false) ∧
    gives (exec (.streamComplete 0 0) (stDone 1 false)) (fun t => (t.core 0).ls.read 65536 == 1 && (t.core 0).ls.read 65539 == 4 && (t.core 0).ls.read 65540 == 0) := by decide +kernel
theorem test_StreamEnds_mark : gives (exec (.stmarkDone 0) (stDone 4 false)) (fun t => t.getF (tallyFld 0 5) == 1 && (t.core 0).streams == []) := by decide +kernel

/-- A PATH 1 read of another column's memory is refused at issue, before anything moves. -/
def path1 : List Nat := (descBytes 0 4 0).set 12 1
def stPath : State :=
  (coreRuns [wSt 1, wSt 1] { CoreState.fresh with ls := lsWith 0 path1, tlb := [⟨2, 0, true, colBase 1 + 7⟩] } []).setFs [(F.PRT_ROWS_LO_ROWS 2, 1), (F.PRT_XCTRL_EN 2, 1)]
theorem test_StreamIssue_path1 : stPath.leavesColumn 0 (descOf path1 0 0) true = true ∧
    gives (exec (.stld 0 (wSt 1)) stPath) (fun t => (t.core 0).fault == some ⟨causeSt, 0, 0, 1⟩ && (t.core 0).streams == []) := by decide +kernel

/-! Voyages -/

def ensA : Requester := .ensign false
def idleCore : State := (st []).setCoreSt 0 coreIdle
theorem test_VoyageWrites_launch : idleCore.admitted ensA (pgCore 0 + 0x124) 1 = (idleCore, some 0xFFFFFFFF) ∧ idleCore.coreSt 0 = coreIdle ∧
    gives (exec (.voyageLaunch ensA 0 1) idleCore) (fun t => t.coreSt 0 == coreLoaded && (t.core 0).fetch == .running 0) ∧
    gives (exec (.voyageLaunch ensA 0 1) (on2 wNop CoreState.fresh)) (fun t => t == on2 wNop CoreState.fresh) := by decide +kernel
theorem test_VoyageWrites_abort : (on2 wNop CoreState.fresh).admitted ensA (pgCore 0 + 0x124) 2 = (on2 wNop CoreState.fresh, some 0xFFFFFFFF) ∧
    gives (exec (.voyageAbort ensA 0 2) (on2 wNop CoreState.fresh)) (fun t => (t.core 0).fault == some ⟨causeAbort, 0, 0, 0⟩) ∧
    gives (exec (.voyageAbort ensA 0 2) idleCore) (fun t => (t.core 0).fault == none) := by decide +kernel
theorem test_VoyageWrites_split : idleCore.inVoyage 0 = false ∧ idleCore.admitted ensA (pgCore 0 + 0x104) 4 = (idleCore, some 0xFFFFFFFF) ∧
    gives (exec (.localStoreSplitChange ensA 0 4) idleCore) (fun t => t.scratchBytes 0 == 0x100000) ∧
    gives (exec (.localStoreSplitChange ensA 0 0) idleCore) (fun t => t == idleCore) := by decide +kernel
def loadedCore (st : Nat) (c : CoreState) : State := (rst.setCoreSt 0 st).setCore 0 c
theorem test_ProgramLife_start : (loadedCore coreLoaded { CoreState.fresh with fetch := .ready 0 [wNop] }).programOrbit 0 = 0 ∧
    gives (exec (.programStart 0 3) (loadedCore coreLoaded { CoreState.fresh with fetch := .ready 0 [wNop] }))
      (fun t => t.coreSt 0 == coreRunning && (t.core 0).prog == [wNop] && (t.core 0).fetch == .idle) ∧
    gives (exec (.programFetchComplete 0) (loadedCore coreLoaded { CoreState.fresh with fetch := .running 0 })) (fun t => (t.core 0).fetch == .failed 0) := by decide +kernel
theorem test_ProgramLife_berth : (on2 wNop { CoreState.fresh with hold := .berth false }).berthTest 0 ∧
    gives (exec (.berthComplete 0) (on2 wNop { CoreState.fresh with hold := .berth false })) (fun t => t.coreSt 0 == coreEnded && t.getF (F.CORE_PROG_K_K 0) == 1) ∧
    gives (exec (.berthComplete 0) ((on2 wNop { CoreState.fresh with hold := .berth false }).setF (F.CORE_VOY_PROGS_REPEAT 0) 1)) (fun t => t.coreSt 0 == coreBerthed) ∧
    gives (exec (.berthComplete 0) ((on2 wNop { CoreState.fresh with hold := .berth true }).setF (F.CORE_VOY_PROGS_REPEAT 0) 1)) (fun t => t.coreSt 0 == coreEnded) := by decide +kernel
theorem test_ProgramLife_faults : (on2 wNop { CoreState.fresh with fault := some ⟨causeMx, 1, 0, 0⟩ }).enginesDone 0 ∧ (on2 wNop CoreState.fresh).inVoyage 0 ∧
    gives (exec (.coreFaulted 0 0) (on2 wNop { CoreState.fresh with fault := some ⟨causeMx, 1, 0, 0⟩ }))
      (fun t => t.coreSt 0 == coreFaulted && t.getF (F.CORE_FAULT_CAUSE 0) == causeMx && t.getF (F.CORE_FAULT_PC_PC 0) == 1) ∧
    gives (exec (.watchdogHang 0) (on2 wNop { CoreState.fresh with wdog := 16 })) (fun t => (t.core 0).fault == some ⟨causeHang, 0, 0, 0⟩) ∧
    gives (exec (.watchdogHang 0) (on2 wNop { CoreState.fresh with wdog := 15 })) (fun t => (t.core 0).fault == none) := by decide +kernel

/-! Fabric and links (R141 to R172) -/

def lk (n st_ : Nat) : State := rst.setPgState (pgLnk n) st_
/-- A write by the Ensign is admitted whole. -/
def ensOk (s : State) (a v : Nat) (need : Nat) : Bool :=
  let r := s.admitted ensA a (BitVec.ofNat 32 v)
  r.1 == s && (match r.2 with | some m => Nat.land m need == need | none => false)
def lkOff : State := { lk 0 lnkOff with power := { rst.power with fabOn := [0, 1] } }
theorem test_LinkTraining_enable : ensOk lkOff (pgLnk 0 + 8) 1 1 ∧ lkOff.endPowered 0 ∧ lkOff.endPowered 1 ∧
    gives (exec (.linkEnable ensA 0 1) lkOff) (fun t => t.lnk 0 == lnkSbInit) ∧
    gives (exec (.linkEnable ensA 0 1) (lk 0 lnkOff)) (fun t => t.lnk 0 == lnkOff) := by decide +kernel
theorem test_LinkTraining_up : gives (exec (.sidebandUp 0) (lk 0 lnkSbInit)) (fun t => t.lnk 0 == lnkMbTrain && (t.linkSt 0).tryRate == 3) ∧
    gives (exec (.mainbandTrained 0 false 255) (lk 0 lnkMbTrain)) (fun t => t.lnk 0 == lnkParam && t.getF (F.LNK_STATUS_REPAIRED 0) == 255 && t.getF (F.LNK_STATUS_RATE 0) == 3) ∧
    gives (exec (.mbTrainTimeout 0) (lk 0 lnkMbTrain)) (fun t => t.lnk 0 == lnkMbTrain && (t.linkSt 0).attempts == 1 && t.now == 2000000) := by decide +kernel
/-- R159: link 11 joins dies 2 and 3, ports P1; a die's identity is the port number that an I/O die answers. -/
theorem test_LinkTraining_param : linkEnds 11 = (2, 3) ∧ gives (exec (.ident 11 0 3 2) (lk 11 lnkParam)) (fun t => t.lnk 11 == linkActive && (t.linkSt 11).probe == some ⟨0, []⟩) ∧
    gives (exec (.ident 12 0 3 0) (lk 12 lnkParam)) (fun t => t.lnk 12 == linkActive && t.dieIdent 0 == 3 && t.dieIdent 1 == 1) ∧
    gives (exec (.capabilityRecord 20 [1, 0, 0, 0, 1, 15, 8, 0, 48, 0, 8, 0, 96, 0, 0, 0]) (lk 20 lnkParam))
      (fun t => t.lnk 20 == linkActive && t.getF (F.MNL_CAP 0) == 1 && t.mtOut.length == 1 && (t.linkSt 20).toB.credits.take 4 == [8, 48, 8, 96]) := by
  decide +kernel
theorem test_LinkTraining_retrain : ensOk (lk 0 linkActive) (pgLnk 0 + 0x10C) 3 3 ∧
    gives (exec (.laneFailure 0) (lk 0 linkActive)) (fun t => t.lnk 0 == lnkRetrain && t.getF (F.LNK_RETRAINS_COUNT 0) == 1) ∧
    gives (exec (.retrain ensA 0 1) (lk 0 linkActive)) (fun t => t.lnk 0 == lnkRetrain) ∧
    gives (exec (.retrainComplete 0) (lk 0 lnkRetrain)) (fun t => t.lnk 0 == linkActive) := by decide +kernel
/-- R169: 1,024 halved round trips, all alike. -/
theorem test_LinkTraining_probe : gives (exec (.probe ensA 0 2) (lk 0 linkActive)) (fun t => (t.linkSt 0).probe == some ⟨0, []⟩) ∧
    gives (exec (.linkDelayMeasured 0) ((lk 0 linkActive).setLink 0 { LinkState.fresh with probe := some ⟨1024, List.replicate 1024 40⟩ }))
      (fun t => t.getF (F.LNK_DLY_P50 0) == t.getF (F.LNK_DLY_MAX 0) && t.getF (F.LNK_DLY_P50 0) != 0 && (t.linkSt 0).probe == none) ∧
    gives (exec (.linkDelayMeasured 0) ((lk 0 linkActive).setLink 0 { LinkState.fresh with probe := some ⟨1024, List.replicate 1023 40⟩ })) (fun t => (t.linkSt 0).probe.isSome) := by decide +kernel

/-- A packet held by link 0. -/
def pk0 (pl : Place) (route vc ty : Nat) : Packet := ⟨pl, route, 0, 0, false, vc, 0, false, 0, ty, 0, false, 0, 0, 0, 0, [], 0⟩
def heldOn (s : State) (n : Nat) : State := { s with packets := [(3, pk0 (.link n true 0) 0 1 0x10), (4, pk0 (.router 0) 0 1 0x10)] }
theorem test_LinkFailure_limits :
    gives (exec (.sbTimeout 0) (heldOn (lk 0 lnkSbInit) 0)) (fun t => t.lnk 0 == lnkFailed && t.getF (F.LNK_CAUSE_CAUSE 0) == 1 && t.packets.map (·.1) == [4] && t.getF (F.LNK_LOST_COUNT 0) == 1) ∧
    gives (exec (.mbTrainTimeout 0) ((lk 0 lnkMbTrain).setLink 0 { LinkState.fresh with attempts := 2, tryX32 := true, tryRate := 0 })) (fun t => t.getF (F.LNK_CAUSE_CAUSE 0) == 2 && t.lnk 0 == lnkFailed) ∧
    gives (exec (.mbTrainTimeout 0) ((lk 0 lnkMbTrain).setLink 0 { LinkState.fresh with attempts := 2, tryX32 := true, tryRate := 1 })) (fun t => t.lnk 0 == lnkMbTrain && (t.linkSt 0).tryRate == 0) ∧
    gives (exec (.paramTimeout 0) (lk 0 lnkParam)) (fun t => t.getF (F.LNK_CAUSE_CAUSE 0) == 4 && t.now == 1000000) ∧
    gives (exec (.retrainTimeout 0) (lk 0 lnkRetrain)) (fun t => t.getF (F.LNK_CAUSE_CAUSE 0) == 2 && t.now == 200000) := by decide +kernel
theorem test_LinkFailure_peers : gives (exec (.ident 11 0 3 1) (lk 11 lnkParam)) (fun t => t.getF (F.LNK_CAUSE_CAUSE 11) == 3 && t.lnk 11 == lnkFailed) ∧
    gives (exec (.capabilityRecord 20 [1, 0, 0, 0, 1, 15, 8, 0, 48, 0, 7, 0]) (lk 20 lnkParam)) (fun t => t.lnk 20 == lnkFailed && t.getF (F.LNK_CAUSE_CAUSE 20) == 4) ∧
    gives (exec (.ident 12 0 2 0) { lk 12 lnkParam with power := { rst.power with idents := [(1, 7)] } }) (fun t => t.lnk 12 == lnkFailed && t.getF (F.LNK_CAUSE_CAUSE 13) == 3) ∧
    gives (exec (.identityTimeout 1) rst) (fun t => t.lnk 14 == lnkFailed && t.lnk 15 == lnkFailed && t.getF (F.LNK_CAUSE_CAUSE 15) == 3) := by decide +kernel
theorem test_LinkFailure_off : ensOk (heldOn (lk 0 linkActive) 0) (pgLnk 0 + 8) 0 1 ∧
    gives (exec (.linkDisable ensA 0 0) (heldOn (lk 0 linkActive) 0)) (fun t => t.lnk 0 == lnkOff && t.packets.map (·.1) == [4]) := by decide +kernel

def frame (seq : Nat) (slots : List Slot) (nak : Bool) : Frame := ⟨seq, slots, 4095, nak, [0, 0, 0, 0, 0, 0, 0, 0], (0, 0)⟩
/-- The one flit of packet 3. -/
def slot3 : Slot := ⟨3, 0, 1, false, true, []⟩
def lkDir (d : LinkDir) (a : LinkDir) : State := (heldOn (lk 0 linkActive) 0).setLink 0 { LinkState.fresh with toB := d, toA := a }
theorem test_LinkFrames_send :
    gives (exec (.frameSend 0 true 9) (lkDir { LinkDir.fresh with waiting := [(3, 0)], seq := 4095 } LinkDir.fresh))
      (fun t => (t.linkSt 0).toB.seq == 0 && (t.linkSt 0).toB.wire.map (fun f => (f.seq, f.slots.map (fun x => (x.pkt, x.flit, x.start)))) == [(4095, [(3, 0, true)])] && (t.linkSt 0).toB.waiting == []) ∧
    gives (exec (.frameSend 0 true 9) (lkDir { LinkDir.fresh with replay := List.replicate 64 (frame 0 [] false) } LinkDir.fresh)) (fun t => (t.linkSt 0).toB.wire == []) ∧
    gives (exec (.frameSend 0 true 9) (lkDir { LinkDir.fresh with again := some 0, replay := [frame 7 [] false] } LinkDir.fresh))
      (fun t => (t.linkSt 0).toB.wire == [frame 7 [] false] && (t.linkSt 0).toB.again == none) := by decide +kernel
theorem test_LinkFrames_receive :
    gives (exec (.frameReceive 0 true [5] 9) (lkDir { LinkDir.fresh with wire := [frame 0 [slot3] false] } LinkDir.fresh))
      (fun t => (t.linkSt 0).toB.bad && t.getF (F.LNK_CRC_ERR_COUNT 0) == 1 && (t.linkSt 0).toB.good == 4095) ∧
    gives (exec (.frameReceive 0 true [] 9) (lkDir { LinkDir.fresh with wire := [frame 1 [slot3] false] } LinkDir.fresh)) (fun t => (t.linkSt 0).toB.good == 4095 && (t.linkSt 0).toB.wire == []) ∧
    gives (exec (.frameReceive 0 true [] 9) (lkDir { LinkDir.fresh with wire := [frame 0 [slot3] false] } LinkDir.fresh))
      (fun t => (t.pkt 3).map (fun p => (p.place, p.xed)) == some (.router (siteIdx 1 0 16), true) && (t.linkSt 0).toB.good == 0) := by decide +kernel
/-- R162: a NAK starts a replay; after REPLAY_LIMIT replays without progress the link retrains. -/
theorem test_LinkFrames_nak : LinkState.fresh.replayLimit = 8 ∧
    gives (exec (.frameReceive 0 true [] 9) (lkDir { LinkDir.fresh with wire := [frame 0 [] true] } { LinkDir.fresh with replay := [frame 5 [] false], tries := 7 }))
      (fun t => (t.linkSt 0).toA.again == some 0 && (t.linkSt 0).toA.tries == 8 && t.getF (F.LNK_REPLAYS_COUNT 0) == 1 && t.lnk 0 == linkActive) ∧
    gives (exec (.frameReceive 0 true [] 9) (lkDir { LinkDir.fresh with wire := [frame 0 [] true] } { LinkDir.fresh with replay := [frame 5 [] false], tries := 8 }))
      (fun t => t.lnk 0 == lnkRetrain && t.getF (F.LNK_RETRAINS_COUNT 0) == 1) := by decide +kernel

/-! Routers -/

/-- Packet 7 alone at a router of die 0, with a route. -/
def atRouter (i route vc cur left : Nat) : State :=
  { (rst.setPgState (pgLnk 0) linkActive).setPgState (pgLnk 12) linkActive with
    power := { rst.power with fabOn := [0] }, packets := [(7, { pk0 (.router i) route vc 0x10 with cur := cur, left := left })] }
def hop (s : State) (p : State → Bool) : Bool := gives (exec (.packetHop 7) s) p
def dropped (cause : Nat) (i : Nat) (t : State) : Bool :=
  t.packets == [] && t.getF (F.HYP_RT_DROP_COUNT i) == 1 && t.getF (F.HYP_RT_LASTDROP_CAUSE i) == cause
/-- R148's worked example: from row 2, column 3 to row 9, column 14 by East 11, North 7, EXIT HAL. -/
theorem test_route_word : synthRoute 0 (siteIdx 0 2 3) (siteIdx 0 9 14) 1 = mkRoute [(2, 10), (1, 6)] 1 := by decide +kernel
theorem test_RouterHop_end : (atRouter 4 (mkRoute [] 1) 1 0 0).inOrder 7 (pk0 (.router 4) (mkRoute [] 1) 1 0x10) ∧
    hop (atRouter 4 (mkRoute [] 1) 1 0 0) (fun t => (t.pkt 7).map (·.place) == some (.hal 4)) ∧ hop (atRouter 4 (mkRoute [] 2) 1 0 0) (fun t => (t.pkt 7).map (·.place) == some (.clu 4)) ∧
    hop (atRouter 5 (mkRoute [] 2) 1 0 0) (dropped 7 5) ∧ hop (atRouter 5 (mkRoute [] 3) 1 0 0) (dropped 7 5) ∧ hop (atRouter 5 (mkRoute [] 4) 1 0 0) (dropped 6 5) ∧
    hop (atRouter 5 (mkRoute [] 0) 1 0 0) (fun t => t.packets == [] && t.getF (F.HYP_RT_ABSORB_COUNT 5) == 1) ∧
    hop ((atRouter 5 (mkRoute [] 0) 1 0 0).setCoreSt 5 coreIdle) (fun t => (t.pkt 7).map (·.place) == some (.core 5)) := by decide +kernel
theorem test_RouterHop_move :
    hop (atRouter 0 (mkRoute [(2, 10)] 1) 1 0 0) (fun t => (t.pkt 7).map (fun p => (p.place, p.left, p.cur)) == some (.router 1, 10, 0)) ∧
    hop (atRouter 0 (mkRoute [(2, 10)] 1) 1 0 1) (fun t => (t.pkt 7).map (fun p => (p.place, p.left, p.cur)) == some (.router 1, 0, 1)) ∧
    hop (atRouter 0 (mkRoute [(4, 0)] 1) 1 0 0) (dropped 1 0) ∧ hop (atRouter 0 (mkRoute [(1, 0), (2, 0)] 1) 1 1 0) (dropped 4 0) ∧
    hop (atRouter 0 (mkRoute [(1, 0), (2, 0)] 1) 2 1 0) (fun t => (t.pkt 7).map (·.place) == some (.router 1)) := by decide +kernel
/-- Port 0 of die 0 lies at rows 0 to 3 of column 16; link 0 joins it to die 1. -/
theorem test_RouterHop_link : laneOf 0 0 16 = some 0 ∧ linkOf 0 0 = 0 ∧
    hop (atRouter 16 (mkRoute [(5, 0)] 1) 1 0 0) (fun t => (t.pkt 7).map (fun p => (p.place, p.cur)) == some (.link 0 true 0, 1) && (t.linkSt 0).toB.waiting == [(7, 0)]) ∧
    hop (atRouter 16 (mkRoute [(5, 9)] 1) 1 0 0) (dropped 6 16) ∧ hop (atRouter 15 (mkRoute [(5, 0)] 1) 1 0 0) (dropped 2 15) ∧
    hop (atRouter 255 (mkRoute [(5, 2)] 1) 1 0 0) (dropped 3 255) ∧ hop (atRouter 0 (mkRoute [(5, 6)] 1) 1 0 0) (dropped 8 0) ∧ hop (atRouter 0 (mkRoute [(6, 0)] 1) 1 0 0) (dropped 6 0) := by
  decide +kernel
theorem test_RouterHop_crossed :
    hop { atRouter 16 (mkRoute [(5, 0)] 1) 1 0 0 with packets := [(7, { pk0 (.router 16) (mkRoute [(5, 0)] 1) 1 0x10 with xed := true })] } (dropped 5 16) := by decide +kernel

/-- R151: of two packets for one output the one on CTRL goes, and the other stays. -/
def contested : State := { atRouter 0 (mkRoute [(2, 10)] 1) 1 0 0 with packets := [(3, pk0 (.router 0) (mkRoute [(2, 10)] 1) 0 0x20), (7, pk0 (.router 0) (mkRoute [(2, 10)] 1) 1 0x10)] }
theorem test_RouterHop_arbitration : contested.winsOutput 0 7 (pk0 (.router 0) (mkRoute [(2, 10)] 1) 1 0x10) = false ∧ contested.holdsCredit 0 (pk0 (.router 0) (mkRoute [(2, 10)] 1) 0 0x20) = true ∧
    hop contested (fun t => t == contested) ∧ gives (exec (.packetHop 3) contested) (fun t => (t.pkt 3).map (·.place) == some (.router 1)) := by decide +kernel

/-- A request from the far corner of a die and the response on the reversed route. -/
def cornered : State := { (atRouter 0 0 1 0 0).setCoreSt 0 coreIdle with packets := [(7, pk0 (.router 0) (synthRoute 0 0 271 1) 1 0x10)], nextPkt := 8 }
theorem test_RouteArrives : siteDie 0 = siteDie 271 ∧ ((hopTimes 7 32 cornered).pkt 7).map (·.place) = some (.hal 271) ∧
    ((hopTimes 8 32 (({ cornered with packets := [] } : State).respond (pk0 (.hal 271) (synthRoute 0 0 271 1) 1 0x10) 271 0x12 0 [1])).pkt 8).map (·.place) = some (.core 0) := by
  decide +kernel

/-- SYSIG of 5 to tally 63 through entry `e`. -/
def wSig (e : Nat) : Word64 := word4 4 2 (63 * 2 ^ 50 + e * 2 ^ 42 + 5)
theorem test_TallyPackets_sysig : opIs (wSig 1) 4 2 ∧ onlyBits (wSig 255) 56 [(50, 6), (42, 8), (0, 16)] ∧
    gives (exec (.sysig 0 (wSig 0)) (on2 (wSig 0) CoreState.fresh)) (fun t => t.getF (tallyFld 0 63) == 5) ∧
    gives (exec (.sysig 0 (wSig 1)) ((on2 (wSig 1) CoreState.fresh).setF (F.HYP_RTAB_LO_ROUTE 0 1) 0x25))
      (fun t => (t.pkt 0).map (fun p => (p.place, p.route, p.ty, p.aux)) == some (.gate 0, 0x25, 1, 63 + 5 * 2 ^ 16)) ∧
    gives (exec (.sysig 0 (wSig 255)) ((on2 (wSig 255) CoreState.fresh).setF (F.HYP_RTAB_HI_ROUTE 0 255) (2 ^ 24)))
      (fun t => t.packets == [] && t.getF (F.HYP_RT_LASTDROP_CAUSE 0) == 7 && t.getF (F.CORE_PC_PC 0) == 1) := by decide +kernel
theorem test_TallyPackets_gate : gives (exec (.packetHop 7) { rst with packets := [(7, pk0 (.gate 0) 0 0 1)] }) (fun t => (t.pkt 7).map (·.place) == some (.router 0)) ∧
    gives (exec (.tallyAdd 7) { on2 wNop CoreState.fresh with packets := [(7, { pk0 (.core 0) 0 0 1 with aux := 63 + 5 * 2 ^ 16 })] }) (fun t => t.getF (tallyFld 0 63) == 5 && t.packets == []) ∧
    gives (exec (.tallyAdd 7) ({ on2 wNop CoreState.fresh with packets := [(7, { pk0 (.core 0) 0 0 1 with aux := 63 + 5 * 2 ^ 16 })] }.setF (tallyFld 0 63) 0xFFFB))
      (fun t => t.getF (tallyFld 0 63) == 0xFFFF && (t.core 0).fault == some ⟨causeTally, 0, 0, 63⟩) := by decide +kernel

/-- The moonlet's link to die 0 is up; window 0 is open for partition 0 at 2 MiB, for reads, writes and signals. -/
def mnl : State := (((((((lk 20 linkActive).setF F.MNL_STATUS_PRESENT 1).setF (F.MNL_WIN_CTRL_EN 0) 1).setF (F.MNL_WIN_VBASE_LO_ADDR 0) 1).setF (F.MNL_WIN_SIZE_SIZE 0) 1).setPgState (pgPrt 0) prtActive).setF (F.PRT_ROWS_LO_ROWS 0) 1).setF (F.PRT_GRANT_MNL 0) 1
theorem test_MoonletMessages_refused : mnl.mnlUp 0 = true ∧ mnl.mnlCheck 1 15 32 0 [] ≠ 0 ∧
    gives (exec (.mrd 0 15 9 32 0) mnl) (fun t => t.getF F.MNL_ERR_COUNT == 1 && (t.pkt 0).map (fun p => (p.place, p.ty, p.tag)) == some (.link 20 true 0, 0x81, 9)) ∧
    gives (exec (.mwr 0 15 9 32 0 (List.replicate 32 0)) mnl) (fun t => t.getF F.MNL_LASTERR_TYPE == 2) ∧
    gives (exec (.mwrb 0 15 9 32 0 (List.replicate 32 0) 1) mnl) (fun t => t.getF F.MNL_LASTERR_TYPE == 3) ∧
    gives (exec (.msig 0 15 0 1) mnl) (fun t => t.getF F.MNL_LASTERR_STATUS == 0xF && t.packets == []) ∧
    gives (exec (.mevt 0 15 0) mnl) (fun t => t.getF F.MNL_LASTERR_TYPE == 5) := by decide +kernel
theorem test_MoonletMessages_open : mnl.winOpen 0 = true ∧ mnl.mnlCheck 1 0 32 0 [] = 0 ∧ mnl.partOfSite 16 = some 0 ∧ siteOfNum (siteNum 16) = some 16 ∧
    gives (exec (.msig 0 0 (siteNum 16 + 63 * 2 ^ 16) 5) mnl) (fun t => (t.pkt 0).map (fun p => (p.ty, p.aux, p.srcKind)) == some (1, 63 + 5 * 2 ^ 16, 3)) := by decide +kernel

/-! Halyard ports (R173 to R193) -/

/-- Packet 7 at the port of site 0, which is in state `h`. -/
def atHal (h : Nat) (p : Packet) : State := { rst.setPgState (pgHyp 0) h with packets := [(7, { p with place := .hal 0 })], nextPkt := 8 }
def rd (addr len : Nat) : Packet := { pk0 (.hal 0) 0 1 0x10 with addr := addr, len := len }
def wr (addr : Nat) (d : List Byte) : Packet := { pk0 (.hal 0) 0 1 0x11 with addr := addr, len := d.length, data := d }
def refuses (h : Nat) (p : Packet) (st_ : Nat) : Bool :=
  gives (if p.ty = 0x10 then exec (.hrd 7) (atHal h p) else exec (.hwr 7) (atHal h p)) (fun t =>
    (t.pkt 8).map (fun q => (q.ty, q.aux, q.vc, q.data)) == some (answerTy p, st_, 2, []) && t.getF (F.HYP_ERR_COUNT 0) == 1 && t.getF (F.HYP_LASTERR_STATUS 0) == st_)
theorem test_PortTakes_failed : refuses halFailed (rd 0 32) stColFail ∧ refuses halFailed (wr 0 []) stColFail := by decide +kernel
/-- R178: offsets from 0x3000_0000 on are a hole, the last atom before them is not. -/
theorem test_PortTakes_hole : isHole 0x30000000 = true ∧ isHole 0x2FFFFFE0 = false ∧ refuses halActive (rd 0x30000000 32) stHole := by decide +kernel
theorem test_PortTakes_malformed : plainOk (rd 240 32) = false ∧ plainOk (rd 224 32) = true ∧ refuses halActive (rd 240 32) stMalformed ∧
    refuses halActive (wr (2 ^ 41) (List.replicate 32 0)) stMalformed ∧ refuses halActive (rd (2 ^ 41) 64) stMalformed := by decide +kernel
theorem test_PortTakes_retired : (((atHal halActive (rd 0 32)).setF (F.DIE_BRET 0 0) 1).bankRetired 0 0) = true ∧
    gives (exec (.hrd 7) ((atHal halActive (rd 0 32)).setF (F.DIE_BRET 0 0) 1)) (fun t => (t.pkt 8).map (·.aux) == some stColFail) := by decide +kernel
theorem test_PortTakes_queued : gives (exec (.hrd 7) (atHal halActive (rd 0 32))) (fun t =>
      (t.port 0).reqs.map (fun e => (e.1, e.2.own, e.2.granted)) == [(0, true, true)] && t.pkt 7 == none && (t.port 0).nextReq == 1) := by decide +kernel
def portWith (q : PortState) : State := { rst.setPgState (pgHyp 0) halActive with ports := [(0, q)], nextPkt := 8 }
def req (p : Packet) (own granted : Bool) : PortReq := ⟨p, own, 0, granted⟩
theorem test_PortTakes_aged : gives (exec (.agedRemoteGrant 0) (portWith { PortState.fresh 0 with reqs := [(0, req (rd 0 32) false false), (1, req (rd 32 32) true false)], nextReq := 2 }))
    (fun t => (tabGet (t.port 0).reqs 0).map (·.granted) == some true && t.getF (F.HYP_ARB_AGED_COUNT 0) == 1) := by decide +kernel

/-- R180: thirty-two requests are granted, and no more is; thirty-one, and one more may be. -/
def crowd (n : Nat) : State := portWith { PortState.fresh 0 with reqs := (List.range n).map (fun k => (k, req (rd (32 * k) 32) false true)) ++ [(40, req (rd 4096 32) false false)], nextReq := 41 }
theorem test_PortTakes_limit : gives (exec (.agedRemoteGrant 0) (crowd 32)) (fun t => t == crowd 32) ∧
    gives (exec (.agedRemoteGrant 0) (crowd 31)) (fun t => (tabGet (t.port 0).reqs 40).map (·.granted) == some true && t.getF (F.HYP_ARB_AGED_COUNT 0) == 0) ∧
    gives (exec (.agedRemoteGrant 0) (portWith { (crowd 1).port 0 with agedAt := 3000 })) (fun t => t.now == 3000 + 10 * t.getF (F.HYP_ARB_AGE 0)) := by decide +kernel

def serving (p : Packet) : State := portWith { PortState.fresh 0 with reqs := [(0, req p true true)], nextReq := 1 }
/-- The conditions of PortServes on request 0. -/
def mayServe (s : State) (p : Packet) : Bool := s.hal 0 == halActive && s.firstOnAtom 0 0 p && s.bankVerdict 0 0 p == 0
theorem test_PortServes_read : mayServe (serving (rd 0 32)) (rd 0 32) ∧ (serving (rd 0 32)).dramBad 0 32 = false ∧
    gives (exec (.halyardRequestComplete 0 0) { serving (rd 0 32) with dram := (⟨[], [], []⟩ : Memory).write 31 0xA5 })
      (fun t => (t.pkt 8).map (fun q => (q.aux, q.data.drop 30)) == some (0, [0, 0xA5]) && t.getF (F.HYP_RD_OWN_COUNT 0) == 1) := by decide +kernel
/-- R362 and R181: two flipped bits of one byte are uncorrectable, and the answer carries no data. -/
theorem test_PortServes_uncorr : ({ serving (rd 0 32) with dram := ⟨[], [], [(5, 0xF00)]⟩ } : State).dramBad 0 32 = true ∧
    gives (exec (.halyardRequestComplete 0 0) { serving (rd 0 32) with dram := ⟨[], [], [(5, 0xF00)]⟩ }) (fun t => (t.pkt 8).map (fun q => (q.aux, q.data)) == some (stUncorr, [])) := by decide +kernel
/-- Only the enabled bytes 0 and 31 are written. -/
def masked : Packet := { wr 64 (List.replicate 32 0xFF) with masked := true, mask := 1 + 2 ^ 31 }
theorem test_PortServes_write : mayServe (serving masked) masked ∧ atomsOn (writeMask masked) 32 ≠ 0 ∧ bit (writeMask masked) 31 = true ∧
    gives (exec (.halyardRequestComplete 0 0) (serving masked)) (fun t => t.dram.cells == [(64, 0xFF), (95, 0xFF)] && (t.pkt 8).map (fun q => (q.ty, q.aux)) == some (0x13, 0)) := by decide +kernel
def xwr : Packet := wr (2 * 2 ^ 41 + 0xFFE0) (List.replicate 32 0x7E)
def xrd : Packet := rd (2 * 2 ^ 41 + 0xFFE0) 32
def buf : PortState := { PortState.fresh 0 with xbuf := ⟨[], [], []⟩ }
theorem test_PortServes_buffer : dpaSpace xwr.addr = 2 ∧ mayServe (serving xwr) xwr ∧
    gives (exec (.halyardRequestComplete 0 0) (portWith { buf with reqs := [(0, req xwr true true)], nextReq := 1 })) (fun t => (t.port 0).xbuf.read 0xFFFF == 0x7E && t.dram.cells == []) ∧
    gives (exec (.halyardRequestComplete 0 0) (portWith { buf with reqs := [(0, req xrd true true)], nextReq := 1 })) (fun t => (t.pkt 8).map (fun q => (q.aux, q.data)) == some (0, List.replicate 32 0)) := by
  decide +kernel
/-- Set 0: DIN 32, DOUT 32, BASE 0. -/
def xset (q : PortState) : State := (((portWith q).setF (F.HYP_XSET_DIN 0 0) 1).setF (F.HYP_XSET_DOUT 0 0) 1).setF (F.HYP_XSET_VALID 0 0) 1
theorem test_PortServes_expand : (xset buf).expandOk 0 (rd (2 ^ 41) 64) = true ∧
    gives (exec (.halyardRequestComplete 0 0) (xset { buf with reqs := [(0, req (rd (2 ^ 41) 64) true true)], nextReq := 1 })) (fun t => (t.port 0).expand.map (fun e => (e.1, e.2.2.length)) == [(1, 64)]) ∧
    (xset buf).xBase 0 0 = 0 ∧ (buf.xbuf.errors 0 2048) = [] := by decide +kernel
theorem test_PortServes_expanded : (buf.xbuf.errors ((xset buf).xBase 0 0) (2 * (xset buf).xDin 0 0 * (xset buf).xDout 0 0)) = [] ∧
    gives (exec (.expansionComplete 0 1) (xset { buf with expand := [(1, req (rd (2 ^ 41) 64) true true, List.replicate 64 0)] })) (fun t => (t.port 0).expand == [] && t.getF (F.HYP_XVEC_COUNT 0) == 1 &&
      (t.pkt 8).map (fun q => (q.aux, q.data.length)) == some (0, 64)) := by decide +kernel
/-- R188: one product, of W = 1.0 and c = 2.0, is 2.0 in B16. -/
theorem test_expandVec : expandVec [0x80, 0x3F] [0, 0x40] 1 1 false = [0, 0x40] := by decide +kernel

/-- Half-layer 0 of die 0 is on: bank 0 of site 0 is refreshed. -/
def refr (q : PortState) : State := { portWith q with power := { rst.power with dramOn := [0] } }
def busy : PortState := { PortState.fresh 0 with reqs := [(0, req (rd 0 32) true true)], nextReq := 1 }
theorem test_Refresh_due : (refr (PortState.fresh 0)).refreshOn 0 0 = true ∧ (refr busy).debtLimit 0 0 = 8 ∧
    gives (exec (.refreshDue 0 0) (refr (PortState.fresh 0))) (fun t => (t.port 0).refreshing == [0] && t.now == 1042 && t.getF (F.HYP_REF_OPS_COUNT 0) == 1) ∧
    gives (exec (.refreshDue 0 0) (refr busy)) (fun t => (t.port 0).refreshing == [] && (t.port 0).debtOf 0 == 1) ∧
    gives (exec (.refreshDue 0 0) (refr { busy with debt := [(0, 7)] })) (fun t => (t.port 0).refreshing == [0] && t.getF (F.HYP_REF_URGENT_COUNT 0) == 1) ∧
    gives (exec (.refreshDue 0 0) (refr { busy with debt := [(0, 6)] })) (fun t => (t.port 0).debtOf 0 == 7) := by decide +kernel
/-- R191: a debt below the limit waits for 200 ns of idle, a closed row too; one at the limit does not. -/
theorem test_Refresh_idle : gives (exec (.refreshPayback 0 0) (refr { PortState.fresh 0 with debt := [(0, 2)], idleFrom := [(0, 900)] })) (fun t => t.now == 920) ∧
    gives (exec (.refreshPayback 0 0) (refr { busy with debt := [(0, 8)], idleFrom := [(0, 900)] })) (fun t => t.now == 0 && (t.port 0).debtOf 0 == 7 && (t.port 0).refreshing == [0]) := by decide +kernel
theorem test_Refresh_payback :
    gives (exec (.refreshPayback 0 0) (refr { PortState.fresh 0 with debt := [(0, 2)] })) (fun t => (t.port 0).debtOf 0 == 1 && (t.port 0).refreshing == [0]) ∧
    gives (exec (.refreshComplete 0 0) (refr { PortState.fresh 0 with debt := [(0, 8)], refreshing := [0] })) (fun t => (t.port 0).debtOf 0 == 7 && (t.port 0).refreshing == [0]) ∧
    gives (exec (.refreshComplete 0 0) (refr { PortState.fresh 0 with debt := [(0, 7)], refreshing := [0] })) (fun t => (t.port 0).debtOf 0 == 7 && (t.port 0).refreshing == []) ∧
    gives (exec (.rowIdleClose 0 0) (refr { PortState.fresh 0 with openRows := [(0, 5, 100)] })) (fun t => (t.port 0).openRows == [] && t.now == 120) := by decide +kernel

/-! Bank engines (R194 to R214) -/

/-- A bank descriptor: BOP, SRC, SRC2, DST, ROWS, VL, BANKS, GRP, TARGET. -/
def bkDesc (bop src src2 dst rows vl banks grp target : Nat) : List Nat :=
  [bop, 0] ++ leBytes 2 src ++ leBytes 2 src2 ++ leBytes 2 dst ++ [rows, vl, 0, 0] ++ leBytes 4 banks ++ [grp, 0] ++ leBytes 2 target ++ List.replicate 44 0
def dXor : List Nat := bkDesc 5 0 1 2 1 0 1 0 (siteNum 1)
def wCast : Word64 := word4 5 1 (2 ^ 6 + 9)
def wSetk : Word64 := word4 5 2 (1 * 2 ^ 26 + 2 ^ 6 + 9)
def wBkmark : Word64 := word4 5 3 9
def bkBusy : BkOp := ⟨1, [], [], false, true, 9, 77⟩
/-- Core 0 has a partition and a descriptor at granule 0, and `bk` waiting. -/
def bkAt (w : Word64) (d : List Nat) (bk : List BkOp) : State :=
  let s := on2 w { CoreState.fresh with ls := lsWith 0 d, bk := bk }
  { s with power := { s.power with fabOn := [0, 1, 2, 3] } }
def bkCaseOf (d : List Nat) : Option Nat := (bkAt wCast d []).bkCase 0 ((bkAt wCast d []).lsData 0 0 64) 0 (onlyBits wCast 56 [(41, 15), (37, 4), (6, 1), (0, 6)])
theorem test_BkIssue_cast : (bkAt wCast dXor []).issueOk 0 wCast ∧ opIs wCast 5 1 ∧ (bkAt wCast dXor []).inScratch 0 0 64 ∧ bkCaseOf dXor = none ∧
    (bkAt wCast dXor []).bkTargets 0 dXor = [1] ∧ (bkAt wCast dXor []).towerOff 1 = false ∧
    gives (exec (.bkcast 0 wCast) (bkAt wCast dXor [])) (fun t => t.packets.map (fun e => (e.2.place, e.2.ty, e.2.data.length, e.2.aux)) == [(.router 0, 0x20, 64, 0)] &&
      t.getF (F.HYP_BK_ISSUED_COUNT 0) == 1 && (t.core 0).bk.length == 1 && t.getF (F.CORE_PC_PC 0) == 1) := by decide +kernel
/-- The cases of R202, each by a descriptor that meets it and, where it can, a later one too. -/
theorem test_bkCase : bkCaseOf (bkDesc 5 0x4000 1 2 1 0 0 0 (siteNum 1)) = some 1 ∧ bkCaseOf (bkDesc 7 0 1 2 1 0 0 0 (siteNum 1)) = some 2 ∧
    bkCaseOf (bkDesc 5 0 1 2 1 0 0 0 0x1F) = some 3 ∧ bkCaseOf (bkDesc 5 0 1 2 0 0 0 0 (siteNum 1)) = some 4 ∧ bkCaseOf (bkDesc 5 0 1 2 25 0 1 0 (siteNum 1)) = some 5 ∧
    bkCaseOf (bkDesc 5 12288 1 2 1 0 1 0 (siteNum 1)) = some 6 ∧ bkCaseOf (bkDesc 5 0 1 512 1 0 1 0 (siteNum 1)) = some 7 ∧
    bkCaseOf (bkDesc 5 12287 12286 12285 1 0 1 0 (siteNum 1)) = none := by decide +kernel
/-- The scratchpad ends at 0x1C0000. -/
def bkHigh : State := (bkAt (word4 5 1 (0x7000 * 2 ^ 41)) dXor []).setF (F.CORE_LS_SPLIT_L1 0) 1
theorem test_BkIssue_illegal : gives (exec (.bkcast 0 wCast) (bkAt wCast (bkDesc 7 0 1 2 1 0 1 0 (siteNum 1)) [])) (fun t => (t.core 0).fault == some ⟨causeBk, 0, 0, 2⟩) ∧
    (bkHigh.inScratch 0 0x1C0000 64) = false ∧ gives (exec (.bkcast 0 (word4 5 1 (0x7000 * 2 ^ 41))) bkHigh) (fun t => (t.core 0).fault == some ⟨causeBk, 0, 0, 8⟩) := by decide +kernel
theorem test_BkIssue_held : gives (exec (.bkcast 0 wCast) (bkAt wCast dXor (List.replicate 4 bkBusy))) (fun t => t == bkAt wCast dXor (List.replicate 4 bkBusy)) := by decide +kernel
theorem test_BkIssue_setk : (bkAt wSetk dXor []).issueOk 0 wSetk ∧ opIs wSetk 5 2 ∧ (bkAt wSetk dXor []).inScratch 0 64 256 ∧ (bkAt wSetk dXor []).bkSetCase 0 dXor true = none ∧
    gives (exec (.bksetk 0 wSetk) (bkAt wSetk dXor [])) (fun t => t.packets.map (fun e => (e.2.ty, e.2.data.length, e.2.addr)) == [(0x21, 256, 1)]) ∧
    gives (exec (.bksetk 0 wSetk) (bkAt wSetk (bkDesc 5 0 1 2 1 0 0 0 (siteNum 1)) [])) (fun t => (t.core 0).fault == some ⟨causeBk, 0, 0, 4⟩) := by decide +kernel
theorem test_BkIssue_mark : (bkAt wBkmark dXor [bkBusy]).issueOk 0 wBkmark ∧ opIs wBkmark 5 3 ∧
    gives (exec (.bkmark 0 wBkmark) (bkAt wBkmark dXor [bkBusy])) (fun t => (t.core 0).bk.map (fun o => (o.op, o.tally)) == [(1, 9), (3, 9)]) ∧
    gives (exec (.bkmark 0 (word4 5 3 64)) (bkAt (word4 5 3 64) dXor [])) (fun t => (t.core 0).fault == some ⟨causeBk, 0, 0, 1⟩) ∧
    gives (exec (.bkmarkDone 0) (bkAt wNop dXor [⟨3, [], [], false, true, 9, 0⟩, bkBusy])) (fun t => (t.core 0).bk == [bkBusy] && t.getF (tallyFld 0 9) == 1) ∧
    gives (exec (.bkmarkDone 0) (bkAt wNop dXor [bkBusy])) (fun t => t.getF (tallyFld 0 9) == 0) := by decide +kernel

/-- A broadcast at column 0 with banks still to start and operations running. -/
def bcast (cmd : List Nat) (todo : List Nat) (active : List BankOp) : Bcast := ⟨none, cmd, cmdBanks cmd, { pk0 (.hal 0) 0 1 0x20 with src := siteNum 1, tag := 6 }, [], todo, active, 0, false, false⟩
def colWith (q : PortState) : State := ((portWith q).setWord 0x2420 0).setF (F.DIE_BK_TOKCAP_CAP 0) 8
/-- Thirty banks wait after bank 30: the wave takes 31 and then wraps, as many as are free. -/
theorem test_BkEngine_wave : (colWith { PortState.fresh 0 with bcasts := [bcast dXor (List.range 32) []], ptr := 30 }).hal 0 = halActive ∧
    (colWith (PortState.fresh 0)).effCap 0 = 8 ∧
    gives (exec (.waveStart 0) (colWith { PortState.fresh 0 with bcasts := [bcast dXor (List.range 32) []], ptr := 30 }))
      (fun t => (t.port 0).bcasts.map (fun c => (c.active.map (·.bank), c.todo.length, c.waves)) == [([31, 0, 1, 2, 3, 4, 5, 6], 24, 1)] && (t.port 0).ptr == 6) ∧
    gives (exec (.waveStart 0) (colWith { PortState.fresh 0 with bcasts := [bcast dXor (List.range 32) []], debt := [(9, 1)] }))
      (fun t => (t.port 0).bcasts.map (fun c => (c.active.map (·.bank), c.todo.length)) == [([0, 1, 2, 3, 4, 5, 6], 25)] && t.getF (F.HYP_BK_STATUS_HOLDBACK 0) == 1) := by decide +kernel
/-- R209: with every half-layer below 95 °C the cap is TOKCAP's. -/
theorem test_effCap : ((colWith (PortState.fresh 0)).setF (F.DIE_BK_TOKCAP_CAP 0) 3).effCap 0 = 3 := by decide +kernel

def opOf (b step : Nat) : BankOp := ⟨b, step, 0, false, false⟩
def stepAt (cmd : List Nat) (step : Nat) (cells : Memory) : State := { colWith { PortState.fresh 0 with bcasts := [bcast cmd [3] [opOf 0 step]] } with dram := cells }
/-- Row 1 of bank 0 stands, by R177's hash, 2048 bytes into its stripe. -/
def rows01 : Memory := ((⟨[], [], []⟩ : Memory).write 0 0x0F).write (65536 + 2048) 0x3C
theorem test_BkEngine_logic : rowAddr 0 0 1 = 65536 + 2048 ∧ bkSteps dXor = [.logic 0] ∧ bkSteps (bkDesc 6 0 0 2 2 0 1 0 0) = [.logic 0, .logic 1] ∧
    gives (exec (.engineStepComplete 0 0 5) (stepAt dXor 0 rows01)) (fun t => t.dram.read (rowAddr 0 0 2) == 0x33 && (t.dram.cells.length == 3) && t.getF (F.HYP_BK_OPS_COUNT 0) == 1) := by decide +kernel
/-- R199 with CHK: the scrubs come before the logic step. -/
theorem test_bkSteps : bkSteps ([5, 2] ++ dXor.drop 2) = [.scrub 0, .scrub 1, .logic 0] ∧
    bkSteps ([1, 1] ++ (bkDesc 1 0 0 9 2 1 1 0 0).drop 2) = [.readDst 9, .readSrc 0, .readSrc 1, .write 0] ∧ bkSteps (bkDesc 2 0 0 0 0 0 1 0 0) = [.kload] := by decide +kernel
/-- R196: sixty-four vectors of one atom; the last is 2.0 times K0's 3.0. -/
def dotCmd : List Nat := bkDesc 1 0 0 1 1 1 1 0 0
def dotCells : Memory := ((⟨[], [], []⟩ : Memory).write 2016 0x00).write 2017 0x40
def dotPort : PortState := { PortState.fresh 0 with kslots := [(0, [0x40, 0x40] ++ List.replicate 30 0)], bcasts := [bcast dotCmd [] [opOf 0 1]] }
theorem test_BkEngine_write : bkSteps dotCmd = [.readSrc 0, .write 0] ∧
    gives (exec (.engineStepComplete 0 0 5) { colWith dotPort with dram := dotCells })
      (fun t => t.dram.read (rowAddr 0 0 1 + 255) == 0x40 && t.dram.read (rowAddr 0 0 1 + 254) == 0xC0 && t.dram.read (rowAddr 0 0 1 + 251) == 0) := by decide +kernel
theorem test_BkEngine_kload : bkSteps (bkDesc 2 0 0 0 0 0 1 0 0) = [.kload] ∧
    gives (exec (.engineStepComplete 0 0 5) (stepAt (bkDesc 2 0 0 0 0 0 9 0 0) 0 ((⟨[], [], []⟩ : Memory).write 511 0xAB)))
      (fun t => ((t.port 0).kslot 0 15).getD 31 0 == 0xAB && (t.port 0).kslot 0 14 == List.replicate 32 0) := by decide +kernel

def bkPkt (ty aux addr : Nat) (d : List Nat) : Packet := { pk0 (.hal 0) 0 1 ty with aux := aux, addr := addr, data := toBytes d, src := siteNum 1, tag := 6 }
theorem test_BkReports_take :
    gives (exec (.bkcmd 7) (atHal halActive (bkPkt 0x20 0 0 dXor))) (fun t => (t.port 0).bcasts.map (fun c => (c.todo, c.waves)) == [([0], 0)] && t.packets == []) ∧
    gives (exec (.bkcmd 7) (atHal halFailed (bkPkt 0x20 0 0 dXor))) (fun t => (t.pkt 8).map (fun q => (q.ty, q.aux)) == some (0x22, 4 * 64 + 2 ^ 16)) := by decide +kernel
theorem test_BkReports_setk :
    gives (exec (.bksetkPacket 7) (atHal halActive (bkPkt 0x21 0 (2 ^ 32 + 2 ^ 31) (List.replicate 255 0 ++ [7])))) (fun t => ((t.port 0).kslot 31 15).getD 31 0 == 7 && ((t.port 0).kslot 31 8).getD 31 0 == 0 &&
      (t.pkt 8).map (fun q => (q.ty, q.aux)) == some (0x22, 2 ^ 16)) := by decide +kernel
theorem test_BkReports_forward : (List.range 16).map (fun k => 17 * (0 / 17) + k + 1) = [1, 2, 3, 4, 5, 6, 7, 8, 9, 10, 11, 12, 13, 14, 15, 16] ∧
    gives (exec (.bkcmd 7) (atHal halActive (bkPkt 0x20 1 0 dXor))) (fun t => t.packets.length == 16 && (t.port 0).collects.map (fun k => k.waits.length) == [17]) ∧
    gives (exec (.bksetkPacket 7) (atHal halFailed (bkPkt 0x21 1 1 (List.replicate 256 0)))) (fun t => t.packets.length == 16 && (t.port 0).collects.map (fun k => (k.waits.length, k.status)) == [(16, 4)]) := by
  decide +kernel
def coll (head : Option Packet) (waits : List Nat) : Collect := ⟨head, 6, waits, 1, 2, 1, 3, false, true, 9, 0⟩
/-- R203: four of core 0's broadcasts are on their way, though a reset has emptied its queue. -/
def fourSent : State := { bkAt wCast dXor [] with ports := [(0, { PortState.fresh 0 with collects := List.replicate 4 (coll none [1]) })] }
theorem test_BkIssue_inFlight : fourSent.sendsFull 0 ∧ gives (exec (.bkcast 0 wCast) fourSent) (fun t => t == fourSent) ∧ gives (exec (.bksetk 0 wSetk) fourSent) (fun t => t == fourSent) := by decide +kernel
def doneAt (k : Collect) : State := { portWith { PortState.fresh 0 with collects := [k] } with packets := [(7, bkPkt 0x22 (5 + 64 * 2 + 2 ^ 16) 0 [])] }
theorem test_BkReports_done : siteOfNum (siteNum 1) = some 1 ∧ (doneAt (coll none [1, 2])).inOrder 7 (bkPkt 0x22 (5 + 64 * 2 + 2 ^ 16) 0 []) ∧
    (List.range 16).all (fun n => (doneAt (coll none [1, 2])).pgState (pgPrt n) != prtReset) ∧
    gives (exec (.bkdone 7) (doneAt (coll none [1, 2]))) (fun t => (t.port 0).collects.map (fun k => (k.waits, k.waves, k.status, k.columns)) == [([2], 5, 3, 4)]) ∧
    gives (exec (.bkdone 7) (doneAt (coll (some (bkPkt 0x20 1 0 [])) [1]))) (fun t => (t.pkt 8).map (fun q => (q.ty, q.aux)) == some (0x22, doneAux 5 3 4)) ∧
    gives (exec (.bkdone 7) ((doneAt (coll none [1])).setCore 0 { CoreState.fresh with bk := [{ bkBusy with tag := 6 }] }))
      (fun t => t.getF (tallyFld 0 9) == 1 && (t.core 0).bk == [] && t.getF (F.HYP_BK_LASTDONE_COLUMNS 0) == 4 && t.getF (F.HYP_BK_LASTDONE_WAVES 0) == 5) := by decide +kernel

/-! Caches, home, translation, census (R215 to R241) -/

/-- Cluster 0 serves and is in state `k`; packet 7 stands at its CLU port. -/
def cluAt (k : ClusterState) (p : Packet) : State :=
  { (rst.setPgState (pgClu 0) cluUp).setCluster 0 k with packets := [(7, { p with place := .clu 4 })], nextPkt := 8, nextTag := 20 }
def line (st_ : CSt) (mask : Nat) (d : List Byte) : CLine := ⟨st_, d ++ List.replicate (128 - d.length) 0, mask, 0, []⟩
/-- A coherent packet about line 0 from cluster 1. -/
def coh (ty aux : Nat) (d : List Byte) (mask : Nat) : Packet := { pk0 (.clu 4) 0 1 ty with clu := true, src := siteNum (cluSite 1), aux := aux, data := d, mask := mask }
def K : ClusterState := ClusterState.fresh
theorem test_clu_places : cluSite 0 = 4 ∧ cluSite 1 = 12 ∧ cluSite 127 = 17 * 63 + 12 ∧ cluOfSite 4 = 0 ∧ reqClu (coh 0x30 0 [] 0) = some 1 := by decide +kernel
theorem test_CacheSide_cinv : gives (exec (.cinv 7) (cluAt { K with lines := [(0, line .s 0 []), (5, line .s 0 [])] } (coh 0x34 0 [] 0)))
    (fun t => (t.cluster 0).lines.map (·.1) == [5] && t.getF (F.CLU_CC_RECALL_COUNT 0) == 1 && (t.pkt 8).map (fun q => (q.ty, q.vc)) == some (0x3A, 2)) := by decide +kernel
def recalled (k : ClusterState) : State → Bool := fun t => (t.cluster 0).lines == [] && (t.pkt 8).map (fun q => (q.ty, q.data.take 1, q.mask)) == some (0x3B, k.wb.flatMap (fun e => e.2.1.take 1) ++
  k.lines.flatMap (fun e => if e.2.mask = 0 then [] else e.2.data.take 1), (k.wb.map (fun e => e.2.2.1)).sum + (k.lines.map (fun e => e.2.mask)).sum)
theorem test_CacheSide_crecall : [{ K with lines := [(0, line .m 1 [7])] }, { K with lines := [(0, line .e 0 [7])] }, { K with wb := [(0, [9], 3, 0)] }, K].all
    (fun k => gives (exec (.crecall 7) (cluAt k (coh 0x35 0 [] 0))) (recalled k)) := by decide +kernel
theorem test_CacheSide_cdata :
    gives (exec (.cdata 7) (cluAt { K with pend := [(0, ⟨0x30, [], false⟩)] } (coh 0x38 0x10 (List.replicate 128 5) 0))) (fun t => (t.cluster 0).lines.map (fun e => (e.1, e.2.st)) == [(0, .e)] && (t.cluster 0).pend == []) ∧
    gives (exec (.cdata 7) (cluAt { K with pend := [(0, ⟨0x30, [], false⟩)] } (coh 0x38 0 (List.replicate 128 5) 0))) (fun t => (t.cluster 0).lines.map (fun e => (e.1, e.2.st)) == [(0, .s)]) ∧
    gives (exec (.cdata 7) (cluAt { K with pend := [(0, ⟨0x32, [], false⟩)], lines := [(0, line .p 1 [7])] } (coh 0x38 0 (List.replicate 128 5) 0)))
      (fun t => (t.cluster 0).lines.map (fun e => (e.2.st, e.2.mask, e.2.data.take 2)) == [(.m, 1, [7, 5])]) := by decide +kernel
theorem test_CacheSide_cgrant :
    gives (exec (.cgrant 7) (cluAt { K with pend := [(0, ⟨0x31, [], false⟩)], lines := [(0, line .s 0 [7])] } (coh 0x39 0 [] 0))) (fun t => (t.cluster 0).lines.map (fun e => (e.2.st, e.2.mask, e.2.data.take 1)) == [(.m, 0, [7])]) ∧
    gives (exec (.cgrant 7) (cluAt { K with pend := [(0, ⟨0x31, [], false⟩)] } (coh 0x39 0 [] 0))) (fun t => (t.cluster 0).lines.map (fun e => (e.2.st, e.2.mask)) == [(.p, 0)]) ∧
    gives (exec (.cack 7) (cluAt { K with wb := [(0, [9], 3, 0)] } (coh 0x3C 0 [] 0))) (fun t => (t.cluster 0).wb == []) := by decide +kernel

def txn0 (req : Option Packet) (ph : Phase) (acks : Nat) : Txn := ⟨req, ph, acks, 0, []⟩
def home (k : ClusterState) (ty : Nat) : State := cluAt k (coh ty 0 [3] 1)
theorem test_HomeSide_queue : [((Instr.crds 7), 0x30), (.cclaim 7, 0x31), (.cfill 7, 0x32), (.cwb 7, 0x33), (.catom 7, 0x36)].all (fun e =>
    gives (exec e.1 (home { K with txns := [(0, txn0 none .acks 1)] } e.2)) (fun t => ((tabGet (t.cluster 0).txns 0).map (fun x => x.queue.map (·.ty))) == some [e.2] && t.nextPkt == 8)) := by decide +kernel
theorem test_HomeSide_grant : (home K 0x31).homeHolders 0 0 (some (coh 0x31 0 [] 0)) = [] ∧ K.dirRoom 0 = true ∧
    gives (exec (.cclaim 7) (home K 0x31)) (fun t => (t.pkt 8).map (·.ty) == some 0x39 && (tabGet (t.cluster 0).dir 0).map (fun d => (d.owned, d.ptrs)) == some (true, [1])) := by decide +kernel
theorem test_HomeSide_read : [((Instr.crds 7), 0x30, 128), (.cfill 7, 0x32, 128), (.catom 7, 0x36, 32)].all (fun e =>
    gives (exec e.1 (home K e.2.1)) (fun t => (t.pkt 8).map (fun q => (q.ty, q.len, q.clu, q.srcKind)) == some (0x10, e.2.2, true, 0) &&
      (tabGet (t.cluster 0).txns 0).map (fun x => x.phase) == some .read && (tabGet t.reqs 20).map (·.org) == some (.home 0 0))) := by decide +kernel
def owned (y : Nat) : ClusterState := { K with dir := [(0, ⟨true, false, [y], 0⟩)] }
theorem test_HomeSide_cwb : gives (exec (.cwb 7) (home (owned 1) 0x33)) (fun t => (t.pkt 8).map (fun q => (q.ty, q.data, q.mask, q.masked, q.vc)) == some (0x11, [3], 1, true, 3)) ∧
    gives (exec (.cwb 7) (home (owned 5) 0x33)) (fun t => (t.pkt 8).map (·.ty) == some 0x3C && (t.cluster 0).dir == (owned 5).dir) := by decide +kernel
theorem test_HomeSide_recall : [((Instr.crds 7), 0x30), (.cclaim 7, 0x31)].all (fun e => gives (exec e.1 (home (owned 5) e.2)) (fun t =>
    (t.pkt 8).map (·.ty) == some 0x35 && (tabGet (t.cluster 0).txns 0).map (fun x => (x.phase, x.acks)) == some (.acks, 1))) := by decide +kernel
theorem test_HomeSide_invalidate : gives (exec (.cclaim 7) (home { K with dir := [(0, ⟨false, false, [2, 3], 0⟩)] } 0x31)) (fun t =>
    t.packets.map (fun e => (e.1, e.2.ty, e.2.route == synthRoute 0 4 (cluSite (e.1 - 6)) 2)) == [(8, 0x34, true), (9, 0x34, true)] && (tabGet (t.cluster 0).txns 0).map (·.acks) == some 2) := by decide +kernel
def claim : Packet := coh 0x31 0 [] 0
theorem test_HomeSide_acks :
    gives (exec (.ciack 7) (home { K with txns := [(0, txn0 (some claim) .acks 2)] } 0x3A)) (fun t => (t.cluster 0).txns == [(0, txn0 (some claim) .acks 1)]) ∧
    gives (exec (.ciack 7) (home { owned 5 with txns := [(0, txn0 (some claim) .acks 1)] } 0x3A)) (fun t => (t.cluster 0).txns == [] && (t.pkt 8).map (·.ty) == some 0x39 && (tabGet (t.cluster 0).dir 0).map (·.ptrs) == some [1]) ∧
    gives (exec (.cwbr 7) (home { owned 5 with txns := [(0, txn0 (some claim) .acks 1)] } 0x3B)) (fun t => (t.pkt 8).map (fun q => (q.ty, q.data, q.mask)) == some (0x11, [3], 1) && (tabGet (t.cluster 0).txns 0).map (·.phase) == some .write) := by
  decide +kernel

/-- R234's table: REFS at its limits, DECUNLOCK and UNLOCK of a BUSY entry, SET keeps bits 31 and 30. -/
theorem test_cenApply : cenApply 1 (2 ^ 30 - 1) 0 0 = none ∧ cenApply 2 (2 ^ 31) 0 0 = none ∧ cenApply 3 (3 * 2 ^ 30 + 9) 5 0 = some (3 * 2 ^ 30 + 5) ∧ cenApply 4 7 0 0 = some (2 ^ 31 + 7) ∧
    cenApply 5 (2 ^ 31 + 7) 0 0 = some 6 ∧ cenApply 6 (2 ^ 31 + 7) 0 0 = some 7 ∧ cenWaits 3 (2 ^ 31) = true ∧ cenWaits 5 (2 ^ 31) = false ∧ cenWaits 0 (2 ^ 31) = false := by decide +kernel
/-- Partition 2 holds row 0, and the census page operated on is that of DPA 0. -/
def part2 : State := { (((rst.setF (F.PRT_ROWS_LO_ROWS 2) 1).setWord (pgPrt 2 + 0x448) 0).setPgState (pgPrt 2) 1) with power := { rst.power with fabOn := [0] }, nextPkt := 8, nextTag := 20 }
theorem test_Census_ops : (part2).cenEntry 2 0 = some 0 ∧ homeOf 0 = some 0 ∧ part2.routeStatus 0 = none ∧
    [((Instr.censusRead ensA 2 8), 0), (.censusInc ensA 2 9, 1), (.censusDec ensA 2 10, 2), (.censusSet ensA 2 11, 3), (.censusLock ensA 2 12, 4), (.censusDecunlock ensA 2 13, 5), (.censusUnlock ensA 2 14, 6)].all (fun e =>
      ensOk part2 (pgPrt 2 + 0x440) (8 + e.2) 15 && gives (exec e.1 part2) (fun t => (t.pkt 8).map (fun q => (q.ty, q.aux, q.addr)) == some (0x36, e.2, 0) && t.on (F.PRT_CEN_OP_BUSY 2)) &&
      gives (exec e.1 (part2.setF (F.PRT_CEN_OP_BUSY 2) 1)) (fun t => t.packets == [])) := by decide +kernel
theorem test_Census_complete : gives (exec (.censusOpComplete 2) { part2.setF (F.PRT_CEN_OP_BUSY 2) 1 with reqs := [(3, ⟨2, 0, 0, true, [9, 0, 0, 128], 4, 0, 0, false, .census 2⟩)] })
    (fun t => t.getF (F.PRT_CEN_RESULT_ENTRY 2) == 0x80000009 && t.on (F.PRT_CEN_OP_REFUSED 2) && !t.on (F.PRT_CEN_OP_BUSY 2) && t.reqs == []) := by decide +kernel
theorem test_Census_free : ensOk part2 (pgPrt 2 + 0x454) 77 0xFFFFFFFF ∧ gives (exec (.freeTailAdvance ensA 2 77) part2) (fun t => t.getF (F.PRT_FREE_TAIL_COUNT 2) == 77) := by decide +kernel
def cow0 : Cow := ⟨128, 2, ⟨2, 0, 32, true, [], 0, 0, 0, false, .job 0 0 0 32⟩, 0, 0, 0, 0, 0, .freePage, 50, none⟩
theorem test_Census_wait : gives (exec (.freePageWaitExpiry 5) { part2.setF (F.PRT_FREE_LOW_WAIT_US 2) 3 with cows := [(5, cow0)] }) (fun t => t.cows == [] && t.now == 350) := by decide +kernel

/-- A stream of core 0 that waits for one answer of 32 bytes. -/
def waiting : CoreStream := { doneStream 1 false with waiting := 1, out := 32, got := [] }
def reqOf (wr : Bool) : MReq := ⟨0, 0, 32, wr, [], 0, 0, 0, false, .stream 0 0 0 0 0 32⟩
def ansAt (ty : Nat) (wr : Bool) : State :=
  { stDone 1 false |>.setCore 0 { CoreState.fresh with streams := [waiting], nextStream := 1 } with packets := [(7, { pk0 (.core 0) 0 2 ty with data := List.replicate 32 6, tag := 4 })], reqs := [(4, reqOf wr)], nextPkt := 8 }
theorem test_MemoryAnswers_stream :
    gives (exec (.hrsp 7) (ansAt 0x12 false)) (fun t => t.reqs == [] && t.packets == [] && ((t.streamOf 0 0).map (fun x => (x.waiting, x.out, x.got))) == some (0, 0, [(0, List.replicate 32 6)])) ∧
    gives (exec (.hack 7) (ansAt 0x13 true)) (fun t => t.reqs == [] && ((t.streamOf 0 0).map (fun x => (x.waiting, x.out, x.got))) == some (0, 0, [])) := by decide +kernel
def waiter : Waiter := ⟨0, reqOf false, 0⟩
theorem test_MemoryAnswers_fill :
    gives (exec (.lineFillReturn 7) { cluAt { K with fills := [(0, [waiter])] } { pk0 (.clu 4) 0 2 0x12 with data := List.replicate 128 5, tag := 4 } with reqs := [(4, { reqOf false with org := .fill 0 0 })] })
      (fun t => (t.cluster 0).lines.map (fun e => (e.1, e.2.st)) == [(0, .ro)] && (t.cluster 0).fills == []) ∧
    gives (exec (.missAdmit 0) { cluAt { K with missQueue := [waiter, waiter] } claim with power := part2.power }) (fun t => (t.cluster 0).missQueue.length == 1 && (t.cluster 0).fills.map (·.1) == [0]) := by decide +kernel
def lines3 : ClusterState := { K with lines := [(0, line .ro 0 []), (1, line .m 1 [1]), (2, line .e 0 [])] }
theorem test_MemoryAnswers_commands_admitted : ensOk (cluAt lines3 claim) (pgClu 0 + 0x204) 1 1 ∧ ensOk (cluAt lines3 claim) (pgClu 0 + 0x204) 2 2 := by decide +kernel
/-- Cluster 0 with its cores IDLE and its row's spare unassigned. -/
def cluIdle (s : State) : State := ((List.range 8).foldl (fun s i => s.setCoreSt i coreIdle) s).setWord (F.CORE_SITE_ASSIGNED 8).addr 0
theorem test_MemoryAnswers_inval : (cluIdle (cluAt lines3 claim)).cluBusyCores 0 = false ∧ ensOk (cluIdle (cluAt lines3 claim)) (pgClu 0 + 0x204) 1 1 ∧
    gives (exec (.invalRo ensA 0 1) (cluIdle (cluAt lines3 claim))) (fun t => (t.cluster 0).lines.map (·.1) == [1, 2]) := by decide +kernel
theorem test_MemoryAnswers_wbAll : tabSorted lines3.lines = true ∧
    gives (exec (.wbAll ensA 0 2) (cluAt lines3 claim)) (fun t => (t.cluster 0).lines.map (·.1) == [0, 2]) ∧
    gives (exec (.wbAll ensA 0 2) (cluAt { K with lines := [(1, line .m 1 [1])] } claim)) (fun t => (t.cluster 0).wb.map (·.1) == [1]) := by decide +kernel
theorem test_MemoryAnswers_complete : gives (exec (.cacheCommandComplete 0) ((cluAt K claim).setF (F.CLU_CC_STATUS_BUSY 0) 1)) (fun t => !t.on (F.CLU_CC_STATUS_BUSY 0)) := by decide +kernel
def copyPkt : Packet := { pk0 (.hal 0) 0 1 0x14 with addr := 65536, data := toBytes (leBytes 8 0x30000) }
theorem test_MemoryAnswers_copy : gives (exec (.hcopy 7) { atHal halActive copyPkt with power := part2.power }) (fun t => t.packets.length == 32 && (t.pkt 39).map (fun q => (q.addr, q.len)) == some (0x30000 + 256 * 31, 256) &&
    (t.port 0).copies.map (fun e => (e.2.waits, e.2.todo.length)) == [(32, 224)]) := by decide +kernel

/-- A table of levels 0 to 3 at rows 0x1000 apart; the VA 0x0000_8080_4021_0123 takes entry 1 of each. -/
def va1 : Nat := 2 ^ 39 + 2 ^ 30 + 2 ^ 21 + 2 ^ 16 + 0x123
def tables (e3 : Nat) : Memory :=
  ((((⟨[], [], []⟩ : Memory).writeL 8 (toBytes (leBytes 8 (0x1000 + 1)))).writeL 0x1008 (toBytes (leBytes 8 (0x2000 + 1)))).writeL 0x2008 (toBytes (leBytes 8 (0x3000 + 1)))).writeL 0x3008 (toBytes (leBytes 8 e3))
def xlAt (e3 : Nat) : State := { (((part2.setWord (pgPrt 2 + 0x400) 0).setWord (pgPrt 2 + 0x404) 0).setF (F.PRT_XCTRL_EN 2) 1) with dram := tables e3 }
def walks (s : State) : Option (Nat × Nat × Bool) := match (s.walk 2 va1).2 with | .ok x => some x | .error _ => none
def walkErr (s : State) : Option MemErr := match (s.walk 2 va1).2 with | .ok _ => none | .error e => some e
theorem test_Translation_walk : walks (xlAt (0x70000 + 7)) = some (0x3008, 0x70007, false) ∧ walkErr (xlAt 0) = some (xlErr kNotValid 3) ∧ walkErr (xlAt (0x71000 + 7)) = some (xlErr kMalformed 3) ∧
    walkErr (xlAt (2 ^ 40 + 0x70000 + 7)) = some (xlErr kForeign 3) ∧ (⟨2, 0, false, 0x70007⟩ : Xlat).dpa va1 = 0x70123 := by decide +kernel
theorem test_Translation_first : (match ((xlAt 0).xlCore 0 (2 ^ 48) false).2 with | .error e => e | .ok _ => xlErr 0 0) = xlErr kRange 0 ∧ (xlAt 0).partOfSite 0 = some 2 ∧
    (match (((xlAt 0).setF (F.PRT_XCTRL_EN 2) 0).xlCore 0 (2 ^ 48 - 1) false).2 with | .error e => e | .ok _ => xlErr 0 0) = xlErr kDisabled 0 := by decide +kernel
def xin : State := (((xlAt 0).setWord (pgPrt 2 + 0x410) 0x20000).setWord (pgPrt 2 + 0x414) 0).setWord (pgPrt 2 + 0x418) 1
theorem test_Translation_xinv : ensOk (xlAt 0) (pgPrt 2 + 0x40C) 1 1 ∧ gives (exec (.xinv ensA 2 1) (xlAt 0)) (fun t => t.on (F.PRT_XINV_GO 2) && t.xinvs.length == 1) ∧
    gives (exec (.xinvDone 0) { (xlAt 0).setCore 0 { CoreState.fresh with tlb := [⟨2, 0x20000, false, 7⟩, ⟨2, 0x30000, false, 7⟩] } with xinvs := [⟨2, false, 0x20000, 1, none⟩], unitTlb := [(128, [⟨2, 0, true, 7⟩, ⟨3, 0x20000, false, 7⟩])] })
      (fun t => (t.core 0).tlb == [⟨2, 0x30000, false, 7⟩] && t.unitTlb == [(128, [⟨3, 0x20000, false, 7⟩])] && t.on (F.PRT_XINV_DONE 2)) := by decide +kernel

/-- R251's worked example: LW 256, page 7, token 8 of the page, SDROW 4144: s = 5, n = 28, bank 21, and byte 4,912 x 65,536 + 10,240 + 112 of the column. -/
theorem test_ScorePlace : 0 < nSites ∧ 4144 % 16 = 0 ∧ 4144 + 7 < 12288 ∧ 4912 < 12288 ∧ 4912 % 32 = 4144 % 32 ∧ 8 < kvTpp 256 := by decide +kernel
theorem test_score_example : scoreIndex 256 7 8 = 28 ∧ dpaBank (latentDpa 0 4144 256 7 8) = 21 ∧ rowAddr 0 21 4912 + 4 * 28 = 4912 * 65536 + 10240 + 112 := by decide +kernel

/-! Power (R265 to R286) -/

def pwr (p : PowerState) : State := { rst with power := p }
def P0 : PowerState := rst.power
/-- Tower 0 is on, with its first cluster and half-layer. -/
def P1 : PowerState := { P0 with fabOn := [0], dramOn := [0, 1], cluOn := [0] }
theorem test_PowerUp_wave : (pwr { P0 with waveNext := some 15, warn := [2] }).wavesHeld = true ∧
    gives (exec .powerWaveStart (pwr { P0 with waveNext := some 15, warn := [2] })) (fun t => t.power.waveNext == some 15) ∧
    (pwr { P0 with waveNext := some 3, waveAt := 900 }).wavesHeld = false ∧
    gives (exec .powerWaveStart (pwr { P0 with waveNext := some 3, waveAt := 900 })) (fun t => t.getF F.PWR_STATUS_WAVE == 3 && t.power.waveNext == some 4 && t.power.waveAt == 5900) := by decide +kernel
/-- Site 0 ramps with `n` segments closed, and nothing of core 0 is in the way. -/
def ramping (n : Nat) : State := (pwr { P1 with ramps := [(0, ⟨100, n⟩)] }).setCoreSt 0 coreOff
theorem test_PowerUp_segments : (ramping 0).wavesHeld = false ∧
    gives (exec (.gateSegmentClose [] []) (ramping 0)) (fun t => t.power.ramps == [(0, ⟨100, 1⟩)] && t.now == 100) ∧
    gives (exec (.gateSegmentClose [] []) (ramping 15)) (fun t => t.power.ramps == [(0, ⟨100, 16⟩)] && t.now == 850) ∧
    ((ramping 8).setWord (F.CLU_PSTATE_VSEL 0).addr 0).railOk 0 [(0, 299)] = false ∧ ((ramping 8).setWord (F.CLU_PSTATE_VSEL 0).addr 0).railOk 0 [(0, 300)] = true := by decide +kernel
theorem test_PowerUp_abort : (ramping 3).coreSt 0 ≠ coreEclipsed ∧
    gives (exec (.gateSegmentClose [0] []) (ramping 3)) (fun t => t.getF F.PWR_LASTFAULT_CAUSE == 1 && t.getF F.PWR_LASTFAULT_DETAIL == 0) ∧
    gives (exec (.gateSegmentClose [] [(0, 100)]) ((ramping 8).setWord (F.CLU_PSTATE_VSEL 0).addr 0)) (fun t => t.getF F.PWR_LASTFAULT_DETAIL == 1 && t.siteLatched 0) := by decide +kernel
theorem test_PowerUp_done : gives (exec (.gateSegmentClose [] []) (ramping 16)) (fun t => t.coreSt 0 == coreIdle && t.power.ramps == []) := by decide +kernel
/-- Site 1 of cluster 0, of region 0, is powered. -/
def lit : State := ((((List.range 8).foldl (fun s i => s.setCoreSt i (if i = 1 then coreIdle else coreOff)) (pwr P1)).setWord (F.CORE_SITE_ASSIGNED 8).addr 0).setWord (F.CLU_SPARE_BUSY 0).addr 0).setWord (F.CLU_SPARE_BUSY 1).addr 0
theorem test_PowerUp_trip : 0 ∈ lit.power.cluOn ∧ 1 ∈ lit.sitesOfCluster 0 ∧ lit.gateOn 1 = true ∧ siteRegion 1 = 0 ∧
    gives (exec (.currentRegionTrip 0 0) lit) (fun t => t.getF F.PWR_LASTFAULT_CAUSE == 2 && t.getF F.PWR_LASTFAULT_SITE == siteNum 1) ∧
    gives (exec (.currentRegionTrip 0 4) lit) (fun t => t.getF F.PWR_LASTFAULT_CAUSE == 3 && t.power.cluOn == []) := by decide +kernel
/-- R275: within a microsecond of an abort in the same region a trip of region 0 is the same sample; region 4's trip widens it. -/
def narrowed : State := { (lit.setCoreSt 1 coreEclipsed).setWord (F.CORE_ECL_CAUSE 1).addr 3 with power := { lit.power with narrow := [(1, true, false, 0)] } }
theorem test_PowerUp_trip_narrow : 1 ∈ lit.sitesOnRail 0 ∧ narrowed.narrowNow = [(1, true, false, 0)] ∧ narrowed.rampClu 1 = 0 ∧
    gives (exec (.currentRegionTrip 0 0) narrowed) (fun t => t == narrowed) ∧
    gives (exec (.currentRegionTrip 0 4) narrowed) (fun t => t.getF (F.CORE_ECL_CAUSE 1) == 5 && !t.siteLatched 1) := by decide +kernel
theorem test_PowerUp_trip_sites : gives (exec (.currentRegionTrip 0 0) lit) (fun t => t.coreSt 1 == coreEclipsed) ∧ gives (exec (.currentRegionTrip 0 1) lit) (fun t => t == lit) := by decide +kernel
theorem test_PowerUp_domains : 0 ∈ (pwr P1).power.fabOn ∧ 1 ∈ (pwr P1).power.dramOn ∧ pointSite 1 0 = siteIdx 0 8 0 ∧ bankLayer 8 = 0 ∧
    gives (exec (.domainFault false 1) (pwr P1)) (fun t => t.power.dramOn == [0] && t.getF F.PWR_LASTFAULT_CAUSE == 5) := by decide +kernel

theorem test_VinWarning_enter : gives (exec (.vinWarning 7 2) (pwr P1)) (fun t => t.power.warn == [2] && t.on F.PWR_STATUS_DIV && t.power.divAt == 7 && t.getF F.PWR_WARN_COUNT_COUNT == 1) ∧
    gives (exec (.vinWarning 7 2) ((pwr { P1 with warn := [0] }).setF F.PWR_STATUS_DIV 1)) (fun t => t.power.warn == [0, 2] && t.getF F.PWR_WARN_COUNT_COUNT == 0) := by decide +kernel
theorem test_VinWarning_leave : gives (exec (.vinAboveWarning 7) (pwr { P1 with warn := [0, 3] })) (fun t => t.power.warn == [] && t.power.clearAt == some 7 && t.power.resumeAt == some 10007) ∧
    (pwr P1).running = false ∧
    gives (exec .releaseQualified ((pwr { P1 with clearAt := some 7, divAt := 3 }).setF F.PWR_STATUS_DIV 1)) (fun t => !t.on F.PWR_STATUS_DIV && t.getF F.PWR_DIV_US_COUNT == 100 && t.now == 10007) ∧
    gives (exec .waveResume (pwr { P1 with resumeAt := some 10007 })) (fun t => t.power.resumeAt == none && t.now == 10007) := by decide +kernel
theorem test_VinWarning_running : (((pwr { P1 with clearAt := some 7 }).setF F.PWR_STATUS_DIV 1).setF F.ORB_CTRL_RUN 1).running = true ∧
    gives (exec .releaseQualified (((pwr { P1 with clearAt := some 7 }).setF F.PWR_STATUS_DIV 1).setF F.ORB_CTRL_RUN 1)) (fun t => t.on F.PWR_STATUS_DIV && t.on F.PWR_STATUS_QUALIFIED) := by decide +kernel
theorem test_VinWarning_timers : gives (exec (.vinBelowReset 4 3) (pwr P1)) (fun t => t.power.low == [(3, 4)]) ∧ gives (exec (.vinAboveReset 4 3) (pwr { P1 with low := [(3, 1)] })) (fun t => t.power.low == []) ∧
    tabGet ({ P1 with low := [(3, 1)] } : PowerState).low 3 = some 1 ∧ tabGet ({ P1 with low := [(0, 5), (3, 1)] } : PowerState).low 0 = some 5 := by decide +kernel
theorem test_VinWarning_sample : gives (exec (.sensePointSample [] [1800, 1799, 1650, 1900] []) (pwr P1)) (fun t => t.getF F.PWR_VIN_01_F1 == 1799 && t.getF F.PWR_VIN_DIP_DEPTH == 150 && t.power.sampledAt == 100) := by decide +kernel
/-- A corner point, of two neighbours, 15 mV below both: suspect at its sixteenth sample, severe at its fourth. -/
def sagged (mv : Nat) : List Nat := [1000 - mv] ++ List.replicate 135 1000
def pt (sus sev : Nat) : State := pwr { P1 with points := [(0, ⟨sus, sev, false, false, none⟩)] }
theorem test_VinWarning_crack : pointNeighbours 0 = [1, 17] ∧ (pt 15 0).excessDrop 0 (sagged 40) 0 = 80 ∧ (pt 15 0).getF F.PWR_CRACK_CFG_SUSPECT_MV ≤ 40 ∧
    ((pt 15 0).pointSample 0 (sagged 40) 0).getF F.PWR_CRACK_LAST_SITE = siteNum (pointSite 0 0) ∧ ((pt 15 0).pointSample 0 (sagged 40) 0).getF F.PWR_CRACK_COUNT_COUNT = 1 ∧
    ((pt 14 0).pointSample 0 (sagged 40) 0).getF F.PWR_CRACK_COUNT_COUNT = 0 ∧ (pt 0 3).getF F.PWR_CRACK_CFG_SEVERE_MV ≤ 200 ∧
    ((pt 0 3).pointSample 0 (sagged 200) 0).on F.PWR_CRACK_LAST_SEVERE = true := by decide +kernel

/-! The envelope and heat (R287 to R309) -/

/-- Orbits run with a period of 1,000 cycles and are due to tick at 1,000. -/
def orbiting : State := (((List.range 4).foldl (fun s d => s.setWord (pgDie d + 0x240) 0x88800) ((rst.setF F.ORB_CTRL_RUN 1).setWord 0x2420 0)).setWord 0x2424 0).setF F.ORB_PERIOD_PERIOD_US 10
def orbitWith (g : GovState) : State := { orbiting with gov := g, orb := { rst.orb with tickAt := some 0, len := 2000 } }
def G0 : GovState := rst.gov
theorem test_Governor_rule : governorMove 3 (-2) 1000 1000 0 0 2000 5 1 true = 3 + 1 ∧ governorMove 22 (-2) 100000 1000 0 0 2000 5 1 true = 22 ∧
    governorMove 3 (-2) 10 1000 0 0 2000 5 1 true = 2 ∧ governorMove (-2) (-2) 10 1000 0 0 2000 5 1 true = -2 ∧ governorMove (-2) (-2) 400 1000 0 0 2000 5 1 true = -1 := by decide +kernel
theorem test_Governor_sample : gives (exec (.energySample 1 2 4) (orbitWith G0)) (fun t => t.gov.total == 7 && t.gov.winE == 7 && t.gov.orbE.sum == 7 && t.now == 100) ∧ (orbitWith G0).running = true ∧ (orbitWith G0).orb.tickAt.isSome ∧
    (({ links := 1, mem := 2, comp := 4 } : Energy).sum ≤ energyTop) ∧ rst.running = false ∧ gives (exec (.energySample 1 2 4) rst) (fun t => t.gov.winE == 7 && t.gov.orbE.sum == 0) := by decide +kernel
theorem test_Governor_read : gives (exec (.energyTotalRead ensA) (((orbitWith G0).setWord (pgOrb + 0x450) 77).setF F.ORB_EN_TOTAL_HI 5)) (fun t => t.reply == some (.word 77) && tabGet t.orb.totalLatch (reqIndex ensA) == some 5) := by decide +kernel
/-- R292: a window of 10 µs with 38,001 µJ is above 3,800 W, one with 38,000 µJ is not. -/
theorem test_Governor_window : (orbitWith { G0 with winE := 38001 }).running = true ∧ (orbitWith G0).period ≠ 0 ∧
    gives (exec .governorWindow (orbitWith { G0 with winE := 38001 })) (fun t => t.gov.level == 22 && t.gov.winE == 0 && t.now == 1000) ∧
    gives (exec .governorWindow (orbitWith { G0 with winE := 38000 })) (fun t => t.gov.level == 1) := by decide +kernel
theorem test_Governor_ctrl : ensOk orbiting (pgOrb + 0x400) 3 7 ∧ gives (exec (.energyCtrlWrite ensA 3) { orbiting with gov := { G0 with level := -3 } }) (fun t => t.on F.ORB_EN_CTRL_EN && t.gov.level == -2) := by decide +kernel

/-- Die 0 is at a step of FREQ, every cluster at VSEL 40; Vmin is 740 mV up to step 3 and 760 mV at step 4. -/
def atStep (cur fsel : Nat) (run : Nat) : State :=
  ((clustersOf 0).foldl (fun s c => ((((s.setWord (pgClu c + 0x280) 40).setWord (pgClu c + 0x284) 0).setWord (F.CLU_VMIN c 0).addr 0x78787878).setWord (F.CLU_VMIN c 1).addr 0x82)) ((orbiting.setF F.ORB_CTRL_RUN run).setF (F.DIE_FREQ_FSEL 0) fsel)).setF (F.DIE_FREQ_CUR 0) cur
theorem test_Frequency_request : ensOk (atStep 4 4 1) (pgDie 0 + 0x240) 8 15 ∧ (atStep 4 4 1).steeredBy ensA 0 = true ∧ gives (exec (.freqRequest ensA 0 2) (atStep 4 4 1)) (fun t => t.dueF (F.DIE_FREQ_FSEL 0) == 2 && t.getF (F.DIE_FREQ_FSEL 0) == 4 && t.getF (F.CLU_PSTATE_VSEL 3) == 42) ∧
    gives (exec (.freqRequest ensA 0 2) (atStep 4 4 0)) (fun t => t.getF (F.DIE_FREQ_FSEL 0) == 2) := by decide +kernel
theorem test_Frequency_reached : gives (exec (.setpointReached 3) ((atStep 4 4 0).setF (F.CLU_PSTATE_SLEWING 3) 1)) (fun t => !t.on (F.CLU_PSTATE_SLEWING 3) && t.getF (F.CLU_PSTATE_VSEL 3) == 40) := by decide +kernel
theorem test_Frequency_stopped : (atStep 4 2 0).running = false ∧ (atStep 4 2 0).dueStep 0 2 = 2 ∧ gives (exec (.stoppedFrequencyChange 0) (atStep 4 2 0)) (fun t => t.getF (F.DIE_FREQ_CUR 0) == 2 && t.getF (F.CLU_PSTATE_VSEL 31) == 37) ∧
    (atStep 2 4 0).voltReady 0 4 = false ∧ gives (exec (.stoppedFrequencyChange 0) (atStep 2 4 0)) (fun t => t.getF (F.DIE_FREQ_CUR 0) == 2 && t.getF (F.CLU_PSTATE_VSEL 31) == 42 && t.on (F.CLU_PSTATE_SLEWING 31)) := by decide +kernel
/-- R297's worked example: a supply of 740 mV and six percent is VSEL 37, 785 mV. -/
theorem test_baseSetpoint : baseSetpoint 120 = 785 ∧ baseSetpoint 0 = 530 := by decide +kernel
theorem test_Frequency_pcap : (atStep 4 4 1).on F.ORB_EN_STATUS_PCAP = false ∧ (atStep 4 4 1).power.pwrgd ∧
    gives (exec (.pcapAssert 5 0) (atStep 4 4 1)) (fun t => !bit (t.view ensA .orbit 0 pgOrb 0x420) 13) ∧
    gives (exec (.pcapAssert 5 2) (atStep 4 4 1)) (fun t => bit (t.view ensA .orbit 0 pgOrb 0x420) 13 && t.gov.pcapHold && t.getF F.ORB_EN_STATUS_LINKS == 7 && t.on F.ORB_EN_FLAGS_PCAP_ENTER) ∧
    ((atStep 4 4 1).setF F.ORB_EN_STATUS_PCAP 1).on F.ORB_EN_STATUS_PCAP ∧ ((atStep 4 4 1).setF F.ORB_EN_STATUS_PCAP 1).running = true ∧
    ((atStep 4 4 0).setF F.ORB_EN_STATUS_PCAP 1).on F.ORB_EN_STATUS_PCAP ∧ ((atStep 4 4 0).setF F.ORB_EN_STATUS_PCAP 1).running = false := by decide +kernel

/-- Only DRAM sensor 3, of the lit half-layer 0, reads, at 95 °C. -/
def warmAt (eighths : Nat) : State := (pwr { P0 with dramOn := [0] }).setF (F.THM_DRAM_B 1) eighths
theorem test_Heat_reading : (warmAt 760).dramReading 3 = some 760 ∧ (warmAt 759).dramReading 3 = some 759 ∧ (warmAt 760).dramReading 4 = none ∧ (warmAt 840).dramReading 3 = some 840 := by decide +kernel
theorem test_Heat_duty : coolDuty 20 50 90 400 = (20, false) ∧ coolDuty 20 50 90 720 = (100, false) ∧ coolDuty 20 50 90 560 = (60, false) ∧
    gives (exec .coolreqPeriod { rst.setWord (pgThm + 0x10C) 0 with therm := { rst.therm with ensDuty := 33 } }) (fun t => t.therm.periodAt == 4000) := by decide +kernel
theorem test_Heat_timeout : gives (exec .coolreqDutyTimeout { (rst.setF F.THM_COOL_DUTY_HW_FULL 0) with therm := { rst.therm with live := true, dutyAt := 5 } }) (fun t => t.on F.THM_COOL_DUTY_HW_FULL && t.getF F.THM_COOL_DUTY_DUTY == 100 && t.now == 10000005) ∧
    (rst.setF F.THM_COOL_DUTY_HW_FULL 0).on F.THM_COOL_DUTY_HW_FULL = false := by decide +kernel

/-! Host interface, queues, events, partitions (R310 to R342) -/

/-- Function 5 is a bus master, with MSI-X vector 0 open. -/
def cfg5 : FnCfg := { FnCfg.fresh with command := 6, msixOn := true }
/-- READY; function 5 of port 0 is bound to partition 2, which holds row 0, is ACTIVE and maps its ring's page. -/
def host2 : State :=
  let s := (xlAt (0x70000 + 15)).setF F.G_BOOT_STATE_STATE 7
  { (((s.setWord (pgHpt 0 + 0x200 + 4 * 5) 5).setPgState (pgPrt 2) prtActive).setWord F.SEC_STATUS_SCAN.addr 0).setWord (pgPrt 2 + 0x10C) 3 with
    host := { rst.host with cfg := [(5, cfg5)], msix := [(320, 0xFEE00000, 7, false)] } }
/-- Queue 130 is function 5's, of 16 entries and ring 3, at the page's VA. -/
def que (tail head : Nat) (on : Bool) : State :=
  let a := pgQue 2 + 0x800 + 0x20 * 2
  ((((((((host2.setWord a (BitVec.ofNat 32 ((2 ^ 30 + 2 ^ 21 + 2 ^ 16) % 2 ^ 32))).setWord (a + 4) 0x80).setWord (a + 8) (BitVec.ofNat 32 (b2n on + 2 * 4 + 2 ^ 8 * 3 + 2 ^ 16 * 5))).setWord (a + 0xC) (BitVec.ofNat 32 tail)).setWord
    (a + 0x10) (BitVec.ofNat 32 head)).setWord (a + 0x14) 0).setWord (a + 0x18) 0).setWord (a + 0x1C) 0).setWord (pgEvt 3 + 0x100) (BitVec.ofNat 32 (1 + 4 * 4 + 5 * 2 ^ 7))
theorem test_queue_addresses : pgQue 2 + 0x800 + 0x20 * 2 = 0x40000 + 0x2000 + 0x840 ∧ (que 0 0 true).quOn 130 = true ∧ (que 0 0 true).quFn 130 = 5 ∧ (que 0 0 true).quPart 130 = some 2 ∧ (que 0 0 true).quLog2 130 = 4 := by decide +kernel
/-- The worked example of 13: queue 1,030 has its context at 0x0005_08C0, and QUE_CFG 0x0085_0C11 is EN 1, LOG2 8, RING 12, FN 133. -/
def q1030 : State := rst.setWord 0x000508C8 0x00850C11
theorem test_queue_1030 : q1030.quOn 1030 = true ∧ q1030.quLog2 1030 = 8 ∧ q1030.getF (F.QUE_CFG_RING 16 6) = 12 ∧ q1030.quFn 1030 = 133 ∧ pgQue (1030 / 64) + 0x800 + 0x20 * (1030 % 64) = 0x000508C0 := by decide +kernel
theorem test_Queues_doorbell : (que 0 0 true).beforeReady = false ∧
    gives (exec (.doorbell 5 130 16) (que 0 0 true)) (fun t => t.quTail 130 == 16 && tabGet t.host.marks 130 == some 0) ∧
    gives (exec (.doorbell 5 130 17) (que 0 0 true)) (fun t => t.quIsStopped 130 && t.getF (F.QUE_STATUS_ERR 2 2) == 15 && t.quTail 130 == 0) ∧
    gives (exec (.doorbell 6 130 1) (que 0 0 true)) (fun t => t.quTail 130 == 0 && t.getF (F.HPT_FILT_DROP_COUNT 0) == 1 && t.getF (F.HPT_FILT_LAST_PAGE 0) == 130) ∧
    gives (exec (.doorbell 5 130 1) (que 0 0 false)) (fun t => t.getF (F.HPT_FILT_LAST_FN 0) == 5 && t.on (F.HPT_FILT_LAST_DOORBELL 0)) := by decide +kernel
theorem test_Queues_enable : ensOk (que 9 8 false) (pgQue 2 + 0x848) 0x50309 1 ∧ gives (exec (.queueEnable ensA 130 0x50309) (que 9 8 false)) (fun t => t.quOn 130 && t.quTail 130 == 0 && t.quHead 130 == 0) ∧
    ensOk (que 9 8 true) (pgQue 2 + 0x858) 0x80000000 (2 ^ 31) ∧
    gives (exec (.queueResume ensA 130 0x80000000) ((que 9 8 true).setF (F.QUE_STATUS_STATE 2 2) 4)) (fun t => !t.quIsStopped 130 && t.quHead 130 == 8) := by decide +kernel
/-- An order of operation `op` with NOW stands at index 0. -/
def queOp (op : Nat) : State := { que 1 0 true with dram := ((tables (0x70000 + 15)).write 0x70001 1).write 0x70000 (BitVec.ofNat 8 op) }
def queNop : State := queOp 0
theorem test_Queues_dispatch : queNop.inWindow = false ∧ queNop.executing 130 = 0 ∧ queNop.ringSettled 130 = true ∧ queNop.quHead 130 ≠ queNop.quTail 130 ∧
    (match (queNop.ringEntry 130 0).2 with | .ok r => r.take 4 | .error _ => [9]) = [0, 1, 0, 0] ∧
    queNop.on (F.EVT_CFG_DEV 3) = false ∧
    gives (exec (.workOrderDispatch 130) queNop) (fun t => t.host.orders == [] && t.quHead 130 == 1 && t.quDone 130 == 1) ∧
    gives (exec (.nop 130) queNop) (fun t => t.quHead 130 == 1 && t.quDone 130 == 1) ∧ gives (exec (.event 130) queNop) (fun t => t == queNop) := by decide +kernel
/-- R325: an EVENT writes its record, of CODE, though IEVT is 0. -/
theorem test_Queues_event : gives (exec (.event 130) { queOp 5 with dram := (queOp 5).dram.write 0x70010 77 }) (fun t => t.quHead 130 == 1 && t.quDone 130 == 1 &&
    (t.ring 3).inProgress.map (fun e => (e.kind, e.src, e.code)) == some (1, 130, 77)) ∧ gives (exec (.nop 130) (queOp 5)) (fun t => t == queOp 5) := by decide +kernel
/-- An entry whose page is not mapped ends its order at once; a disabled queue dispatches nothing. -/
theorem test_Queues_unreadable : gives (exec (.workOrderDispatch 130) { queOp 3 with dram := ⟨[], [], []⟩ }) (fun t => t.host.orders.map (fun e => (e.2.queue, e.2.done.isSome)) == [(130, true)] && t.quHead 130 == 1) ∧
    gives (exec (.workOrderDispatch 130) (que 1 0 false)) (fun t => t == que 1 0 false) := by decide +kernel
theorem test_Queues_enters : gives (exec (.workOrderDispatch 130) (queOp 3)) (fun t => t.host.orders.map (fun e => (e.2.queue, e.2.idx, e.2.fn, e.2.late, e.2.done)) == [(130, 0, 5, false, none)] && t.quHead 130 == 1) ∧
    gives (exec (.workOrderDispatch 130) (queOp 6)) (fun t => t.host.orders.map (fun e => e.2.done) == [some (1, 0)] && t.quHead 130 == 1) ∧
    gives (exec (.workOrderDispatch 130) { queOp 3 with dram := (queOp 3).dram.write 0x70001 0 }) (fun t => t.host.orders.map (fun e => e.2.late) == [true]) := by decide +kernel

def order (raw : List Nat) : Order := ⟨130, 0, 2, 5, raw ++ List.replicate (128 - raw.length) 0, false, false, false, false, 0, [], 0, none, [], none⟩
def ordAt (o : Order) : State := { que 1 1 true with host := { (que 1 1 true).host with orders := [(9, o)] }, nextPkt := 8 }
def sig (site : Nat) : Order := order ([3] ++ List.replicate 15 0 ++ leBytes 2 site ++ [9, 0] ++ leBytes 2 77)
theorem test_WorkOrders_signal : siteOfNum (ordF (sig (siteNum 3)).raw 0x10 2) = some 3 ∧ (que 1 1 true).partOfSite 3 = some 2 ∧
    gives (exec (.signal 9) (ordAt (sig (siteNum 3)))) (fun t => (t.pkt 8).map (fun p => (p.ty, p.aux, p.vc)) == some (1, 9 + 77 * 2 ^ 16, 0)) ∧
    gives (exec (.signal 9) (ordAt (sig (siteNum 20)))) (fun t => t.packets == [] && t.host.orders == [(9, { sig (siteNum 20) with begun := true, done := some (4, 0) })]) := by decide +kernel
/-- A LAUNCH of one record of core 0, at the page. -/
def launchRec : List Nat := leBytes 2 0 ++ leBytes 2 0 ++ leBytes 4 7 ++ leBytes 8 0 ++ leBytes 2 1 ++ List.replicate 14 0
theorem test_WorkOrders_launch_core : ((ordAt (order [1])).setCoreSt 0 coreIdle).coreSt 0 = coreIdle ∧
    gives (exec (.launch 9) ((ordAt { order [1] with begun := true, cores := [(0, launchRec)] }).setCoreSt 0 coreIdle)) (fun t => t.getF (F.CORE_VOY_SEED_SEED 0) == 7 && t.getF (F.CORE_VOY_PROGS_COUNT 0) == 1) ∧
    gives (exec (.launch 9) ((ordAt { order [1] with begun := true, cores := [(0, launchRec)] }).setCoreSt 0 coreOff)) (fun t => t.host.orders == [(9, { order [1] with begun := true, done := some (6, 0) })]) := by decide +kernel
/-- A LAUNCH whose list of one record stands in the page, and one whose record names a site of no partition. -/
def lists (site : Nat) : State :=
  let s := ordAt (order ([1] ++ List.replicate 15 0 ++ leBytes 8 (2 ^ 39 + 2 ^ 30 + 2 ^ 21 + 2 ^ 16) ++ leBytes 2 1))
  { s.setCoreSt 0 coreIdle with dram := [(0, site), (4, 7), (16, 1)].foldl (fun m e => m.write (0x70000 + e.1) (BitVec.ofNat 8 e.2)) s.dram }
theorem test_WorkOrders_launch_check : (match ((lists 0).peek 128 2 (2 ^ 39 + 2 ^ 30 + 2 ^ 21 + 2 ^ 16) 32).2 with | .ok (d, _) => d | .error _ => []) = launchRec ∧
    ((lists 0).peek 128 2 (2 ^ 39 + 2 ^ 30 + 2 ^ 21 + 2 ^ 16) 32).1.badRecord 2 [launchRec] 0 [] = none ∧
    gives (exec (.launch 9) (lists 0)) (fun t => t.host.orders.map (fun e => (e.2.done, e.2.cores)) == [(none, [(0, launchRec)])]) ∧
    gives (exec (.launch 9) (lists 31)) (fun t => t.host.orders.map (fun e => e.2.done) == [some (5, 0)]) := by decide +kernel
def cpy (sp : Nat) (next inflight : Nat) (ws : List (Nat × List Byte)) : Order :=
  { order ([2] ++ List.replicate 15 0 ++ leBytes 8 0x10C0 ++ leBytes 8 0x2040 ++ leBytes 8 200 ++ [sp]) with begun := true, next := next, inflight := inflight, writes := ws }
/-- The first piece ends at the source's line, the next at the destination's. -/
theorem test_WorkOrders_copy : copyLen false (cpy 3 0 0 []).raw = 200 ∧ copySpaces false (cpy 3 0 0 []).raw = 3 ∧
    ((ordAt (cpy 3 0 0 [])).copyMove 9).1.egress = [.hostRead 5 0x10C0 false 64 (ordAt (order [2])).nextTag] ∧ ((ordAt (cpy 3 64 1 [])).copyMove 9).1.egress = [.hostRead 5 0x1100 false 128 (ordAt (order [2])).nextTag] ∧
    ((ordAt (cpy 3 64 1 [(0, [1, 2])])).copyMove 9).1.egress = [.hostWrite 5 0x2040 false [1, 2]] ∧ (tabGet ((ordAt (cpy 3 200 0 [])).copyMove 9).1.host.orders 9).map (·.done) = some (some (0, 0)) := by decide +kernel
theorem test_WorkOrders_begin : gives (exec (.copy 9) (ordAt { cpy 3 0 0 [] with begun := false })) (fun t => t.egress.length == 3) ∧ (order ([4] ++ List.replicate 23 0 ++ [8])).done = none := by decide +kernel
theorem test_WorkOrders_completion : gives (exec (.hostCompletion 4 false []) { ordAt (cpy 3 64 1 []) with host := { (ordAt (cpy 3 64 1 [])).host with reads := [(4, 9, 0, 64, 5)] } })
      (fun t => t.getF (F.HPT_DMA_ERR_COUNT 0) == 1 && (tabGet t.host.orders 9).map (·.failed) == some (some (7, 0))) ∧
    gives (exec (.hostCompletion 4 true [1, 2]) { ordAt (cpy 3 200 1 []) with host := { (ordAt (cpy 3 200 1 [])).host with reads := [(4, 9, 0, 2, 5)] } }) (fun t => t.egress == [.hostWrite 5 0x2040 false [1, 2]]) := by decide +kernel
theorem test_WorkOrders_complete : (ordAt (order [0])).on (F.EVT_CFG_DEV 3) = false ∧
    gives (exec (.workOrderComplete 9) (ordAt { order [0] with begun := true, done := some (0, 0) })) (fun t => t.host.orders == [] && t.quDone 130 == 1 && !t.quIsStopped 130) ∧
    gives (exec (.workOrderComplete 9) (ordAt { order [0] with begun := true, done := some (4, 0) })) (fun t => t.quIsStopped 130 && t.getF (F.QUE_STATUS_ERR 2 2) == 4) ∧
    gives (exec (.workOrderComplete 9) (ordAt { order [0, 8] with begun := true, done := some (4, 0) })) (fun t => !t.quIsStopped 130) := by decide +kernel

/-- Function 5 has a window of one page at VA 2^39. -/
def win : State := ((host2.setWord (pgHpt 0 + 0x400 + 0x50) 0).setWord (pgHpt 0 + 0x404 + 0x50) 0x80).setWord (pgHpt 0 + 0x408 + 0x50) 1
theorem test_HostAccess_refused : win.winBytes 5 = 2 ^ 21 ∧ win.winBase 5 = 2 ^ 39 ∧ win.partOfFn 6 = none ∧ win.partOfFn 5 = some 2 ∧
    gives (exec (.bar2Read 5 8 (2 ^ 21 - 3) 4) win) (fun t => t.egress == [.completion 5 8 .unsupported] && t.getF (F.HPT_XLATE_ERR_COUNT 0) == 1) ∧
    gives (exec (.bar2Read 6 8 0 4) win) (fun t => t.egress == [.completion 6 8 .unsupported]) ∧ gives (exec (.bar2Write 5 (2 ^ 21) [1] 1) win) (fun t => t.egress == [] && t.getF (F.HPT_XLATE_ERR_COUNT 0) == 1) := by decide +kernel
def jobAt (err : Option Nat) : State := { host2 with host := { host2.host with jobs := [(3, ⟨.bar2 5 8, 128, false, 2, 0, [(0, [1, 2])], err, [], true⟩)] } }
theorem test_HostAccess_ends : ((jobAt none).jobSettle 3).egress = [.completion 5 8 (.bytes [1, 2])] ∧ ((jobAt (some (0x100 + kRange))).jobSettle 3).egress = [.completion 5 8 .aborted] ∧
    ((jobAt (some stUncorr)).jobSettle 3).egress = [.completion 5 8 .poisoned] := by decide +kernel
def tr (fn page : Nat) : AtcEntry := ⟨fn, page, page + 100, true, false⟩
theorem test_HostAccess_link : (que 0 0 true).ensBooted = true ∧ gives (exec (.perstRelease 1 5 true) (que 0 0 true)) (fun t => t.on (F.HPT_LINK_UP 1) && t.getF (F.HPT_LINK_RATE 1) == 5 && t.on (F.HPT_LINK_X8 1)) ∧
    ensOk host2 (pgHpt 2 + 0x100) 1 1 ∧ gives (exec (.mgmt ensA 2 1) host2) (fun t => t.on (F.HPT_CTRL_MGMT 2) && !t.on (F.HPT_CTRL_MGMT 0)) ∧
    gives (exec (.atsInvalidation 0 5 0x2000 2 8) { host2 with host := { host2.host with atc := [(0, [tr 5 1, tr 5 2, tr 5 3, tr 5 4, tr 6 2])] } }) (fun t => t.egress == [.atsDone 0 8] && tabGet t.host.atc 0 == some [tr 5 1, tr 5 4, tr 6 2]) := by decide +kernel

/-- R325, R310: with ATS on, a host page is issued by its translation, or asked for; the completion's low bits allow reads and writes. -/
def atsOn (atc : List AtcEntry) : State :=
  let s := ordAt (cpy 3 0 0 [])
  { s with host := { s.host with cfg := [(5, { cfg5 with ats := true })], atc := if atc.isEmpty then [] else [(0, atc)] } }
theorem test_WorkOrders_ats : (atsOn []).busMaster 5 ∧ (atsOn []).hostXl 9 5 0x10C0 false = .ask ∧ (atsOn [tr 5 1]).hostXl 9 5 0x10C0 false = .go (101 * 4096 + 0xC0) true ∧
    (atsOn [tr 5 1]).hostXl 9 5 0x10C0 true = .ask ∧ ((atsOn []).copyMove 9).1.egress = [.atsRequest 5 1 (atsOn []).nextTag] ∧
    gives (exec (.hostCompletion 4 true (toBytes (leBytes 8 (77 * 4096 + 1)))) { atsOn [] with host := { (atsOn []).host with atsReqs := [(4, 5, 1, 9, false)] } })
      (fun t => tabGet t.host.atc 0 == some [⟨5, 1, 77, true, false⟩] && (tabGet t.host.orders 9).map (·.failed) == some none) ∧
    gives (exec (.hostCompletion 4 true (toBytes (leBytes 8 (77 * 4096 + 2)))) { atsOn [] with host := { (atsOn []).host with atsReqs := [(4, 5, 1, 9, false)] } })
      (fun t => (tabGet t.host.orders 9).map (·.failed) == some (some (7, 0))) := by decide +kernel
/-- R316: a discarded write is an Unsupported Request of AER, a write refused past the window an advisory error; a read waits for its function's writes. -/
theorem test_HostAccess_aer : (win.cfg 5).bar2Log2 = 34 ∧ gives (exec (.bar2Write 5 (2 ^ 21) [1] 1) win) (fun t => (t.cfg 5).aerUncorr == 2 ^ 20) ∧
    (({ jobAt (some (0x100 + kRange)) with host := { (jobAt none).host with jobs := [(3, ⟨.bar2 5 8, 128, true, 2, 0, [], some (0x100 + kRange), [], true⟩)] } } : State).jobSettle 3).host.cfg.map (fun e => e.2.aerCorr) = [2 ^ 13] := by decide +kernel
def writing : State := { win with host := { win.host with jobs := [(3, ⟨.bar2 5 8, 128, true, 2, 1, [], none, [], true⟩)], nextJob := 4 } }
theorem test_HostAccess_waits : writing.bar2Writing 5 ∧ win.bar2Writing 5 = false ∧ win.pgState (pgPrt 2) ≠ prtReset ∧
    gives (exec (.bar2Read 5 8 0 4) writing) (fun t => t.host.heldReads == [⟨5, 8, some 2, 2 ^ 39, 4⟩] && t.host.jobs.length == 1) ∧
    gives (exec (.bar2Read 5 8 0 4) win) (fun t => t.host.heldReads == []) ∧ ({ rst with ports := [] } : State).ensBooted = false := by decide +kernel

def ev1 : EvRec := ⟨0x02, 0, 3, 0xABCD, 2 ^ 40 + 1, 7, 8, 1⟩
def wEvt : Word64 := word4 0 6 0xABCD
theorem test_EventRecords_ctevt : (on2 wEvt CoreState.fresh).issueOk 0 wEvt ∧ opIs wEvt 0 6 ∧ onlyBits wEvt 56 [(0, 16)] ∧
    gives (exec (.ctevt 0 wEvt) { coreRuns [wEvt, wEvt] CoreState.fresh [] with regs := tabPut (tabPut (tabPut (coreRuns [wEvt, wEvt] CoreState.fresh []).regs (pgPrt 2 + 0x100) 1) (pgPrt 2 + 0x10C) 3) (pgEvt 3 + 0x100) 17 })
      (fun t => (t.ring 3).inProgress.map (fun e => (e.kind, e.code, e.cls)) == some (2, 0xABCD, 1) && t.getF (F.CORE_PC_PC 0) == 1) := by decide +kernel
theorem test_EventRecords_bytes : recordBytes ev1 4 15 = [2, 128, 3, 0, 0xCD, 0xAB, 0, 0, 1, 0, 0, 0, 0, 1, 0, 0, 7, 0, 0, 0, 0, 0, 0, 0, 8, 0, 0, 0, 15, 0, 0, 0] ∧ (recordBytes ev1 4 16)[1]? = some 0 := by decide +kernel
/-- Ring 3, enabled, of 16 records, in host memory of function 5, with its registers zero. -/
def ringAt (r : RingState) (tail head pending hold : Nat) : State :=
  { (((((((que 0 0 true).setWord (pgEvt 3 + 0x104) 0x5000).setWord (pgEvt 3 + 0x108) 0).setWord (pgEvt 3 + 0x10C) (BitVec.ofNat 32 head)).setWord (pgEvt 3 + 0x110) (BitVec.ofNat 32 tail)).setWord (pgEvt 3 + 0x114) (BitVec.ofNat 32 pending)).setWord
    (pgEvt 3 + 0x118) 0).setWord (pgEvt 3 + 0x11C) (BitVec.ofNat 32 hold) with rings := [(3, r)] }
theorem test_EventRecords_written :
    gives (exec (.eventRecordWritten 3) (ringAt ⟨[ev1], some ev1, 0, none, false⟩ 17 16 0 0)) (fun t => t.egress == [.hostWrite 5 0x5020 false (recordBytes ev1 4 17), .msix 5 0 0xFEE00000 7] && t.getF (F.EVT_TAIL_COUNT 3) == 18 && (t.ring 3).inProgress == some ev1 && (t.ring 3).staged == []) ∧
    gives (exec (.eventRecordWritten 3) (ringAt ⟨[ev1], some ev1, 5, none, false⟩ 17 16 6 9)) (fun t => (t.ring 3).inProgress.map (fun e => (e.kind, e.code, e.data1)) == some (15, 6, 5) && (t.ring 3).staged == [ev1] && (t.ring 3).holdFrom == some 0) ∧
    gives (exec (.eventRecordWritten 3) (ringAt ⟨[ev1], some ev1, 0, some 0, false⟩ 15 0 0 9)) (fun t => (t.ring 3).inProgress == none && (t.ring 3).staged == [ev1] && (t.ring 3).owed && t.egress.length == 1) := by decide +kernel
/-- R333: a masked vector pends. -/
theorem test_EventRecords_pends :
    let s := ringAt ⟨[ev1], some ev1, 0, none, false⟩ 17 16 0 0
    gives (exec (.eventRecordWritten 3) { s with host := { s.host with msix := [] } }) (fun t => t.egress.length == 1 && t.host.pba == [320]) := by decide +kernel
theorem test_EventRecords_head : ensOk (ringAt ⟨[ev1], none, 0, none, false⟩ 16 0 0 0) (pgEvt 3 + 0x10C) 1 0xFFFFFFFF ∧ (ringAt ⟨[ev1], none, 0, none, false⟩ 16 0 0 0).ringFull 3 = true ∧
    gives (exec (.eventHeadAdvance ensA 3 1) (ringAt ⟨[ev1], none, 0, none, false⟩ 16 0 0 0)) (fun t => (t.ring 3).inProgress == some ev1 && t.getF (F.EVT_HEAD_COUNT 3) == 1) ∧
    gives (exec (.msixHoldoffExpiry 3) (ringAt ⟨[], none, 0, some 7, true⟩ 0 0 0 9)) (fun t => t.now == 907 && t.egress == [.msix 5 0 0xFEE00000 7] && (t.ring 3).holdFrom == some 907) ∧
    gives (exec (.msixHoldoffExpiry 3) (ringAt ⟨[], none, 0, some 7, false⟩ 0 0 0 9)) (fun t => t.egress == [] && (t.ring 3).holdFrom == none) := by decide +kernel
def evPage : State := ((ringAt ⟨[], none, 0, none, false⟩ 0 0 0 0).setWord (pgPrt 2 + 0x10) 0x1100).setWord (pgPrt 2 + 0x14) 0x1000
theorem test_EventRecords_enable : (pageKind (pgPrt 2 / 0x1000)).isSome = true ∧ ensOk evPage (pgPrt 2 + 0x14) 0x1100 0xFFFFFFFF ∧
    gives (exec (.eventEnableWrite ensA (pgPrt 2 / 0x1000) 0x1100) (evPage.setWord (pgPrt 2 + 0x18) 3)) (fun t => (t.ring 3).inProgress.map (fun e => (e.kind, e.code)) == some (5, 0x100)) ∧
    gives (exec (.eventEnableWrite ensA (pgPrt 2 / 0x1000) 0x1000) (evPage.setWord (pgPrt 2 + 0x18) 3)) (fun t => t.rings == evPage.rings) := by decide +kernel
/-- R334: a full staging queue counts the event and keeps its class. -/
theorem test_RingTakes_full : gives (exec (.ctevt 0 wEvt) { coreRuns [wEvt, wEvt] CoreState.fresh [] with
      rings := [(3, ⟨List.replicate 16 ev1, some ev1, 2, none, false⟩)], regs := tabPut (tabPut (tabPut (coreRuns [wEvt, wEvt] CoreState.fresh []).regs (pgPrt 2 + 0x100) 1) (pgPrt 2 + 0x10C) 3) (pgEvt 3 + 0x100) 17 })
      (fun t => (t.ring 3).lost == 3 && t.getF (F.EVT_PENDING_MASK 3) == 2 && t.getF (F.EVT_FLOOD_COUNT 3) == 1) := by decide +kernel

theorem test_Partitions_rows : ensOk rst (pgPrt 1 + 0x100) 6 0xFFFFFFFF ∧ gives (exec (.partitionRowsWrite ensA 1 false 6) rst) (fun t => t.getF (F.PRT_ROWS_LO_ROWS 1) == 6 && t.pgState (pgPrt 1) == prtIdle) ∧
    gives (exec (.partitionRowsWrite ensA 1 false 3) part2) (fun t => t.getF (F.PRT_ROWS_LO_ROWS 1) == 0) ∧ gives (exec (.partitionRowsWrite ensA 2 true 0x80000000) part2) (fun t => t.partOfRow 63 == some 2) ∧
    gives (exec (.partitionRowsWrite ensA 2 false 0) part2) (fun t => t.pgState (pgPrt 2) == prtOff) := by decide +kernel
theorem test_Partitions_enable : ensOk part2 (pgPrt 2 + 8) 1 1 ∧ part2.pgState (pgPrt 2) ≠ prtReset ∧ gives (exec (.partitionEnable ensA 2 1) part2) (fun t => t.pgState (pgPrt 2) == prtActive) ∧
    ensOk part2 (pgPrt 2 + 8) 2 2 ∧ gives (exec (.quiesceReq ensA 2 2) (part2.setF (F.PG_CTRL_ENABLE (pgPrt 2)) 1)) (fun t => t.pgState (pgPrt 2) == prtQuiescing && bit (t.word (pgPrt 2 + 0x10)).toNat 12) := by decide +kernel

/-! Resets, supplies, Ensigns (R339 to R361, R381 to R384) -/

/-- Core 0 is IDLE with a packet at its gate and one elsewhere. -/
def coreBusy : State := { (st []).setCoreSt 0 coreIdle with packets := [(1, pk0 (.gate 0) 0 1 0x10), (2, pk0 (.gate 1) 0 1 0x10)] }
def coreWorn : State := (coreBusy.setCore 0 { CoreState.fresh with scalars := [(3, 9)] }).setF (F.CORE_PC_PC 0) 77
theorem test_Resets_core : ensOk coreWorn (pgCore 0 + 8) 4 0 ∧ 0 < nSites ∧ gives (exec (.coreReset ensA 0 4) coreWorn) (fun t => t.coreSt 0 == coreIdle && t.core 0 == CoreState.fresh && t.getF (F.CORE_PC_PC 0) == 0 && t.packets.map (·.1) == [2]) := by decide +kernel
theorem test_Resets_off : gives (exec (.coreReset ensA 0 4) (coreWorn.setCoreSt 0 coreEclipsed)) (fun t => t.coreSt 0 == coreEclipsed && t.core 0 == CoreState.fresh) := by decide +kernel
theorem test_Resets_admitted : ensOk (cluIdle (cluAt lines3 claim)) (pgClu 0 + 8) 4 0 ∧ ensOk part2 (pgPrt 2 + 8) 4 0 ∧ bit (4 : Nat) 2 = true := by decide +kernel
theorem test_Resets_partition : (part2.sitesOf 2).length = 17 ∧ (que 3 2 true).quPart 130 = some 2 ∧ ((que 3 2 true).resetQueue 130).quOn 130 = false ∧ ((que 3 2 true).resetQueue 130).quFn 130 = 5 ∧ ((que 3 2 true).resetQueue 130).quTail 130 = 0 := by decide +kernel

/-- A bring-up in which nothing fails. -/
def bootOk : BootIn := { (default : BootIn) with ensA := true, ensB := true, auth0 := true, auth1 := true, ref0 := true, ref1 := true, ioOk := 3 }
def sup (pg vs ax : Bool) : State := { rst with power := { P0 with pwrgd := pg, vsb := vs, aux := ax } }
def noImage : BootIn := { bootOk with auth0 := false, auth1 := false }
theorem test_Supplies_wait : gives (exec (.powerGood bootOk) (sup false true false)) (fun t => t.power.pwrgd && !t.power.aux && t.power.boot.isNone && t.getF F.G_BOOT_STATE_STATE == 0) ∧ gives (exec (.auxSupplyInRegulation bootOk) (sup false true false)) (fun t => t == sup false true true) ∧
    (sup false true true).getF F.G_BOOT_STATE_STATE = 0 := by decide +kernel
theorem test_Supplies_noImage : gives (exec (.powerGood noImage) (sup false true true)) (fun t => t.getF F.G_BOOT_STATE_STATE == 10 && t.getF F.G_BOOT_CAUSE_FAIL == 1 && t.power.pwrgd) := by decide +kernel
theorem test_Supplies_fall : gives (exec (.pwrgdFall 3) (sup true true true)) (fun t => t.getF F.G_BOOT_CAUSE_CAUSE == 1 && !t.power.pwrgd) ∧ gives (exec (.auxSupplyFault 3) (sup true true true)) (fun t => !t.power.aux && t.getF F.G_BOOT_CAUSE_CAUSE == 1) ∧
    gives (exec (.vsbLoss 3) (sup true true true)) (fun t => !t.power.vsb) ∧ gives (exec (.vsbPowerOn 6 bootOk) (sup false false false)) (fun t => t.power.vsb && t.power.strap == 2) := by decide +kernel
theorem test_Supplies_resetAll : ensOk (sup true true true) (pgBoot + 0x10C) 1 1 ∧ (sup true true true).power.warn = [] ∧ (sup true true true).power.clearAt = none ∧
    gives (exec (.resetAll ensA 1 bootOk) (sup true false true)) (fun t => t.getF F.G_BOOT_CAUSE_CAUSE == 2) := by decide +kernel
theorem test_Supplies_shutdown : ensOk (sup true true true) (pgBoot + 0x10C) 4 4 ∧ ensOk (sup true true true) (pgBoot + 0x10C) 2 2 ∧ gives (exec (.forceCold ensA 4) (sup true true true)) (fun t => t.on F.G_QS_STATUS_FORCE_COLD) ∧
    (sup true true true).activeEns = none ∧ gives (exec (.shutdown ensA 2 default) (sup true true true)) (fun t => t.getF F.G_SD_STATUS_STATUS == 4) ∧
    (sup true true true).power.sd = none ∧ gives (exec (.shutdown ensA 2 default) ((sup true true true).setPgState (pgPrt 15) prtActive)) (fun t => t.getF F.G_SD_STATUS_STATUS == 3) ∧
    ((sup true true true).setWord (pgRel + 0x100) 1).activeEns = some 0 ∧ (List.range 16).all (fun p => decide (((sup true true true).setWord (pgRel + 0x100) 1).pgState (pgPrt p) < 2)) := by decide +kernel
/-- A shutdown with `todo` slices left and link 1 stored as good, at its beginning; link 1 is up. -/
def sdAt (todo : List SdSlice) (written ok : Bool) (m : ShutIn) : State :=
  let s := ((sup true true true).setWord (pgRel + 0x100) 1).setPgState (pgLnk 1) linkActive
  { s with power := { s.power with sd := some { todo := todo, from_ := 0, linkPass := 2, portPass := 0, slices := 3, fails := 0, cut := false, written := written, flashOk := ok, meets := m } } }
def sdOut (s : State) : Option (Nat × Nat × Nat × Bool) := s.power.sd.map (fun d => (d.linkPass, d.slices, d.fails, d.cut))
/-- R350: a slice that passes, one that fails, and one that the budget of 400 ms leaves out. -/
theorem test_Supplies_slices : (sdAt [.link 1 0] false true default).pending = [] ∧ (sdAt [.link 1 0] false true default).bootUnderWay = false ∧ (sdAt [.link 1 0] false true default).activeEns = some 0 ∧
    gives (step (sdAt [.link 1 0] false true { (default : ShutIn) with lens := [0, 0, 0, 7] })) (fun t => sdOut t == some (2, 4, 0, false) && t.now == 50007) ∧
    gives (step (sdAt [.link 1 0] false true { (default : ShutIn) with linkFails := [(1, 0)] })) (fun t => sdOut t == some (0, 4, 1, false)) ∧
    gives (step { sdAt [.link 1 0] false true default with now := 39800000 }) (fun t => sdOut t == some (2, 4, 0, false)) ∧
    gives (step { sdAt [.link 1 0] false true default with now := 39800001 }) (fun t => sdOut t == some (0, 3, 0, true) && t.now == 39800001) := by decide +kernel
/-- Bring-up stands at step `k` of G_BOOT_STATE, with tower `f` on. -/
def bootAtStep (k : Nat) (f : List Nat) : State :=
  let s := sup true true true
  { s.setF F.G_BOOT_STATE_STATE k with power := { s.power with boot := some { bootOk with ms := 3 }, fabOn := f } }
theorem test_Supplies_premises : (sdAt [] false true default).power.sd.map (fun d => (d.todo, d.written)) = some ([], false) ∧ (sdAt [] false true default).activeEns ≠ none ∧ (sdAt [] true true default).power.sd.map (fun d => (d.todo, d.written)) = some ([], true) ∧
    [3, 4, 5, 6].all (fun k => (bootAtStep k [0]).getF F.G_BOOT_STATE_STATE == k && (bootAtStep k [0]).power.boot.isSome) ∧ (bootAtStep 5 [0]).on F.G_BOOT_STATE_QUICK = false ∧
    (bootAtStep 5 [0]).power.kept = [] := by decide +kernel
theorem test_Supplies_steps : (bootAtStep 5 []).pending = [] ∧ (bootAtStep 5 []).power.boot.isSome ∧
    gives (step (bootAtStep 5 [])) (fun t => t.getF F.G_BOOT_STATE_STATE == 10 && t.getF F.G_BOOT_CAUSE_FAIL == 2) ∧
    gives (step (bootAtStep 5 [0])) (fun t => t.getF F.G_BOOT_STATE_STATE == 6) := by decide +kernel

/-- Both Ensigns live, A active and steward of every die; the links of both to die 0 are up. -/
def ens (w : Nat) (r : RelState) : State :=
  let s := (List.range 24).foldl (fun s n => if (linkEnds n).2 = 4 ∨ (linkEnds n).2 = 5 then s.setPgState (pgLnk n) linkActive else s) { rst with power := { P0 with fabOn := [0], pwrgd := true, vsb := true }, rel := r, now := 1000000 }
  (s.setWord (pgRel + 0x100) (BitVec.ofNat 32 w)).setF F.G_BOOT_STATE_STATE 7
def R0 : RelState := rst.rel
def ens0 : State := ens 0x18003 R0
theorem test_Ensigns_beat : ens0.ensLink 1 0 = true ∧ 0 ∈ ens0.power.fabOn ∧ gives (exec (.ensignHeartbeat 1 0) ens0) (fun t => tabGet t.rel.beats 1 == some 1000000) ∧
    gives (exec (.ensignHeartbeat 1 0) (ens 0x18001 { R0 with booting := [(1, 5)] })) (fun t => t.ensAlive 1) ∧ gives (exec (.ensignHeartbeat 1 0) (ens 0x18001 R0)) (fun t => !t.ensAlive 1) := by decide +kernel
theorem test_Ensigns_reset : ensOk ens0 (pgBoot + 0x10C) 8 8 ∧ ensOk ens0 (pgBoot + 0x10C) 16 16 ∧ ens0.ensAlive 1 = true ∧
    gives (exec (.ensResetA ensA 8) ens0) (fun t => !t.ensAlive 0 && t.ensAlive 1 && tabGet t.rel.booting 0 == some 4000000) ∧
    gives (exec (.ensignWatchdogExpiry 1) ens0) (fun t => !t.ensAlive 1 && t.ensAlive 0) := by decide +kernel
/-- Regulators of die 0 as fused and set: 740 mV at every step. -/
def volts (s : State) : State :=
  (clustersOf 0).foldl (fun s c => ((((s.setWord (pgClu c + 0x280) 40).setWord (F.CLU_VMIN c 0).addr 0x78787878).setWord (F.CLU_VMIN c 1).addr 0x78787878).setWord (F.CLU_VMIN c 2).addr 0x78787878)) ((s.setWord (pgDie 0 + 0x240) 0x88844).setWord 0x2420 0)
theorem test_Ensigns_timeout : ens0.steward 0 = 0 ∧ gives (exec (.stewardTimeout 0) (volts ens0)) (fun t => t.steward 0 == 1 && t.getF F.G_REL_STATUS_ACTIVE == 1 && t.getF F.G_REL_FAILOVERS_COUNT == 1) ∧
    gives (exec (.ensignClaim 1 0) (volts ens0)) (fun t => t.steward 0 == 1) ∧ gives (exec (.ensignClaim 1 0) (volts (ens 0x18003 { R0 with beats := [(0, 600001)] }))) (fun t => t.steward 0 == 0) ∧
    gives (exec (.ensignClaim 1 0) (volts (ens 0x18003 { R0 with beats := [(0, 600000)] }))) (fun t => t.steward 0 == 1) := by decide +kernel
theorem test_Ensigns_stewardless : bit (ens0.getF F.G_REL_STATUS_STEWARDLESS) 0 = false ∧ ens0.running = false ∧ gives (exec (.stewardless 0) ((clustersOf 0).foldl (fun s c => (s.setWord (pgClu c + 0x280) 40).setWord (pgClu c + 0x284) 0) (ens0.setWord (pgDie 0 + 0x240) 0x88844)))
      (fun t => bit (t.getF F.G_REL_STATUS_STEWARDLESS) 0 && t.getF (F.DIE_FREQ_CUR 0) == 0) := by decide +kernel
theorem test_Ensigns_giveUp : ens0.activeEns = some 0 ∧ gives (exec (.ensignRoleGiveUp 4) ens0) (fun t => t.activeEns == some 0 && t.now == 1000004) ∧
    gives (exec (.ensignRoleGiveUp 4) { (sup true true true).setWord (pgRel + 0x100) 3 with now := 5 }) (fun t => t.activeEns == none) := by decide +kernel
theorem test_Ensigns_alert : ens0.powered = true ∧ ens0.alertN = .high ∧ (ens 0x18083 R0).alertN = .low ∧ (ens 0x10003 R0).alertN = .low := by decide +kernel

/-! Reliability and scan (R362 to R393, R410 to R413) -/

/-- R371's worked examples, of the byte 0x5A: corrected, UE, POISON, and a wrong correction of three bits. -/
theorem test_code : codeRead 0x5A 0x010 = (0x5A, .corrected 0xA false) ∧ (codeRead 0x5A 0x104) = (0x5E, .uncorr 0x7 false) ∧ (codeRead 0x5A 0xF00) = (0x5A, .uncorr 0xF false) ∧
    codeRead 0x5A 0x003 = (0x5D, .corrected 0x6 false) ∧ codeRead 0x5A 0 = (0x5A, .clean) := by decide +kernel

def ecl0 : State := ((((st []).setCoreSt 33 coreIdle).setWord (F.DIE_ECL 0 1).addr 0).setWord (F.CORE_ECL_CAUSE 33).addr 0)
theorem test_Retirement_eclipse : 32 * 1 + 1 < 272 ∧ ensOk ecl0 (F.DIE_ECL 0 1).addr 2 2 ∧ ecl0.coreSt 33 ≠ coreEclipsed ∧
    gives (exec (.driverEclipse ensA 0 1 2) ecl0) (fun t => t.coreSt 33 == coreEclipsed && t.getF (F.CORE_ECL_CAUSE 33) == 6 && bit (t.getF (F.DIE_ECL 0 1)) 1) := by decide +kernel
theorem test_Retirement_port : ensOk (portWith busy) (F.DIE_PFAIL 0 0).addr 1 1 ∧ gives (exec (.portFail ensA 0 0 1) (portWith busy)) (fun t => t.hal 0 == halFailed && (t.port 0).reqs == []) ∧
    ensOk (portWith busy) (F.DIE_BRET 0 0).addr 5 5 ∧ gives (exec (.bankRetire ensA 0 0 5) (portWith busy)) (fun t => t.bankRetired 0 2 && !t.bankRetired 0 1) := by decide +kernel
theorem test_Retirement_ghost : gives (exec (.ghostFlit 33) (ecl0.setCoreSt 33 coreEclipsed)) (fun t => t.getF (F.CORE_GHOST_COUNT 33) == 1 && t.getF (F.DIE_GHOST_LAST_SITE 0) == siteNum 33 && t.rel.ghosted == [33]) := by decide +kernel
/-- Cluster 0 with its row's spare free and its cores IDLE, one of them eclipsed. -/
def spareFree : State := (((cluIdle (pwr P1)).setCoreSt 8 coreOff).setWord (pgClu 0 + 0x2C0) 0).setWord (pgClu 1 + 0x2C0) 0
theorem test_Retirement_spare : ensOk spareFree (pgClu 0 + 0x2C0) 1 3 ∧ spareFree.on (F.CLU_SPARE_BUSY 0) = false ∧ spareFree.on (F.CLU_SPARE_BUSY 1) = false ∧ spareFree.clusterOf (spareOfRow 0) = none ∧
    gives (exec (.release ensA 0 2) spareFree) (fun t => t.getF (F.CLU_SPARE_RESULT 0) == 0) ∧ gives (exec (.assign ensA 0 1) (spareFree.setWord (F.PWR_SITE_LATCH 0).addr 0x100)) (fun t => t.getF (F.CLU_SPARE_RESULT 0) == 2) := by decide +kernel
def refs (w cur : Nat) : State := (rst.setWord (pgRel + 0x100) (BitVec.ofNat 32 w)).setWord (pgRel + 0x108) (BitVec.ofNat 32 cur)
theorem test_Retirement_clocks : (refs 0x18003 0).refOf 3 = false ∧ gives (exec (.refclkLoss false 3) (refs 0x18003 0)) (fun t => t.refOf 3 && !t.refOf 2 && !t.on (refOk false) && t.on (refOk true)) ∧
    gives (exec (.refclkLoss false 3) (refs 0x08003 0)) (fun t => !t.refOf 3) ∧ gives (exec (.refclkRestored false) (refs 0x10003 0)) (fun t => t.on (refOk false)) ∧
    ensOk (refs 0x18003 0) (pgRel + 0x108) 1 1 ∧ gives (exec (.refclkSelect ensA 1) (refs 0x18003 0)) (fun t => (List.range 6).all t.refOf) ∧
    gives (exec (.refclkSelect ensA 1) (refs 0x08003 0)) (fun t => (List.range 6).all (fun n => !t.refOf n)) := by decide +kernel

theorem test_SelfTest_due : gives (exec (.patrolScrubDue 0) ((pwr P1).setF F.G_SCRUB_HOURS 24)) (fun t => t.rel.scrubDue == [0] && t.now == 24 * 360000000000 / 393216) ∧ ((pwr P1).setF F.G_SCRUB_HOURS 24).getF F.G_SCRUB_HOURS ≠ 0 := by decide +kernel
def scrubbing (q : PortState) (k : Nat) : State := { refr q with rel := { R0 with scrubDue := [0], scrubNext := [(0, k)] } }
theorem test_SelfTest_scrub : (scrubbing (PortState.fresh 0) 393215).refreshOn 0 31 = false ∧ (scrubbing (PortState.fresh 0) 12287).refreshOn 0 0 = true ∧
    gives (exec (.scrubStepStart 0) (scrubbing (PortState.fresh 0) 12287)) (fun t => (t.port 0).scrubbing == some (0, 12287) && t.rel.scrubDue == [] && tabGet t.rel.scrubNext 0 == some 12288) ∧
    gives (exec (.scrubStepStart 0) (scrubbing { PortState.fresh 0 with refreshing := [0] } 12287)) (fun t => t.rel.scrubDue == [0]) := by decide +kernel
/-- A flip of bits 0 and 11 armed for DPA 0x1E0 + 5: UNIT 0, BYTE 5. -/
def armed : State := (((rst.setWord (pgRel + 0x130) 0).setWord (pgRel + 0x134) 0x1E0).setWord (pgRel + 0x138) 0).setWord (pgRel + 0x130) (BitVec.ofNat 32 (1 + 8 * 5 + 2 ^ 10 * 0x801))
theorem test_SelfTest_flip : ensOk rst (pgRel + 0x130) 0x3FFFFF 0x3FFFFF ∧ gives (exec (.testFlipArm ensA (BitVec.ofNat 32 (1 + 8 * 5 + 2 ^ 10 * 0x801))) rst) (fun t => t.on F.G_FLIP_CTRL_ARM && t.getF F.G_FLIP_CTRL_BYTE == 5) ∧
    armed.flipAt 0 = some 0x1E5 ∧ (armed.dramPut [(0x1E5, 7)]).on F.G_FLIP_CTRL_ARM = false ∧ (armed.dramPut [(0x1E5, 7)]).on F.G_FLIP_CTRL_DONE = true ∧ (armed.dramPut [(0x1E4, 7)]).on F.G_FLIP_CTRL_ARM = true := by decide +kernel
/-- Both Ensigns live, no partition busy. -/
def calm : State := refs 0x18003 0
theorem test_SelfTest_bist : ensOk calm (pgRel + 0x140) 0x104 0x1FF ∧ calm.activeEns = some 0 ∧
    gives (exec (.bistRow ensA 0x105) calm) (fun t => t.getF F.G_BIST_STATUS_STATUS == 1 && t.rel.bist == some (1, 1, 0)) ∧ gives (exec (.bistAll ensA 0x100) calm) (fun t => t.rel.bist == some (0, 0, 0)) ∧
    gives (exec (.bistLink ensA 0x102) calm) (fun t => t.rel.bist == some (2, 0, 0)) ∧ gives (exec (.bistAll ensA 0x100) rst) (fun t => t.getF F.G_BIST_STATUS_STATUS == 5) ∧
    gives (exec (.bistAll ensA 0x100) { calm with rel := { R0 with bist := some (0, 0, 0) } }) (fun t => t.getF F.G_BIST_STATUS_STATUS == 6) ∧
    gives (exec (.bistRow ensA 0x101) (part2.setWord (pgRel + 0x100) 3 |>.setPgState (pgPrt 2) prtActive)) (fun t => t.getF F.G_BIST_STATUS_STATUS == 4) := by decide +kernel
theorem test_SelfTest_done : gives (exec (.bistDone [] [] 70000) { calm with rel := { R0 with bist := some (2, 0, 0) } }) (fun t => t.rel.bist == none && t.getF F.G_BIST_STATUS_STATUS == 2 && t.getF F.G_BIST_STATUS_MS == 65535) := by decide +kernel
def sec (w : Nat) : State := { calm.setWord (pgSec + 0x100) (BitVec.ofNat 32 w) with power := { P0 with pwrgd := true, vsb := true } }
theorem test_SelfTest_scan : ensOk (sec 3) (pgSec + 0x104) 1 1 ∧ gives (exec (.scanOpenRequest ensA 1) (sec 3)) (fun t => t.getF F.SEC_STATUS_SCAN == 2 && !t.on F.SEC_STATUS_KEY_LOADED && t.getF F.SEC_SCAN_INFO_SOURCE == 1) ∧
    gives (exec (.scanOpenRequest ensA 1) (sec 11)) (fun t => t.getF F.SEC_SCAN_INFO_REFUSED == 2) ∧ gives (exec (.scanOpenRequest ensA 1) ((sec 3).setPgState (pgPrt 2) prtActive)) (fun t => t.getF F.SEC_SCAN_INFO_REFUSED == 1 && t.on F.SEC_STATUS_KEY_LOADED) := by decide +kernel
theorem test_SelfTest_jtag : gives (exec (.jtagInstruction .scan) ((sec 3).setPgState (pgPrt 2) prtActive)) (fun t => t.getF F.SEC_STATUS_SCAN == 1 && t.jtagActs == .bypass) ∧ gives (exec (.jtagInstruction .scan) (sec 3)) (fun t => t.getF F.SEC_STATUS_SCAN == 2) ∧
    gives (exec .scanSequenceStart ((sec 7).setPgState (pgPrt 2) prtActive)) (fun t => t.getF F.SEC_STATUS_SCAN == 1) ∧ (sec 8).getF F.SEC_STATUS_SCAN = 2 := by decide +kernel

/-! Mailbox and messages (R409, R414 to R417, R435 to R443) -/

/-- Ensign A is active, the mailbox is free; `m` is the management state. -/
def box (m : MgmtState) : State := { ((calm.setWord (pgEns + 0x100) 0).setWord (pgEns + 0x104) 2).setF F.G_BOOT_STATE_STATE 7 with mgmt := m, power := { P0 with pwrgd := true, vsb := true } }
def M0 : MgmtState := MgmtState.reset
def goes (op : Nat) : Word := BitVec.ofNat 32 (2 ^ 31 + op)
theorem test_Mailbox_accept : ensOk (box M0) (pgEns + 0x100) (2 ^ 31 + 1) 0x80000000 ∧ (box M0).activeEns = some 0 ∧
    [((Instr.getInfo ensA (goes 1)), 1), (.fwBegin ensA (goes 0x10), 0x10), (.fwWrite ensA (goes 0x11), 0x11), (.fwVerify ensA (goes 0x12), 0x12), (.fwActivate ensA (goes 0x13), 0x13), (.fwAbort ensA (goes 0x14), 0x14)].all (fun e =>
      gives (exec e.1 (box M0)) (fun t => t.on F.ENS_STATUS_BUSY && t.getF F.ENS_CMD_OP == e.2)) := by decide +kernel
theorem test_Mailbox_refuse : ((box M0).setWord (pgRel + 0x100) 0).activeEns = none ∧ gives (exec (.fwAbort ensA (goes 0x14)) ((box M0).setWord (pgRel + 0x100) 0)) (fun t => t.getF F.ENS_STATUS_RESULT == 8 && t.getF F.ENS_DONE_COUNT == 1) ∧
    gives (exec (.fwAbort ensA (goes 0x14)) ((box M0).setF F.ENS_STATUS_BUSY 1)) (fun t => t.getF F.ENS_CMD_OP == 0) := by decide +kernel
/-- The mailbox runs `op` of `len` bytes with the first data word `w`. -/
def runs (op len w : Nat) (m : MgmtState) : State := (((box m).setWord (pgEns + 0x100) (BitVec.ofNat 32 (op + 2 ^ 16 * len))).setF F.ENS_STATUS_BUSY 1).setWord (pgEns + 0x400) (BitVec.ofNat 32 w)
def result (outcome : Nat) (s : State) (r : Nat) (p : State → Bool) : Bool := gives (execMailboxCommandComplete outcome 5 s) (fun t => !t.on F.ENS_STATUS_BUSY && t.getF F.ENS_STATUS_RESULT == r && p t)
def upd (verified : Bool) : MgmtState := { M0 with update := some false, imgLen := 1020, verified := verified }
theorem test_Mailbox_begin : result 0 (runs 0x10 4 1020 M0) 0 (fun t => t.mgmt.update == some false && t.mgmt.imgLen == 1020) ∧ result 0 (runs 0x10 4 (2 ^ 24) M0) 0 (fun _ => true) ∧ result 0 (runs 0x10 4 (2 ^ 24 + 1) M0) 2 (fun t => t.mgmt == M0) ∧
    result 5 (runs 0x10 4 1 M0) 5 (fun t => t.mgmt == M0) ∧ result 0 (runs 0x10 4 1 { M0 with update := some true }) 3 (fun _ => true) ∧ result 0 (runs 0x12 0 0 M0) 2 (fun _ => true) := by decide +kernel
theorem test_Mailbox_write : result 0 (runs 0x11 12 1016 (upd true)) 0 (fun t => !t.mgmt.verified && (tabGet t.flash.image1 1016).map (·.length) == some 4) ∧ result 0 (runs 0x11 13 1016 (upd true)) 2 (fun t => t.mgmt == upd true) ∧
    result 0 (runs 0x11 12 1015 (upd true)) 2 (fun _ => true) ∧ result 0 (runs 0x11 8 0 (upd true)) 2 (fun _ => true) := by decide +kernel
theorem test_Mailbox_rest : result 0 (runs 0x12 0 0 (upd false)) 0 (fun t => t.mgmt.verified) ∧ result 4 (runs 0x12 0 0 (upd true)) 4 (fun t => !t.mgmt.verified) ∧ result 0 (runs 0x13 4 0 (upd false)) 2 (fun _ => true) ∧
    result 0 ((runs 0x13 4 0 (upd true)).setWord (pgRel + 0x100) 1) 7 (fun t => t.mgmt == upd true) ∧ result 0 (runs 0x14 0 0 (upd true)) 0 (fun t => t.mgmt.update == none) := by decide +kernel
theorem test_Mailbox_activate : (runs 0x13 4 0 (upd true)).ensAlive 0 = true ∧ (runs 0x13 4 0 (upd true)).ensAlive 1 = true ∧ result 0 (runs 0x13 4 0 (upd true)) 0 (fun t => t.mgmt.update == none && t.ensAlive 1 && !t.ensAlive 0) := by decide +kernel
theorem test_Mailbox_info : result 0 (runs 1 0 0 M0) 0 (fun t => t.getF F.ENS_STATUS_RLEN == 16) ∧ gives (exec (.flashLockTimeout 1) (box { M0 with flash := some (1, 50) })) (fun t => t.mgmt.flash == none && t.now == 10000050) := by decide +kernel

def tells (i : Instr) (s : State) (code : Nat) : Bool := gives (exec i s) (fun t => match t.reply with | some (.message c _) => c == code | _ => false)
def keyed (w : Nat) : State := (box M0).setWord (pgSec + 0x100) (BitVec.ofNat 32 w)
theorem test_Messages_spdm : (keyed 1).spdmHeard 0 = true ∧ tells (.getVersion 0) (keyed 0) 4 ∧ tells (.getCapabilities 4) (keyed 0) 0x61 ∧ tells (.negotiateAlgorithms 0) (keyed 0) 0x63 ∧ tells (.getDigests 0) (keyed 0) 1 ∧ tells (.getCertificate 0 0 0 16) (keyed 0) 2 ∧
    tells (.getCertificate 0 1 0 16) (keyed 0) 0x7F ∧ tells (.challenge 0 0 9) (keyed 1) 3 ∧ tells (.challenge 0 0 9) (keyed 0) 0x7F ∧ tells (.challenge 0 0 9) (keyed 9) 0x7F ∧ tells (.getMeasurements 0 4 false 9) (keyed 1) 0x7F ∧
    gives (exec (.getVersion 0) (keyed 0)) (fun t => t.getF F.SEC_SPDM_REQS_COUNT == 1 && t.getF F.SEC_SPDM_ERRS_COUNT == 0) ∧ gives (exec (.challenge 0 2 9) (keyed 1)) (fun t => t.getF F.SEC_SPDM_ERRS_COUNT == 1) := by decide +kernel
theorem test_Messages_doe : (box M0).ensBooted = true ∧ gives (exec (.doeDiscovery 3 0) (box M0)) (fun t => t.reply == some (.message 0 [1, 0, 1])) ∧ gives (exec (.doeDiscovery 3 1) (box M0)) (fun t => t.reply == some (.message 0 [1, 1, 0])) := by decide +kernel
theorem test_Messages_i3c : (box M0).power.vsb = true ∧ gives (exec (.entdaa 0x89) (box M0)) (fun t => t.mgmt.dynAddr == some 9) ∧ gives (exec (.setdasa 0x4C 0x11) (box M0)) (fun t => t.mgmt.dynAddr == some 0x11) ∧
    gives (exec (.setdasa 0x4D 0x11) (box M0)) (fun t => t.mgmt.dynAddr == none) ∧ gives (exec (.entdaa 0x12) (box { M0 with dynAddr := some 3 })) (fun t => t.mgmt.dynAddr == some 3) := by decide +kernel
theorem test_Messages_pldm : tells (.setEndpointId 7) (box M0) 2 ∧ gives (exec (.setEndpointId 8) (box M0)) (fun t => t.mgmt.eid == 8) ∧ tells (.setEndpointId 0xFE) (box M0) 0 ∧ tells (.setEndpointId 0xFF) (box M0) 2 ∧
    tells (.getSensorReading 0) (box M0) 0x80 ∧ tells (.getSensorReading 28) (box M0) 0x80 ∧ (box M0).sensor 26 ≠ none ∧ tells (.getSensorReading 26) (box M0) 0 ∧ tells (.setPowerCap 1199) (box M0) 2 ∧ tells (.setPowerCap 3201) (box M0) 2 ∧
    tells (.setMinDuty 101) (box M0) 2 ∧ gives (exec (.setMinDuty 100) (box M0)) (fun t => t.getF F.THM_COOL_CFG_MIN_DUTY == 100) ∧ gives (exec (.setCapOrbit 77) (box M0)) (fun t => t.mgmt.capOrbit == 77) ∧ tells (.setCapOrbit (2 ^ 32)) (box M0) 2 := by decide +kernel
theorem test_Messages_cap : (box M0).running = false ∧ gives (exec (.setPowerCap 1200) (box M0)) (fun t => t.getF F.ORB_PPL_WATTS == 1200) ∧
    (box { M0 with capOrbit := 77 }).on (F.ORB_ACT_CTRL_ARM 56) = false ∧
    gives (exec (.setPowerCap 3200) (box { M0 with capOrbit := 77 })) (fun t => t.on (F.ORB_ACT_CTRL_ARM 56) && t.getF (F.ORB_ACT_VALUE_VALUE 56) == 3200 && t.mgmt.capOrbit == 0) := by decide +kernel
theorem test_Messages_firmware : gives (exec .requestUpdate (box M0)) (fun t => t.mgmt.update == some true) ∧ tells .requestUpdate (box (upd false)) 0x81 ∧ tells (.activateFirmware true 5) (box (upd false)) 0x80 ∧ tells (.activateFirmware false 5) (box { M0 with update := some true }) 0x85 ∧
    tells (.activateFirmware true 5) ((box { M0 with update := some true }).setWord (pgRel + 0x100) 1) 1 ∧ gives (exec (.activateFirmware true 5) (box { M0 with update := some true })) (fun t => t.mgmt.update == none && !t.ensAlive 0) := by decide +kernel

/-! Registers and actions (R10 to R14, R46 to R51) -/

/-- Plain writes: ORB_ACT_VALUE of entry 3 (rw), and a range-limited field. -/
theorem test_RegisterAccess_write : (regAt 0x286C).isSome = true ∧ rowBits .orbit 0x86C 5 = 0 ∧ rst.blocked ensA .orbit 0 0x2000 0x86C 5 = 0 ∧ ensOk rst 0x286C 5 0xFFFFFFFF ∧
    gives (exec (.registerWrite ensA (.bar0 0x286C) 4 5 0) rst) (fun t => t.getF (F.ORB_ACT_VALUE_VALUE 3) == 5) := by decide +kernel
/-- R11: a w1c flag clears by 1 and stands by 0, a read-only count stays. -/
theorem test_RegisterAccess_codes : gives (exec (.registerWrite ensA (.bar0 0x2114) 4 2 0) (rst.setWord 0x2114 3)) (fun t => t.word 0x2114 == 1) ∧ gives (exec (.registerWrite ensA (.bar0 0x2110) 4 3 0) (rst.setWord 0x2110 0)) (fun t => t.word 0x2110 == 0) := by decide +kernel
/-- R46: a staged field takes its value at once while orbits are stopped, and waits while they run. -/
theorem test_RegisterAccess_staged : gives (exec (.registerWrite ensA (.bar0 0x2104) 4 999 0) rst) (fun t => t.getF F.ORB_PERIOD_PERIOD_US == 999) ∧
    gives (exec (.registerWrite ensA (.bar0 0x2104) 4 999 0) (rst.setF F.ORB_CTRL_RUN 1)) (fun t => t.getF F.ORB_PERIOD_PERIOD_US == 500 && t.dueF F.ORB_PERIOD_PERIOD_US == 999) := by decide +kernel
theorem test_RegisterAccess_read : gives (exec (.readClearCounter ensA (.bar0 0x2118) 4 2) (rst.setWord 0x2118 7)) (fun t => t.reply == some (.word 7) && t.getF F.ORB_MISS_COUNT_COUNT == 2) ∧ rst.shutOut ensA 0x2118 = false ∧
    gives (exec (.readClearCounter ensA (.bar0 0x2104) 4 2) rst) (fun t => t.reply == some (.word 500) && t.getF F.ORB_PERIOD_PERIOD_US == 500) := by decide +kernel
/-- Function 5 reaches the timebase page by reads alone, and no register at 0x1FFC. -/
theorem test_RegisterAccess_filter : host2.shutOut (.fn 5) 0x1110 = false ∧ host2.mgmtView (.fn 5) = false ∧ host2.fnReach 5 0x1110 true = false ∧ regAt 0x1FFC = none ∧
    gives (exec (.registerWrite (.fn 5) (.bar0 0x1110) 4 1 0) host2) (fun t => t.getF (F.HPT_FILT_DROP_COUNT 0) == 1 && t.getF (F.HPT_FILT_LAST_PAGE 0) == 1 && t.on (F.HPT_FILT_LAST_WRITE 0)) ∧
    gives (exec (.readClearCounter (.fn 5) (.bar0 0x1FFC) 4 0) host2) (fun t => t.getF (F.HPT_FILT_DROP_COUNT 0) == 1 && t.reply == some (.word 0)) := by decide +kernel
/-- R12: an event of the cycle of a clearing write stands. -/
theorem test_RegisterAccess_sets : gives (exec (.registerWrite ensA (.bar0 0x2114) 4 3 2) (rst.setWord 0x2114 3)) (fun t => t.word 0x2114 == 2) := by decide +kernel
/-- R314: another size, or an address between words, is an Unsupported Request; a 64-bit access is two of 32 bits, the lower first. -/
theorem test_RegisterAccess_sizes : gives (exec (.readClearCounter (.fn 5) (.bar0 0x2104) 2 0) host2) (fun t => t.reply == some .unsupported) ∧
    gives (exec (.registerWrite (.fn 5) (.bar0 0x2106) 4 1 0) host2) (fun t => (t.cfg 5).aerUncorr == 2 ^ 20 && t.regs == host2.regs) ∧
    gives (exec (.registerWrite ensA (.bar0 0x2868) 8 (7 * 2 ^ 32 + 9) 0) rst) (fun t => t.getF (F.ORB_ACT_VALUE_VALUE 3) == 7 && t.word 0x2868 == 8) := by decide +kernel
theorem test_RegisterAccess_functions : gives (exec (.registerWrite (.fn 6) (.bar4 0x10010) 4 0xFEE00004 0) rst) (fun t => t.msixEntry 6 1 == (0xFEE00004, 0, true)) ∧
    gives (exec (.registerWrite (.fn 6) (.config 4) 4 6 0) (host2.setWord (pgHpt 0 + 0x104) 1)) (fun t => t.busMaster 6 && !t.busMaster 7) ∧
    gives (exec (.readClearCounter (.fn 5) (.config 4) 4 0) (host2.setWord (pgHpt 0 + 0x104) 1)) (fun t => t.reply == some (.word 6)) ∧
    gives (exec (.readClearCounter (.fn 5) (.config 4) 4 0) (host2.setWord (pgHpt 0 + 0x104) 0)) (fun t => t.reply == some .retry) := by decide +kernel
theorem test_RegisterAccess_actions : ensOk rst 0x2128 1 1 ∧ gives (exec (.countLoad ensA 1) rst) (fun t => t.orb.loadPending) ∧ ensOk rst (0x2814 + 0x20 * 63) 1 1 ∧
    gives (exec (.actionArm ensA 3 1) rst) (fun t => t.on (F.ORB_ACT_CTRL_ARM 3) && t.getF (F.ORB_ACT_CTRL_STATE 3) == 1) ∧
    gives (exec (.actionDisarm ensA 3 0) ((rst.setF (F.ORB_ACT_CTRL_ARM 3) 1).setF (F.ORB_ACT_CTRL_STATE 3) 1)) (fun t => !t.on (F.ORB_ACT_CTRL_ARM 3) && t.getF (F.ORB_ACT_CTRL_STATE 3) == 0) ∧
    calm.activeEns = some 0 ∧ gives (exec (.actionArm ensA 63 1) calm) (fun t => t.on (F.ORB_ACT_CTRL_ARM 63)) ∧ gives (exec (.actionArm (.ensign true) 63 1) calm) (fun t => !t.on (F.ORB_ACT_CTRL_ARM 63)) ∧
    gives (exec (.actionArm (.ensign true) 55 1) calm) (fun t => t.on (F.ORB_ACT_CTRL_ARM 55)) ∧ gives (exec (.registerWrite (.ensign true) (.bar0 (0x280C + 0x20 * 56)) 4 7 0) calm) (fun t => t.getF (F.ORB_ACT_VALUE_VALUE 56) == 0) := by decide +kernel

/-! Orbits and time (R34 to R61) -/

/-- Orbits run with a period of 1,000 cycles from the tick at 0, from a source, now being `now`. -/
def orb (src now : Nat) (o : OrbitState) : State := { (orbiting.setF F.ORB_CTRL_SRC src).setF F.ORB_OTICK_TOL_TOL_US 1 with orb := o, now := now }
def O0 : OrbitState := { rst.orb with tickAt := some 0 }
theorem test_EdgeAcceptance : (orb 1 0 O0).running = true ∧ (orb 1 0 O0).src = 1 ∧ (orb 1 0 O0).period = 1000 ∧ 0 < (orb 1 0 O0).tol ∧ (orb 1 0 O0).tol < 500 ∧ (orb 1 0 O0).tablesOrdered = true ∧ (orb 1 0 O0).stagedPlain = true ∧
    gives (exec (.otickEdge 500) (orb 1 0 O0)) (fun t => t.on F.ORB_FLAGS_OTICK_EARLY && t.getF F.ORB_EARLY_COUNT_COUNT == 1 && t.now == 500 && t.orb.count == 0) := by decide +kernel
theorem test_Ticks_timer : (orb 0 0 O0).timerOn = true ∧ (List.range 64).all (fun n => !(orb 0 0 O0).on (F.ORB_ACT_CTRL_ARM n)) = true ∧ gives (exec .orbitTimerExpiry (orb 1 0 O0)) (fun t => t.now == 0) := by decide +kernel
theorem test_Ticks_miss : gives (exec .otickMiss (orb 1 0 O0)) (fun t => t.on F.ORB_FLAGS_OTICK_MISS && t.getF F.ORB_MISS_COUNT_COUNT == 1 && t.orb.missed && t.orb.count == 0) ∧ (orb 2 0 O0).src = 2 ∧ (orb 2 0 O0).orb.missed = false := by decide +kernel
theorem test_Ticks_relock : (orb 2 2100 { O0 with fallback := true, watch := [2100, 1100], tickAt := some 2050 }).spaced 1100 2100 = true ∧ (orb 2 2100 { O0 with fallback := true, watch := [2100, 1100], tickAt := some 2050 }).spaced 2100 (2100 + 1000) = true ∧
    gives (exec (.otickEdge 900) (orb 2 2100 { O0 with fallback := true, watch := [2100, 1200], tickAt := some 2950 })) (fun t => t.on F.ORB_STATUS_RELOCKING && t.orb.count == 0) := by decide +kernel
theorem test_Ticks_stop : ensOk (orb 0 0 O0) 0x2100 1 7 ∧ gives (exec (.stopOrbits ensA 1) (orb 0 300 { O0 with len := 300 })) (fun t => !t.running && t.orb.tickAt == none && t.now == 300) := by decide +kernel
theorem test_Ticks_start : rst.running = false ∧ ensOk rst 0x2100 5 7 ∧ gives (exec (.startOrbits ensA 5) rst) (fun t => t.running && t.src == 1 && t.orb.tickAt == none && t.on F.ORB_STATUS_ACTIVE_SRC) ∧
    gives (exec (.tickSourceChange ensA 5) (orb 0 300 O0)) (fun t => t.src == 1 && t.orb.tickAt == some 0) ∧ gives (exec (.tickSourceChange ensA 4) (orb 0 300 O0)) (fun t => t.src == 0) := by decide +kernel
theorem test_stampOrbit : stampOrbit 0xFFFFFFFF (2 ^ 32) = 2 ^ 32 - 1 ∧ stampOrbit 1 (2 ^ 32 - 1) = 2 ^ 32 + 1 ∧ stampOrbit 5 7 = 5 := by decide +kernel
def tim (ctrl : Nat) (o : OrbitState) : State := { (((rst.setWord 0x1100 (BitVec.ofNat 32 ctrl)).setWord 0x1104 0).setWord 0x1108 0).setWord 0x1110 99 with orb := o }
theorem test_Seconds : (tim 0 { O0 with ns := 999999990 }).on F.TIM_CTRL_PPS_EN = false ∧ gives (exec .nsRollover (tim 0 { O0 with ns := 999999990 })) (fun t => t.orb.ns == 0 && t.orb.sec == 1 && t.now == 1) ∧
    gives (exec .nsRollover (tim 2 { O0 with ns := 999999990, sec := 7 })) (fun t => t.orb.sec == 99 && !t.on F.TIM_CTRL_SEC_LOAD && t.on F.TIM_FLAGS_SEC_LOADED) ∧ ensOk (tim 0 O0) 0x1100 2 2 ∧
    gives (exec (.secLoad ensA 2) (tim 0 O0)) (fun t => t.on F.TIM_CTRL_SEC_LOAD && t.orb.sec == 0) ∧ gives (exec .nsRollover (tim 1 { O0 with ns := 999999990 })) (fun t => t.now == 0) := by decide +kernel
theorem test_Timebase_pps : gives (exec (.ppsEdge 5) (tim 1 { O0 with ns := 50 })) (fun t => t.on F.TIM_FLAGS_PPS_ACQ && t.getF F.TIM_STATUS_SEC_SRC == 2 && t.orb.sec == 1 && t.orb.ns == 0) ∧
    gives (exec (.ppsEdge 5) ((tim 1 { O0 with ns := 999899940 }).setF F.TIM_STATUS_SEC_SRC 2)) (fun t => t.on F.TIM_FLAGS_PPS_EARLY && t.orb.sec == 0) ∧
    gives (exec (.ppsEdge 5) ((tim 1 { O0 with ns := 999899950 }).setF F.TIM_STATUS_SEC_SRC 2)) (fun t => t.orb.sec == 1 && t.getF F.TIM_PPS_CYCLES_CYCLES == 5) ∧
    gives (exec .ppsMiss ((tim 1 { O0 with ns := 1000099990, ppsMisses := 2 }).setF F.TIM_STATUS_SEC_SRC 2)) (fun t => t.on F.TIM_FLAGS_PPS_MISS && t.getF F.TIM_STATUS_SEC_SRC == 1 && t.orb.ns == 100000 && t.orb.sec == 1) := by decide +kernel
theorem test_Timebase_snapshot : ensA.ok = true ∧ gives (exec (.timebaseSnapshotRead ensA) (tim 0 { O0 with count := 2 ^ 40 + 3, sec := 8 })) (fun t => t.reply == some (.word 3) && gives (exec (.readClearCounter ensA (.bar0 0x1124) 4 0) t) (fun w => w.reply == some (.word 256)) &&
      gives (exec (.readClearCounter (.ensign true) (.bar0 0x1124) 4 0) t) (fun w => w.reply == some (.word 0))) := by decide +kernel
def slice : State := { (orb 0 0 { O0 with sliceOpen := true }).setWord 0x210C 2 with rel := R0, regs := tabPut ((orb 0 0 O0).setWord 0x210C 2).regs (pgRel + 0x100) 3 }
theorem test_Timebase_slice : slice.sliceLen = 200 ∧ slice.activeEns = some 0 ∧ gives (exec .serviceSliceStart { slice with orb := O0 }) (fun t => t.orb.sliceOpen && t.now == 800) ∧
    gives (exec (.thermalSensorTrim 0 1 400) slice) (fun t => t.orb.calibs.map (fun c => (c.kind, c.target, c.until_)) == [(2, 1, 300)]) ∧ gives (exec (.thermalSensorTrim 0 1 400) { slice with now := 701 }) (fun t => t.orb.calibs == []) ∧
    gives (exec (.halyardTsvRecentre 0 0 500) (slice.setPgState (pgHyp 3) halActive)) (fun t => t.hal 3 == halRecentre && t.orb.calibs.map (·.until_) == [500]) ∧
    gives (exec (.linkPhaseRecentre 0 4 900) ((slice.setPgState (pgLnk 4) linkActive).setF F.ORB_PERIOD_PERIOD_US 12)) (fun t => t.lnk 4 == lnkRecentre) ∧
    gives (exec (.calibrationComplete 1 0 [3]) { (slice.setPgState (pgHyp 3) halRecentre).setPgState (pgHyp 4) halRecentre with orb := { O0 with calibs := [⟨1, 0, 500⟩] } }) (fun t => t.hal 3 == halFailed && t.hal 4 == halActive && t.now == 500) := by decide +kernel
/-- Every cluster at VSEL 37, its setpoint at every step. -/
def fused (s : State) : State :=
  let low := s.regs.filter (fun e => decide (e.1 < pgClu 0))
  let set : Tab Word := (List.range 128).flatMap (fun c => [(pgClu c + 0x280, 37), (pgClu c + 0x284, 0x78787878), (pgClu c + 0x288, 0x78787878), (pgClu c + 0x28C, 0x78787878)])
  { s with regs := low ++ set ++ s.regs.filter (fun e => decide (pgClu 128 ≤ e.1)) }
theorem test_Ticks_count : gives (exec .orbitTimerExpiry (fused (orb 0 0 O0))) (fun t => t.orb.count == 1 && t.now == 1000) := by decide +kernel
/-- Entry 3 writes ORB_SERVICE at orbit 1, in time; entry 4's target is an action's own register. -/
def acting (e target orbit : Nat) : State :=
  (((((orb 0 0 O0).setWord (0x2800 + 0x20 * e) (BitVec.ofNat 32 orbit)).setF (F.ORB_ACT_TARGET_OFFSET e) (target / 4)).setWord (0x280C + 0x20 * e) 77).setWord (0x2810 + 0x20 * e) 0xFFFFFFFF).setF (F.ORB_ACT_CTRL_ARM e) 1
/-- Step 4 of the tick that makes the count 1, with such an entry. -/
def fired (e target orbit : Nat) : State :=
  let s : State := { acting e target orbit with orb := { O0 with count := 1 } }
  s.fireAll s.armedSet
theorem test_RegisterAccess_fire : (acting 3 0x210C 1).actOrbit 3 = 1 ∧ (acting 3 0x210C 1).timerOn = true ∧ (acting 3 0x210C 1).on (F.ORB_ACT_CTRL_ARM 3) = true ∧
    (fired 3 0x210C 1).getF F.ORB_SERVICE_LEN_US = 77 ∧ (fired 3 0x210C 1).getF (F.ORB_ACT_CTRL_STATE 3) = 2 ∧ (fired 3 0x210C 1).on (F.ORB_ACT_CTRL_ARM 3) = false ∧
    (fired 4 0x2814 0).getF (F.ORB_ACT_CTRL_STATE 4) = 4 ∧ (fired 4 0x2814 0).on F.ORB_FLAGS_ACT_BADTGT = true ∧ (fired 4 0x2814 0).on F.ORB_FLAGS_ACT_LATE = true ∧
    (fired 5 0x210C 2).on (F.ORB_ACT_CTRL_ARM 5) = true := by decide +kernel
/-- R51: a MASK over part of a staged field takes the other bits of the value in force. -/
theorem test_RegisterAccess_part : let s : State := { (acting 3 0x210C 1).setWord (0x2810 + 0x20 * 3) 0xF with orb := { O0 with count := 1 } }
    (s.fireAll s.armedSet).getF F.ORB_SERVICE_LEN_US = 77 % 16 + s.getF F.ORB_SERVICE_LEN_US / 16 * 16 := by decide +kernel


/-! The step -/

theorem test_StepRunsFront : Machine.step { rst with pending := [.countLoad ensA 1, .ctnop 0 0] } = exec (.countLoad ensA 1) { rst with pending := [.ctnop 0 0] } ∧
    gives (Machine.step rst) (fun t => t.now == 1 && t.orb.ns == 10) := ⟨rfl, by decide +kernel⟩
theorem test_FormKept : rst.tablesOrdered = true ∧ rst.stagedPlain = true ∧ rst.memoryCanonical = true ∧ (orb 1 0 O0).memoryCanonical = true ∧
    ({ rst with dram := (⟨[], [], []⟩ : Memory).write 5 0 } : State).memoryCanonical = true ∧ ({ rst with dram := ⟨[(5, 0)], [], []⟩ } : State).memoryCanonical = false ∧ ({ rst with dram := ⟨[(6, 1), (5, 1)], [], []⟩ } : State).memoryCanonical = false := by decide +kernel

/-! Well-formed commands, and words: a term that each check refuses -/

/-- Well-formed terms at the ends of their ranges. -/
theorem test_wellFormed_accepts : (Instr.registerWrite (.fn 255) (.bar0 0xFFFFFC) 4 0 0).wellFormed = true ∧ (Instr.actionArm .i3c 63 1).wellFormed = true ∧ (Instr.ctnop 1087 (word4 0 0 0)).wellFormed = true ∧
    (Instr.vmark 0 (BitVec.ofNat 64 (2 * 2 ^ 60 + 63 * 2 ^ 54))).wellFormed = true ∧ (Instr.reservedInstruction 0 (word4 0 8 0)).wellFormed = true ∧ (Instr.linkEnable (.ensign true) 23 1).wellFormed = true ∧
    (Instr.doorbell 255 4095 0).wellFormed = true ∧ (Instr.perstRelease 3 6 false).wellFormed = true ∧ (Instr.domainFault false 63).wellFormed = true ∧ (Instr.mwrb 3 15 0 32 0 [] (2 ^ 32 - 1)).wellFormed = true := by decide
/-- Registers: a function past 255, an address past each window; an entry, a page and an EID past the last. -/
theorem test_wellFormed_refuses_access : (Instr.registerWrite (.fn 256) (.bar0 0) 4 0 0).wellFormed = false ∧ (Instr.registerWrite ensA (.bar4 0x20000) 4 0 0).wellFormed = false ∧ (Instr.registerWrite ensA (.bar0 0x1000000) 4 0 0).wellFormed = false ∧
    (Instr.readClearCounter (.fn 256) (.bar0 0) 4 0).wellFormed = false ∧ (Instr.readClearCounter ensA (.config 0x1000) 4 0).wellFormed = false ∧ (Instr.readClearCounter ensA (.bar0 0x1000000) 4 0).wellFormed = false ∧
    (Instr.secLoad (.fn 256) 0).wellFormed = false ∧ (Instr.timebaseSnapshotRead (.fn 256)).wellFormed = false ∧ (Instr.actionArm ensA 64 1).wellFormed = false ∧ (Instr.actionDisarm ensA 64 0).wellFormed = false ∧
    (Instr.eventEnableWrite ensA 0x1000 0).wellFormed = false ∧ (Instr.setEndpointId 256).wellFormed = false := by decide
/-- Items past the last: Ensigns, links, rows, towers, dies, ports, input fields. -/
theorem test_wellFormed_refuses_numbers : (Instr.linkPhaseRecentre 2 0 1).wellFormed = false ∧ (Instr.linkPhaseRecentre 0 24 1).wellFormed = false ∧ (Instr.halyardTsvRecentre 0 64 1).wellFormed = false ∧
    (Instr.thermalSensorTrim 0 4 1).wellFormed = false ∧ (Instr.calibrationComplete 3 0 []).wellFormed = false ∧ (Instr.frameSend 24 false 0).wellFormed = false ∧ (Instr.identityTimeout 4).wellFormed = false ∧
    (Instr.hostPortReset 4).wellFormed = false ∧ (Instr.perstRelease 4 1 false).wellFormed = false ∧ (Instr.perstRelease 0 0 false).wellFormed = false ∧ (Instr.perstRelease 0 7 false).wellFormed = false ∧
    (Instr.vinWarning 0 4).wellFormed = false ∧ (Instr.vinBelowReset 0 4).wellFormed = false ∧ (Instr.vinAboveReset 0 4).wellFormed = false ∧ (Instr.ensignWatchdogExpiry 2).wellFormed = false ∧
    (Instr.ensignHeartbeat 0 4).wellFormed = false ∧ (Instr.flashLockTimeout 4).wellFormed = false ∧ (Instr.atsInvalidation 4 0 0 1 0).wellFormed = false ∧ (Instr.atsInvalidation 0 256 0 1 0).wellFormed = false ∧
    (Instr.mrd 4 0 0 1 0).wellFormed = false ∧ (Instr.mrd 0 16 0 1 0).wellFormed = false ∧ (Instr.mwrb 0 0 0 1 0 [] (2 ^ 32)).wellFormed = false := by decide
def noTime : MxWhen := ⟨0, [], []⟩
/-- Cores, quadrants, transition kinds, banks, clusters, partitions, regions, rings, functions, queues, eclipse indexes and domains past the last. -/
theorem test_wellFormed_refuses_sites : (Instr.berthComplete 1088).wellFormed = false ∧ (Instr.weightLoadComplete 0 4 noTime).wellFormed = false ∧ (Instr.transitionAdmit 0 3 noTime).wellFormed = false ∧
    (Instr.rowIdleClose 0 32).wellFormed = false ∧ (Instr.agedRemoteGrant 1088).wellFormed = false ∧ (Instr.missAdmit 128).wellFormed = false ∧ (Instr.xinv ensA 16 0).wellFormed = false ∧
    (Instr.censusOpComplete 16).wellFormed = false ∧ (Instr.currentRegionTrip 0 6).wellFormed = false ∧ (Instr.eventRecordWritten 64).wellFormed = false ∧ (Instr.flr 256).wellFormed = false ∧
    (Instr.doorbell 256 0 0).wellFormed = false ∧ (Instr.doorbell 0 4096 0).wellFormed = false ∧ (Instr.driverEclipse ensA 0 9 1).wellFormed = false ∧ (Instr.bankRetire ensA 0 272 1).wellFormed = false ∧
    (Instr.domainFault false 64).wellFormed = false ∧ (Instr.domainFault true 4).wellFormed = false := by decide
/-- Lists with an item past the last, a sense list of another length. -/
theorem test_wellFormed_refuses_lists : (Instr.gateSegmentClose [1088] []).wellFormed = false ∧ (Instr.gateSegmentClose [] [(1088, 0)]).wellFormed = false ∧ (Instr.sensePointSample [(0, [1])] [] []).wellFormed = false ∧
    (Instr.sensePointSample [(64, List.replicate 136 0)] [] []).wellFormed = false ∧ (Instr.thermalSensorSample [(1088, 0)] [] []).wellFormed = false ∧ (Instr.thermalSensorSample [] [(256, 0)] []).wellFormed = false ∧
    (Instr.thermalSensorSample [] [] [(8, 0)]).wellFormed = false ∧ (Instr.bistDone [(1088, 1)] [] 1).wellFormed = false ∧ (Instr.fieldFault [4] (default : BootIn)).wellFormed = false ∧ (Instr.vsbPowerOn 4 (default : BootIn)).wellFormed = false := by decide
/-- R113: a word of another class, of another opcode, of another VX opcode; and a word that is not reserved. -/
theorem test_wellFormed_refuses_words : (Instr.ctnop 0 (word4 1 0 0)).wellFormed = false ∧ (Instr.ctli 0 (word4 0 2 0)).wellFormed = false ∧ (Instr.mxwld 0 (word4 0 1 0) noTime).wellFormed = false ∧
    (Instr.vadd 0 (BitVec.ofNat 64 (2 * 2 ^ 60 + 2 * 2 ^ 54))).wellFormed = false ∧ (Instr.vadd 0 (BitVec.ofNat 64 (3 * 2 ^ 60 + 1 * 2 ^ 54))).wellFormed = false ∧
    (Instr.reservedInstruction 0 (word4 0 7 0)).wellFormed = false ∧ (Instr.reservedInstruction 0 (BitVec.ofNat 64 (2 * 2 ^ 60 + 2 ^ 54))).wellFormed = false ∧
    (Instr.vadd 1088 (BitVec.ofNat 64 (2 * 2 ^ 60 + 2 ^ 54))).wellFormed = false := by decide
/-- No row gives bits: no word spells a command, and the queue is unchanged. -/
theorem test_decodeTableWord : decodeTableWord 32 7 = none ∧ (rst.withFetchWord 32 7) = rst := ⟨rfl, rfl⟩

end Tests
end Sys2Proof.Machine
end

section
namespace Sys2Proof.Machine

/-! ### A step runs the front of the queue (O58) -/

/-- Where no partition is in reset, none ends. -/
theorem resetsGo_of_none_in_reset {s : State} (h : ∀ p, p < 16 → s.pgState (pgPrt p) ≠ prtReset) : s.resetsGo = s :=
  List.foldlRecOn (motive := fun t => t = s) _ _ rfl fun t ht p hp => by
    subst ht
    simp [h p (List.mem_range.mp hp)]

/-- With no bring-up, shutdown or partition reset to go on with, the part idles one CLK_ORB cycle (log entry 161). -/
theorem idle_eq_advance {s : State} (hboot : s.bootUnderWay = false) (hsd : s.power.sd = none)
    (hrst : ∀ p, p < 16 → s.pgState (pgPrt p) ≠ prtReset) : s.idle = s.advance 1 := by
  have hgo : (s.advance 1).resetsGo = s.advance 1 := resetsGo_of_none_in_reset hrst
  simp [State.idle, hboot, hsd, hgo]

theorem advance_len_of_open {s : State} (n : Nat) (h : s.orb.tickAt.isSome = true) :
    (s.advance n).orb.len = min (s.orb.len + n) (2 ^ 48 - 1) :=
  if_pos h

theorem step_of_front {s : State} {c : Instr} {rest : List Instr} (h : s.pending = c :: rest) :
    Machine.step s = exec c { s with pending := rest } := by
  rw [Machine.step, h]

theorem step_of_empty {s : State} (h : s.pending = []) : Machine.step s = .next s.idle := by
  rw [Machine.step, h]

/-- Settles O58: the queue's two shapes are the two arms of `step`, and an idle part outside bring-up, shutdown and resets advances one cycle. -/
theorem stepRunsFront : Obligations.StepRunsFront := by
  refine ⟨fun c rest s => step_of_front rfl, fun s => step_of_empty, fun s hq hboot hsd hrst => ?_⟩
  refine ⟨?_, rfl, rfl, advance_len_of_open 1, rfl⟩
  rw [step_of_empty hq, idle_eq_advance hboot hsd hrst]

/-! ### Every step keeps the form (O59)

The form concerns the register table, the staged values and device memory alone. Each operation of the model has a lemma of its own,
`KeptForm.<operation>`, that chains the lemmas of the operations it is written with; the last one is `KeptForm.step`. -/

/-! The form of a state, part by part -/

/-- A staged value may wait for the register at `a`: it has a staged field (R11). -/
def hasStaged (a : Nat) : Bool :=
  match regAt a with
  | some (_, _, d) => d.fields.any (fun f => decide (f.acc = .stg))
  | none => false

theorem hasStaged_eq {a n : Nat} {k : PageKind} {d : RegDesc} (ha : regAt a = some (k, n, d)) :
    hasStaged a = d.fields.any (fun f => decide (f.acc = .stg)) := by
  unfold hasStaged
  rw [ha]

theorem stagedPlain_iff (s : State) : s.stagedPlain = true ↔ ∀ e ∈ s.staged, hasStaged e.1 = true :=
  List.all_eq_true

/-- The form concerns three parts of the state alone: the register table, the staged values and device memory. -/
theorem keptForm_iff (s : State) : KeptForm s ↔
    tabSorted s.regs = true ∧ tabSorted s.staged = true ∧ (∀ e ∈ s.staged, hasStaged e.1 = true) ∧ s.dram.wf = true := by
  rw [KeptForm, State.tablesOrdered, Bool.and_eq_true, stagedPlain_iff, State.memoryCanonical, and_assoc]

/-- A command's meaning answers a next state, and that state has the form. -/
def NextKept (o : Out) : Prop := ∃ t, o = .next t ∧ KeptForm t

theorem mem_of_tabGet {α : Type} {t : Tab α} {n : Nat} {v : α} (h : tabGet t n = some v) : (n, v) ∈ t := by
  induction t with
  | nil => cases h
  | cons e t ih =>
    obtain ⟨k, w⟩ := e
    unfold tabGet at h
    split at h
    next hk => cases h; exact hk ▸ List.mem_cons_self
    · exact List.mem_cons_of_mem _ (ih h)

/-- A write of a register without staged fields leaves nothing pending. -/
theorem stagedOf_of_no_stg {mask : Nat} {v : Word} {l : List RField} {p : Nat × Nat}
    (hl : l.any (fun f => decide (f.acc = .stg)) = false) : stagedOf mask v l p = p := by
  induction l generalizing p with
  | nil => rfl
  | cons f l ih =>
    obtain ⟨hf, hl⟩ := Bool.or_eq_false_iff.mp (List.any_cons ▸ hl)
    simp only [stagedOf, hf, Bool.false_and, Bool.false_eq_true, if_false, ih hl]

/-- What a write leaves pending is for a register with a staged field. -/
theorem hasStaged_of_stagedOf {t : Tab (Nat × Nat)} (ht : ∀ e ∈ t, hasStaged e.1 = true) {a n mask : Nat} {k : PageKind} {d : RegDesc} {v : Word}
    (ha : regAt a = some (k, n, d)) (hp : (stagedOf mask v d.fields ((tabGet t a).getD (0, 0))).1 ≠ 0) : hasStaged a = true := by
  by_contra hno
  have hnone : tabGet t a = none := Option.eq_none_iff_forall_ne_some.mpr fun w hw => hno (ht _ (mem_of_tabGet hw))
  rw [hnone, stagedOf_of_no_stg (by rw [← hasStaged_eq ha]; exact Bool.eq_false_iff.mpr hno)] at hp
  exact hp rfl

theorem Memory.wf_foldl_refill {m : Memory} {l : List Nat} {lo hi : Nat → Nat} {g : Option Nat} (h : m.wf = true) :
    (l.foldl (fun m d => m.refill (lo d) (hi d) g) m).wf = true :=
  List.foldlRecOn (motive := fun m : Memory => m.wf = true) l _ h fun m hm _ _ => Memory.wf_refill m _ _ _ hm

/-- A selection that leaves each entry's number alone keeps the order. -/
theorem tabSorted_filterMap {α β : Type} {t : Tab α} {f : Nat × α → Option (Nat × β)} (hf : ∀ e a, f e = some a → a.1 = e.1)
    (h : tabSorted t = true) : tabSorted (t.filterMap f) = true := by
  rw [tabSorted_iff, List.pairwise_map] at *
  refine h.filterMap f fun e e' hlt a ha b hb => ?_
  rwa [hf e a ha, hf e' b hb]

theorem tabSorted_foldl_tabPut {α : Type} (l : Tab α) (t : Tab α) (h : tabSorted t = true) :
    tabSorted (l.foldl (fun r e => tabPut r e.1 e.2) t) = true :=
  List.foldlRecOn (motive := fun t => tabSorted t = true) l _ h fun t ht _ _ => tabSorted_tabPut t _ _ ht

section
variable {s : State}

theorem KeptForm.regs (h : KeptForm s) : tabSorted s.regs = true := ((keptForm_iff s).mp h).1
theorem KeptForm.staged (h : KeptForm s) : tabSorted s.staged = true := ((keptForm_iff s).mp h).2.1
theorem KeptForm.plain (h : KeptForm s) : ∀ e ∈ s.staged, hasStaged e.1 = true := ((keptForm_iff s).mp h).2.2.1
theorem KeptForm.dram (h : KeptForm s) : s.dram.wf = true := ((keptForm_iff s).mp h).2.2.2

/-- The frame of the form: an update of any other part of the state keeps it. -/
theorem KeptForm.frame (h : KeptForm s) {pending freeCtr now written1 reply egress orb gov therm rings cores clusters packets mesh
    nextPkt links mtOut reqs nextTag ports cows nextCow xinvs unitTlb host power rel mgmt flash} :
    KeptForm ⟨pending, freeCtr, now, s.regs, s.staged, written1, reply, egress, orb, gov, therm, rings, cores, clusters, packets,
      mesh, nextPkt, links, mtOut, s.dram, reqs, nextTag, ports, cows, nextCow, xinvs, unitTlb, host, power, rel, mgmt, flash⟩ :=
  (keptForm_iff _).mpr ⟨h.regs, h.staged, h.plain, h.dram⟩

theorem KeptForm.withRegs (h : KeptForm s) {r : Tab Word} (hr : tabSorted r = true) : KeptForm { s with regs := r } :=
  (keptForm_iff _).mpr ⟨hr, h.staged, h.plain, h.dram⟩

theorem KeptForm.withStaged (h : KeptForm s) {l : Tab (Nat × Nat)} (hl : tabSorted l = true)
    (hp : ∀ e ∈ l, hasStaged e.1 = true) : KeptForm { s with staged := l } :=
  (keptForm_iff _).mpr ⟨h.regs, hl, hp, h.dram⟩

theorem KeptForm.withDram (h : KeptForm s) {m : Memory} (hm : m.wf = true) : KeptForm { s with dram := m } :=
  (keptForm_iff _).mpr ⟨h.regs, h.staged, h.plain, hm⟩

/-! How the form passes through the shapes that meanings are written in: the end of a meaning, a choice, a pair, a run over a list -/

theorem KeptForm.next (h : KeptForm s) : NextKept (.next s) := ⟨s, rfl, h⟩

theorem KeptForm.ite {t u : State} {c : Prop} {_ : Decidable c} (ht : KeptForm t) (hu : KeptForm u) :
    KeptForm (if c then t else u) := by
  split
  · exact ht
  · exact hu

theorem KeptForm.ite_fst {α : Type} {q r : State × α} {c : Prop} {_ : Decidable c} (hq : KeptForm q.1) (hr : KeptForm r.1) :
    KeptForm (if c then q else r).1 := by
  split
  · exact hq
  · exact hr

theorem NextKept.ite {o p : Out} {c : Prop} {_ : Decidable c} (ho : NextKept o) (hp : NextKept p) :
    NextKept (if c then o else p) := by
  split
  · exact ho
  · exact hp

theorem KeptForm.pair {α : Type} {x : α} (h : KeptForm s) : KeptForm (s, x).1 := h

theorem KeptForm.pair_snd {α : Type} {x : α} (h : KeptForm s) : KeptForm (x, s).2 := h

theorem KeptForm.ite_snd {α : Type} {q r : α × State} {c : Prop} {_ : Decidable c} (hq : KeptForm q.2) (hr : KeptForm r.2) :
    KeptForm (if c then q else r).2 := by
  split
  · exact hq
  · exact hr

theorem KeptForm.of_fst {α : Type} {r : State × α} {t : State} {x : α} (h : KeptForm r.1) (e : r = (t, x)) : KeptForm t := by
  rwa [e] at h

theorem KeptForm.of_snd {α : Type} {r : α × State} {t : State} {x : α} (h : KeptForm r.2) (e : r = (x, t)) : KeptForm t := by
  rwa [e] at h

theorem KeptForm.foldl {α : Type} (h : KeptForm s) {l : List α} {f : State → α → State}
    (hf : ∀ t x, KeptForm t → KeptForm (f t x)) : KeptForm (l.foldl f s) :=
  List.foldlRecOn l f h fun t ht x _ => hf t x ht

theorem KeptForm.foldl_mem {α : Type} (h : KeptForm s) {l : List α} {f : State → α → State}
    (hf : ∀ x t, x ∈ l → KeptForm t → KeptForm (f t x)) : KeptForm (l.foldl f s) :=
  List.foldlRecOn l f h fun t ht x hx => hf x t hx ht

/-- A result that carries a value beside its state: the state has the form. -/
def KeptFst {α : Type} (r : State × α) : Prop := KeptForm r.1

theorem KeptForm.fst {α : Type} {x : α} (h : KeptForm s) : KeptFst (s, x) := h

theorem KeptFst.ite {α : Type} {q r : State × α} {c : Prop} {_ : Decidable c} (hq : KeptFst q) (hr : KeptFst r) :
    KeptFst (if c then q else r) := by
  split
  · exact hq
  · exact hr

/-- A run over a list that carries a result beside the state. -/
theorem KeptForm.foldl_fst {α β : Type} {r : State × β} (h : KeptForm r.1) {l : List α} {f : State × β → α → State × β}
    (hf : ∀ q x, KeptForm q.1 → KeptForm (f q x).1) : KeptForm (l.foldl f r).1 :=
  List.foldlRecOn (motive := fun q => KeptForm q.1) l f h fun q hq x _ => hf q x hq

/-- A meaning in the place of the state that it answers. -/
theorem NextKept.nextOr {o : Out} (ho : NextKept o) : KeptForm (nextOr o s) := by
  obtain ⟨t, rfl, ht⟩ := ho
  exact ht

/-- Rows that a write performs: each answers a next state of the form. -/
def RowsKept (l : List (State → Out)) : Prop := ∀ f ∈ l, ∀ t, KeptForm t → NextKept (f t)

theorem RowsKept.nil : RowsKept [] := nofun

theorem RowsKept.cons {f : State → Out} {l : List (State → Out)} (hf : ∀ t, KeptForm t → NextKept (f t)) (hl : RowsKept l) :
    RowsKept (f :: l) :=
  List.forall_mem_cons.mpr ⟨hf, hl⟩

theorem RowsKept.ite {l m : List (State → Out)} {c : Prop} {_ : Decidable c} (hl : RowsKept l) (hm : RowsKept m) :
    RowsKept (if c then l else m) := by
  split
  · exact hl
  · exact hm

theorem keptForm_reset : KeptForm State.reset :=
  (keptForm_iff _).mpr ⟨rfl, rfl, nofun, rfl⟩

/-! What the parts share -/

theorem KeptForm.setWord (h : KeptForm s) {a : Nat} {w : Word} : KeptForm (s.setWord a w) :=
  h.withRegs (tabSorted_tabPut _ _ _ h.regs)

theorem KeptForm.setF (h : KeptForm s) {f : Fld} {v : Nat} : KeptForm (s.setF f v) := h.setWord

theorem KeptForm.orF (h : KeptForm s) {f : Fld} {v : Nat} : KeptForm (s.orF f v) := h.setF

theorem KeptForm.countF (h : KeptForm s) {f : Fld} {n : Nat} : KeptForm (s.countF f n) := h.setF

theorem KeptForm.wrapF (h : KeptForm s) {f : Fld} {n : Nat} : KeptForm (s.wrapF f n) := h.setF

/-- A page reset drops entries of the two tables and adds none. -/
theorem KeptForm.resetPage (h : KeptForm s) {pg : Nat} {keep : Nat → Bool} : KeptForm (s.resetPage pg keep) :=
  ((h.withRegs (tabSorted_filter _ _ h.regs)).withStaged (tabSorted_filter _ _ h.staged)
    fun e he => h.plain e (List.mem_of_mem_filter he)).frame

theorem KeptForm.advance (h : KeptForm s) {n : Nat} : KeptForm (s.advance n) := h.frame

theorem KeptForm.advanceTo (h : KeptForm s) {t : Nat} : KeptForm (s.advanceTo t) := h.advance

theorem KeptForm.setPgState (h : KeptForm s) {pg v : Nat} : KeptForm (s.setPgState pg v) := h.setF

theorem KeptForm.setRing (h : KeptForm s) {e : Nat} {r : RingState} : KeptForm (s.setRing e r) := h.frame.setF

theorem KeptForm.ringKick (h : KeptForm s) {e : Nat} : KeptForm (s.ringKick e) := by
  unfold State.ringKick
  extract_lets +onlyGivenNames r
  split
  · exact h
  extract_lets +onlyGivenNames mask
  split
  · exact h.setRing.setF
  split
  · exact h
  · exact h.setRing

theorem KeptForm.postTo (h : KeptForm s) {e : Nat} {ev : EvRec} : KeptForm (s.postTo e ev) :=
  .ite h (.ite h.setRing.orF.countF h.setRing.ringKick)

theorem KeptForm.postBlock (h : KeptForm s) {pg mask : Nat} : KeptForm (s.postBlock pg mask) := by
  unfold State.postBlock
  split
  · exact h
  · exact h.postTo

theorem KeptForm.raise (h : KeptForm s) {pg mask : Nat} : KeptForm (s.raise pg mask) :=
  .ite h.setWord.countF.postBlock h.setWord.countF

theorem KeptForm.raiseBit (h : KeptForm s) {pg i : Nat} : KeptForm (s.raiseBit pg i) := h.raise

theorem KeptForm.postCore (h : KeptForm s) {i : Nat} {ev : EvRec} : KeptForm (s.postCore i ev) := by
  unfold State.postCore
  split
  · exact h
  · exact h.postTo

theorem KeptForm.takeFree (h : KeptForm s) : KeptForm s.takeFree.2 := h.frame.pair_snd

/-! Cores -/

theorem KeptForm.setCore (h : KeptForm s) {i : Nat} {c : CoreState} : KeptForm (s.setCore i c) := h.frame

theorem KeptForm.setCoreSt (h : KeptForm s) {i v : Nat} : KeptForm (s.setCoreSt i v) := h.setPgState

theorem KeptForm.setCluster (h : KeptForm s) {c : Nat} {x : ClusterState} : KeptForm (s.setCluster c x) := h.frame

theorem KeptForm.limiterTake (h : KeptForm s) {i cycle : Nat} : KeptForm (s.limiterTake i cycle) := by
  unfold State.limiterTake
  split
  · exact h
  · exact h.setCluster

theorem KeptForm.lsContest (h : KeptForm s) {i : Nat} {b : BankCycle} : KeptForm (s.lsContest i b) := h.setCore.countF

theorem KeptForm.lsContests (h : KeptForm s) {i : Nat} {l : List BankCycle} : KeptForm (s.lsContests i l) :=
  h.foldl fun _ _ h' => h'.lsContest

theorem KeptForm.addFlags (h : KeptForm s) {i : Nat} {f : FpFlags} : KeptForm (s.addFlags i f) := h.setWord

theorem KeptForm.progFault (h : KeptForm s) {i cause info : Nat} : KeptForm (s.progFault i cause info) :=
  .ite h h.setCore

theorem KeptForm.tallyAdd (h : KeptForm s) {i t n : Nat} : KeptForm (s.tallyAdd i t n) := .ite h.setF h.setF.progFault

theorem KeptForm.goTo (h : KeptForm s) {i pc : Nat} : KeptForm (s.goTo i pc) := .ite h.setF.progFault h.setF

theorem KeptForm.nextPc (h : KeptForm s) {i : Nat} : KeptForm (s.nextPc i) := h.goTo

theorem KeptForm.setScalar (h : KeptForm s) {i r : Nat} {v : Word} : KeptForm (s.setScalar i r v) := .ite h h.setCore

/-- An instruction word issues its effect, faults, or waits. -/
theorem KeptForm.issue (h : KeptForm s) {i : Nat} {w : Word64} {cls : Nat} {isOp legal : Bool} {cause : Nat} {eff : State → State}
    (heff : ∀ t, KeptForm t → KeptForm (eff t)) : NextKept (issue s i w cls isOp legal cause eff) :=
  .ite (KeptForm.ite (heff _ h) h.progFault).next h.next

/-! Register accesses -/

theorem KeptForm.filtDrop (h : KeptForm s) {who : Requester} {a : Nat} {isWrite : Bool} : KeptForm (s.filtDrop who a isWrite) := by
  unfold State.filtDrop
  split
  · exact h.countF.setF.setF.setF.setF
  · exact h

theorem KeptForm.readDropped (h : KeptForm s) {who : Requester} {a : Nat} : KeptForm (s.readDropped who a) := by
  unfold State.readDropped
  extract_lets +onlyGivenNames src
  have h1 : KeptForm src := h.filtDrop
  exact h1.frame

theorem KeptForm.admitted (h : KeptForm s) {who : Requester} {a : Nat} {v : Word} : KeptForm (s.admitted who a v).1 := by
  unfold State.admitted
  refine .ite_fst h ?_
  split
  · exact h.filtDrop
  extract_lets ctrl
  refine .ite_fst ?_ ?_
  · split
    · exact .ite_fst h h
    · exact h
  · split
    · exact .ite_fst h.filtDrop (.ite_fst h.raiseBit.filtDrop (.ite h.filtDrop h))
    · exact h

/-- A write stages a value only for a register with a staged field (R11). -/
theorem KeptForm.store (h : KeptForm s) {a mask : Nat} {v : Word} {atOnce : Bool} : KeptForm (s.store a mask v atOnce) := by
  unfold State.store
  split
  · exact h
  next k n d ha =>
    extract_lets +onlyGivenNames once s1 s2
    have h2 : KeptForm s2 := .ite h.setWord.frame h.setWord
    have hs : s2.staged = s.staged := apply_ite State.staged ..|>.trans (ite_self _)
    split
    · exact h2
    extract_lets p
    split
    · exact h2
    next hp =>
      refine h2.withStaged (tabSorted_tabPut _ _ _ h2.staged) fun e he => ?_
      rcases mem_tabPut_entry he with rfl | he
      · exact hasStaged_of_stagedOf h2.plain ha hp
      · exact h2.plain e he

theorem KeptForm.applyStaged (h : KeptForm s) {l : Tab (Nat × Nat)} : KeptForm (s.applyStaged l) :=
  h.foldl fun _ _ h' => h'.setWord

/-- A command that a register write performs keeps the form where its effect does. -/
theorem KeptForm.trigger (h : KeptForm s) {who : Requester} {a need : Nat} {v : Word} {eff : State → State}
    (heff : ∀ t, KeptForm t → KeptForm (eff t)) : NextKept (trigger s who a need v eff) := by
  unfold Machine.trigger
  extract_lets +onlyGivenNames r
  split
  · exact h.admitted.next
  · exact .ite (heff _ h.admitted).next h.admitted.next

theorem KeptForm.triggerM (h : KeptForm s) {who : Requester} {a need : Nat} {v : Word} {eff : Nat → State → State}
    (heff : ∀ n t, KeptForm t → KeptForm (eff n t)) : NextKept (triggerM s who a need v eff) := by
  unfold Machine.triggerM
  extract_lets +onlyGivenNames r
  split
  · exact h.admitted.next
  · exact .ite (heff _ _ h.admitted).next h.admitted.next

/-! The fabric -/

theorem KeptForm.setPkt (h : KeptForm s) {id : Nat} {p : Packet} : KeptForm (s.setPkt id p) := h.frame

theorem KeptForm.dropPkt (h : KeptForm s) {id : Nat} : KeptForm (s.dropPkt id) := h.frame

theorem KeptForm.inject (h : KeptForm s) {p : Packet} : KeptForm (s.inject p) := h.frame

theorem KeptForm.respond (h : KeptForm s) {p : Packet} {site ty aux : Nat} {d : List Byte} : KeptForm (s.respond p site ty aux d) :=
  h.inject

theorem KeptForm.routerDrop (h : KeptForm s) {i id cause : Nat} : KeptForm (s.routerDrop i id cause) := by
  unfold State.routerDrop
  split
  · exact h
  · exact h.dropPkt.countF.setF.setF

theorem KeptForm.routerAbsorb (h : KeptForm s) {i id : Nat} : KeptForm (s.routerAbsorb i id) := h.dropPkt.countF

theorem KeptForm.setLink (h : KeptForm s) {n : Nat} {l : LinkState} : KeptForm (s.setLink n l) := h.frame

theorem KeptForm.leaveMesh (h : KeptForm s) {id : Nat} {p : Packet} : KeptForm (s.leaveMesh id p) := h.dropPkt.setPkt

theorem KeptForm.toLink (h : KeptForm s) {id n : Nat} {toB : Bool} {lane : Nat} {p : Packet} : KeptForm (s.toLink id n toB lane p) :=
  h.leaveMesh.setLink

theorem KeptForm.mtSend (h : KeptForm s) {o : MtOut} : KeptForm (s.mtSend o) := h.inject.toLink

theorem KeptForm.deliver (h : KeptForm s) {id i : Nat} {p : Packet} : KeptForm (s.deliver id i p) := by
  unfold State.deliver
  split
  · exact .ite h.routerAbsorb (.ite h.routerAbsorb h.leaveMesh)
  · exact h.leaveMesh
  · exact .ite h.leaveMesh h.routerDrop
  · exact h.routerDrop
  · exact h.routerDrop

theorem KeptForm.routerStep (h : KeptForm s) {id i : Nat} {p : Packet} : KeptForm (s.routerStep id i p) := by
  unfold State.routerStep
  split
  · exact h.deliver
  extract_lets +onlyGivenNames op arg
  split
  · split
    · exact h.routerDrop
    · split
      · exact h.routerDrop
      · extract_lets +onlyGivenNames left s1
        have h1 : KeptForm s1 := h.setPkt
        exact h1.frame
  · split
    · split
      · exact h.routerDrop
      · split
        · exact h.routerDrop
        · exact .ite h.routerDrop (.ite h.routerDrop (.ite h.routerDrop (.ite h.leaveMesh h.toLink)))
    · exact h.routerDrop

theorem KeptForm.served (h : KeptForm s) {i id : Nat} {p : Packet} : KeptForm (s.served i id p) := h.frame

theorem KeptForm.execPacketHop (h : KeptForm s) {id : Nat} : NextKept (execPacketHop id s) := by
  unfold Machine.execPacketHop
  split
  · exact h.next
  split
  · exact h.next
  split
  · exact .ite h.next h.setPkt.next
  · exact .ite h.served.routerStep.next h.next
  · exact h.next

theorem KeptForm.execTallyAdd (h : KeptForm s) {id : Nat} : NextKept (execTallyAdd id s) := by
  unfold Machine.execTallyAdd
  split
  · split
    · exact .ite h.dropPkt.tallyAdd.next h.next
    · exact h.next
  · exact h.next

theorem KeptForm.signal (h : KeptForm s) {i entry tally count : Nat} : KeptForm (s.signal i entry tally count) :=
  .ite h.tallyAdd (.ite h.countF.setF.setF h.inject)

theorem KeptForm.coreRequest (h : KeptForm s) {i ty vc tag addr len aux : Nat} {d : List Byte} {masked : Bool} {mask : Nat} :
    KeptForm (s.coreRequest i ty vc tag addr len aux d masked mask) := by
  unfold State.coreRequest
  split
  · exact h
  · exact h.inject

/-! Error codes and the error log -/

theorem KeptForm.logRecord (h : KeptForm s) {kind flags site loc synd : Nat} : KeptForm (s.logRecord kind flags site loc synd) := by
  unfold State.logRecord
  extract_lets +onlyGivenNames w0 orb wr full _ s1
  have h1 : KeptForm s1 := .ite h.countF.raiseBit h.setF.setF.setF.setF.wrapF
  exact .ite (KeptForm.ite h1.setF.setF.setF.setF h1).raise h1

theorem KeptForm.logCode (h : KeptForm s) {kind site loc : Nat} {o : CodeOut} : KeptForm (s.logCode kind site loc o) := by
  unfold State.logCode
  split
  · exact h
  · exact h.countF.logRecord
  extract_lets +onlyGivenNames s1
  have h1 : KeptForm s1 := h.countF.raiseBit
  split
  · exact .ite h1 h1.frame.logRecord
  · exact h1.frame.logRecord

theorem KeptForm.flipDone (h : KeptForm s) : KeptForm s.flipDone := h.setF.setF

theorem KeptForm.dramLog (h : KeptForm s) {kind a n : Nat} : KeptForm (s.dramLog kind a n) :=
  h.foldl fun _ _ h' => h'.logCode

/-- Device memory is written through `Memory.write`, and an armed flip leaves its bytes alone. -/
theorem KeptForm.dramPut (h : KeptForm s) {l : List (Nat × Byte)} : KeptForm (s.dramPut l) := by
  unfold State.dramPut
  extract_lets s1
  have h1 : KeptForm s1 := h.withDram (Memory.wf_foldl_write _ _ h.dram)
  split
  · exact h1
  · exact .ite (h1.withDram (Memory.wf_flips _ _ h1.dram)).flipDone h1

theorem KeptForm.dramPoison (h : KeptForm s) {a : Nat} : KeptForm (s.dramPoison a) :=
  h.withDram (Memory.wf_flips _ _ h.dram)

theorem KeptForm.lsNote (h : KeptForm s) {i a n : Nat} : KeptForm (s.lsNote i a n) := by
  unfold State.lsNote
  extract_lets +onlyGivenNames es s1
  have h1 : KeptForm s1 := h.foldl fun _ _ h' => h'.logCode
  split
  · exact h1.progFault
  · exact h1

theorem KeptForm.lsPut (h : KeptForm s) {i a : Nat} {l : List Byte} : KeptForm (s.lsPut i a l) := by
  unfold State.lsPut
  extract_lets +onlyGivenNames c s1
  have h1 : KeptForm s1 := h.setCore
  split
  · exact h1
  · exact .ite h1.setCore.flipDone h1

/-! Halyards -/

theorem KeptForm.setPort (h : KeptForm s) {i : Nat} {p : PortState} : KeptForm (s.setPort i p) := h.frame

theorem KeptForm.portErr (h : KeptForm s) {i ty addr status : Nat} : KeptForm (s.portErr i ty addr status) :=
  h.countF.setF.setF.setF.setF

theorem KeptForm.portAnswer (h : KeptForm s) {i : Nat} {p : Packet} {status : Nat} {d : List Byte} : KeptForm (s.portAnswer i p status d) :=
  (KeptForm.ite h h.portErr).respond

theorem KeptForm.portTake (h : KeptForm s) {i : Nat} {p : Packet} : KeptForm (s.portTake i p) :=
  .ite h.portAnswer (.ite h.portAnswer (.ite h.portAnswer (.ite h.portAnswer (.ite h.setPort.countF h.setPort))))

theorem KeptForm.openRow (h : KeptForm s) {i a : Nat} : KeptForm (s.openRow i a) := by
  unfold State.openRow
  extract_lets +onlyGivenNames q b s1 q1
  have h1 : KeptForm s1 := by
    unfold s1
    split
    · exact .ite h h.countF
    · exact h
  exact h1.setPort

theorem KeptForm.xbufPut (h : KeptForm s) {i : Nat} {l : List (Nat × Byte)} : KeptForm (s.xbufPut i l) := by
  unfold State.xbufPut
  extract_lets +onlyGivenNames q s1
  have h1 : KeptForm s1 := h.setPort
  split
  · exact h1
  · exact .ite h1.setPort.flipDone h1

theorem KeptForm.serve (h : KeptForm s) {i n : Nat} {r : PortReq} : KeptForm (s.serve i n r) := by
  unfold State.serve
  extract_lets +onlyGivenNames q s p a rd
  have h1 : KeptForm s := h.setPort
  split
  · split
    · exact h1.xbufPut.portAnswer
    · extract_lets o x s1
      have h2 : KeptForm s1 := h1.foldl fun _ _ h' => h'.logCode
      exact .ite h2.portAnswer h2.portAnswer
  split
  · extract_lets +onlyGivenNames n lat len s1
    have h2 : KeptForm s1 := h1.openRow.countF.countF.dramLog
    exact .ite h2.portAnswer h2.setPort
  split
  · extract_lets m k s1 s2
    have h2 : KeptForm s1 := h1.openRow.countF.countF.dramPut
    have h3 : KeptForm s2 := .ite h1 (.ite (h2.foldl fun _ _ h' => h'.dramPoison) h2)
    exact h3.portAnswer
  · extract_lets s1
    have h2 : KeptForm s1 := h1.openRow.countF.countF.dramLog
    exact .ite h2.portAnswer h2.portAnswer

theorem KeptForm.execHalyardRequestComplete (h : KeptForm s) {site req : Nat} : NextKept (execHalyardRequestComplete site req s) := by
  unfold Machine.execHalyardRequestComplete
  split
  · exact h.next
  · exact .ite h.serve.next h.next

theorem KeptForm.landWrite (h : KeptForm s) {a : Nat} {d : List Byte} {mask bad : Nat} : KeptForm (s.landWrite a d mask bad) := by
  unfold State.landWrite
  split
  · exact h
  · exact .ite h.frame.portTake (h.dramPut.foldl fun _ _ h' => h'.dramPoison)

theorem KeptForm.execExpansionComplete (h : KeptForm s) {site slot : Nat} : NextKept (execExpansionComplete site slot s) := by
  unfold Machine.execExpansionComplete
  extract_lets +onlyGivenNames q
  split
  · exact h.next
  extract_lets +onlyGivenNames n din dout base left s1 s2 es s3
  have h1 : KeptForm s1 := h.setPort
  have h2 : KeptForm s2 := h1.countF.countF
  have h3 : KeptForm s3 := h2.foldl fun _ _ h' => h'.logCode
  exact .ite h3.portAnswer.next h3.portAnswer.next

theorem KeptForm.execAgedRemoteGrant (h : KeptForm s) {site : Nat} : NextKept (execAgedRemoteGrant site s) := by
  unfold Machine.execAgedRemoteGrant
  split
  · exact h.next
  · exact .ite h.next (KeptForm.ite h.advanceTo.setPort.countF h.advanceTo.setPort).next

theorem KeptForm.execRowIdleClose (h : KeptForm s) {site bank : Nat} : NextKept (execRowIdleClose site bank s) := by
  unfold Machine.execRowIdleClose
  split
  · exact h.next
  · exact h.advanceTo.setPort.next

theorem KeptForm.tokenPeak (h : KeptForm s) {d : Nat} : KeptForm (s.tokenPeak d) := h.setF

theorem KeptForm.beginRefresh (h : KeptForm s) {i b : Nat} {urgent : Bool} : KeptForm (s.beginRefresh i b urgent) :=
  h.setPort.countF.countF.tokenPeak

theorem KeptForm.execRefreshDue (h : KeptForm s) {site bank : Nat} : NextKept (execRefreshDue site bank s) := by
  unfold Machine.execRefreshDue
  refine .ite h.next ?_
  extract_lets +onlyGivenNames s1
  have h1 : KeptForm s1 := h.advanceTo
  exact .ite h1.setPort.beginRefresh.next (.ite h1.setPort.beginRefresh.next h1.setPort.next)

theorem KeptForm.execRefreshPayback (h : KeptForm s) {site bank : Nat} : NextKept (execRefreshPayback site bank s) :=
  .ite h.next (KeptForm.ite h h.advanceTo).setPort.beginRefresh.next

theorem KeptForm.execRefreshComplete (h : KeptForm s) {site bank : Nat} : NextKept (execRefreshComplete site bank s) :=
  .ite (.ite h.setPort.setPort.beginRefresh.next h.setPort.next) h.setPort.next

/-! Banks -/

theorem KeptForm.bkFinish (h : KeptForm s) {i : Nat} {k : Collect} : KeptForm (s.bkFinish i k) := by
  unfold State.bkFinish
  extract_lets c here s1 ovr unc cf t1 d p old t2 t3 m s2
  have h1 : KeptForm s1 := .ite h.setCore h
  have ht1 : KeptForm t1 := h1.setF.setF.setF.setF.setF
  have ht2 : KeptForm t2 := ht1.countF.setF
  have ht3 : KeptForm t3 := .ite (.ite ht2 ht2.setF) ht1
  have h2 : KeptForm s2 := .ite h1 (.ite ht3 ht3.raise)
  exact .ite h2.tallyAdd h2

theorem KeptForm.bkReport (h : KeptForm s) {i tag src waves status columns : Nat} : KeptForm (s.bkReport i tag src waves status columns) := by
  unfold State.bkReport
  extract_lets +onlyGivenNames q
  split
  · exact h
  extract_lets +onlyGivenNames k1 others
  split
  · exact h.setPort
  extract_lets +onlyGivenNames s1
  have h1 : KeptForm s1 := h.setPort
  split
  · exact h1.respond
  · exact h1.bkFinish

theorem KeptForm.columnReport (h : KeptForm s) {i : Nat} {p : Packet} {waves status : Nat} : KeptForm (s.columnReport i p waves status) :=
  .ite h.bkReport h.respond

theorem KeptForm.portSend (h : KeptForm s) {i j ty tag addr aux : Nat} {d : List Byte} : KeptForm (s.portSend i j ty tag addr aux d) :=
  h.inject

theorem KeptForm.bkSend (h : KeptForm s) {i : Nat} {op : BkOp} {ty addr : Nat} {d : List Byte} : KeptForm (s.bkSend i op ty addr d) :=
  h.setPort.foldl fun _ _ h' => .ite h'.bkReport h'.portSend

theorem KeptForm.execBkcast (h : KeptForm s) {i : Nat} {w : Word64} : NextKept (execBkcast i w s) := by
  unfold Machine.execBkcast
  split
  · exact h.next
  extract_lets +onlyGivenNames a so
  split
  · exact h.progFault.next
  extract_lets +onlyGivenNames c s0
  have h1 : KeptForm s0 := h.lsNote
  split
  · exact h1.next
  split
  · exact h1.progFault.next
  · exact h1.frame.setCore.countF.bkSend.nextPc.next

theorem KeptForm.execBksetk (h : KeptForm s) {i : Nat} {w : Word64} : NextKept (execBksetk i w s) := by
  unfold Machine.execBksetk
  split
  · exact h.next
  extract_lets +onlyGivenNames a l
  split
  · exact h.progFault.next
  extract_lets +onlyGivenNames c d s0
  have h1 : KeptForm s0 := h.lsNote.lsNote
  split
  · exact h1.next
  split
  · exact h1.progFault.next
  · exact h1.frame.setCore.bkSend.nextPc.next

theorem KeptForm.execBkmark (h : KeptForm s) {i : Nat} {w : Word64} : NextKept (execBkmark i w s) :=
  .ite h.progFault.next (h.issue fun _ h' => h'.setCore.nextPc)

theorem KeptForm.execBkmarkDone (h : KeptForm s) {i : Nat} : NextKept (execBkmarkDone i s) := by
  unfold Machine.execBkmarkDone
  split
  · exact .ite h.setCore.tallyAdd.next h.next
  · exact h.next

theorem KeptForm.tokensSpent (h : KeptForm s) {i n : Nat} : KeptForm (s.tokensSpent i n) := by
  unfold State.tokensSpent
  extract_lets +onlyGivenNames s1
  have h1 : KeptForm s1 := h.countF
  exact h1.frame

theorem KeptForm.bkSettle {i n : Nat} (h : KeptForm s) : KeptForm (s.bkSettle i n) := by
  induction n generalizing s with
  | zero => exact h
  | succ n ih =>
    unfold State.bkSettle
    extract_lets +onlyGivenNames q
    split
    · exact h
    split
    · exact ih h.setPort.columnReport
    · exact .ite (ih h.setPort.columnReport) (.ite (ih h.setPort.columnReport) h)

theorem KeptForm.startWave (h : KeptForm s) {i cap : Nat} : KeptForm (s.startWave i cap) := by
  unfold State.startWave
  extract_lets +onlyGivenNames q
  split
  · exact h
  · exact .ite h h.setPort.countF.setF.tokenPeak

theorem KeptForm.execWaveStart (h : KeptForm s) {site : Nat} : NextKept (execWaveStart site s) :=
  .ite h.startWave.next h.next

theorem KeptForm.checkUnit (h : KeptForm s) {i b row a n kind logKind : Nat} : KeptForm (s.checkUnit i b row a n kind logKind).1 :=
  .ite_fst h.dramLog.countF.countF.pair h.dramLog.countF.countF.setF.setF.setF.pair

theorem KeptForm.bkStep (h : KeptForm s) {i b : Nat} {c : List Nat} {st : BkStep} : KeptForm (s.bkStep i b c st).1 := by
  unfold State.bkStep
  split
  · exact h.checkUnit
  · exact h.checkUnit
  · exact h.dramPut.pair
  · exact h.checkUnit.setPort.pair
  · exact h.checkUnit.dramPut.pair
  · exact h.dramPut.pair

theorem KeptForm.serveGap (h : KeptForm s) {i b : Nat} : KeptForm (s.serveGap i b) := by
  unfold State.serveGap
  split
  · exact h.serve.countF
  · exact h

theorem KeptForm.bankDone (h : KeptForm s) {i b : Nat} : KeptForm (s.bankDone i b) :=
  .ite h.setPort.beginRefresh h.setPort

theorem KeptForm.closeRow (h : KeptForm s) {i b : Nat} : KeptForm (s.closeRow i b) := h.setPort

theorem KeptForm.setOp (h : KeptForm s) {i b : Nat} {unc : Bool} {f : BankOp → Option BankOp} : KeptForm (s.setOp i b unc f) := by
  unfold State.setOp
  extract_lets +onlyGivenNames q
  split
  · exact h
  · exact h.setPort

theorem KeptForm.endScrub (h : KeptForm s) {i b cycles : Nat} : KeptForm (s.endScrub i b cycles) := by
  unfold State.endScrub
  split
  · exact h
  · exact h.bkStep.countF.tokensSpent.setPort.bankDone.bkSettle

theorem KeptForm.endStep (h : KeptForm s) {i b cycles : Nat} : KeptForm (s.endStep i b cycles) := by
  unfold State.endStep
  split
  · exact h.endScrub
  split
  · exact h
  split
  · exact h
  split
  · exact h
  extract_lets +onlyGivenNames st
  split
  · exact h
  extract_lets +onlyGivenNames r s1
  have h1 : KeptForm s1 := h.bkStep.countF.tokensSpent
  exact .ite h1.setOp.countF.bankDone.bkSettle (KeptForm.ite h1.setPort.countF.countF h1).serveGap.closeRow.setOp

theorem KeptForm.execEngineStepComplete (h : KeptForm s) {site bank cycles : Nat} : NextKept (execEngineStepComplete site bank cycles s) :=
  h.endStep.next

theorem KeptForm.bkForward (h : KeptForm s) {i : Nat} {p : Packet} {take : State → Packet → State} (htake : ∀ t q, KeptForm t → KeptForm (take t q)) :
    KeptForm (s.bkForward i p take) :=
  (htake _ _ h.frame.setPort).foldl fun _ _ h' => h'.portSend

theorem KeptForm.bkTake (h : KeptForm s) {i : Nat} {p : Packet} : KeptForm (s.bkTake i p) :=
  .ite h.columnReport h.setPort.bkSettle

theorem KeptForm.bkArrive (h : KeptForm s) {id ty : Nat} : KeptForm (s.bkArrive id ty) := by
  unfold State.bkArrive
  split
  · exact h
  · exact .ite (h.dropPkt.bkForward fun _ _ h' => h'.bkTake) h.dropPkt.bkTake

theorem KeptForm.execBkcmd (h : KeptForm s) {id : Nat} : NextKept (execBkcmd id s) := h.bkArrive.next

theorem KeptForm.execBksetkPacket (h : KeptForm s) {id : Nat} : NextKept (execBksetkPacket id s) := h.bkArrive.next

/-! Flash and the secure root -/

theorem KeptForm.qsConsume (h : KeptForm s) : KeptForm s.qsConsume := h.frame

theorem KeptForm.qsPut (h : KeptForm s) {b : Bool} {o : Option QsRecord} : KeptForm (s.qsPut b o) := h.frame

/-! Translation -/

theorem KeptForm.tableRead (h : KeptForm s) {a level : Nat} : KeptForm (s.tableRead a level).1 := by
  unfold State.tableRead
  split
  · exact h.pair
  refine .ite_fst (KeptForm.ite h h.portErr).pair (.ite_fst h.portErr.pair ?_)
  extract_lets s1
  have h1 : KeptForm s1 := h.openRow.countF.countF.dramLog
  exact .ite_fst h1.portErr.pair h1.pair

theorem KeptForm.walkFrom {p va n table : Nat} (h : KeptForm s) : KeptForm (walkFrom p va n table s).1 := by
  induction n generalizing s table with
  | zero => exact h
  | succ n ih =>
    unfold Machine.walkFrom
    extract_lets level a
    split
    next heq => exact h.tableRead.of_fst heq
    next heq =>
      have h1 := h.tableRead.of_fst heq
      split
      · exact h1
      · exact .ite_fst h1 (ih h1)

theorem KeptForm.walk (h : KeptForm s) {p va : Nat} : KeptForm (s.walk p va).1 :=
  .ite_fst h.pair (.ite_fst h.pair h.walkFrom)

theorem KeptForm.xlCluster (h : KeptForm s) {c p va : Nat} : KeptForm (s.xlCluster c p va).1 := by
  fun_cases State.xlCluster s c p va
  case case1 => exact h.setCluster
  case case2 heq => exact h.walk.of_fst heq
  case case3 heq _ _ => exact (h.walk.of_fst heq).setCluster

/-- Each way a core translates an address passes through `State.xlCluster`. -/
theorem KeptForm.xlCore (h : KeptForm s) {i va : Nat} {wr : Bool} : KeptForm (s.xlCore i va wr).1 := by
  unfold State.xlCore
  split
  · exact h
  extract_lets c r
  have hr : KeptForm r.1 := by
    unfold r
    cases c.tlb.find? _ with
    | some x => exact h.setCore
    | none =>
      dsimp only
      split
      next heq => exact h.countF.xlCluster.of_fst heq
      next heq => exact (h.countF.xlCluster.of_fst heq).setCore
  clear_value r
  obtain ⟨t, _ | x⟩ := r
  · exact hr
  · dsimp only
    split
    · exact hr
    · exact hr

theorem KeptForm.xlUnit (h : KeptForm s) {u : Nat} {part : Option Nat} {va : Nat} {wr : Bool} : KeptForm (s.xlUnit u part va wr).1 := by
  unfold State.xlUnit
  split
  · exact h
  next p _ =>
  extract_lets l r
  have hr : KeptForm r.1 := by
    unfold r
    cases l.find? _ with
    | some x => exact h.frame
    | none =>
      have hw := h.walk (p := p) (va := va)
      generalize s.walk p va = q at hw
      obtain ⟨t, _ | y⟩ := q
      · exact hw
      · exact KeptForm.frame hw
  clear_value r
  obtain ⟨t, _ | x⟩ := r
  · exact hr
  · dsimp only
    split
    · exact hr
    · exact hr

theorem KeptForm.xfault (h : KeptForm s) {p kind level : Nat} {wr : Bool} {srcKind src va : Nat} :
    KeptForm (s.xfault p kind level wr srcKind src va) :=
  .ite h.countF h.countF.setF.setF.setF.setF.setF.setF.setF.setF.raiseBit

theorem KeptForm.xlRecord (h : KeptForm s) {p : Option Nat} {e : MemErr} {wr : Bool} {srcKind src va : Nat} :
    KeptForm (s.xlRecord p e wr srcKind src va) := by
  unfold State.xlRecord
  split
  · exact h.xfault
  · exact h

theorem KeptForm.coreMemFault (h : KeptForm s) {i : Nat} {e : MemErr} {wr : Bool} {va : Nat} : KeptForm (s.coreMemFault i e wr va) := by
  unfold State.coreMemFault
  split
  · exact h.xlRecord.progFault
  · exact h.progFault

/-! Caches -/

theorem KeptForm.setStream (h : KeptForm s) {i : Nat} {x : CoreStream} : KeptForm (s.setStream i x) := h.setCore

theorem KeptForm.killStream (h : KeptForm s) {i sid : Nat} : KeptForm (s.killStream i sid) := h.setCore

theorem KeptForm.failStream (h : KeptForm s) {i sid : Nat} : KeptForm (s.failStream i sid) := h.setCore

theorem KeptForm.l1Put (h : KeptForm s) {i line : Nat} {d : List Byte} : KeptForm (s.l1Put i line d) := .ite h h.setCore

theorem KeptForm.l1Get (h : KeptForm s) {i line : Nat} : KeptForm (s.l1Get i line).1 := by
  unfold State.l1Get
  extract_lets +onlyGivenNames c
  split
  · exact h.setCore.pair
  · exact h.pair

theorem KeptForm.streamAnswer (h : KeptForm s) {r : MReq} {dpa status : Nat} {d : List Byte} : KeptForm (s.streamAnswer r dpa status d) := by
  unfold State.streamAnswer
  split
  · split
    · exact h
    · exact .ite h.failStream.coreMemFault (.ite h.setStream.l1Put h.setStream)
  · exact h

theorem KeptForm.cluSend (h : KeptForm s) {c dst exit vc ty tag addr len aux : Nat} {d : List Byte} {masked : Bool} {mask : Nat} :
    KeptForm (s.cluSend c dst exit vc ty tag addr len aux d masked mask) :=
  h.inject

theorem KeptForm.newTag (h : KeptForm s) {r : MReq} : KeptForm (s.newTag r).2 := h.frame.pair_snd

theorem KeptForm.lineFlip (h : KeptForm s) {line mask : Nat} {old : Tab Nat} : KeptForm (s.lineFlip line mask old).2 := by
  unfold State.lineFlip
  extract_lets +onlyGivenNames kept
  split
  · exact h.pair_snd
  · exact .ite_snd h.flipDone.pair_snd h.pair_snd

theorem KeptForm.lineLog (h : KeptForm s) {c line : Nat} {ro : Bool} {es : List (Nat × CodeOut)} : KeptForm (s.lineLog c line ro es) :=
  h.foldl fun _ _ h' => h'.logCode

theorem KeptForm.cluTouch (h : KeptForm s) {c line : Nat} : KeptForm (s.cluTouch c line) := by
  unfold State.cluTouch
  extract_lets +onlyGivenNames k
  split
  · exact h.setCluster
  · exact h

theorem KeptForm.cluDrop (h : KeptForm s) {c line : Nat} : KeptForm (s.cluDrop c line) := h.setCluster

theorem KeptForm.writeBack (h : KeptForm s) {c line : Nat} {x : CLine} : KeptForm (s.writeBack c line x) := by
  unfold State.writeBack
  split
  · exact h.cluDrop
  · exact h.setCluster.countF.cluSend

theorem KeptForm.cluRoom (h : KeptForm s) {c line : Nat} : KeptForm (s.cluRoom c line) := by
  unfold State.cluRoom
  extract_lets +onlyGivenNames k same
  split
  · exact h
  split
  · exact h
  · exact .ite h.writeBack h.cluDrop

theorem KeptForm.cluPut (h : KeptForm s) {c line : Nat} {st : CSt} {d : List Byte} {mask : Nat} : KeptForm (s.cluPut c line st d mask) :=
  h.lineFlip.setCluster

theorem KeptForm.missTake (h : KeptForm s) {c : Nat} {w : Waiter} : KeptForm (s.missTake c w) := by
  unfold State.missTake
  extract_lets +onlyGivenNames k line
  split
  · exact h.setCluster.countF
  split
  · exact h.streamAnswer
  · exact h.setCluster.newTag.cluSend

theorem KeptForm.miss (h : KeptForm s) {c : Nat} {w : Waiter} : KeptForm (s.miss c w) :=
  .ite h.missTake (.ite h.setCluster.countF h.setCluster)

theorem KeptForm.cluRead (h : KeptForm s) {c : Nat} {w : Waiter} : KeptForm (s.cluRead c w) := by
  unfold State.cluRead
  extract_lets +onlyGivenNames s1 line
  have h1 : KeptForm s1 := h.countF
  split
  · exact .ite (.ite h1.lineLog.cluDrop.miss h1.lineLog.countF.cluTouch.streamAnswer) h1.miss
  · exact h1.miss

theorem KeptForm.fillReturn (h : KeptForm s) {c line status : Nat} {d : List Byte} : KeptForm (s.fillReturn c line status d) :=
  (KeptForm.ite h.setCluster h.setCluster.cluRoom.cluPut).foldl fun _ _ h' => h'.streamAnswer

theorem KeptForm.execLineFillReturn (h : KeptForm s) {id : Nat} : NextKept (execLineFillReturn id s) := by
  unfold Machine.execLineFillReturn
  split
  · split
    · split
      · exact .ite h.frame.dropPkt.fillReturn.next h.next
      · exact h.next
    · exact h.next
  · exact h.next

theorem KeptForm.execMissAdmit (h : KeptForm s) {clu : Nat} : NextKept (execMissAdmit clu s) := by
  unfold Machine.execMissAdmit
  extract_lets +onlyGivenNames k
  split
  · exact h.next
  split
  · exact h.next
  extract_lets +onlyGivenNames s1
  have h1 : KeptForm s1 := h.setCluster
  split
  · exact .ite h1.streamAnswer.next h1.missTake.next
  · exact h1.missTake.next

theorem KeptForm.cohAsk (h : KeptForm s) {c line ty : Nat} {w : MReq × Nat} : KeptForm (s.cohAsk c line ty w) := by
  unfold State.cohAsk
  extract_lets +onlyGivenNames k s1
  have h1 : KeptForm s1 := h.setCluster
  split
  · exact h1
  · exact h1.cluSend

theorem KeptForm.cohWrite (h : KeptForm s) {c line : Nat} {x : CLine} {st : CSt} {r : MReq} {dpa : Nat} : KeptForm (s.cohWrite c line x st r dpa) :=
  h.lineFlip.setCluster.streamAnswer

theorem KeptForm.readLine (h : KeptForm s) {hit : State → State} {c line : Nat} {x : CLine} {r : MReq} {dpa : Nat}
    (hhit : ∀ t, KeptForm t → KeptForm (hit t)) : KeptForm (s.readLine hit c line x r dpa) :=
  .ite (.ite (hhit _ h).lineLog.streamAnswer (hhit _ h).lineLog.cluDrop.cohAsk) (hhit _ h).lineLog.cluTouch.streamAnswer

theorem KeptForm.cohAccess (h : KeptForm s) {c : Nat} {r : MReq} {dpa : Nat} {first : Bool} : KeptForm (s.cohAccess c r dpa first) := by
  unfold State.cohAccess
  extract_lets +onlyGivenNames s hit line k join
  have h1 : KeptForm s := .ite h.countF h
  split
  · exact h1.setCluster
  split
  · exact h1.setCluster
  split
  · exact h1.cohAsk
  split
  · exact h1.cluDrop.cohAsk
  · exact .ite h1.cohAsk (h1.readLine fun _ h' => .ite h'.countF h')
  · exact .ite (KeptForm.ite h1.countF h1).cohWrite (h1.readLine fun _ h' => .ite h'.countF h')
  · exact .ite (KeptForm.ite h1.countF h1).cohWrite (h1.readLine fun _ h' => .ite h'.countF h')
  · exact .ite (KeptForm.ite h1.countF h1).cohWrite (.ite (h1.readLine fun _ h' => .ite h'.countF h') h1.cohAsk)

theorem KeptForm.cohResume (h : KeptForm s) {c : Nat} {ws : List (MReq × Nat)} : KeptForm (s.cohResume c ws) :=
  h.foldl fun _ _ h' => h'.cohAccess

theorem KeptForm.cohData (h : KeptForm s) {c line aux : Nat} {d : List Byte} : KeptForm (s.cohData c line aux d) := by
  unfold State.cohData
  extract_lets +onlyGivenNames k
  split
  · exact h
  extract_lets +onlyGivenNames s1
  have h1 : KeptForm s1 := h.setCluster
  split
  · exact h1.foldl fun _ _ h' => h'.streamAnswer
  split
  · split
    · exact .ite h1.lineFlip.setCluster.cohResume h1.cohResume
    · exact h1.cohResume
  · exact .ite (h1.foldl fun _ _ h' => h'.streamAnswer).cohResume h1.cluRoom.cluPut.cohResume

theorem KeptForm.cohGrant (h : KeptForm s) {c line : Nat} : KeptForm (s.cohGrant c line) := by
  unfold State.cohGrant
  extract_lets +onlyGivenNames k
  split
  · exact h
  extract_lets +onlyGivenNames s1
  have h1 : KeptForm s1 := h.setCluster
  split
  · exact h1.cohResume
  split
  · exact h1.setCluster.cohResume
  · exact h1.cluRoom.cluPut.cohResume

theorem KeptForm.cohAck (h : KeptForm s) {c line : Nat} : KeptForm (s.cohAck c line) := by
  unfold State.cohAck
  extract_lets +onlyGivenNames k s1
  have h1 : KeptForm s1 := h.setCluster
  split
  · exact .ite h1.setCluster.cohResume h1
  · exact h1

theorem KeptForm.execCinv (h : KeptForm s) {id : Nat} : NextKept (execCinv id s) := by
  unfold Machine.execCinv
  split
  · split
    · exact .ite h.dropPkt.countF.setCluster.respond.next h.next
    · exact h.next
  · exact h.next

theorem KeptForm.execCrecall (h : KeptForm s) {id : Nat} : NextKept (execCrecall id s) := by
  unfold Machine.execCrecall
  split
  · split
    · exact .ite h.dropPkt.countF.setCluster.inject.next h.next
    · exact h.next
  · exact h.next

theorem KeptForm.cacheCmd (h : KeptForm s) {c : Nat} {v : Word} : KeptForm (s.cacheCmd c v) :=
  .ite (KeptForm.ite ((KeptForm.ite h.setCluster h).foldl fun _ _ h' => h'.writeBack) (.ite h.setCluster h)).setF h

theorem KeptForm.execInvalRo (h : KeptForm s) {who : Requester} {clu : Nat} {value : Word} : NextKept (execInvalRo who clu value s) :=
  .ite (h.trigger fun _ h' => h'.cacheCmd) h.next

theorem KeptForm.execWbAll (h : KeptForm s) {who : Requester} {clu : Nat} {value : Word} : NextKept (execWbAll who clu value s) :=
  .ite (h.trigger fun _ h' => h'.cacheCmd) h.next

theorem KeptForm.execCacheCommandComplete (h : KeptForm s) {clu : Nat} : NextKept (execCacheCommandComplete clu s) :=
  .ite h.setF.next h.next

/-! The directory -/

theorem KeptForm.setDir (h : KeptForm s) {c line : Nat} {owned ovf : Bool} {ptrs : List Nat} : KeptForm (s.setDir c line owned ovf ptrs) :=
  h.setCluster

theorem KeptForm.setTxn (h : KeptForm s) {c line : Nat} {t : Txn} : KeptForm (s.setTxn c line t) := h.setCluster

theorem KeptForm.dropTxn (h : KeptForm s) {c line : Nat} : KeptForm (s.dropTxn c line) := h.setCluster

theorem KeptForm.homeRead (h : KeptForm s) {c line a len : Nat} : KeptForm (s.homeRead c line a len) := h.newTag.cluSend

theorem KeptForm.homeWrite (h : KeptForm s) {c line a : Nat} {d : List Byte} {mask bad : Nat} : KeptForm (s.homeWrite c line a d mask bad) :=
  h.newTag.cluSend

theorem KeptForm.homeReply (h : KeptForm s) {c : Nat} {p : Packet} {ty aux : Nat} {d : List Byte} : KeptForm (s.homeReply c p ty aux d) :=
  h.respond

theorem KeptForm.homeGo (h : KeptForm s) {c line : Nat} {p : Packet} : KeptForm (s.homeGo c line p).1 := by
  unfold State.homeGo
  extract_lets +onlyGivenNames t wait
  have hwait ph : KeptForm (wait s ph) := h.setTxn
  split
  · split
    · exact h.setDir.homeReply.pair
    · exact h.pair
  · exact .ite_fst (.ite_fst (hwait _).homeWrite.pair h.homeReply.pair) <|
      .ite_fst (hwait _).homeWrite.pair <|
      .ite_fst (hwait _).homeRead.pair <|
      .ite_fst (hwait _).homeRead.pair (hwait _).homeRead.pair

theorem KeptForm.homeAskOut (h : KeptForm s) {c line : Nat} {y : Nat × Bool} : KeptForm (s.homeAskOut c line y) :=
  h.cluSend

theorem KeptForm.homeTake (h : KeptForm s) {c : Nat} {p : Packet} : KeptForm (s.homeTake c p) := by
  unfold State.homeTake
  extract_lets +onlyGivenNames line k
  split
  · exact h.setTxn
  split
  · split
    · split
      · exact h.setTxn
      · exact h
    · split
      · exact h.setTxn
      · exact h.setTxn.countF.foldl fun _ _ h' => h'.homeAskOut
  · extract_lets +onlyGivenNames hs
    split
    · split
      next heq => exact h.homeGo.of_fst heq
      next heq => exact h.homeGo.of_fst heq
    · exact h.setTxn.foldl fun _ _ h' => h'.homeAskOut

theorem KeptForm.homeEnd (h : KeptForm s) {c line : Nat} : KeptForm (s.homeEnd c line) :=
  h.dropTxn.foldl fun _ _ h' => h'.homeTake

theorem KeptForm.homeUnhold (h : KeptForm s) {c a : Nat} : KeptForm (s.homeUnhold c a) :=
  h.setCluster.foldl fun _ _ h' => h'.homeTake

theorem KeptForm.homeNext (h : KeptForm s) {c line : Nat} {t : Txn} : KeptForm (s.homeNext c line t) := by
  unfold State.homeNext
  split
  · exact h.setDir.homeEnd
  split
  next heq => exact (h.homeGo.of_fst heq).homeEnd
  next heq => exact h.homeGo.of_fst heq

theorem KeptForm.homeAcked (h : KeptForm s) {c line : Nat} {t : Txn} : KeptForm (s.homeAcked c line t) := by
  unfold State.homeAcked
  extract_lets +onlyGivenNames mine s1 k
  have h1 : KeptForm s1 := h.setDir
  split
  · exact .ite h1.setCluster.homeNext h1.setCluster.setTxn.homeWrite
  · exact h1.homeNext

theorem KeptForm.homeAck (h : KeptForm s) {c line : Nat} {d : Option (List Byte × Nat × Nat)} : KeptForm (s.homeAck c line d) := by
  unfold State.homeAck
  split
  · exact h
  split
  · extract_lets +onlyGivenNames k s1 t1
    have h1 : KeptForm s1 := by
      unfold s1
      split
      · exact h.setCluster
      · exact h
    exact .ite h1.homeAcked h1.setTxn
  · exact h

theorem KeptForm.homeAtom (h : KeptForm s) {c line : Nat} {t : Txn} {p : Packet} {d : List Byte} : KeptForm (s.homeAtom c line t p d) := by
  unfold State.homeAtom
  extract_lets +onlyGivenNames e op
  split
  · exact h.setCluster.homeEnd
  extract_lets +onlyGivenNames old open5 r
  have hr : KeptForm r.2 := .ite_snd h.takeFree h.pair_snd
  split
  · exact hr.homeReply.homeEnd
  · exact .ite hr.homeReply.homeEnd.homeUnhold hr.setTxn.homeWrite

theorem KeptForm.homeAnswer (h : KeptForm s) {c line status : Nat} {d : List Byte} : KeptForm (s.homeAnswer c line status d) := by
  unfold State.homeAnswer
  split
  · exact h
  split
  · exact h
  · exact h.homeNext
  · exact .ite h.homeReply.homeEnd (.ite h.setDir.homeReply.homeEnd (.ite h.homeReply.homeEnd.homeUnhold h.homeReply.homeEnd))
  · split
    · exact h.homeReply.homeEnd
    · split
      · exact h.homeReply.homeEnd
      · split
        · exact h.homeAtom
        · split
          · exact h.homeReply.homeEnd
          · split
            · exact h.homeEnd
            · exact .ite h.setDir.homeReply.homeEnd h.setDir.homeReply.homeEnd
  · exact h.setDir.homeEnd

theorem KeptForm.homeArrive (h : KeptForm s) {id ty : Nat} : KeptForm (s.homeArrive id ty) := by
  unfold State.homeArrive
  split
  · exact h.dropPkt.homeTake
  · exact h

theorem KeptForm.execCrds (h : KeptForm s) {id : Nat} : NextKept (execCrds id s) := h.homeArrive.next

theorem KeptForm.execCclaim (h : KeptForm s) {id : Nat} : NextKept (execCclaim id s) := h.homeArrive.next

theorem KeptForm.execCfill (h : KeptForm s) {id : Nat} : NextKept (execCfill id s) := h.homeArrive.next

theorem KeptForm.execCwb (h : KeptForm s) {id : Nat} : NextKept (execCwb id s) := h.homeArrive.next

theorem KeptForm.execCatom (h : KeptForm s) {id : Nat} : NextKept (execCatom id s) := h.homeArrive.next

theorem KeptForm.execCiack (h : KeptForm s) {id : Nat} : NextKept (execCiack id s) := by
  unfold Machine.execCiack
  split
  · exact h.dropPkt.homeAck.next
  · exact h.next

theorem KeptForm.execCwbr (h : KeptForm s) {id : Nat} : NextKept (execCwbr id s) := by
  unfold Machine.execCwbr
  split
  · exact h.dropPkt.homeAck.next
  · exact h.next

theorem KeptForm.execCgrant (h : KeptForm s) {id : Nat} : NextKept (execCgrant id s) := by
  unfold Machine.execCgrant
  split
  · exact h.dropPkt.cohGrant.next
  · exact h.next

theorem KeptForm.execCack (h : KeptForm s) {id : Nat} : NextKept (execCack id s) := by
  unfold Machine.execCack
  split
  · exact h.dropPkt.cohAck.next
  · exact h.next

/-! Requests of cores and units -/

theorem KeptForm.coreHrd (h : KeptForm s) {i : Nat} {r : MReq} {a len : Nat} : KeptForm (s.coreHrd i r a len) := by
  unfold State.coreHrd
  split
  · exact h.streamAnswer
  · exact h.newTag.coreRequest

theorem KeptForm.coreLoad (h : KeptForm s) {i : Nat} {x : Xlat} {r : MReq} : KeptForm (s.coreLoad i x r) := by
  unfold State.coreLoad
  extract_lets +onlyGivenNames dpa
  split
  · exact h.cohAccess
  split
  · exact h.coreHrd
  split
  · exact h.coreHrd
  extract_lets +onlyGivenNames line r l1 s1
  have h1 : KeptForm s1 := .ite h.countF h
  have hget : KeptForm (if l1 then s1.l1Get i line else (s1, none)).1 := .ite_fst h1.l1Get h1
  split
  next heq => exact (hget.of_fst heq).countF.streamAnswer
  next heq => exact .ite (hget.of_fst heq).cluRead (hget.of_fst heq).coreHrd

theorem KeptForm.coreStore (h : KeptForm s) {i : Nat} {x : Xlat} {r : MReq} : KeptForm (s.coreStore i x r) := by
  unfold State.coreStore
  extract_lets +onlyGivenNames dpa
  split
  · exact h.cohAccess
  extract_lets +onlyGivenNames lines drop s1
  have hdrop (t : State) (line : Nat) (ht : KeptForm t) : KeptForm (drop t line) := by
    unfold drop
    extract_lets +onlyGivenNames c t1
    have h1 : KeptForm t1 := .ite ht.setCore.countF ht
    split
    · exact .ite h1.cluDrop h1
    · exact h1
  have h1 : KeptForm s1 := h.foldl hdrop
  split
  · exact h1.streamAnswer
  · exact h1.newTag.coreRequest

theorem KeptForm.extSend (h : KeptForm s) {u part dst exit vc ty tag addr len aux : Nat} {d : List Byte} {masked : Bool} {mask : Nat} :
    KeptForm (s.extSend u part dst exit vc ty tag addr len aux d masked mask) :=
  .ite h.inject.toLink h.inject

theorem KeptForm.unitSend (h : KeptForm s) {u part dst exit vc ty tag addr len aux : Nat} {d : List Byte} {masked : Bool} {mask : Nat} :
    KeptForm (s.unitSend u part dst exit vc ty tag addr len aux d masked mask) :=
  .ite h.cluSend h.extSend

theorem KeptForm.jobAnswer (h : KeptForm s) {r : MReq} {dpa status : Nat} {d : List Byte} : KeptForm (s.jobAnswer r dpa status d) := by
  unfold State.jobAnswer
  split
  · split
    · exact h
    · exact .ite h.frame h.frame.xlRecord
  · exact h

theorem KeptForm.unitGo (h : KeptForm s) {u : Nat} {x : Xlat} {r : MReq} : KeptForm (s.unitGo u x r) := by
  unfold State.unitGo
  extract_lets +onlyGivenNames dpa
  split
  · exact h.jobAnswer
  · exact .ite h.newTag.unitSend h.newTag.unitSend

theorem KeptForm.readDpa (h : KeptForm s) {own : Bool} {a n : Nat} : KeptForm (s.readDpa own a n).1 := by
  unfold State.readDpa
  split
  · exact .ite_fst h.pair h.openRow.countF.countF.pair
  · exact h.pair
  · exact (KeptForm.ite h h.portErr).pair
  · exact h.pair

theorem KeptForm.peek (h : KeptForm s) {u p va len : Nat} : KeptForm (s.peek u p va len).1 := by
  refine KeptForm.foldl_fst h fun q x hq => ?_
  split
  · exact hq
  split
  next heq => exact KeptForm.of_fst (hq.xlUnit) heq
  next heq =>
    have h1 := KeptForm.of_fst (hq.xlUnit) heq
    split
    next heq => exact h1.readDpa.of_fst heq
    next heq => exact h1.readDpa.of_fst heq

/-! Copy on write -/

theorem KeptForm.dropXlat (h : KeptForm s) {v : Xinv} : KeptForm (s.dropXlat v) := h.frame

theorem KeptForm.setCow (h : KeptForm s) {id : Nat} {c : Cow} : KeptForm (s.setCow id c) := h.frame

theorem KeptForm.dropCow (h : KeptForm s) {id : Nat} : KeptForm (s.dropCow id) := h.frame

theorem KeptForm.cowAtom (h : KeptForm s) {id : Nat} {c : Cow} {page op v : Nat} : KeptForm (s.cowAtom id c page op v) := by
  unfold State.cowAtom
  split
  · exact h
  split
  · exact h
  · exact h.newTag.unitSend

theorem KeptForm.cowFail (h : KeptForm s) {c : Cow} {status : Nat} : KeptForm (s.cowFail c status) := by
  unfold State.cowFail
  split
  · exact h.streamAnswer
  · exact h.jobAnswer

theorem KeptForm.cowStart (h : KeptForm s) {u : Nat} {x : Xlat} {r : MReq} : KeptForm (s.cowStart u x r) := by
  unfold State.cowStart
  extract_lets id c bad
  clear_value bad
  split
  · exact h.cowFail
  · exact h.frame.setCow.cowAtom

theorem KeptForm.jobReady (h : KeptForm s) {r : MReq} : KeptForm (s.jobReady r) := by
  unfold State.jobReady
  split
  · split
    · exact h.frame
    · exact h
  · exact h

theorem KeptForm.cowLeave (h : KeptForm s) {id : Nat} {c : Cow} : KeptForm (s.cowLeave id c) := by
  unfold State.cowLeave
  extract_lets +onlyGivenNames s1 v keep
  have h1 : KeptForm s1 := h.dropCow
  split
  · extract_lets +onlyGivenNames k s2 cl
    have h2 : KeptForm s2 := h1.setCore
    split
    next heq => exact (h2.setCluster.xlCore.of_fst heq).streamAnswer
    next heq =>
      have h3 := h2.setCluster.xlCore.of_fst heq
      exact .ite h3.cowStart h3.coreStore
  · extract_lets +onlyGivenNames s2
    have h2 : KeptForm s2 := h1.frame
    split
    next heq => exact (h2.xlUnit.of_fst heq).jobAnswer
    next heq =>
      have h3 := h2.xlUnit.of_fst heq
      exact .ite h3.cowStart h3.jobReady

theorem KeptForm.cowGiveUp (h : KeptForm s) {id : Nat} {c : Cow} {status : Nat} : KeptForm (s.cowGiveUp id c status) :=
  h.cowAtom.dropCow.cowFail

theorem KeptForm.cowLeafPut (h : KeptForm s) {c : Cow} {leaf : Nat} : KeptForm (s.cowLeafPut c leaf) := h.dramPut

theorem KeptForm.freeAdvance (h : KeptForm s) {p : Nat} : KeptForm (s.freeAdvance p) := .ite h.wrapF.raiseBit h.wrapF

theorem KeptForm.freeTake {p n : Nat} (h : KeptForm s) : KeptForm (State.freeTake p n s).1 := by
  induction n generalizing s with
  | zero => exact h
  | succ n ih =>
    unfold State.freeTake
    extract_lets base k e s1
    have h1 : KeptForm s1 := h.freeAdvance
    exact .ite_fst h.pair (.ite_fst h1.pair (ih h1.countF))

theorem KeptForm.cowFree (h : KeptForm s) {id : Nat} {c : Cow} : KeptForm (s.cowFree id c) := by
  -- The equation of `State.cowFree` is too deep for the kernel to check, so its definition is put in as a whole.
  generalize hf : @State.cowFree = f
  delta State.cowFree at hf
  subst hf
  beta_reduce
  extract_lets n
  split
  next heq =>
    have h1 := h.freeTake.of_fst heq
    extract_lets c1 t
    split
    · exact h1
    · exact h1.setCow.newTag.unitSend
  next heq =>
    have h1 := h.freeTake.of_fst heq
    exact .ite h1.raiseBit.cowGiveUp h1.raiseBit.setCow

theorem KeptForm.cowAnswer (h : KeptForm s) {id status : Nat} {d : List Byte} : KeptForm (s.cowAnswer id status d) := by
  unfold State.cowAnswer
  split
  · exact h
  split
  · split
    · exact h.dropCow.cowFail
    · extract_lets +onlyGivenNames refs
      split
      next heq => exact (h.walk.of_fst heq).cowAtom.cowLeave
      next heq =>
        have h1 := h.walk.of_fst heq
        exact .ite h1.cowAtom.cowLeave (.ite h1.cowLeafPut.cowAtom.countF.cowLeave h1.cowFree)
  · exact .ite h.setF.setF.raiseBit.cowGiveUp h.setCow.cowAtom
  · split
    · exact h.cowGiveUp
    · extract_lets +onlyGivenNames leaf s1 c1 s2
      have h1 : KeptForm s1 := h.cowLeafPut.cowAtom.countF
      have h2 : KeptForm s2 := h1.setCow
      exact h2.frame
  · exact h

theorem KeptForm.startJob (h : KeptForm s) {kind : JobKind} {u : Nat} {part : Option Nat} {wr : Bool} {va len : Nat} {d : List Byte} {mask : Nat} :
    KeptForm (s.startJob kind u part wr va len d mask) := by
  unfold State.startJob
  extract_lets +onlyGivenNames j ps req mk r
  have hr : KeptForm r.1 := by
    refine KeptForm.foldl_fst h fun q x hq => ?_
    split
    · exact hq
    split
    next heq => exact KeptForm.of_fst hq.xlUnit heq
    next heq => exact KeptForm.of_fst hq.xlUnit heq
  clear_value r
  obtain ⟨t, ⟨q, e⟩ | l⟩ := r <;> change KeptForm t at hr
  · exact hr.frame.jobAnswer
  · exact hr.frame.foldl fun _ _ h' => .ite h'.unitGo (.ite h'.cowStart h'.jobReady)

theorem KeptForm.jobRelease (h : KeptForm s) {j : Nat} : KeptForm (s.jobRelease j) := by
  unfold State.jobRelease
  split
  · exact h
  split
  · exact h
  extract_lets +onlyGivenNames put
  split
  · exact h.frame
  extract_lets +onlyGivenNames r
  have hr : KeptForm r.1 := by
    refine KeptForm.foldl_fst h fun q x hq => ?_
    split
    · exact hq
    split
    next heq => exact KeptForm.of_fst hq.xlUnit heq
    next heq =>
      have h1 := KeptForm.of_fst hq.xlUnit heq
      split
      · split
        · exact .ite h1 h1.portErr
        · exact h1
      · exact h1
  clear_value r
  obtain ⟨t, ⟨q, e⟩ | l⟩ := r <;> change KeptForm t at hr
  · exact hr.frame.jobAnswer
  · exact hr.frame.foldl fun _ _ h' => h'.unitGo

/-! Streams -/

theorem KeptForm.pumpOne (h : KeptForm s) {i sid : Nat} : KeptForm (s.pumpOne i sid).1 := by
  unfold State.pumpOne
  split
  · exact h.pair
  split
  · exact .ite_fst h.setStream.pair h.pair
  extract_lets +onlyGivenNames wr
  split
  · exact h.pair
  split
  next heq => exact (h.xlCore.of_fst heq).failStream.coreMemFault.pair
  next heq =>
    have h1 := h.xlCore.of_fst heq
    extract_lets +onlyGivenNames dpa
    exact .ite_fst h1.failStream.progFault.pair (KeptForm.ite (.ite h1.setStream.cowStart h1.setStream.coreStore) h1.setStream.coreLoad).pair

theorem KeptForm.pumpStream {i sid n : Nat} (h : KeptForm s) : KeptForm (pumpStream i sid n s) := by
  induction n generalizing s with
  | zero => exact h
  | succ n ih =>
    unfold Machine.pumpStream
    split
    next heq => exact ih (h.pumpOne.of_fst heq)
    next heq => exact h.pumpOne.of_fst heq

theorem KeptForm.pumpCore (h : KeptForm s) {i : Nat} : KeptForm (s.pumpCore i) :=
  h.foldl fun _ _ h' => .ite h' h'.pumpStream

theorem KeptForm.pumpAll (h : KeptForm s) : KeptForm s.pumpAll := h.foldl fun _ _ h' => h'.pumpCore

theorem KeptForm.stEnter (h : KeptForm s) {i : Nat} {w : Word64} {op : Nat} {d : StDesc} : KeptForm (s.stEnter i w op d) := by
  unfold State.stEnter
  extract_lets +onlyGivenNames sr n0 s1 base src aux _ s2 c x x'
  have h1 : KeptForm s1 := .ite h.setF h
  have h2 : KeptForm s2 := .ite (.ite (h1.foldl fun _ _ h' => h'.lsNote).lsNote (h1.foldl fun _ _ h' => h'.lsNote)) h1
  exact h2.setCore.pumpCore

theorem KeptForm.stIssue (h : KeptForm s) {i : Nat} {w : Word64} {op : Nat} : NextKept (stIssue i w s op) := by
  unfold Machine.stIssue
  split
  · exact h.next
  extract_lets +onlyGivenNames a top
  split
  · exact h.progFault.next
  extract_lets +onlyGivenNames b s0
  have h1 : KeptForm s0 := h.lsNote
  split
  · exact h1.next
  extract_lets +onlyGivenNames d
  split
  · exact h1.progFault.next
  split
  · exact h1.progFault.next
  · exact h1.stEnter.nextPc.next

theorem KeptForm.execStmark (h : KeptForm s) {i : Nat} {w : Word64} : NextKept (execStmark i w s) :=
  h.issue fun _ h' => h'.setCore.nextPc

theorem KeptForm.execStmarkDone (h : KeptForm s) {i : Nat} : NextKept (execStmarkDone i s) := by
  unfold Machine.execStmarkDone
  split
  · exact .ite h.setCore.tallyAdd.pumpCore.next h.next
  · exact h.next

theorem KeptForm.stLand (h : KeptForm s) {i : Nat} {x : CoreStream} {d aux : List Nat} : KeptForm (s.stLand i x d aux) :=
  .ite (h.foldl fun _ _ h' => h'.lsPut).lsPut (h.foldl fun _ _ h' => h'.lsPut)

theorem KeptForm.execStreamComplete (h : KeptForm s) {i sid : Nat} : NextKept (execStreamComplete i sid s) := by
  unfold Machine.execStreamComplete
  split
  · exact h.next
  refine .ite h.next ?_
  extract_lets s1 r s2 s3 s4 s5
  have h1 : KeptForm s1 := h.killStream
  have h2 : KeptForm s2 := .ite h1.stLand.addFlags (.ite h1.addFlags h1)
  have h3 : KeptForm s3 := h2.countF
  have h4 : KeptForm s4 := .ite h3.tallyAdd h3
  have h5 : KeptForm s5 := .ite h4.signal h4
  exact h5.pumpCore.next

/-! The vector unit -/

theorem KeptForm.vxIssue (h : KeptForm s) {op i : Nat} {w : Word64} : NextKept (vxIssue op i w s) :=
  h.issue fun _ h' => h'.setCore.nextPc

theorem KeptForm.vxRetire (h : KeptForm s) {i slot : Nat} {e : VxEntry} : KeptForm (vxRetire i slot e s) := by
  unfold Machine.vxRetire
  extract_lets +onlyGivenNames c c1 op s1
  have h1 : KeptForm s1 := h.countF
  exact .ite h1.setCore.lsPut (.ite h1.setCore.addFlags (.ite h1.setCore.addFlags.lsNote h1.setCore.addFlags))

/-! Programs and voyages -/

theorem KeptForm.execSywait (h : KeptForm s) {i : Nat} {w : Word64} : NextKept (execSywait i w s) :=
  h.issue fun _ h' => h'.setCore

theorem KeptForm.execSywaitSatisfied (h : KeptForm s) {i cycles : Nat} : NextKept (execSywaitSatisfied i cycles s) := by
  unfold Machine.execSywaitSatisfied
  extract_lets +onlyGivenNames c
  split
  · exact .ite h.setF.setCore.countF.nextPc.next h.next
  · exact h.next

theorem KeptForm.execSysig (h : KeptForm s) {i : Nat} {w : Word64} : NextKept (execSysig i w s) :=
  h.issue fun _ h' => h'.signal.nextPc

theorem KeptForm.execSyfence (h : KeptForm s) {i : Nat} {w : Word64} : NextKept (execSyfence i w s) :=
  h.issue fun _ h' => h'.setCore

theorem KeptForm.execSyfenceSatisfied (h : KeptForm s) {i cycles : Nat} : NextKept (execSyfenceSatisfied i cycles s) :=
  .ite h.setCore.countF.nextPc.next h.next

theorem KeptForm.execSyset (h : KeptForm s) {i : Nat} {w : Word64} : NextKept (execSyset i w s) :=
  h.issue fun _ h' => h'.setF.nextPc

theorem KeptForm.execVmarkDone (h : KeptForm s) {i : Nat} : NextKept (execVmarkDone i s) := by
  unfold Machine.execVmarkDone
  extract_lets +onlyGivenNames c
  split
  · exact .ite h.setCore.tallyAdd.next h.next
  · exact h.next

theorem KeptForm.execVxInstructionRetire (h : KeptForm s) {i slot cycle : Nat} {banks : List BankCycle} :
    NextKept (execVxInstructionRetire i slot cycle banks s) := by
  unfold Machine.execVxInstructionRetire
  extract_lets +onlyGivenNames c
  split
  · exact h.next
  · exact .ite h.next (.ite h.setCore.next (KeptForm.ite h (.ite h.setCore.limiterTake h.setCore)).vxRetire.lsContests.next)

theorem KeptForm.launch (h : KeptForm s) {i : Nat} : KeptForm (s.launch i) :=
  .ite h (h.setCore.foldl fun _ _ h' => h'.setF).setWord.setF.setF.setF.setCoreSt

theorem KeptForm.execVoyageLaunch (h : KeptForm s) {who : Requester} {i : Nat} {value : Word} : NextKept (execVoyageLaunch who i value s) :=
  .ite (h.trigger fun _ h' => .ite h'.progFault h'.launch) h.next

theorem KeptForm.execVoyageAbort (h : KeptForm s) {who : Requester} {i : Nat} {value : Word} : NextKept (execVoyageAbort who i value s) :=
  .ite (h.trigger fun _ h' => .ite h'.launch (.ite h'.progFault h')) h.next

theorem KeptForm.countHeld (h : KeptForm s) {i held : Nat} : KeptForm (s.countHeld i held) := by
  unfold State.countHeld
  extract_lets +onlyGivenNames c s1
  have h1 : KeptForm s1 := by
    unfold s1
    split
    · exact h.countF
    · exact h.countF
    · exact h
  split
  · exact .ite h1.countF h1
  · exact h1

theorem KeptForm.execCoreFaulted (h : KeptForm s) {i held : Nat} : NextKept (execCoreFaulted i held s) := by
  unfold Machine.execCoreFaulted
  extract_lets +onlyGivenNames s c
  have h1 : KeptForm s := h.countHeld
  split
  · exact h.next
  · exact .ite h.next h1.setCoreSt.setF.setF.setF.setF.postCore.next

theorem KeptForm.execWatchdogHang (h : KeptForm s) {i : Nat} : NextKept (execWatchdogHang i s) :=
  .ite h.progFault.next h.next

theorem KeptForm.toStep6 (h : KeptForm s) : KeptForm s.toStep6 := by
  unfold State.toStep6
  split
  · exact h.advanceTo
  · exact h

theorem KeptForm.corePeek (h : KeptForm s) {i va len : Nat} : KeptForm (s.corePeek i va len).1 := by
  refine KeptForm.foldl_fst h fun q x hq => ?_
  split
  · exact hq
  split
  next heq => exact KeptForm.of_fst hq.xlCore heq
  next heq =>
    have h1 := KeptForm.of_fst hq.xlCore heq
    split
    next heq => exact h1.readDpa.of_fst heq
    next heq => exact h1.readDpa.of_fst heq

theorem KeptForm.fetchProgram (h : KeptForm s) {i k : Nat} : KeptForm (s.fetchProgram i k).1 := by
  change KeptFst (s.fetchProgram i k)
  -- The equation of `State.fetchProgram` is too deep for the kernel to check, so its definition is put in as a whole.
  generalize hf : @State.fetchProgram = f
  delta State.fetchProgram at hf
  subst hf
  beta_reduce
  extract_lets n entry table
  split
  next heq => exact (h.corePeek.of_fst heq).fst
  next heq =>
    have h1 := h.corePeek.of_fst heq
    refine .ite h1.fst ?_
    split
    next heq => exact (h1.corePeek.of_fst heq).fst
    next heq => exact (h1.corePeek.of_fst heq).fst

theorem KeptForm.execProgramFetchComplete (h : KeptForm s) {i : Nat} : NextKept (execProgramFetchComplete i s) := by
  unfold Machine.execProgramFetchComplete
  split
  · exact h.fetchProgram.setCore.next
  · exact h.next

theorem KeptForm.execProgramStart (h : KeptForm s) {i stall : Nat} : NextKept (execProgramStart i stall s) := by
  unfold Machine.execProgramStart
  extract_lets +onlyGivenNames st
  split
  · exact h.next
  extract_lets +onlyGivenNames k
  split
  · exact .ite h.toStep6.countF.setF.progFault.next h.next
  · exact .ite h.next h.toStep6.setCore.countF.setF.setCoreSt.next
  · exact h.next

theorem KeptForm.execBerthComplete (h : KeptForm s) {i : Nat} : NextKept (execBerthComplete i s) := by
  unfold Machine.execBerthComplete
  extract_lets +onlyGivenNames c
  split
  · exact .ite (.ite h.setCore.setF.setF.setCore.setCoreSt.postCore.next h.setCore.setF.setF.setCoreSt.next) h.next
  · exact h.next

theorem KeptForm.setSplit (h : KeptForm s) {i v : Nat} : KeptForm (s.setSplit i v) := .ite h h.setF.takeFree.setCore

theorem KeptForm.execLocalStoreSplitChange (h : KeptForm s) {who : Requester} {i : Nat} {value : Word} :
    NextKept (execLocalStoreSplitChange who i value s) :=
  h.trigger fun _ h' => h'.setSplit

/-! The host port -/

theorem KeptForm.setCfg (h : KeptForm s) {f : Nat} {c : FnCfg} : KeptForm (s.setCfg f c) := h.frame

theorem KeptForm.aerUr (h : KeptForm s) {f bar off len : Nat} : KeptForm (s.aerUr f bar off len) := h.setCfg

theorem KeptForm.aerAdvisory (h : KeptForm s) {f bar off len : Nat} : KeptForm (s.aerAdvisory f bar off len) := h.setCfg

theorem KeptForm.msixOut (h : KeptForm s) {f v : Nat} : KeptForm (s.msixOut f v) := h.frame

theorem KeptForm.sendMsix (h : KeptForm s) {f v : Nat} : KeptForm (s.sendMsix f v) :=
  .ite h (.ite h.msixOut (.ite h h.frame))

theorem KeptForm.msixFlush (h : KeptForm s) {f : Nat} : KeptForm (s.msixFlush f) :=
  h.foldl fun _ _ h' => h'.frame.msixOut

theorem KeptForm.msixWrite (h : KeptForm s) {f off v : Nat} : KeptForm (s.msixWrite f off v) := h.frame.msixFlush

theorem KeptForm.atcDrop (h : KeptForm s) {mine : Nat → Bool} : KeptForm (s.atcDrop mine) := h.frame

theorem KeptForm.cfgWrite (h : KeptForm s) {f a v : Nat} : KeptForm (s.cfgWrite f a v) :=
  (KeptForm.ite h.setCfg h.setCfg.atcDrop).msixFlush

theorem KeptForm.cfgClear (h : KeptForm s) {mine : Nat → Bool} : KeptForm (s.cfgClear mine) := h.frame.atcDrop

theorem KeptForm.atsAsk (h : KeptForm s) {order f a : Nat} {wr : Bool} : KeptForm (s.atsAsk order f a wr) := h.frame

theorem KeptForm.atcPut (h : KeptForm s) {e : AtcEntry} : KeptForm (s.atcPut e) := h.frame

/-! Host queues -/

theorem KeptForm.quStop (h : KeptForm s) {q err : Nat} : KeptForm (s.quStop q err) := by
  unfold State.quStop
  extract_lets +onlyGivenNames s1
  have h1 : KeptForm s1 := h.setF.setF
  split
  · exact h1.raiseBit
  · exact h1

theorem KeptForm.ringEntry (h : KeptForm s) {q idx : Nat} : KeptForm (s.ringEntry q idx).1 := by
  unfold State.ringEntry
  split
  · exact h.pair
  extract_lets +onlyGivenNames size base
  split
  next heq => exact (h.peek.of_fst heq).pair
  next heq =>
    have h1 := h.peek.of_fst heq
    exact .ite_fst h1.pair h1.pair

theorem KeptForm.setOrder (h : KeptForm s) {id : Nat} {o : Order} : KeptForm (s.setOrder id o) := h.frame

/-- The head of a queue is read through its translation, and the state that read leaves has the form. -/
theorem KeptForm.headReady (h : KeptForm s) {q : Nat} {r : State × Except (Nat × Nat) (List Nat) × Bool}
    (e : s.headReady q = some r) : KeptForm r.1 := by
  unfold State.headReady at e
  split at e
  · exact nomatch e
  extract_lets io at e
  split at e
  · exact nomatch e
  split at e
  next heq =>
    cases e
    exact h.ringEntry.of_fst heq
  next heq =>
    extract_lets a at e
    split at e
    · cases e
      exact h.ringEntry.of_fst heq
    · exact nomatch e

theorem KeptForm.quiesceCheck (h : KeptForm s) {p : Nat} : KeptForm (s.quiesceCheck p) := .ite h.raiseBit h

theorem KeptForm.orderEnd (h : KeptForm s) {id : Nat} {o : Order} {st0 kind : Nat} : KeptForm (s.orderEnd id o st0 kind) := by
  unfold State.orderEnd
  extract_lets q ring ev wants st err _ s1 s2 s3
  have h1 : KeptForm s1 := h.frame.wrapF
  have h2 : KeptForm s2 := .ite h1.quStop h1
  have h3 : KeptForm s3 := .ite h2.postTo h2
  exact h3.quiesceCheck

theorem KeptForm.dispatch (h : KeptForm s) {q : Nat} {r : Except (Nat × Nat) (List Nat)} {late : Bool} : KeptForm (s.dispatch q r late) := by
  unfold State.dispatch
  extract_lets +onlyGivenNames g raw done o id _ s1 s2 _ s3
  have h1 : KeptForm s1 := h.frame.setOrder.wrapF
  have h2 : KeptForm s2 := .ite h1.countF h1
  have h3 : KeptForm s3 := h2.frame
  exact .ite h3.orderEnd h3

theorem KeptForm.dispatchFirst (h : KeptForm s) {l : List Nat} {t : State}
    (e : s.dispatchFirst l = some t) : KeptForm t := by
  induction l with
  | nil => cases e
  | cons q l ih =>
    unfold State.dispatchFirst at e
    split at e
    next heq =>
      cases e
      exact (h.headReady heq).dispatch
    · exact ih e

theorem KeptForm.dispatchRound {io n : Nat} (h : KeptForm s) : KeptForm (dispatchRound io n s) := by
  induction n generalizing s with
  | zero => exact h
  | succ n ih =>
    unfold Machine.dispatchRound
    split
    next heq => exact ih (h.dispatchFirst heq)
    · exact h

theorem KeptForm.roundOf (h : KeptForm s) {io : Nat} : KeptForm (s.roundOf io) := h.dispatchRound

theorem KeptForm.dispatchRounds (h : KeptForm s) : KeptForm s.dispatchRounds := h.roundOf.roundOf

theorem KeptForm.dispatchNow (h : KeptForm s) {queue : Nat} {want : Except (Nat × Nat) (List Nat) → Bool} : KeptForm (s.dispatchNow queue want) := by
  unfold State.dispatchNow
  extract_lets s1
  have h1 : KeptForm s1 := .ite h.toStep6 h
  split
  · exact h
  next heq => exact .ite (h1.headReady heq).dispatch h

theorem KeptForm.execWorkOrderDispatch (h : KeptForm s) {queue : Nat} : NextKept (execWorkOrderDispatch queue s) :=
  h.dispatchNow.next

theorem KeptForm.execNop (h : KeptForm s) {queue : Nat} : NextKept (execNop queue s) := h.dispatchNow.next

theorem KeptForm.execEvent (h : KeptForm s) {queue : Nat} : NextKept (execEvent queue s) := h.dispatchNow.next

theorem KeptForm.execSignal (h : KeptForm s) {order : Nat} : NextKept (execSignal order s) := by
  unfold Machine.execSignal
  split
  · split
    · exact h.setOrder.next
    · exact .ite h.setOrder.next h.extSend.setOrder.next
  · exact h.next

theorem KeptForm.launchRecord (h : KeptForm s) {i : Nat} {r : List Nat} {l : Nat} : KeptForm (s.launchRecord i r l) :=
  .ite h.setF.setF.setF.setF.setF.setF.setF.setF.setSplit.store.launch h.store

theorem KeptForm.execLaunch (h : KeptForm s) {order : Nat} : NextKept (execLaunch order s) := by
  unfold Machine.execLaunch
  split
  · exact h.next
  split
  · exact h.next
  split
  · exact (KeptForm.foldl_fst h.pair fun _ _ hq => hq.launchRecord.pair).setOrder.next
  extract_lets n
  split
  next heq => exact (h.peek.of_fst heq).setOrder.next
  next heq =>
    extract_lets rs
    split
    · exact (h.peek.of_fst heq).setOrder.next
    · exact (h.peek.of_fst heq).setOrder.next

theorem KeptForm.orderJob (h : KeptForm s) {id : Nat} {o : Order} {off : Nat} {wr : Bool} {va : Nat} {d : List Byte} {len : Nat} :
    KeptForm (s.orderJob id o off wr va d len) :=
  h.startJob

theorem KeptForm.copyMove (h : KeptForm s) {id : Nat} : KeptForm (s.copyMove id).1 := by
  unfold State.copyMove
  split
  · exact h.pair
  split
  · exact h.pair
  split
  · exact .ite_fst h.setOrder.pair h.pair
  extract_lets +onlyGivenNames src dst len sp
  split
  · extract_lets +onlyGivenNames dest
    split
    · split
      · refine KeptForm.pair ?_
        extract_lets +onlyGivenNames src
        have h1 : KeptForm src := h.setOrder
        exact h1.frame
      · exact h.atsAsk.pair
      · exact h.pair
    · exact h.setOrder.orderJob.pair
  · split
    · extract_lets +onlyGivenNames n s1
      have h1 : KeptForm s1 := h.setOrder
      extract_lets +onlyGivenNames from_
      split
      · split
        · exact h1.frame.pair
        · exact h.atsAsk.pair
        · exact h.pair
      · exact h1.orderJob.pair
    · exact .ite_fst h.setOrder.pair h.pair

theorem KeptForm.writeMove (h : KeptForm s) {id : Nat} : KeptForm (s.writeMove id) := by
  unfold State.writeMove
  split
  · exact .ite h.setOrder h
  · exact h

theorem KeptForm.jobSettle (h : KeptForm s) {j : Nat} : KeptForm (s.jobSettle j) := by
  unfold State.jobSettle
  extract_lets +onlyGivenNames s
  have h1 : KeptForm s := h.jobRelease
  split
  · exact h1
  split
  · exact h1
  extract_lets +onlyGivenNames _ s1 d
  have h2 : KeptForm s1 := h1.frame
  split
  · exact .ite (.ite (KeptForm.ite h2.countF h2).aerAdvisory (.ite h2.countF h2)) (KeptForm.ite h2.countF h2).frame
  · exact (KeptForm.ite h2 h2.countF.setF.setF.setF.setF).mtSend
  · exact h2
  split
  · exact h2
  extract_lets +onlyGivenNames o1
  split
  · exact h2.setOrder
  · exact h2.setOrder

theorem KeptForm.jobsSettle (h : KeptForm s) : KeptForm s.jobsSettle := h.foldl fun _ _ h' => h'.jobSettle

theorem KeptForm.copyPump {id n : Nat} (h : KeptForm s) : KeptForm (copyPump id n s) := by
  induction n generalizing s with
  | zero => exact h
  | succ n ih =>
    unfold Machine.copyPump
    split
    next heq => exact ih (h.copyMove.of_fst heq).jobsSettle
    next heq => exact h.copyMove.of_fst heq

theorem KeptForm.startHeld (h : KeptForm s) : KeptForm s.startHeld := h.frame.foldl fun _ _ h' => h'.startJob

theorem KeptForm.settle (h : KeptForm s) : KeptForm s.settle :=
  (h.jobsSettle.startHeld.jobsSettle.foldl fun _ _ h' => h'.copyPump.writeMove).pumpAll

theorem KeptForm.execCopy (h : KeptForm s) {order : Nat} : NextKept (execCopy order s) := by
  unfold Machine.execCopy
  split
  · exact h.setOrder.settle.next
  · exact h.next

theorem KeptForm.execWrite (h : KeptForm s) {order : Nat} : NextKept (execWrite order s) := by
  unfold Machine.execWrite
  split
  · exact h.setOrder.orderJob.settle.next
  · exact h.next

theorem KeptForm.execWorkOrderComplete (h : KeptForm s) {order : Nat} : NextKept (execWorkOrderComplete order s) := by
  unfold Machine.execWorkOrderComplete
  split
  · split
    · exact h.orderEnd.next
    · exact h.next
  · exact h.next

theorem KeptForm.orderFail (h : KeptForm s) {id st : Nat} : KeptForm (s.orderFail id st) := by
  unfold State.orderFail
  split
  · exact h.setOrder
  · exact h

theorem KeptForm.atsAnswer (h : KeptForm s) {tag fn page order : Nat} {wr ok : Bool} {data : List Byte} :
    KeptForm (s.atsAnswer tag fn page order wr ok data) :=
  .ite h.frame.countF.orderFail (.ite h.frame.atcPut h.frame.atcPut.orderFail)

theorem KeptForm.execHostCompletion (h : KeptForm s) {tag : Nat} {ok : Bool} {data : List Byte} : NextKept (execHostCompletion tag ok data s) := by
  unfold Machine.execHostCompletion
  split
  · exact h.atsAnswer.settle.next
  split
  · exact h.next
  extract_lets +onlyGivenNames _ s0 s1
  have h1 : KeptForm s0 := h.frame
  have h2 : KeptForm s1 := .ite h1 h1.countF
  split
  · exact h2.next
  · exact .ite h2.setOrder.settle.next h2.setOrder.settle.next

theorem KeptForm.doorbellDrop (h : KeptForm s) {fn q : Nat} : KeptForm (s.doorbellDrop fn q) :=
  h.countF.setF.setF.setF.setF

theorem KeptForm.execDoorbell (h : KeptForm s) {fn queue : Nat} {value : Word} : NextKept (execDoorbell fn queue value s) :=
  .ite h.next (.ite h.doorbellDrop.next (.ite h.quStop.next h.setF.frame.next))

theorem KeptForm.execQueueResume (h : KeptForm s) {who : Requester} {queue : Nat} {value : Word} : NextKept (execQueueResume who queue value s) :=
  .ite h.next (h.trigger fun _ h' => .ite h'.setF.setF h')

/-! Current, energy and frequency -/

theorem KeptForm.writeTokCap (h : KeptForm s) : KeptForm s.writeTokCap := .ite (h.foldl fun _ _ h' => h'.setF) h

theorem KeptForm.markLevel (h : KeptForm s) : KeptForm s.markLevel := h.frame

theorem KeptForm.showLevel (h : KeptForm s) : KeptForm s.showLevel := h.setF.setF.setF.setF

theorem KeptForm.showOrder (h : KeptForm s) {oldMem : Nat} : KeptForm (s.showOrder oldMem) :=
  .ite h.showLevel h.showLevel.writeTokCap

theorem KeptForm.setLevel (h : KeptForm s) {g : ℤ} : KeptForm (s.setLevel g) :=
  .ite h.markLevel.frame.showLevel h.markLevel.frame.showLevel.writeTokCap

theorem KeptForm.closeWindow (h : KeptForm s) : KeptForm s.closeWindow := .ite h h.frame

theorem KeptForm.govern (h : KeptForm s) {e len : Nat} : KeptForm (s.govern e len) :=
  .ite h.setLevel (.ite h.setLevel h.setLevel)

theorem KeptForm.execGovernorWindow (h : KeptForm s) : NextKept (execGovernorWindow s) :=
  h.advanceTo.closeWindow.govern.next

theorem KeptForm.execEnergySample (h : KeptForm s) {links mem comp : Nat} : NextKept (execEnergySample links mem comp s) :=
  h.advanceTo.frame.setF.setF.next

theorem KeptForm.execEnergyTotalRead (h : KeptForm s) {who : Requester} : NextKept (execEnergyTotalRead who s) :=
  .ite h.next (.ite h.readDropped.next h.frame.next)

theorem KeptForm.aim (h : KeptForm s) {c v : Nat} : KeptForm (s.aim c v) := .ite h h.setF.setF

theorem KeptForm.leadRise (h : KeptForm s) {d f : Nat} : KeptForm (s.leadRise d f) := h.foldl fun _ _ h' => h'.aim

theorem KeptForm.lead (h : KeptForm s) {d : Nat} : KeptForm (s.lead d) := h.leadRise

theorem KeptForm.setStep (h : KeptForm s) {d f : Nat} : KeptForm (s.setStep d f) :=
  .ite (h.setF.foldl fun _ _ h' => h'.aim) h.setF

theorem KeptForm.freqAtTick (h : KeptForm s) {d : Nat} : KeptForm (s.freqAtTick d) :=
  .ite h.setStep (.ite h.setStep h.orF.countF.leadRise)

theorem KeptForm.execFreqRequest (h : KeptForm s) {who : Requester} {die : Nat} {value : Word} : NextKept (execFreqRequest who die value s) :=
  .ite h.next (h.trigger fun _ h' => h'.store.lead)

theorem KeptForm.execSetpointReached (h : KeptForm s) {cluster : Nat} : NextKept (execSetpointReached cluster s) :=
  h.setF.next

theorem KeptForm.execStoppedFrequencyChange (h : KeptForm s) {die : Nat} : NextKept (execStoppedFrequencyChange die s) :=
  .ite h.next (.ite h.setStep.next h.leadRise.next)

theorem KeptForm.accountClose (h : KeptForm s) : KeptForm s.accountClose := by
  unfold State.accountClose
  extract_lets +onlyGivenNames s g p e nrm ramp prev above below rampHit capOver s1 s2 s3 s4 s5 s6 s7 s8 s9
  have h1 : KeptForm s := h.closeWindow.markLevel
  have h2 : KeptForm s1 := h1.orF
  have h3 : KeptForm s2 := h2.orF
  have h4 : KeptForm s3 := h3.orF
  have h5 : KeptForm s4 := h4.orF
  have h6 : KeptForm s5 := h5.orF
  have h7 : KeptForm s6 := h6.countF.countF
  have h8 : KeptForm s7 := h7.setF.setF.setF.setF
  have h9 : KeptForm s8 := h8.setF.setF.setF.setF
  have h10 : KeptForm s9 := h9.setF
  exact h10.frame

theorem KeptForm.orbitBounds (h : KeptForm s) {ramps : Bool} : KeptForm (s.orbitBounds ramps) :=
  .ite (.ite h.frame.setF.setF.setF h.frame.setF.setF.setF.orF) h.frame.setF.setF.setF

theorem KeptForm.execEnergyCtrlWrite (h : KeptForm s) {who : Requester} {value : Word} : NextKept (execEnergyCtrlWrite who value s) :=
  h.trigger fun _ h' => .ite (KeptForm.ite h'.store.setLevel h'.store).orbitBounds (.ite h'.store.setLevel h'.store)

theorem KeptForm.setCeilGov (h : KeptForm s) {v : Nat} : KeptForm (s.setCeilGov v) := h.foldl fun _ _ h' => h'.setF

theorem KeptForm.ceilDown (h : KeptForm s) {trim2 len : Nat} : KeptForm (s.ceilDown trim2 len) :=
  (KeptForm.ite h.setCeilGov h).foldl fun _ _ h' => .ite h'.setF h'

theorem KeptForm.ceilUp (h : KeptForm s) {anyTrim : Bool} : KeptForm (s.ceilUp anyTrim) :=
  ((KeptForm.ite h.setCeilGov h).foldl fun _ _ h' => .ite h'.setF h').foldl fun _ _ h' => h'.lead

theorem KeptForm.execPcapAssert (h : KeptForm s) {dt low : Nat} : NextKept (execPcapAssert dt low s) :=
  .ite h.advance.frame.next h.advance.frame.setF.orF.frame.showLevel.next

theorem KeptForm.pcapEnd (h : KeptForm s) : KeptForm s.pcapEnd := h.setF.orF.frame.showLevel.foldl fun _ _ h' => h'.lead

theorem KeptForm.execPcapRelease (h : KeptForm s) {dt : Nat} : NextKept (execPcapRelease dt s) := by
  unfold Machine.execPcapRelease
  extract_lets s1 _ s2
  have h2 : KeptForm s2 := h.advance.advanceTo.frame
  exact .ite h2.next (.ite (h2.foldl fun _ _ h' => h'.lead).next h2.pcapEnd.next)

theorem KeptForm.pcapAtTick4 (h : KeptForm s) : KeptForm s.pcapAtTick4 := .ite h.pcapEnd h

theorem KeptForm.pcapAtTick5 (h : KeptForm s) : KeptForm s.pcapAtTick5 := .ite h.frame.setLevel h

/-! Events and host rows -/

theorem KeptForm.execBar2Read (h : KeptForm s) {fn tag off len : Nat} : NextKept (execBar2Read fn tag off len s) :=
  .ite h.next (.ite h.frame.settle.next h.countF.frame.next)

theorem KeptForm.execBar2Write (h : KeptForm s) {fn off : Nat} {data : List Byte} {mask : Nat} : NextKept (execBar2Write fn off data mask s) :=
  .ite h.next (.ite h.startJob.settle.next h.countF.aerUr.next)

theorem KeptForm.execQueueEnable (h : KeptForm s) {who : Requester} {queue : Nat} {value : Word} : NextKept (execQueueEnable who queue value s) :=
  .ite (h.triggerM fun _ _ h' => h'.store.setF.setF.setF.setF.setF) h.next

theorem KeptForm.ringMsg (h : KeptForm s) {e : Nat} : KeptForm (s.ringMsg e) := h.sendMsix

theorem KeptForm.ringIrq (h : KeptForm s) {e : Nat} : KeptForm (s.ringIrq e) := by
  unfold State.ringIrq
  split
  · exact h.ringMsg
  extract_lets +onlyGivenNames r
  split
  · exact h.setRing
  · exact h.setRing.ringMsg

theorem KeptForm.execEventHeadAdvance (h : KeptForm s) {who : Requester} {ring : Nat} {value : Word} :
    NextKept (execEventHeadAdvance who ring value s) :=
  .ite (h.trigger fun _ h' => .ite h'.store.ringKick h'.store) h.next

theorem KeptForm.execMsixHoldoffExpiry (h : KeptForm s) {ring : Nat} : NextKept (execMsixHoldoffExpiry ring s) := by
  unfold Machine.execMsixHoldoffExpiry
  extract_lets +onlyGivenNames r
  split
  · exact h.next
  · exact .ite h.advanceTo.setRing.ringMsg.next h.advanceTo.setRing.next

theorem KeptForm.execEventEnableWrite (h : KeptForm s) {who : Requester} {page : Nat} {value : Word} :
    NextKept (execEventEnableWrite who page value s) := by
  unfold Machine.execEventEnableWrite
  exact h.trigger fun _ h' => .ite h'.store.postBlock h'.store

theorem KeptForm.ringOff (h : KeptForm s) {e : Nat} : KeptForm (s.ringOff e) := h.setF.frame.setF

theorem KeptForm.dropFunctions (h : KeptForm s) {mine : Nat → Bool} : KeptForm (s.dropFunctions mine) := by
  unfold State.dropFunctions
  extract_lets +onlyGivenNames qs es s1 s2
  have h1 : KeptForm s1 := h.foldl fun _ _ h' => h'.setF
  have h2 : KeptForm s2 := h1.foldl fun _ _ h' => h'.ringOff
  exact h2.frame

theorem KeptForm.execFlr (h : KeptForm s) {fn : Nat} : NextKept (execFlr fn s) :=
  .ite h.dropFunctions.cfgClear.next h.next

theorem KeptForm.execHostPortReset (h : KeptForm s) {port : Nat} : NextKept (execHostPortReset port s) :=
  .ite h.next h.dropFunctions.cfgClear.setWord.frame.next

theorem KeptForm.portTrain (h : KeptForm s) {port : Nat} : KeptForm (s.portTrain port) := by
  unfold State.portTrain
  split
  · exact .ite h.setF.setF.setF h
  · exact h

theorem KeptForm.portsTrain (h : KeptForm s) : KeptForm s.portsTrain := h.foldl fun _ _ h' => h'.portTrain

theorem KeptForm.execPerstRelease (h : KeptForm s) {port rate : Nat} {x8 : Bool} : NextKept (execPerstRelease port rate x8 s) :=
  .ite h.frame.portTrain.next h.next

theorem KeptForm.execMgmt (h : KeptForm s) {who : Requester} {port : Nat} {value : Word} : NextKept (execMgmt who port value s) :=
  .ite (h.trigger fun _ h' => h'.foldl fun _ _ h'' => h''.setF) h.next

theorem KeptForm.execAtsInvalidation (h : KeptForm s) {port fn addr pages tag : Nat} : NextKept (execAtsInvalidation port fn addr pages tag s) :=
  .ite h.frame.next h.next

theorem KeptForm.bar4Write (h : KeptForm s) {f a : Nat} {v : Word} : KeptForm (s.bar4Write f a v) :=
  .ite (.ite h.execDoorbell.nextOr h) (.ite h.msixWrite h)

theorem KeptForm.prtShow (h : KeptForm s) {p : Nat} : KeptForm (s.prtShow p) :=
  .ite h (.ite h.setPgState.quiesceCheck h.setPgState)

theorem KeptForm.execPartitionRowsWrite (h : KeptForm s) {who : Requester} {part : Nat} {high : Bool} {value : Word} :
    NextKept (execPartitionRowsWrite who part high value s) :=
  .ite h.next (h.trigger fun _ h' => .ite h'.store.prtShow h')

theorem KeptForm.execPartitionEnable (h : KeptForm s) {who : Requester} {part : Nat} {value : Word} :
    NextKept (execPartitionEnable who part value s) :=
  .ite h.next (h.trigger fun _ h' => h'.store.prtShow)

theorem KeptForm.execQuiesceReq (h : KeptForm s) {who : Requester} {part : Nat} {value : Word} : NextKept (execQuiesceReq who part value s) :=
  .ite h.next (h.trigger fun _ h' => h'.store.prtShow)

/-! Links -/

theorem KeptForm.toLnk (h : KeptForm s) {n st : Nat} : KeptForm (s.toLnk n st) :=
  .ite h.setPgState.setLink.setF h.setPgState.setLink

theorem KeptForm.sinkLink (h : KeptForm s) {n : Nat} : KeptForm (s.sinkLink n) :=
  (h.foldl fun _ _ h' => h'.countF).frame.setLink

theorem KeptForm.linkFail (h : KeptForm s) {n cause : Nat} : KeptForm (s.linkFail n cause) := h.sinkLink.setF.toLnk

theorem KeptForm.linkWake (h : KeptForm s) {n : Nat} : KeptForm (s.linkWake n) := .ite h.setF.toLnk h

theorem KeptForm.execLinkEnable (h : KeptForm s) {who : Requester} {link : Nat} {value : Word} : NextKept (execLinkEnable who link value s) :=
  h.trigger fun _ h' => h'.store.linkWake

theorem KeptForm.execLinkDisable (h : KeptForm s) {who : Requester} {link : Nat} {value : Word} : NextKept (execLinkDisable who link value s) :=
  h.trigger fun _ h' => .ite h'.store h'.store.sinkLink.toLnk

theorem KeptForm.startTraining (h : KeptForm s) {n : Nat} : KeptForm (s.startTraining n) := h.toLnk.setLink

theorem KeptForm.execSidebandUp (h : KeptForm s) {link : Nat} : NextKept (execSidebandUp link s) :=
  .ite h.startTraining.next h.next

theorem KeptForm.execSbTimeout (h : KeptForm s) {link : Nat} : NextKept (execSbTimeout link s) :=
  .ite h.advanceTo.linkFail.next h.next

theorem KeptForm.execMainbandTrained (h : KeptForm s) {link : Nat} {fromRecord : Bool} {repaired : Nat} :
    NextKept (execMainbandTrained link fromRecord repaired s) :=
  .ite h.setF.setF.setF.setF.setF.setF.setLink.toLnk.next h.next

theorem KeptForm.execMbTrainTimeout (h : KeptForm s) {link : Nat} : NextKept (execMbTrainTimeout link s) := by
  unfold Machine.execMbTrainTimeout
  split
  · extract_lets +onlyGivenNames s l
    have h1 : KeptForm s := h.advanceTo
    split
    · exact h1.setLink.next
    split
    · exact h1.setLink.next
    · exact h1.linkFail.next
  · exact h.next

theorem KeptForm.linkUp (h : KeptForm s) {n : Nat} : KeptForm (s.linkUp n) := h.setLink.toLnk

theorem KeptForm.execCapabilityRecord (h : KeptForm s) {link : Nat} {record : List Nat} : NextKept (execCapabilityRecord link record s) :=
  .ite (.ite (h.foldl fun _ _ h' => h'.setF).linkFail.next (h.foldl fun _ _ h' => h'.setF).frame.linkUp.setLink.next) h.next

theorem KeptForm.execParamTimeout (h : KeptForm s) {link : Nat} : NextKept (execParamTimeout link s) :=
  .ite h.advanceTo.linkFail.next h.next

theorem KeptForm.enterRetrain (h : KeptForm s) {n : Nat} : KeptForm (s.enterRetrain n) := .ite h.countF.toLnk.setLink h

theorem KeptForm.execLaneFailure (h : KeptForm s) {link : Nat} : NextKept (execLaneFailure link s) :=
  h.enterRetrain.next

theorem KeptForm.execRetrain (h : KeptForm s) {who : Requester} {link : Nat} {value : Word} : NextKept (execRetrain who link value s) :=
  h.trigger fun _ h' => .ite h'.enterRetrain h'

theorem KeptForm.execRetrainComplete (h : KeptForm s) {link : Nat} : NextKept (execRetrainComplete link s) :=
  .ite h.setLink.toLnk.next h.next

theorem KeptForm.execRetrainTimeout (h : KeptForm s) {link : Nat} : NextKept (execRetrainTimeout link s) :=
  .ite h.advanceTo.linkFail.next h.next

theorem KeptForm.execProbe (h : KeptForm s) {who : Requester} {link : Nat} {value : Word} : NextKept (execProbe who link value s) :=
  h.trigger fun _ h' => .ite h'.setLink h'

theorem KeptForm.execLinkDelayMeasured (h : KeptForm s) {link : Nat} : NextKept (execLinkDelayMeasured link s) := by
  unfold Machine.execLinkDelayMeasured
  extract_lets +onlyGivenNames l
  split
  · exact .ite h.setLink.setF.setF.setF.setF.next h.next
  · exact h.next

theorem KeptForm.execFrameSend (h : KeptForm s) {link : Nat} {toB : Bool} {stamp : Nat} : NextKept (execFrameSend link toB stamp s) := by
  unfold Machine.execFrameSend
  extract_lets +onlyGivenNames l0
  split
  · exact h.setLink.next
  split
  · exact h.next
  extract_lets +onlyGivenNames d
  split
  · split
    · exact h.setLink.next
    · exact h.setLink.next
  · exact .ite h.next h.setLink.countF.next

theorem KeptForm.leaveLink (h : KeptForm s) {n : Nat} {toB : Bool} {id : Nat} : KeptForm (s.leaveLink n toB id) := by
  unfold State.leaveLink
  split
  · exact h
  split
  · extract_lets +onlyGivenNames d
    split
    · exact h.setPkt
    split
    · exact h.setPkt
    extract_lets +onlyGivenNames s1
    have h1 : KeptForm s1 := h.dropPkt
    exact h1.frame
  · exact h

theorem KeptForm.takeSlots {n : Nat} {toB : Bool} {l : List Slot} (h : KeptForm s) : KeptForm (s.takeSlots n toB l) := by
  induction l generalizing s with
  | nil => exact h
  | cons x l ih =>
    unfold State.takeSlots
    extract_lets
    split
    · exact ih h
    · exact .ite (ih h.setLink) (ih h.setLink.leaveLink)

theorem KeptForm.takeAck (h : KeptForm s) {n : Nat} {toB : Bool} {f : Frame} : KeptForm (s.takeAck n toB f) :=
  .ite (.ite h.setLink.enterRetrain h.setLink.countF) h.setLink

theorem KeptForm.takeControl (h : KeptForm s) {n : Nat} {toB : Bool} {stamp : Nat} {f : Frame} : KeptForm (s.takeControl n toB stamp f) := by
  unfold State.takeControl
  extract_lets +onlyGivenNames l
  split
  · exact h.setLink
  split
  · split
    · exact h.setLink
    · exact h
  · exact h

theorem KeptForm.execFrameReceive (h : KeptForm s) {link : Nat} {toB : Bool} {flips : List Nat} {stamp : Nat} :
    NextKept (execFrameReceive link toB flips stamp s) := by
  unfold Machine.execFrameReceive
  split
  · exact h.next
  extract_lets +onlyGivenNames l d
  split
  · exact h.next
  · exact .ite h.setLink.setLink.countF.next (.ite h.setLink.next h.setLink.setLink.takeSlots.takeControl.takeAck.next)

/-! Partitions and resets -/

theorem KeptForm.setBit (h : KeptForm s) {f : Fld} {b : Nat} : KeptForm (s.setBit f b) := h.orF

theorem KeptForm.clrBit (h : KeptForm s) {f : Fld} {b : Nat} : KeptForm (s.clrBit f b) := h.setF

theorem KeptForm.latchSite (h : KeptForm s) {i : Nat} : KeptForm (s.latchSite i) := h.setBit

theorem KeptForm.lastFault (h : KeptForm s) {site cause detail where_ : Nat} : KeptForm (s.lastFault site cause detail where_) :=
  h.setF.setF.setF.setF.setF

theorem KeptForm.cutBytes (h : KeptForm s) {p g : Nat} {x : CoreStream} : KeptForm (s.cutBytes p g x) := by
  refine .ite h (h.foldl fun t q ht => ?_)
  split
  · exact ht.withDram (Memory.wf_refill _ _ _ _ ht.dram)
  · exact ht

theorem KeptForm.corePurge (h : KeptForm s) {i : Nat} : KeptForm (s.corePurge i) := by
  unfold State.corePurge
  extract_lets +onlyGivenNames g s1 q s2
  have h1 : KeptForm s1 := by
    unfold s1
    split
    · exact h.takeFree.foldl fun _ _ h' => h'.cutBytes
    · exact h.takeFree
  have h2 : KeptForm s2 := h1.frame
  exact .ite h2 h2.setPort

theorem KeptForm.coreLost (h : KeptForm s) {i : Nat} : KeptForm (s.coreLost i) := h.takeFree.setCore

theorem KeptForm.stopRamp (h : KeptForm s) {i : Nat} : KeptForm (s.stopRamp i) := h.frame

theorem KeptForm.eclipse (h : KeptForm s) {i cause : Nat} : KeptForm (s.eclipse i cause) := by
  have h1 := h.setF (f := F.CORE_ECL_CAUSE i) (v := cause) |>.setF (f := F.CORE_ECL_ORBIT i) (v := s.orbit % 2 ^ 28) |>.setBit
    (f := eclWord i) (b := siteBit i)
  refine .ite h (.ite h1 (KeptForm.raiseBit ?_))
  split
  · exact h1.corePurge.coreLost.setCoreSt.stopRamp.frame.setF.setF
  · exact h1.corePurge.coreLost.setCoreSt.stopRamp.frame

theorem KeptForm.coreReset (h : KeptForm s) {i : Nat} : KeptForm (s.coreReset i) := by
  unfold State.coreReset
  extract_lets +onlyGivenNames st s1 _ s2 s3
  have h1 : KeptForm s1 := h.corePurge.resetPage
  have h2 : KeptForm s2 := .ite h1.setCore h1.setCore
  have h3 : KeptForm s3 := h2.setCoreSt
  split
  · exact h3.setF
  · exact h3

theorem KeptForm.execCoreReset (h : KeptForm s) {who : Requester} {core : Nat} {value : Word} : NextKept (execCoreReset who core value s) :=
  .ite (h.trigger fun _ h' => h'.coreReset) h.next

theorem KeptForm.rampAsk (h : KeptForm s) {i : Nat} : KeptForm (s.rampAsk i) := h.frame

theorem KeptForm.putDirty (h : KeptForm s) {line : Nat} {x : List Byte × Nat × Nat} : KeptForm (s.putDirty line x) :=
  h.landWrite

theorem KeptForm.flushLines (h : KeptForm s) {c : Nat} {sel : Nat → Bool} : KeptForm (s.flushLines c sel) := by
  unfold State.flushLines
  extract_lets +onlyGivenNames k ls wbs s1 s2 k2
  have h1 : KeptForm s1 := h.foldl fun _ _ h' => .ite h'.putDirty h'
  have h2 : KeptForm s2 := h1.foldl fun _ _ h' => h'.putDirty
  exact .ite h2 h2.setCluster

theorem KeptForm.homeLand (h : KeptForm s) {c : Nat} : KeptForm (s.homeLand c) := by
  unfold State.homeLand
  extract_lets +onlyGivenNames mine w s1
  have h1 : KeptForm s1 := h.foldl fun _ _ h' => h'.landWrite
  exact h1.frame

theorem KeptForm.flushHome (h : KeptForm s) {c : Nat} : KeptForm (s.flushHome c) := by
  unfold State.flushHome
  extract_lets +onlyGivenNames homed s1 s2
  have h1 : KeptForm s1 := h.homeLand
  have h2 : KeptForm s2 := h1.foldl fun _ _ h' => h'.flushLines
  exact h2.frame

theorem KeptForm.readmit (h : KeptForm s) {c i : Nat} : KeptForm (s.readmit c i) :=
  .ite h.clrBit.clrBit.setWord.setWord.setCoreSt.rampAsk h

theorem KeptForm.clusterReset (h : KeptForm s) {c : Nat} : KeptForm (s.clusterReset c) := by
  unfold State.clusterReset
  extract_lets +onlyGivenNames k again s1 dirw up _ s2 s3 s4
  have h1 : KeptForm s1 := h.flushHome.foldl fun _ _ h' => h'.coreReset
  have h2 : KeptForm s2 := h1.setCluster.resetPage
  have h3 : KeptForm s3 := h2.setPgState.foldl fun _ _ h' => h'.setF
  have h4 : KeptForm s4 := h3.foldl fun _ _ h' => h'.readmit
  exact h4.foldl fun _ _ h' => h'.homeTake

theorem KeptForm.execClusterReset (h : KeptForm s) {who : Requester} {clu : Nat} {value : Word} : NextKept (execClusterReset who clu value s) :=
  .ite (h.trigger fun _ h' => h'.clusterReset.settle) h.next

theorem KeptForm.resetQueue (h : KeptForm s) {q : Nat} : KeptForm (s.resetQueue q) :=
  (h.withRegs (tabSorted_filter _ _ h.regs)).frame.setF

theorem KeptForm.resetRing (h : KeptForm s) {e : Nat} : KeptForm (s.resetRing e) := h.resetPage.frame.setF

theorem KeptForm.abortOrders (h : KeptForm s) {p : Nat} : KeptForm (s.abortOrders p) :=
  h.foldl fun _ _ h' => h'.orderEnd

theorem KeptForm.resetBegin (h : KeptForm s) {p : Nat} : KeptForm (s.resetBegin p) :=
  h.setPgState.abortOrders.foldl fun _ _ h' => h'.coreReset

theorem KeptForm.resetEnd (h : KeptForm s) {p : Nat} : KeptForm (s.resetEnd p) :=
  have h6 := (h.foldl fun _ _ h' => h'.flushHome).dropXlat.frame.foldl fun _ _ h' => h'.clusterReset
  have h7 := (h6.foldl fun _ _ h' => h'.resetQueue).foldl fun _ _ h' => h'.resetRing
  h7.resetPage.setF.setPgState.prtShow

theorem KeptForm.resetsGo (h : KeptForm s) : KeptForm s.resetsGo := h.foldl fun _ _ h' => .ite h'.resetEnd.settle h'

theorem KeptForm.partitionReset (h : KeptForm s) {p : Nat} : KeptForm (s.partitionReset p) := h.resetBegin.resetsGo

theorem KeptForm.execPartitionReset (h : KeptForm s) {who : Requester} {part : Nat} {value : Word} : NextKept (execPartitionReset who part value s) :=
  .ite (h.trigger fun _ h' => h'.partitionReset.settle) h.next

theorem KeptForm.execBkdone (h : KeptForm s) {id : Nat} : NextKept (execBkdone id s) := by
  unfold Machine.execBkdone
  split
  · split
    · exact .ite h.dropPkt.bkReport.resetsGo.next h.next
    · exact h.next
  · exact h.next

theorem KeptForm.execEventRecordWritten (h : KeptForm s) {ring : Nat} : NextKept (execEventRecordWritten ring s) := by
  unfold Machine.execEventRecordWritten
  extract_lets +onlyGivenNames r
  split
  · exact h.next
  · exact .ite h.next (KeptForm.ite h.setRing.wrapF.startJob h.setRing.wrapF.frame).ringIrq.ringKick.settle.resetsGo.next

theorem KeptForm.portToFailed (h : KeptForm s) {i : Nat} : KeptForm (s.portToFailed i) :=
  (h.setPgState.setBit.setPort.foldl fun _ _ h' => h'.portAnswer).bkSettle

theorem KeptForm.towerDark (h : KeptForm s) {d : Nat} : KeptForm (s.towerDark d) := h.frame

theorem KeptForm.collectsFail (h : KeptForm s) {d : Nat} : KeptForm (s.collectsFail d) :=
  h.foldl fun _ _ h' => .ite h' (h'.foldl fun _ _ h'' => h''.bkReport)

theorem KeptForm.towerLoss (h : KeptForm s) {d : Nat} : KeptForm (s.towerLoss d) := by
  unfold State.towerLoss
  extract_lets +onlyGivenNames s1 s2 links s3 s4 s5 lost s6 s7
  have h1 : KeptForm s1 := h.foldl fun _ _ h' => h'.eclipse
  have h2 : KeptForm s2 := h1.foldl fun _ _ h' => h'.setPgState.setBit.setF
  have h3 : KeptForm s3 := h2.foldl fun _ _ h' => .ite h' h'.takeFree.linkFail
  have h4 : KeptForm s4 := h3.towerDark.foldl fun _ _ h' => h'.setCluster.setPgState
  have h5 : KeptForm s5 := h4.frame
  have h6 : KeptForm s6 := h5.frame
  have h7 : KeptForm s7 := h6.collectsFail.setBit
  exact h7.raiseBit.logRecord.resetsGo

/-! Power -/

theorem KeptForm.noteNarrow (h : KeptForm s) {i : Nat} {aborted : Bool} : KeptForm (s.noteNarrow i aborted) := h.frame

theorem KeptForm.rampAbort (h : KeptForm s) {i detail : Nat} : KeptForm (s.rampAbort i detail) :=
  h.noteNarrow.eclipse.latchSite.lastFault.raiseBit

theorem KeptForm.rampDone (h : KeptForm s) {i : Nat} : KeptForm (s.rampDone i) := by
  unfold State.rampDone
  extract_lets +onlyGivenNames s1 s2
  have h1 : KeptForm s1 := by
    unfold s1
    split
    · exact h.setF.setF.setF.setF.setF
    · exact h
  have h2 : KeptForm s2 := h1.stopRamp.coreLost.setCoreSt
  exact h2.setF

theorem KeptForm.rampStep (h : KeptForm s) {ovr : List Nat} {rails : List (Nat × Nat)} {i : Nat} {r : GateRamp} :
    KeptForm (s.rampStep ovr rails i r) :=
  .ite h.rampAbort (.ite h.rampAbort (.ite h.rampDone h.frame))

theorem KeptForm.rampsStep (h : KeptForm s) {ovr : List Nat} {rails : List (Nat × Nat)} : KeptForm (s.rampsStep ovr rails) := by
  unfold State.rampsStep
  extract_lets due
  clear_value due
  split
  · exact h
  · exact h.advanceTo.foldl fun _ _ h' => h'.rampStep

theorem KeptForm.widen (h : KeptForm s) {e : Nat × Bool × Bool × Nat} : KeptForm (s.widen e) :=
  .ite h.setF h.setF.clrBit

theorem KeptForm.cluDown (h : KeptForm s) {c : Nat} : KeptForm (s.cluDown c) := by
  unfold State.cluDown
  extract_lets +onlyGivenNames s1
  have h1 : KeptForm s1 := h.setCluster.setPgState
  exact h1.frame

theorem KeptForm.execCurrentRegionTrip (h : KeptForm s) {clu region : Nat} : NextKept (execCurrentRegionTrip clu region s) := by
  unfold Machine.execCurrentRegionTrip
  split
  · exact h.next
  split
  · exact ((h.foldl fun _ _ h' => h'.widen).foldl fun _ _ h' => h'.eclipse).cluDown.setBit.lastFault.raiseBit.next
  split
  · exact h.next
  split
  · exact h.next
  · exact (h.foldl fun _ _ h' => h'.noteNarrow.eclipse.latchSite).lastFault.raiseBit.next

theorem KeptForm.crackReport (h : KeptForm s) {p k : Nat} {severe : Bool} {drop : ℤ} : KeptForm (s.crackReport p k severe drop) := by
  unfold State.crackReport
  extract_lets s1 s2
  have h2 : KeptForm s2 := h.countF.setF.setF.setF.setF
  exact .ite h2.raiseBit h2.setF.raise

theorem KeptForm.pointSample (h : KeptForm s) {p : Nat} {v : List Nat} {k : Nat} : KeptForm (s.pointSample p v k) :=
  .ite (KeptForm.ite h.frame.crackReport h.frame).crackReport (.ite h.frame.crackReport h.frame)

theorem KeptForm.fieldReadings (h : KeptForm s) {vin iin : List Nat} : KeptForm (s.fieldReadings vin iin) := by
  unfold State.fieldReadings
  extract_lets f s1
  have h1 : KeptForm s1 := .ite h h.setF.setF.setF.setF.setF
  exact .ite h1 h1.setF.setF.setF.setF

theorem KeptForm.execSensePointSample (h : KeptForm s) {volts : List (Nat × List Nat)} {vin iin : List Nat} :
    NextKept (execSensePointSample volts vin iin s) :=
  (h.advanceTo.frame.fieldReadings.foldl fun _ _ h' => h'.foldl fun _ _ h'' => h''.pointSample).next

theorem KeptForm.dramDown (h : KeptForm s) {half : Nat} : KeptForm (s.dramDown half) :=
  h.frame.setBit.foldl fun _ _ h' => h'.orF

theorem KeptForm.execDomainFault (h : KeptForm s) {fabric : Bool} {n : Nat} : NextKept (execDomainFault fabric n s) :=
  .ite (.ite h.towerLoss.setBit.lastFault.raiseBit.next h.next) (.ite h.dramDown.lastFault.raiseBit.next h.next)

theorem KeptForm.execVinWarning (h : KeptForm s) {dt field : Nat} : NextKept (execVinWarning dt field s) := by
  unfold Machine.execVinWarning
  extract_lets +onlyGivenNames s
  have h1 : KeptForm s := h.advance
  refine .ite h1.next ?_
  extract_lets +onlyGivenNames _ s1 s2 s3
  have h2 : KeptForm s2 := h1.frame.setF.setF.setF
  have h3 : KeptForm s3 := .ite h2.setF h2
  exact .ite h3.next h3.setF.countF.raiseBit.frame.next

theorem KeptForm.execVinAboveWarning (h : KeptForm s) {dt : Nat} : NextKept (execVinAboveWarning dt s) :=
  .ite h.advance.next h.advance.frame.setF.setF.next

theorem KeptForm.divRelease (h : KeptForm s) {extra : Nat} : KeptForm (s.divRelease extra) :=
  h.setF.setF.countF.raiseBit

theorem KeptForm.execReleaseQualified (h : KeptForm s) : NextKept (execReleaseQualified s) := by
  unfold Machine.execReleaseQualified
  split
  · exact h.next
  · exact .ite h.advanceTo.frame.setF.setF.next h.advanceTo.frame.setF.divRelease.next

theorem KeptForm.divAtTick5 (h : KeptForm s) : KeptForm s.divAtTick5 := .ite h.divRelease h

theorem KeptForm.rampsReplan (h : KeptForm s) : KeptForm s.rampsReplan := h.frame.foldl fun _ _ h' => h'.rampAsk

theorem KeptForm.execWaveResume (h : KeptForm s) : NextKept (execWaveResume s) := by
  unfold Machine.execWaveResume
  split
  · exact h.next
  · exact h.advanceTo.frame.setF.rampsReplan.next

theorem KeptForm.execVinBelowReset (h : KeptForm s) {dt field : Nat} : NextKept (execVinBelowReset dt field s) :=
  .ite h.advance.next h.advance.frame.next

theorem KeptForm.execVinAboveReset (h : KeptForm s) {dt field : Nat} : NextKept (execVinAboveReset dt field s) :=
  h.advance.frame.next

/-! Thermal -/

theorem KeptForm.coolUpdate (h : KeptForm s) : KeptForm s.coolUpdate := .ite (.ite h h.setF.setF.raiseBit) h.setF

theorem KeptForm.execCoolreqPeriod (h : KeptForm s) : NextKept (execCoolreqPeriod s) :=
  (KeptForm.ite h.advanceTo.frame h.advanceTo.frame.setF).next

theorem KeptForm.execCoolreqDutyTimeout (h : KeptForm s) : NextKept (execCoolreqDutyTimeout s) :=
  .ite h.next h.advanceTo.frame.setF.coolUpdate.next

theorem KeptForm.takeReadings (h : KeptForm s) {cores dram caps : List (Nat × Nat)} : KeptForm (s.takeReadings cores dram caps) := by
  unfold State.takeReadings
  extract_lets +onlyGivenNames live on s1 s2 s3
  have h1 : KeptForm s1 := h.foldl fun _ _ h' => h'.foldl fun _ _ h'' => h''.setF
  have h2 : KeptForm s2 := h1.foldl fun _ _ h' => .ite h'.setF h'
  have h3 : KeptForm s3 := h2.foldl fun _ _ h' => .ite h'.setF h'
  exact h3.foldl fun _ _ h' => .ite h'.setF h'

theorem KeptForm.showMax (h : KeptForm s) : KeptForm s.showMax := h.foldl fun _ _ h' => h'.setF.setF

theorem KeptForm.throttleStep (h : KeptForm s) : KeptForm s.throttleStep := by
  unfold State.throttleStep
  extract_lets +onlyGivenNames mask l m ol om s1 s2 s3
  have h1 : KeptForm s1 := h.setF.setF
  have h2 : KeptForm s2 := .ite h1.raiseBit h1
  have h3 : KeptForm s3 := .ite h2.raiseBit h2
  exact h3.frame

theorem KeptForm.doubleStep (h : KeptForm s) : KeptForm s.doubleStep := h.frame

theorem KeptForm.trip (h : KeptForm s) {sensor : Nat} : KeptForm (s.trip sensor) :=
  h.setF.setF.setF.raiseBit.foldl fun _ _ h' => .ite h'.towerLoss h'

theorem KeptForm.tripStep (h : KeptForm s) : KeptForm s.tripStep := by
  unfold State.tripStep
  extract_lets +onlyGivenNames now _ s1
  have h1 : KeptForm s1 := h.frame
  split
  · exact h1
  · exact .ite h1 h1.trip

theorem KeptForm.execThermalSensorSample (h : KeptForm s) {cores dram caps : List (Nat × Nat)} :
    NextKept (execThermalSensorSample cores dram caps s) :=
  h.advanceTo.frame.takeReadings.showMax.throttleStep.doubleStep.tripStep.coolUpdate.next

theorem KeptForm.planEntry (h : KeptForm s) {p a : Nat} : KeptForm (s.planEntry p a).1 := by
  fun_cases State.planEntry s p a
  case case1 => exact h
  case case2 heq => exact h.peek.of_fst heq
  case case3 heq => exact h.peek.of_fst heq

theorem KeptForm.planRead (h : KeptForm s) {a : Nat} : KeptForm (s.planRead a).1 := by
  refine KeptForm.foldl_fst h fun q x hq => ?_
  split
  next heq => exact hq.planEntry.of_fst heq
  next heq => exact (hq.planEntry.of_fst heq).raiseBit
  next heq => exact hq.planEntry.of_fst heq

theorem KeptForm.execEnergyForecast (h : KeptForm s) {energy : List Nat} : NextKept (execEnergyForecast energy s) := by
  unfold Machine.execEnergyForecast
  split
  · exact h.next
  extract_lets +onlyGivenNames r s readings fc s1 tf q g duty
  have h1 : KeptForm s := h.planRead
  have h2 : KeptForm s1 := h1.foldl fun _ _ h' => h'.setF.setF
  refine KeptForm.next ?_
  refine KeptForm.coolUpdate ?_
  refine KeptForm.setF ?_
  extract_lets +onlyGivenNames src
  have h3 : KeptForm src := h2.takeFree
  exact h3.frame

/-! Reliability and tests -/

theorem KeptForm.execPatrolScrubDue (h : KeptForm s) {site : Nat} : NextKept (execPatrolScrubDue site s) :=
  .ite h.next h.advanceTo.frame.next

theorem KeptForm.execScrubStepStart (h : KeptForm s) {site : Nat} : NextKept (execScrubStepStart site s) :=
  .ite h.next (.ite h.frame.setPort.tokenPeak.next h.frame.next)

theorem KeptForm.showEns (h : KeptForm s) : KeptForm s.showEns := h.setF.setF

theorem KeptForm.mailDone (h : KeptForm s) {result rlen : Nat} : KeptForm (s.mailDone result rlen) :=
  h.setF.setF.setF.wrapF.raise

theorem KeptForm.mailLost (h : KeptForm s) : KeptForm s.mailLost := .ite h.mailDone h

theorem KeptForm.roleCheck (h : KeptForm s) : KeptForm s.roleCheck := by
  unfold State.roleCheck
  split
  · exact h.showEns
  · exact .ite h.showEns h.mailLost.frame.setF.countF.raiseBit.logRecord.showEns

theorem KeptForm.grantClaim (h : KeptForm s) {e d : Nat} : KeptForm (s.grantClaim e d) :=
  h.setF.setF.frame.roleCheck.lead

theorem KeptForm.execEnsignClaim (h : KeptForm s) {ens die : Nat} : NextKept (execEnsignClaim ens die s) :=
  .ite h.next (.ite h.grantClaim.next h.next)

theorem KeptForm.execStewardTimeout (h : KeptForm s) {die : Nat} : NextKept (execStewardTimeout die s) :=
  .ite h.next h.advanceTo.grantClaim.next

theorem KeptForm.execStewardless (h : KeptForm s) {die : Nat} : NextKept (execStewardless die s) := by
  unfold Machine.execStewardless
  refine .ite h.next ?_
  extract_lets s0 first s1 s2
  have h1 : KeptForm s1 := h.advanceTo.orF
  have h2 : KeptForm s2 := .ite h1.raiseBit h1
  exact .ite (h2.foldl fun _ _ h' => h'.aim).next (.ite h2.next h2.setStep.next)

theorem KeptForm.execEnsignRoleGiveUp (h : KeptForm s) {dt : Nat} : NextKept (execEnsignRoleGiveUp dt s) := by
  unfold Machine.execEnsignRoleGiveUp
  extract_lets +onlyGivenNames s
  have h1 : KeptForm s := h.advance
  split
  · exact h1.next
  split
  · exact h1.next
  refine KeptForm.next ?_
  refine KeptForm.showEns ?_
  extract_lets +onlyGivenNames src
  have h2 : KeptForm src := h1.mailLost
  exact h2.frame

theorem KeptForm.setRef (h : KeptForm s) {n : Nat} {r : Bool} : KeptForm (s.setRef n r) := .ite h.setF h.setF

theorem KeptForm.execRefclkLoss (h : KeptForm s) {ref : Bool} {die : Nat} : NextKept (execRefclkLoss ref die s) :=
  .ite h.next (KeptForm.ite (KeptForm.ite h.setF.raiseBit.logRecord h).setRef (.ite h.setF.raiseBit.logRecord h)).next

theorem KeptForm.execRefclkRestored (h : KeptForm s) {ref : Bool} : NextKept (execRefclkRestored ref s) := h.setF.next

theorem KeptForm.execRefclkSelect (h : KeptForm s) {who : Requester} {value : Word} : NextKept (execRefclkSelect who value s) :=
  h.trigger fun _ h' => .ite (h'.store.foldl fun _ _ h'' => h''.setRef) h'.store

theorem KeptForm.execDriverEclipse (h : KeptForm s) {who : Requester} {die index : Nat} {value : Word} :
    NextKept (execDriverEclipse who die index value s) :=
  .ite h.next (h.triggerM fun _ _ h' => h'.foldl fun _ _ h'' => h''.eclipse)

theorem KeptForm.execPortFail (h : KeptForm s) {who : Requester} {die index : Nat} {value : Word} : NextKept (execPortFail who die index value s) :=
  .ite h.next (h.triggerM fun _ _ h' => h'.foldl fun _ _ h'' => .ite h''.setBit h''.portToFailed)

theorem KeptForm.execBankRetire (h : KeptForm s) {who : Requester} {die index : Nat} {value : Word} :
    NextKept (execBankRetire who die index value s) :=
  .ite h.next (h.triggerM fun _ _ h' => h'.orF)

theorem KeptForm.execGhostFlit (h : KeptForm s) {core : Nat} : NextKept (execGhostFlit core s) :=
  .ite h.next (.ite h.countF.countF.setF.next h.countF.countF.setF.frame.raiseBit.logRecord.next)

theorem KeptForm.execAssign (h : KeptForm s) {who : Requester} {clu : Nat} {value : Word} : NextKept (execAssign who clu value s) := by
  unfold Machine.execAssign
  split
  · exact h.next
  refine h.trigger (fun _ h' => ?_)
  extract_lets +onlyGivenNames i
  split
  · exact h'
  split
  · exact h'.setF
  split
  · exact h'.setF.setF.rampAsk
  · exact h'.setF

theorem KeptForm.execRelease (h : KeptForm s) {who : Requester} {clu : Nat} {value : Word} : NextKept (execRelease who clu value s) := by
  unfold Machine.execRelease
  refine .ite h.next (h.trigger fun t ht => ?_)
  extract_lets i ecl s1
  have h1 : KeptForm s1 := .ite ht ht.corePurge.coreLost.stopRamp.setCoreSt
  exact .ite ht <| .ite ht.setF <| .ite ht.setF <| .ite ht.setF h1.setF.setF.setF

theorem KeptForm.execTestFlipArm (h : KeptForm s) {who : Requester} {value : Word} : NextKept (execTestFlipArm who value s) :=
  .ite h.next (h.triggerM fun _ _ h' => h'.store.setF)

/-- A scan leaves arbitrary contents in device memory, which stays canonical. -/
theorem KeptForm.scanBegin (h : KeptForm s) : KeptForm s.scanBegin :=
  have h1 := h.takeFree.setF.setF.setF
  (h1.withDram (Memory.wf_refill _ _ _ _ h1.dram)).setF

theorem KeptForm.arraysClear (h : KeptForm s) {sites clusters : List Nat} : KeptForm (s.arraysClear sites clusters) :=
  ((h.foldl fun _ _ h' => h'.setCore).foldl fun _ _ h' => h'.setCluster).foldl fun _ _ h' => h'.setPort

theorem KeptForm.scanFinish (h : KeptForm s) : KeptForm s.scanFinish := h.advance.arraysClear.setF.raiseBit

theorem KeptForm.scanAsk (h : KeptForm s) {source : Nat} : KeptForm (s.scanAsk source) :=
  .ite (.ite h.setF.setF h.setF.scanBegin) h.setF

theorem KeptForm.execScanSequenceStart (h : KeptForm s) : NextKept (execScanSequenceStart s) :=
  .ite (.ite h.next h.scanBegin.scanFinish.next) (.ite h.scanFinish.next h.next)

theorem KeptForm.bistGo (h : KeptForm s) {scope index : Nat} : KeptForm (s.bistGo scope index) :=
  .ite h.setF.setF (.ite h.setF (.ite h.setF.setF (.ite h.setF.setF.frame.scanAsk h.setF.setF.frame)))

theorem KeptForm.bistWrite (h : KeptForm s) {who : Requester} {scope : Nat} {value : Word} : NextKept (bistWrite who scope value s) :=
  .ite h.next (h.triggerM fun _ _ h' => h'.store.bistGo)

theorem KeptForm.bistLeaves (h : KeptForm s) {scope index : Nat} : KeptForm (s.bistLeaves scope index) :=
  .ite (h.arraysClear.withDram rfl).setF.setF.setF
    (.ite (h.arraysClear.foldl fun _ _ h' => h'.withDram (Memory.wf_refill _ _ _ _ h'.dram)) h)

theorem KeptForm.execBistDone (h : KeptForm s) {sites others : List (Nat × Nat)} {ms : Nat} : NextKept (execBistDone sites others ms s) := by
  unfold Machine.execBistDone
  split
  · exact h.next
  extract_lets +onlyGivenNames s0 _ s1 s2 s3 n
  have h1 : KeptForm s0 := h.advance
  have h2 : KeptForm s1 := h1.frame.bistLeaves
  have h3 : KeptForm s2 := h2.foldl fun _ _ h' => h'.eclipse.logRecord
  have h4 : KeptForm s3 := h3.foldl fun _ _ h' => h'.logRecord
  exact h4.setF.setF.setF.setF.raiseBit.next

/-! Bring-up and shutdown -/

/-- The table after a reset is the held registers with the kept pages put over them; the memory of towers that lose power is refilled. -/
theorem tabSorted_heldRegs (h : KeptForm s) : tabSorted s.heldRegs = true := by
  refine tabSorted_filterMap
    (fun e a ha => ?_) h.regs
  split at ha
  · exact nomatch ha
  · extract_lets hs at ha
    split at ha
    · exact nomatch ha
    · cases ha
      rfl

theorem KeptForm.wholeReset (h : KeptForm s) {kept : List Nat} : KeptForm (s.wholeReset kept) :=
  ((keptForm_reset.withRegs (tabSorted_foldl_tabPut _ _ (tabSorted_heldRegs h))).withDram
    (Memory.wf_foldl_refill h.dram)).frame

/-- VSB's loss ends the held registers too (R428). -/
theorem KeptForm.noRegs (h : KeptForm s) {mgmt : MgmtState} {host : HostState} :
    KeptForm { s with regs := [], mgmt := mgmt, host := host } :=
  (keptForm_iff _).mpr ⟨tabSorted_nil, h.staged, h.plain, h.dram⟩

theorem KeptForm.vinStays (h : KeptForm s) {s0 : State} : KeptForm (s0.vinStays s) :=
  .ite h.frame.setF.setF.setF h.frame

theorem KeptForm.resetCause (h : KeptForm s) {cause : Nat} {kept : List Nat} : KeptForm (s.resetCause cause kept) :=
  (KeptForm.ite h.wholeReset h.wholeReset.vinStays).setF

theorem KeptForm.bootFail (h : KeptForm s) {why : Nat} : KeptForm (s.bootFail why) := h.frame.setF.setF

theorem KeptForm.ensUp (h : KeptForm s) {e : Nat} : KeptForm (s.ensUp e) := h.setF.setF.setF.setF.showEns

theorem KeptForm.bootStraps (h : KeptForm s) {b : BootIn} : KeptForm (s.bootStraps b) := by
  unfold State.bootStraps
  extract_lets +onlyGivenNames s1 s2 s3 lose s4
  have h1 : KeptForm s1 := h.setF.setF.setF
  have h2 : KeptForm s2 := h1.foldl fun _ _ h' => h'.setF
  have h3 : KeptForm s3 := h2.setF.setF
  have h4 : KeptForm s4 := .ite h3 h3.setF.raiseBit.logRecord
  exact .ite h4 (h4.setF.raiseBit.logRecord.foldl fun _ _ h' => h'.setRef)

theorem KeptForm.bootEnsigns (h : KeptForm s) {b : BootIn} {slot : Nat} : KeptForm (s.bootEnsigns b slot) :=
  (h.frame.setF.setF.foldl fun _ _ h' => h'.ensUp).setF.setF.setF.setF.setF.setF.frame.qsConsume.portsTrain

theorem KeptForm.bootPower (h : KeptForm s) {b : BootIn} : KeptForm (s.bootPower b) := by
  unfold State.bootPower
  extract_lets +onlyGivenNames s0
  have h0 : KeptForm s0 := h.setF
  refine .ite h0.frame.bootFail ?_
  extract_lets s1 on halves clus _ s2 s2' s3 s4 s5 s6
  have h2 : KeptForm s2 := h0.setF.frame
  have h2' : KeptForm s2' := .ite h2.setF h2
  have h3 : KeptForm s3 := h2'.foldl fun _ _ h' => h'.setPgState.setF
  have h4 : KeptForm s4 := h3.foldl fun _ _ h' => h'.setCoreSt
  have h5 : KeptForm s5 := h4.foldl fun _ _ h' => h'.setF.setF
  have h6 : KeptForm s6 := h5.foldl fun _ _ h' => h'.dramDown
  exact h6.foldl fun _ _ h' => h'.towerLoss

theorem KeptForm.bringUp (h : KeptForm s) {b : BootIn} : KeptForm (s.bringUp b) := by
  unfold State.bringUp
  extract_lets +onlyGivenNames _ s1
  have h1 : KeptForm s1 := h.frame.bootStraps
  split
  · exact h1.bootFail
  · exact .ite h1.bootEnsigns.bootPower h1.bootFail

theorem KeptForm.bootLink (h : KeptForm s) {b : BootIn} {cold : Bool} {n : Nat} : KeptForm (s.bootLink b cold n) := by
  unfold State.bootLink
  extract_lets +onlyGivenNames s1
  have h1 : KeptForm s1 := h.setF.startTraining
  split
  · exact h1.linkFail
  extract_lets +onlyGivenNames eb r s2 s3
  have h3 : KeptForm s3 := h1.setF.setF.setF.setF.setF
  exact .ite h3.linkUp h3.toLnk

theorem KeptForm.identFail (h : KeptForm s) {d : Nat} : KeptForm (s.identFail d) :=
  (KeptForm.ite h.towerLoss h).foldl fun _ _ h' => .ite h'.linkFail (.ite h' h'.takeFree.linkFail)

theorem KeptForm.bootTrain (h : KeptForm s) {b : BootIn} : KeptForm (s.bootTrain b) := by
  unfold State.bootTrain
  extract_lets +onlyGivenNames lone s2 dieCold links lcold ports pcold s3 s4
  have h1 : KeptForm s2 := h.setF.foldl fun _ _ h' => h'.identFail
  have h2 : KeptForm s3 := h1.foldl fun _ _ h' => h'.bootLink
  have h3 : KeptForm s4 := h2.foldl fun _ _ h' => .ite h'.portToFailed.logRecord h'.setPgState
  exact h3.setF.setF.setF

theorem KeptForm.bootBist (h : KeptForm s) {b : BootIn} : KeptForm (s.bootBist b) :=
  ((h.setF.foldl fun _ _ h' => h'.eclipse.logRecord).foldl fun _ _ h' => h'.setCore).setF.setF

theorem KeptForm.bootDram (h : KeptForm s) : KeptForm s.bootDram := h.setF.withDram (Memory.wf_foldl_refill h.setF.dram)

theorem KeptForm.bootScreen (h : KeptForm s) {b : BootIn} : KeptForm (s.bootScreen b) := by
  unfold State.bootScreen
  extract_lets +onlyGivenNames weak src
  have h1 : KeptForm src := h.setF
  exact h1.frame

theorem KeptForm.bootFreq (h : KeptForm s) {d : Nat} : KeptForm (s.bootFreq d) :=
  (h.setF.foldl fun _ _ h' => .ite h'.setF.setF h').setF

theorem KeptForm.bootFinish (h : KeptForm s) {b : BootIn} : KeptForm (s.bootFinish b) :=
  .ite h.bootFail (h.foldl fun _ _ h' => h'.bootFreq).advanceTo.qsPut.frame.setF.setF.setF.roleCheck

theorem KeptForm.bootCheck (h : KeptForm s) : KeptForm s.bootCheck := by
  unfold State.bootCheck
  split
  · exact h
  · exact .ite h.setF.bootTrain h

theorem KeptForm.bootNext (h : KeptForm s) : KeptForm s.bootNext := by
  unfold State.bootNext
  split
  · exact h
  · exact .ite h.bootBist (.ite h.bootDram (.ite h.bootScreen h.bootFinish))

theorem KeptForm.execPowerWaveStart (h : KeptForm s) : NextKept (execPowerWaveStart s) := by
  unfold Machine.execPowerWaveStart
  split
  · exact h.next
  · exact .ite h.next h.advanceTo.frame.setF.bootCheck.next

theorem KeptForm.execGateSegmentClose (h : KeptForm s) {ovr : List Nat} {rails : List (Nat × Nat)} : NextKept (execGateSegmentClose ovr rails s) :=
  h.rampsStep.bootCheck.next

theorem KeptForm.tryBringUp (h : KeptForm s) {b : BootIn} : KeptForm (s.tryBringUp b) := .ite h.bringUp h

theorem KeptForm.execPowerGood (h : KeptForm s) {boot : BootIn} : NextKept (execPowerGood boot s) := by
  unfold Machine.execPowerGood
  split
  · exact h.next
  refine KeptForm.next ?_
  refine KeptForm.tryBringUp ?_
  extract_lets +onlyGivenNames src
  have h1 : KeptForm src := h.wholeReset
  exact h1.frame

theorem KeptForm.execPwrgdFall (h : KeptForm s) {dt : Nat} : NextKept (execPwrgdFall dt s) :=
  .ite h.advance.frame.resetCause.next h.advance.next

theorem KeptForm.execAuxSupplyFault (h : KeptForm s) {dt : Nat} : NextKept (execAuxSupplyFault dt s) :=
  .ite h.advance.frame.resetCause.next h.advance.frame.next

theorem KeptForm.execAuxSupplyInRegulation (h : KeptForm s) {boot : BootIn} : NextKept (execAuxSupplyInRegulation boot s) :=
  h.frame.tryBringUp.next

theorem KeptForm.execVsbLoss (h : KeptForm s) {dt : Nat} : NextKept (execVsbLoss dt s) := by
  unfold Machine.execVsbLoss
  extract_lets t _ s1
  have h1 : KeptForm (s1.wholeReset []) := KeptForm.wholeReset h.advance.frame
  exact KeptForm.next h1.noRegs

theorem KeptForm.execVsbPowerOn (h : KeptForm s) {strap : Nat} {boot : BootIn} : NextKept (execVsbPowerOn strap boot s) := by
  unfold Machine.execVsbPowerOn
  extract_lets +onlyGivenNames _ s1
  have h1 : KeptForm (s1.wholeReset []) := KeptForm.wholeReset h.frame
  exact .ite h.next (KeptForm.tryBringUp h1.noRegs).next

theorem KeptForm.execResetAll (h : KeptForm s) {who : Requester} {value : Word} {boot : BootIn} : NextKept (execResetAll who value boot s) :=
  .ite h.next (h.trigger fun _ h' => h'.resetCause.tryBringUp)

theorem KeptForm.execForceCold (h : KeptForm s) {who : Requester} {value : Word} : NextKept (execForceCold who value s) :=
  .ite h.next (h.trigger fun _ h' => h'.setF)

theorem KeptForm.ensReset (h : KeptForm s) {e : Nat} : KeptForm (s.ensReset e) :=
  (KeptForm.ite h.mailLost.frame h).setF.setF.setF.frame.showEns

theorem KeptForm.execEnsResetA (h : KeptForm s) {who : Requester} {value : Word} : NextKept (execEnsResetA who value s) :=
  .ite h.next (h.trigger fun _ h' => h'.ensReset)

theorem KeptForm.execEnsResetB (h : KeptForm s) {who : Requester} {value : Word} : NextKept (execEnsResetB who value s) :=
  .ite h.next (h.trigger fun _ h' => h'.ensReset)

theorem KeptForm.execEnsignWatchdogExpiry (h : KeptForm s) {ens : Nat} : NextKept (execEnsignWatchdogExpiry ens s) :=
  .ite h.ensReset.next h.next

theorem KeptForm.execEnsignHeartbeat (h : KeptForm s) {ens die : Nat} : NextKept (execEnsignHeartbeat ens die s) :=
  .ite h.next (.ite h.next (KeptForm.ite h.frame h.frame.ensUp).next)

theorem KeptForm.fieldDown (h : KeptForm s) {d : Nat} : KeptForm (s.fieldDown d) :=
  (KeptForm.ite h.towerLoss h).setBit.lastFault.raiseBit

theorem KeptForm.execFieldFault (h : KeptForm s) {fields : List Nat} {boot : BootIn} : NextKept (execFieldFault fields boot s) := by
  unfold Machine.execFieldFault
  extract_lets +onlyGivenNames due t s0 all s1
  have h1 : KeptForm s1 := h.advanceTo.foldl fun _ _ h' => h'.fieldDown
  exact .ite h.next <| .ite h1.next h1.resetCause.frame.tryBringUp.next

theorem KeptForm.sdGates (h : KeptForm s) : KeptForm s.sdGates := by
  unfold State.sdGates
  extract_lets +onlyGivenNames s1 s2 s3 s4
  have h1 : KeptForm s1 := h.setF.dropFunctions
  have h2 : KeptForm s2 := h1.foldl fun _ _ h' => h'.setF
  have h3 : KeptForm s3 := h2.foldl fun _ _ h' => h'.corePurge.coreLost.setCoreSt
  have h4 : KeptForm s4 := h3.foldl fun _ _ h' => h'.setCluster.setPgState
  exact h4.frame

theorem KeptForm.sdBegin (h : KeptForm s) {x : ShutIn} : KeptForm (s.sdBegin x) := by
  unfold State.sdBegin
  extract_lets +onlyGivenNames s1 s2 links ports
  have h1 : KeptForm s1 := h.sdGates.setF.setF.setF
  have h2 : KeptForm s2 := h1.advance
  exact h2.frame

theorem KeptForm.sdSlice (h : KeptForm s) {d : Shutdown} {x : SdSlice} {t : List SdSlice} : KeptForm (s.sdSlice d x t) := by
  unfold State.sdSlice
  split
  · exact .ite h.frame.scanAsk.scanFinish h.frame.scanAsk
  · exact .ite h.frame h.frame.advance.setF.setF

theorem KeptForm.sdRecord (h : KeptForm s) {d : Shutdown} : KeptForm (s.sdRecord d) := by
  unfold State.sdRecord
  extract_lets +onlyGivenNames ms s g r g2 crc s1
  have h1 : KeptForm s := h.advance
  have h2 : KeptForm s1 := h1.takeFree.takeFree.qsPut
  exact h2.frame

/-- Device memory loses its contents with its supply, by one refill of the whole range. -/
theorem KeptForm.sdOff (h : KeptForm s) : KeptForm s.sdOff := by
  unfold State.sdOff
  extract_lets s1 s2 g
  have h1 : KeptForm s1 := h.foldl fun _ _ h' => h'.sinkLink.toLnk
  have h2 : KeptForm s2 := h1.foldl fun _ _ h' => h'.setPgState.setF
  have h3 : KeptForm g.2 := h2.takeFree
  clear_value g
  exact (h3.withDram (Memory.wf_refill _ _ _ _ h3.dram)).frame

theorem KeptForm.sdNext (h : KeptForm s) : KeptForm s.sdNext := by
  unfold State.sdNext
  split
  · exact h
  split
  · exact h.advance
  split
  · exact h.sdSlice
  · exact .ite h.sdRecord h.advance.sdOff.setF.setF

theorem KeptForm.execShutdown (h : KeptForm s) {who : Requester} {value : Word} {meets : ShutIn} : NextKept (execShutdown who value meets s) :=
  .ite h.next (h.trigger fun _ h' => .ite h' (.ite h'.setF (.ite h'.setF h'.sdBegin)))

theorem KeptForm.execIdent (h : KeptForm s) {link io seenA seenB : Nat} : NextKept (execIdent link io seenA seenB s) := by
  unfold Machine.execIdent
  split
  · exact h.next
  extract_lets +onlyGivenNames ea eb
  split
  · exact .ite h.linkUp.next h.linkFail.next
  extract_lets +onlyGivenNames _ s1
  have h1 : KeptForm s1 := h.frame
  split
  · exact .ite h1.linkUp.next h1.identFail.next
  · exact h1.linkUp.next

theorem KeptForm.execIdentityTimeout (h : KeptForm s) {die : Nat} : NextKept (execIdentityTimeout die s) :=
  .ite h.next h.advanceTo.identFail.next

/-! Core control words -/

theorem KeptForm.execCtnop (h : KeptForm s) {i : Nat} {w : Word64} : NextKept (execCtnop i w s) :=
  h.issue fun _ h' => h'.nextPc

theorem KeptForm.execCtli (h : KeptForm s) {i : Nat} {w : Word64} : NextKept (execCtli i w s) :=
  h.issue fun _ h' => h'.setScalar.nextPc

theorem KeptForm.execCtadd (h : KeptForm s) {i : Nat} {w : Word64} : NextKept (execCtadd i w s) :=
  h.issue fun _ h' => h'.setScalar.nextPc

theorem KeptForm.execCtloop (h : KeptForm s) {i : Nat} {w : Word64} : NextKept (execCtloop i w s) :=
  h.issue fun _ h' => .ite h'.setScalar.nextPc h'.setScalar.goTo

theorem KeptForm.execCtbr (h : KeptForm s) {i : Nat} {w : Word64} : NextKept (execCtbr i w s) :=
  h.issue fun _ h' => h'.goTo

theorem KeptForm.execCtid (h : KeptForm s) {i : Nat} {w : Word64} : NextKept (execCtid i w s) :=
  h.issue fun _ h' => h'.setScalar.nextPc

theorem KeptForm.execCtevt (h : KeptForm s) {i : Nat} {w : Word64} : NextKept (execCtevt i w s) :=
  h.issue fun _ h' => h'.postCore.nextPc

theorem KeptForm.execCtberth (h : KeptForm s) {i : Nat} {w : Word64} : NextKept (execCtberth i w s) :=
  h.issue fun _ h' => h'.setCore

theorem KeptForm.execReservedInstruction (h : KeptForm s) {i : Nat} {w : Word64} : NextKept (execReservedInstruction i w s) := by
  unfold Machine.execReservedInstruction
  split
  · exact .ite h.progFault.next h.next
  · exact h.next

/-! The matrix engine -/

theorem KeptForm.setMx (h : KeptForm s) {i : Nat} {m : MxState} : KeptForm (s.setMx i m) :=
  h.setCore.setF.setF.setF.setF

theorem KeptForm.passNote (h : KeptForm s) {i : Nat} {o : MxOp} {m : Nat} : KeptForm (s.passNote i o m) :=
  .ite (KeptForm.ite h.lsNote.lsNote h.lsNote).lsNote (.ite h.lsNote.lsNote h.lsNote)

theorem KeptForm.mxWrites (h : KeptForm s) {i : Nat} : KeptForm (s.mxWrites i) :=
  h.foldl fun _ _ h' => .ite h' (h'.foldl fun _ _ h'' => h''.lsPut.addFlags).setMx

theorem KeptForm.mxEnters (h : KeptForm s) {i : Nat} : KeptForm (s.mxEnters i) :=
  h.foldl fun _ _ h' => .ite h'.passNote.setMx h'

theorem KeptForm.mxCycle (h : KeptForm s) {i : Nat} {w : MxWhen} : KeptForm (s.mxCycle i w) := by
  unfold State.mxCycle
  extract_lets +onlyGivenNames sh m0 c frozen s1 m1 isOpen entering s2
  have h1 : KeptForm s1 := .ite h h.mxWrites
  have h2 : KeptForm s2 := .ite h1.mxEnters h1
  exact h2.countF.countF.countF.countF.countF.countF.countF.countF.setMx

theorem KeptForm.mxRun {i : Nat} {w : MxWhen} {n : Nat} (h : KeptForm s) : KeptForm (State.mxRun i w n s) := by
  induction n generalizing s with
  | zero => exact h
  | succ n ih => exact .ite h (ih h.mxCycle)

theorem KeptForm.mxTo (h : KeptForm s) {i : Nat} {w : MxWhen} : KeptForm (s.mxTo i w) := .ite h.mxRun h.setMx

theorem KeptForm.mxAt (h : KeptForm s) {i : Nat} {w : MxWhen} {f : State → Out} (hf : ∀ t, KeptForm t → NextKept (f t)) : NextKept (s.mxAt i w f) :=
  .ite (.ite (hf _ h.mxTo.lsContests) h.mxTo.lsContests.next) h.next

theorem KeptForm.putMx (h : KeptForm s) {i : Nat} {m : MxState} : KeptForm (s.putMx i m) := h.setMx

theorem KeptForm.mxIssue (h : KeptForm s) {op i : Nat} {w : Word64} {t : MxWhen} : NextKept (mxIssue op i w t s) := by
  unfold Machine.mxIssue
  refine h.mxAt (fun _ h' => ?_)
  refine h'.issue (fun _ h'' => ?_)
  split
  · exact h''
  · exact h''.putMx.nextPc

theorem KeptForm.execMxmarkDone (h : KeptForm s) {i : Nat} {w : MxWhen} : NextKept (execMxmarkDone i w s) := by
  unfold Machine.execMxmarkDone
  refine h.mxAt (fun _ h' => ?_)
  extract_lets +onlyGivenNames m
  split
  · exact h'.putMx.tallyAdd.next
  · exact h'.next

theorem KeptForm.startLoad (h : KeptForm s) {i : Nat} {l : MxLoad} {qs : List Nat} : KeptForm (s.startLoad i l qs) :=
  h.putMx.foldl fun _ _ h' => h'.lsNote

theorem KeptForm.execWeightLoadStart (h : KeptForm s) {i : Nat} {w : MxWhen} : NextKept (execWeightLoadStart i w s) := by
  unfold Machine.execWeightLoadStart
  refine h.mxAt (fun _ h' => ?_)
  extract_lets +onlyGivenNames m
  split
  · exact h'.startLoad.next
  · exact h'.next

theorem KeptForm.execWeightLoadComplete (h : KeptForm s) {i q : Nat} {w : MxWhen} : NextKept (execWeightLoadComplete i q w s) :=
  h.mxAt fun _ h' => .ite h'.putMx.next (.ite h'.putMx.next h'.next)

theorem KeptForm.execPassStart (h : KeptForm s) {i q : Nat} {w : MxWhen} : NextKept (execPassStart i q w s) := by
  unfold Machine.execPassStart
  refine h.mxAt (fun _ h' => ?_)
  extract_lets +onlyGivenNames sh m
  split
  · exact h'.putMx.next
  · exact h'.next

theorem KeptForm.execPassComplete (h : KeptForm s) {i q : Nat} {w : MxWhen} : NextKept (execPassComplete i q w s) := by
  unfold Machine.execPassComplete
  refine h.mxAt (fun _ h' => ?_)
  split
  · extract_lets +onlyGivenNames s1 m s2
    have h2 : KeptForm s1 := h'.mxWrites.countF
    have h3 : KeptForm s2 := h2.putMx
    refine KeptForm.next ?_
    split
    · exact h3.tallyAdd
    · exact h3
  · exact h'.next

theorem KeptForm.gateStep (h : KeptForm s) {i : Nat} {dir : Ramp} : KeptForm (s.gateStep i dir) :=
  .ite h.setMx.limiterTake h.setMx

theorem KeptForm.execRampDownStart (h : KeptForm s) {i : Nat} {w : MxWhen} : NextKept (execRampDownStart i w s) :=
  h.mxAt fun _ h' => (KeptForm.ite h'.gateStep h').next

theorem KeptForm.execRampStepExpiry (h : KeptForm s) {i : Nat} {w : MxWhen} : NextKept (execRampStepExpiry i w s) :=
  h.mxAt fun _ h' => (KeptForm.ite h'.gateStep h').next

theorem KeptForm.execRampUpStart (h : KeptForm s) {i : Nat} {w : MxWhen} : NextKept (execRampUpStart i w s) :=
  h.mxAt fun _ h' => (KeptForm.ite h'.setMx h').next

theorem KeptForm.admitQuarter (h : KeptForm s) {i : Nat} : KeptForm (s.admitQuarter i) :=
  .ite h (.ite h.setMx (.ite h.gateStep h))

theorem KeptForm.execTransitionAdmit (h : KeptForm s) {i kind : Nat} {w : MxWhen} : NextKept (execTransitionAdmit i kind w s) := by
  unfold Machine.execTransitionAdmit
  extract_lets +onlyGivenNames c
  exact .ite (h.mxAt fun _ h' => h'.admitQuarter.next) <|
    .ite (.ite h.setCore.limiterTake.next h.next) <|
    .ite (.ite h.setCore.next (.ite h.setCore.limiterTake.next h.next)) h.next

/-! Memory commands -/

theorem KeptForm.copySend {i j n : Nat} (h : KeptForm s) : KeptForm (copySend i j n s) := by
  induction n generalizing s with
  | zero => exact h
  | succ n ih =>
    unfold Machine.copySend
    extract_lets q
    split
    · exact h
    split
    · exact h
    · exact .ite h (ih h.setPort.newTag.inject)

theorem KeptForm.copyEnd (h : KeptForm s) {i j : Nat} : KeptForm (s.copyEnd i j) := by
  unfold State.copyEnd
  extract_lets +onlyGivenNames q
  split
  · exact h
  · exact .ite h.setPort.portAnswer h

theorem KeptForm.copyAnswer (h : KeptForm s) {i j off : Nat} {wr : Bool} {status : Nat} {d : List Byte} :
    KeptForm (s.copyAnswer i j off wr status d) := by
  unfold State.copyAnswer
  extract_lets +onlyGivenNames q
  split
  · exact h
  · exact .ite h.setPort.copyEnd (.ite h.setPort.copySend.copyEnd h.newTag.portTake)

theorem KeptForm.execHcopy (h : KeptForm s) {id : Nat} : NextKept (execHcopy id s) := by
  unfold Machine.execHcopy
  split
  · exact h.next
  extract_lets +onlyGivenNames s1 old
  have h1 : KeptForm s1 := h.dropPkt
  split
  · exact h1.portAnswer.next
  split
  · exact h1.portAnswer.next
  split
  · exact h1.portAnswer.next
  split
  · exact h1.portAnswer.next
  · exact h1.setPort.copySend.next

theorem KeptForm.memArrive (h : KeptForm s) {id ty : Nat} : KeptForm (s.memArrive id ty) := by
  unfold State.memArrive
  split
  · exact h.dropPkt.portTake
  · exact h.homeArrive

theorem KeptForm.execHrd (h : KeptForm s) {id : Nat} : NextKept (execHrd id s) := h.memArrive.next

theorem KeptForm.execHwr (h : KeptForm s) {id : Nat} : NextKept (execHwr id s) := h.memArrive.next

theorem KeptForm.memAnswer (h : KeptForm s) {tag dpa status : Nat} {d : List Byte} : KeptForm (s.memAnswer tag dpa status d) := by
  unfold State.memAnswer
  split
  · exact h
  extract_lets +onlyGivenNames s
  have h1 : KeptForm s := h.frame
  split
  · exact h1.streamAnswer
  · exact h1.fillReturn
  · exact h1.homeAnswer
  · exact h1.copyAnswer
  · exact h1.cowAnswer
  · exact h.frame
  · exact h1.jobAnswer

theorem KeptForm.respArrive (h : KeptForm s) {id ty : Nat} : KeptForm (s.respArrive id ty) := by
  unfold State.respArrive
  split
  · exact h
  · exact .ite h.dropPkt.memAnswer.settle h

theorem KeptForm.execHrsp (h : KeptForm s) {id : Nat} : NextKept (execHrsp id s) := h.respArrive.next

theorem KeptForm.execHack (h : KeptForm s) {id : Nat} : NextKept (execHack id s) := h.respArrive.next

theorem KeptForm.execCdata (h : KeptForm s) {id : Nat} : NextKept (execCdata id s) := by
  unfold Machine.execCdata
  split
  · split
    · split
      · exact h.dropPkt.cohData.settle.next
      · exact h.next
    · exact h.respArrive.next
  · exact h.next

theorem KeptForm.execXinv (h : KeptForm s) {who : Requester} {part : Nat} {value : Word} : NextKept (execXinv who part value s) := by
  unfold Machine.execXinv
  split
  · refine h.trigger (fun _ h' => ?_)
    · extract_lets +onlyGivenNames s1 va
      have h2 : KeptForm s1 := h'.store.setF.setF
      exact h2.frame
  · exact h.next

theorem KeptForm.execXinvDone (h : KeptForm s) {n : Nat} : NextKept (execXinvDone n s) := by
  unfold Machine.execXinvDone
  split
  · exact h.next
  extract_lets +onlyGivenNames s1
  have h1 : KeptForm s1 := h.frame.dropXlat
  split
  · split
    · exact h1.cowLeave.settle.next
    · exact h1.next
  · exact .ite h1.next h1.setF.setF.next

theorem KeptForm.censusStart (h : KeptForm s) {part op : Nat} : KeptForm (s.censusStart part op) := by
  -- The equation of `State.censusStart` is too deep for the kernel to check, so its definition is put in as a whole.
  generalize hf : @State.censusStart = f
  delta State.censusStart at hf
  subst hf
  beta_reduce
  extract_lets +onlyGivenNames s1 page refused
  have h1 : KeptForm s1 := h.setF.setF.setF
  split
  · exact h1.newTag
  split
  · exact h1.newTag.cluSend
  · exact h1.newTag

theorem KeptForm.censusRow (h : KeptForm s) {op : Nat} {who : Requester} {part : Nat} {value : Word} : NextKept (censusRow op who part value s) :=
  .ite (h.trigger fun _ h' => .ite h' h'.censusStart) h.next

theorem KeptForm.execCensusOpComplete (h : KeptForm s) {part : Nat} : NextKept (execCensusOpComplete part s) := by
  unfold Machine.execCensusOpComplete
  split
  · exact h.next
  · exact (KeptForm.ite h.frame h.frame.setF).setF.setF.setF.next

theorem KeptForm.cowRetry (h : KeptForm s) {id : Nat} : KeptForm (s.cowRetry id) := by
  unfold State.cowRetry
  split
  · split
    · extract_lets +onlyGivenNames s1
      have h1 : KeptForm s1 := h.cowFree
      split
      · exact .ite h1.setCow h1
      · exact h1
    · exact h
  · exact h

theorem KeptForm.execFreeTailAdvance (h : KeptForm s) {who : Requester} {part : Nat} {value : Word} :
    NextKept (execFreeTailAdvance who part value s) :=
  .ite (h.trigger fun _ h' => (h'.store.foldl fun _ _ h'' => h''.cowRetry).settle) h.next

theorem KeptForm.execFreePageWaitExpiry (h : KeptForm s) {cow : Nat} : NextKept (execFreePageWaitExpiry cow s) := by
  unfold Machine.execFreePageWaitExpiry
  split
  · exact .ite h.advanceTo.cowGiveUp.settle.next h.next
  · exact h.next

theorem KeptForm.mnlErr (h : KeptForm s) {die ty win status : Nat} : KeptForm (s.mnlErr die ty win status) :=
  h.countF.setF.setF.setF.setF

theorem KeptForm.mnlAccess (h : KeptForm s) {die ty win tag len addr : Nat} {d : List Byte} {mask : Nat} :
    KeptForm (s.mnlAccess die ty win tag len addr d mask) :=
  .ite h.mnlErr.mtSend h.startJob.settle

theorem KeptForm.mnlHeard (h : KeptForm s) {die bytes : Nat} : KeptForm (s.mnlHeard die bytes) := h.countF

theorem KeptForm.execMrd (h : KeptForm s) {die win tag len addr : Nat} : NextKept (execMrd die win tag len addr s) :=
  .ite h.mnlHeard.mnlAccess.next h.next

theorem KeptForm.execMwr (h : KeptForm s) {die win tag len addr : Nat} {data : List Byte} : NextKept (execMwr die win tag len addr data s) :=
  .ite h.mnlHeard.mnlAccess.next h.next

theorem KeptForm.execMwrb (h : KeptForm s) {die win tag len addr : Nat} {data : List Byte} {mask : Nat} :
    NextKept (execMwrb die win tag len addr data mask s) :=
  .ite h.mnlHeard.mnlAccess.next h.next

theorem KeptForm.execMsig (h : KeptForm s) {die win addr count : Nat} : NextKept (execMsig die win addr count s) := by
  unfold Machine.execMsig
  split
  · exact h.next
  extract_lets +onlyGivenNames s part
  have h1 : KeptForm s := h.mnlHeard
  split
  · exact .ite h1.extSend.next h1.mnlErr.next
  · exact h1.mnlErr.next

theorem KeptForm.execMevt (h : KeptForm s) {die win code : Nat} : NextKept (execMevt die win code s) :=
  .ite h.next (.ite h.mnlHeard.postTo.next h.mnlHeard.mnlErr.next)

/-! Management -/

theorem KeptForm.execScanOpenRequest (h : KeptForm s) {who : Requester} {value : Word} : NextKept (execScanOpenRequest who value s) :=
  .ite h.next (h.trigger fun _ h' => .ite h'.setF.setF (.ite h'.setF.setF h'.setF.setF.scanBegin))

theorem KeptForm.execJtagInstruction (h : KeptForm s) {instr : JtagInstr} : NextKept (execJtagInstruction instr s) := by
  unfold Machine.execJtagInstruction
  extract_lets +onlyGivenNames _ s1
  have h1 : KeptForm s1 := h.frame
  split
  · exact h1.frame.next
  · exact .ite h1.scanAsk.next h1.next
  · exact h1.next

theorem KeptForm.mailGo (h : KeptForm s) {v : Nat} : KeptForm (s.mailGo v) := by
  unfold State.mailGo
  split
  · exact h
  extract_lets +onlyGivenNames op s1
  have h1 : KeptForm s1 := h.setF.setF.setF
  split
  · exact h1.mailDone
  · exact .ite (.ite h1.setF h1.setF.frame) h1.mailDone

theorem KeptForm.mailWrite (h : KeptForm s) {op : Nat} {who : Requester} {value : Word} : NextKept (mailWrite op who value s) :=
  .ite (h.trigger fun _ h' => h'.mailGo) h.next

theorem KeptForm.infoResult (h : KeptForm s) : KeptForm s.infoResult := h.setF.setF.setF.setF

theorem KeptForm.updateEnd (h : KeptForm s) : KeptForm s.updateEnd := h.frame

theorem KeptForm.activateBoth (h : KeptForm s) {version : Nat} : KeptForm (s.activateBoth version) :=
  (h.frame.setF.ensUp.foldl fun _ _ h' => h'.grantClaim).ensReset.updateEnd.setF

theorem KeptForm.activateAlone (h : KeptForm s) {version : Nat} : KeptForm (s.activateAlone version) :=
  h.frame.updateEnd.ensReset

theorem KeptForm.mailRun (h : KeptForm s) {op outcome version : Nat} : KeptForm (s.mailRun op outcome version) := by
  unfold State.mailRun
  extract_lets +onlyGivenNames len flash
  -- a refusal, a flash error, and the effect of each command
  exact .ite h.infoResult.mailDone <|
    .ite h.mailDone <|
    .ite (.ite h.mailDone (.ite h.mailDone h.frame.mailDone)) <|
    .ite h.mailDone <|
    .ite (.ite h.mailDone (.ite h.mailDone h.frame.mailDone)) <|
    .ite (.ite h.mailDone (.ite h.frame.mailDone h.frame.mailDone)) <|
    .ite (.ite h.mailDone (.ite h.mailDone (.ite h.activateBoth.mailDone (.ite h.activateAlone h.mailDone))))
      h.updateEnd.mailDone

theorem KeptForm.execMailboxCommandComplete (h : KeptForm s) {outcome version : Nat} : NextKept (execMailboxCommandComplete outcome version s) :=
  .ite h.next h.frame.mailRun.next

theorem KeptForm.msg (h : KeptForm s) {code : Nat} {d : List Nat} : KeptForm (s.msg code d) := h.frame

theorem KeptForm.spdmOk (h : KeptForm s) {code : Nat} {d : List Nat} : KeptForm (s.spdmOk code d) := h.countF.msg

theorem KeptForm.spdmErr (h : KeptForm s) {code : Nat} : KeptForm (s.spdmErr code) := h.countF.countF.raiseBit.msg

theorem KeptForm.needKey (h : KeptForm s) {k : State → State} (hk : ∀ t, KeptForm t → KeptForm (k t)) : KeptForm (s.needKey k) :=
  .ite h.spdmErr (.ite h.spdmErr (hk _ h))

theorem KeptForm.execGetVersion (h : KeptForm s) {via : Nat} : NextKept (execGetVersion via s) :=
  .ite h.spdmOk.next h.next

theorem KeptForm.execGetCapabilities (h : KeptForm s) {via : Nat} : NextKept (execGetCapabilities via s) :=
  .ite h.spdmOk.next h.next

theorem KeptForm.execNegotiateAlgorithms (h : KeptForm s) {via : Nat} : NextKept (execNegotiateAlgorithms via s) :=
  .ite h.spdmOk.next h.next

theorem KeptForm.execGetDigests (h : KeptForm s) {via : Nat} : NextKept (execGetDigests via s) :=
  .ite h.spdmOk.next h.next

theorem KeptForm.execGetCertificate (h : KeptForm s) {via slot off len : Nat} : NextKept (execGetCertificate via slot off len s) :=
  .ite h.next (.ite h.spdmErr.next h.spdmOk.next)

theorem KeptForm.sign (h : KeptForm s) : KeptForm s.sign.1 := h.takeFree.pair

theorem KeptForm.execChallenge (h : KeptForm s) {via slot nonce : Nat} : NextKept (execChallenge via slot nonce s) :=
  .ite h.next (.ite h.spdmErr.next (h.needKey fun _ h' => h'.sign.spdmOk).next)

theorem KeptForm.execGetMeasurements (h : KeptForm s) {via index : Nat} {signed : Bool} {nonce : Nat} :
    NextKept (execGetMeasurements via index signed nonce s) := by
  unfold Machine.execGetMeasurements
  split
  · exact h.next
  extract_lets d
  clear_value d
  split
  · exact h.spdmErr.next
  · exact .ite (h.needKey fun _ h' => h'.sign.spdmOk).next h.spdmOk.next

theorem KeptForm.execDoeDiscovery (h : KeptForm s) {port index : Nat} : NextKept (execDoeDiscovery port index s) :=
  .ite h.next h.msg.next

theorem KeptForm.execSetEndpointId (h : KeptForm s) {eid : Nat} : NextKept (execSetEndpointId eid s) :=
  .ite h.next (.ite h.msg.next h.frame.msg.next)

theorem KeptForm.execEntdaa (h : KeptForm s) {addr : Nat} : NextKept (execEntdaa addr s) := .ite h.next h.frame.next

theorem KeptForm.execSetdasa (h : KeptForm s) {static addr : Nat} : NextKept (execSetdasa static addr s) :=
  .ite h.next h.frame.next

theorem KeptForm.execGetSensorReading (h : KeptForm s) {sensor : Nat} : NextKept (execGetSensorReading sensor s) := by
  unfold Machine.execGetSensorReading
  split
  · exact h.next
  split
  · exact h.msg.next
  · exact .ite h.takeFree.msg.next h.msg.next

theorem KeptForm.armCap (h : KeptForm s) {n watts : Nat} {a : ℤ} : KeptForm (s.armCap n watts a) :=
  h.setF.setF.setF.setF.setF.setF.setF

theorem KeptForm.execSetPowerCap (h : KeptForm s) {watts : Nat} : NextKept (execSetPowerCap watts s) := by
  unfold Machine.execSetPowerCap
  split
  · exact h.next
  split
  · exact h.msg.next
  split
  · exact h.store.msg.next
  extract_lets +onlyGivenNames a mine s1
  have h1 : KeptForm s1 := h.foldl fun _ _ h' => h'.setF.setF
  split
  · exact h1.msg.next
  · exact h1.armCap.frame.msg.next

theorem KeptForm.execSetCapOrbit (h : KeptForm s) {stamp : Nat} : NextKept (execSetCapOrbit stamp s) :=
  .ite h.next (.ite h.msg.next h.frame.msg.next)

theorem KeptForm.execSetMinDuty (h : KeptForm s) {percent : Nat} : NextKept (execSetMinDuty percent s) :=
  .ite h.next (.ite h.msg.next h.setF.msg.next)

theorem KeptForm.execRequestUpdate (h : KeptForm s) : NextKept (execRequestUpdate s) :=
  .ite h.next (.ite h.msg.next h.frame.msg.next)

theorem KeptForm.execActivateFirmware (h : KeptForm s) {verified : Bool} {version : Nat} : NextKept (execActivateFirmware verified version s) :=
  .ite h.next (.ite h.msg.next (.ite h.msg.next (.ite h.activateBoth.msg.next h.msg.next)))

theorem KeptForm.execFlashLockTimeout (h : KeptForm s) {die : Nat} : NextKept (execFlashLockTimeout die s) := by
  unfold Machine.execFlashLockTimeout
  split
  · exact h.next
  · exact .ite h.next h.advanceTo.frame.next

/-! Time -/

theorem KeptForm.execServiceSliceStart (h : KeptForm s) : NextKept (execServiceSliceStart s) := by
  unfold Machine.execServiceSliceStart
  split
  · exact h.next
  · exact .ite h.next h.advanceTo.frame.next

theorem KeptForm.calibrate (h : KeptForm s) {kind target cycles : Nat} : KeptForm (s.calibrate kind target cycles) :=
  h.frame

theorem KeptForm.execLinkPhaseRecentre (h : KeptForm s) {ens link cycles : Nat} : NextKept (execLinkPhaseRecentre ens link cycles s) :=
  .ite h.calibrate.toLnk.next h.next

theorem KeptForm.execHalyardTsvRecentre (h : KeptForm s) {ens row cycles : Nat} : NextKept (execHalyardTsvRecentre ens row cycles s) :=
  .ite (h.calibrate.foldl fun _ _ h' => h'.setPgState).next h.next

theorem KeptForm.execThermalSensorTrim (h : KeptForm s) {ens tower cycles : Nat} : NextKept (execThermalSensorTrim ens tower cycles s) :=
  .ite h.calibrate.next h.next

theorem KeptForm.execCalibrationComplete (h : KeptForm s) {kind target : Nat} {failed : List Nat} :
    NextKept (execCalibrationComplete kind target failed s) := by
  unfold Machine.execCalibrationComplete
  split
  · exact h.next
  extract_lets +onlyGivenNames s _ s1
  have h1 : KeptForm s := h.advanceTo
  have h2 : KeptForm s1 := h1.frame
  exact .ite (.ite h2.toLnk.next h2.next) (.ite (h2.foldl fun _ _ h' => .ite h'.portToFailed.logRecord h'.setPgState).next h2.next)

theorem KeptForm.secondEdge (h : KeptForm s) {ns : Nat} : KeptForm (s.secondEdge ns) := .ite h.frame.setF.setF h.frame

theorem KeptForm.execNsRollover (h : KeptForm s) : NextKept (execNsRollover s) := .ite h.next h.advance.secondEdge.next

theorem KeptForm.ppsMiss (h : KeptForm s) : KeptForm s.ppsMiss := by
  unfold State.ppsMiss
  extract_lets +onlyGivenNames s0 s1
  have h1 : KeptForm s1 := h.advance.secondEdge.setF
  exact .ite h1.frame h1.frame.setF

theorem KeptForm.execPpsMiss (h : KeptForm s) : NextKept (execPpsMiss s) := .ite h.ppsMiss.next h.next

theorem KeptForm.execPpsEdge (h : KeptForm s) {dt : Nat} : NextKept (execPpsEdge dt s) := by
  unfold Machine.execPpsEdge
  refine .ite h.advance.next ?_
  extract_lets +onlyGivenNames t s1
  have h1 : KeptForm s1 := (KeptForm.ite h.ppsMiss h).advanceTo
  exact .ite h1.secondEdge.setF.setF.frame.next (.ite h1.secondEdge.setF.frame.next h1.setF.next)

theorem KeptForm.execSecLoad (h : KeptForm s) {who : Requester} {value : Word} : NextKept (execSecLoad who value s) :=
  .ite (h.trigger fun _ h' => h'.setF) h.next

theorem KeptForm.execTimebaseSnapshotRead (h : KeptForm s) {who : Requester} : NextKept (execTimebaseSnapshotRead who s) :=
  h.frame.next

/-! Register effects -/

theorem KeptForm.afterWrite (h : KeptForm s) {s0 : State} {k : PageKind} {n pg off : Nat} : KeptForm (s0.afterWrite s k n pg off) := by
  unfold State.afterWrite
  split
  · exact .ite h.frame.setF h
  · exact .ite h.showOrder h
  · exact .ite h.setWord h
  · exact .ite h.lead h
  · exact .ite h.ringOff h
  · exact .ite (h.foldl fun _ _ h' => h'.setF) (.ite h.aim h)
  · exact .ite h.setF h
  · exact h

theorem KeptForm.execCountLoad (h : KeptForm s) {who : Requester} {value : Word} : NextKept (execCountLoad who value s) :=
  .ite (h.trigger fun _ h' => h'.frame) h.next

theorem KeptForm.execActionArm (h : KeptForm s) {who : Requester} {entry : Nat} {value : Word} : NextKept (execActionArm who entry value s) :=
  .ite (h.trigger fun _ h' => .ite h' h'.setF.setF) h.next

theorem KeptForm.execActionDisarm (h : KeptForm s) {who : Requester} {entry : Nat} {value : Word} : NextKept (execActionDisarm who entry value s) :=
  .ite (h.trigger fun _ h' => .ite h'.setF.setF h') h.next

theorem KeptForm.freeShutdown (h : KeptForm s) {who : Requester} {value : Word} : NextKept (freeShutdown who value s) :=
  h.takeFree.execShutdown

theorem KeptForm.censusWrite (h : KeptForm s) {who : Requester} {part : Nat} {v : Word} : NextKept (censusWrite who part v s) := by
  unfold Machine.censusWrite
  extract_lets +onlyGivenNames value
  -- the seven operations of CEN_OP
  exact .ite h.censusRow <| .ite h.censusRow <| .ite h.censusRow <| .ite h.censusRow <| .ite h.censusRow <|
    .ite h.censusRow <| .ite h.censusRow h.next

theorem rowsKept_ctrlRows {who : Requester} {k : PageKind} {n : Nat} {v : Word} : RowsKept (ctrlRows who k n v) := by
  unfold ctrlRows
  split
  · exact .cons (fun _ h => .ite (.ite h.next h.execLinkEnable) (.ite h.execLinkDisable h.next)) .nil
  · exact .cons (fun _ h => h.execPartitionEnable) (.cons (fun _ h => h.execQuiesceReq) (.cons (fun _ h => h.execPartitionReset) .nil))
  · exact .cons (fun _ h => h.execClusterReset) .nil
  · exact .cons (fun _ h => h.execCoreReset) .nil
  · exact .nil

/-- Every row that a register write performs keeps the form. -/
theorem rowsKept_rowsOfWrite {who : Requester} {k : PageKind} {n pg off : Nat} {v : Word} : RowsKept (rowsOfWrite who k n pg off v) := by
  refine .ite (.cons (fun _ h => h.execEventEnableWrite) .nil) (.ite rowsKept_ctrlRows ?_)
  split
  case h_1 => exact .ite (.cons (fun _ h => h.execSecLoad) .nil) .nil
  case h_2 =>
    exact .ite (.cons (fun _ h => h.execCountLoad) .nil) (.ite (.cons (fun _ h => h.execEnergyCtrlWrite) .nil)
      (.ite (.cons (fun _ h => h.execActionArm) (.cons (fun _ h => h.execActionDisarm) .nil)) .nil))
  case h_3 =>
    exact .ite (.cons (fun _ h => h.takeFree.execResetAll) (.cons (fun _ h => h.freeShutdown) (.cons (fun _ h => h.execForceCold)
      (.cons (fun _ h => h.execEnsResetA) (.cons (fun _ h => h.execEnsResetB) .nil))))) .nil
  case h_4 =>
    exact .ite (.cons (fun _ h => h.execRefclkSelect) .nil) (.ite (.cons (fun _ h => h.execTestFlipArm) .nil)
      (.ite (.cons (fun _ h => h.bistWrite) (.cons (fun _ h => h.bistWrite) (.cons (fun _ h => h.bistWrite) .nil))) .nil))
  case h_5 => exact .ite (.cons (fun _ h => h.execScanOpenRequest) .nil) .nil
  case h_6 => exact .ite (.cons (fun _ h => h.trigger fun _ h => h.mailGo) .nil) .nil
  case h_7 =>
    exact .ite (.cons (fun _ h => h.execDriverEclipse) .nil) (.ite (.cons (fun _ h => h.execPortFail) .nil)
      (.ite (.cons (fun _ h => h.execBankRetire) .nil) .nil))
  case h_8 => exact .ite (.cons (fun _ h => h.execQueueResume) .nil) .nil
  case h_9 => exact .ite (.cons (fun _ h => h.execEventHeadAdvance) .nil) .nil
  case h_10 =>
    exact .ite (.cons (fun _ h => h.execInvalRo) (.cons (fun _ h => h.execWbAll) .nil))
      (.ite (.cons (fun _ h => h.execAssign) (.cons (fun _ h => h.execRelease) .nil)) .nil)
  case h_11 =>
    exact .ite (.cons (fun _ h => h.execLocalStoreSplitChange) .nil)
      (.ite (.ite (.cons (fun _ h => h.execVoyageLaunch) .nil) (.cons (fun _ h => h.execVoyageAbort) .nil)) .nil)
  case h_12 => exact .ite (.cons (fun _ h => h.execRetrain) (.cons (fun _ h => h.execProbe) .nil)) .nil
  case h_13 => exact .ite (.cons (fun _ h => h.execMgmt) .nil) .nil
  case h_14 =>
    exact .ite (.cons (fun _ h => h.execPartitionRowsWrite) .nil) (.ite (.cons (fun _ h => h.execXinv) .nil)
      (.ite (.cons (fun _ h => h.censusWrite) .nil) (.ite (.cons (fun _ h => h.execFreeTailAdvance) .nil) .nil)))
  case h_15 => exact .nil

theorem KeptForm.writeReg (h : KeptForm s) {who : Requester} {a mask : Nat} {v : Word} {atOnce : Bool} :
    KeptForm (s.writeReg who a mask v atOnce) := by
  unfold State.writeReg
  split
  · exact h
  extract_lets pg off v1 stop s1 s2
  have h2 : KeptForm s2 := h.store.afterWrite
  exact .ite h.execQueueEnable.nextOr <| .ite h2 (h2.foldl_mem fun f t hf ht => (rowsKept_rowsOfWrite f hf t ht).nextOr)

theorem KeptForm.readReg (h : KeptForm s) {who : Requester} {a coincident : Nat} : KeptForm (s.readReg who a coincident) := by
  unfold State.readReg
  split
  · exact h
  split
  · exact h.frame
  split
  · exact h.readDropped
  split
  · exact h.readDropped
  split
  · exact h.execTimebaseSnapshotRead.nextOr
  split
  · exact h.execEnergyTotalRead.nextOr
  extract_lets +onlyGivenNames pg r s1 _ s2 s3
  have h1 : KeptForm s1 := .ite h.setWord h
  have h2 : KeptForm s2 := .ite h1.frame h1
  have h3 : KeptForm s3 := .ite h2.tokenPeak h2
  exact h3.frame

theorem KeptForm.readSized (h : KeptForm s) {a size : Nat} {read : State → Nat → State} (hread : ∀ t a, KeptForm t → KeptForm (read t a)) :
    KeptForm (s.readSized a size read) := by
  unfold State.readSized
  split
  · exact hread _ _ h
  · extract_lets +onlyGivenNames s1 s2
    have h1 : KeptForm s1 := hread _ _ h
    have h2 : KeptForm s2 := hread _ _ h1
    exact h2.frame
  · exact h.frame

theorem KeptForm.execReadClearCounter (h : KeptForm s) {who : Requester} {addr : RegAddr} {size coincident : Nat} :
    NextKept (execReadClearCounter who addr size coincident s) := by
  unfold Machine.execReadClearCounter
  split
  · exact .ite h.next (h.readSized fun _ _ h' => h'.readReg).next
  · split
    · exact .ite h.next (h.readSized fun _ _ h' => h'.frame).next
    · exact h.next
  · split
    · exact .ite h.next (.ite h.frame.next h.frame.next)
    · exact h.next

/-! Orbits -/

theorem KeptForm.countTick (h : KeptForm s) : KeptForm s.countTick := by
  unfold State.countTick
  extract_lets +onlyGivenNames load o s1
  have h1 : KeptForm s1 := .ite h.setF h
  exact h1.frame

theorem KeptForm.overrunTick (h : KeptForm s) : KeptForm s.overrunTick :=
  (KeptForm.ite (h.foldl fun _ _ h' => h'.orF) (h.foldl fun _ _ h' => h'.orF).countF).foldl fun _ _ h' => h'.setCore

theorem KeptForm.shortLevel (h : KeptForm s) {e len : Nat} : KeptForm (s.shortLevel e len) := .ite h.setLevel h

theorem KeptForm.setSrc (h : KeptForm s) {v : Nat} : KeptForm (s.setSrc v) := .ite h h.setF

theorem KeptForm.noFallback (h : KeptForm s) : KeptForm s.noFallback := h.frame.setF

/-- A stop applies what was staged and leaves nothing staged (R11). -/
theorem KeptForm.stopOrbits (h : KeptForm s) : KeptForm s.stopOrbits := by
  unfold State.stopOrbits
  extract_lets +onlyGivenNames e len s1 s2 s3 _ _ s4 s5 s6
  have h1 : KeptForm s1 := (KeptForm.ite h.accountClose h.closeWindow).shortLevel
  have h2 : KeptForm s2 := (h1.withStaged tabSorted_nil (List.forall_mem_nil _)).applyStaged
  have h5 : KeptForm s5 := h2.setF.noFallback.frame.showOrder
  have h6 : KeptForm s6 := .ite h5.pcapEnd h5
  exact .ite h6.divRelease h6

theorem KeptForm.actCtrl (h : KeptForm s) {v : Nat} : KeptForm (s.actCtrl v) :=
  .ite (.ite h h.setSrc.noFallback.setF) (KeptForm.ite h h.setSrc.noFallback.setF).stopOrbits

theorem KeptForm.fire (h : KeptForm s) {n : Nat} {x : Armed} : KeptForm (State.fire n s x) :=
  (KeptForm.ite h.setF.setF.setF (.ite h.setF.setF.setF.actCtrl h.setF.setF.setF.writeReg)).orF.orF

theorem KeptForm.fireAll (h : KeptForm s) {l : List Armed} : KeptForm (s.fireAll l) :=
  h.foldl fun _ _ h' => .ite h'.fire h'

theorem KeptForm.tickEnd (h : KeptForm s) {closed : Bool} {trim2 len : Nat} {anyTrim : Bool} : KeptForm (s.tickEnd closed trim2 len anyTrim) :=
  (h.pcapAtTick5.divAtTick5.ceilDown.foldl fun _ _ h' => h'.freqAtTick).frame.ceilUp.dispatchRounds.settle

/-- A tick applies what was staged and leaves nothing staged (R11). -/
theorem KeptForm.tick (h : KeptForm s) : KeptForm s.tick := by
  unfold State.tick
  extract_lets +onlyGivenNames armed staged closed len e win s1 trim2 anyTrim s2 _ _ s3 s4 s5
  have h2 : KeptForm s2 := (KeptForm.ite h.accountClose h.closeWindow).countTick.overrunTick
  have h3 : KeptForm s3 := (h2.withStaged tabSorted_nil (List.forall_mem_nil _)).frame
  have h5 : KeptForm s5 := h3.shortLevel.applyStaged.pcapAtTick4.fireAll
  exact .ite h5 h5.showLevel.writeTokCap.orbitBounds.tickEnd

theorem KeptForm.execOrbitTimerExpiry (h : KeptForm s) : NextKept (execOrbitTimerExpiry s) := by
  unfold Machine.execOrbitTimerExpiry
  split
  · exact .ite h.advanceTo.tick.next h.next
  · exact h.next

theorem KeptForm.missNow (h : KeptForm s) : KeptForm s.missNow := .ite h h.frame.setF.countF

theorem KeptForm.fallBack (h : KeptForm s) : KeptForm s.fallBack := h.missNow.setF.setF.frame.tick

theorem KeptForm.missAct (h : KeptForm s) : KeptForm s.missAct := .ite h.fallBack h.missNow

theorem KeptForm.execOtickMiss (h : KeptForm s) : NextKept (execOtickMiss s) := by
  unfold Machine.execOtickMiss
  split
  · exact h.advanceTo.missAct.next
  · exact h.next

theorem KeptForm.watchEdge (h : KeptForm s) {t : Nat} : KeptForm (s.watchEdge t) :=
  .ite h.noFallback.setF.setF.tick h.frame.setF

theorem KeptForm.edgeNow (h : KeptForm s) : KeptForm s.edgeNow := by
  unfold State.edgeNow
  split
  · exact h.tick
  · exact .ite h.watchEdge (.ite h.tick h.setF.countF)

theorem KeptForm.execOtickEdge (h : KeptForm s) {dt : Nat} : NextKept (execOtickEdge dt s) := by
  unfold Machine.execOtickEdge
  extract_lets +onlyGivenNames t
  split
  · exact h.advance.next
  extract_lets +onlyGivenNames s
  have h1 : KeptForm s := by
    unfold s
    split
    · exact .ite h.advanceTo.missAct h
    · exact h
  exact h1.advanceTo.edgeNow.next

theorem KeptForm.execStopOrbits (h : KeptForm s) {who : Requester} {value : Word} : NextKept (execStopOrbits who value s) :=
  .ite (h.trigger fun _ h' => h'.setSrc.stopOrbits) h.next

theorem KeptForm.startOrbits (h : KeptForm s) {v : Nat} : KeptForm (s.startOrbits v) := by
  unfold State.startOrbits
  extract_lets s1 s2 _ s3
  have h3 : KeptForm s3 := h.setSrc.setF.noFallback.setF.frame
  exact .ite h3.advance.tick h3

theorem KeptForm.execStartOrbits (h : KeptForm s) {who : Requester} {value : Word} : NextKept (execStartOrbits who value s) :=
  .ite (h.trigger fun _ h' => h'.startOrbits) h.next

theorem KeptForm.changeSrc (h : KeptForm s) {v : Nat} : KeptForm (s.changeSrc v) := by
  unfold State.changeSrc
  extract_lets +onlyGivenNames s1
  have h1 : KeptForm s1 := h.setSrc.noFallback.setF
  split
  · split
    · exact .ite h1.tick h1
    · exact h1.advance.tick
  · split
    · split
      · exact .ite h1.fallBack h1
      · exact h1
    · exact h1

theorem KeptForm.execTickSourceChange (h : KeptForm s) {who : Requester} {value : Word} : NextKept (execTickSourceChange who value s) :=
  .ite (h.trigger fun _ h' => h'.changeSrc) h.next

theorem KeptForm.writeOrbCtrl (h : KeptForm s) {who : Requester} {v : Word} : KeptForm (s.writeOrbCtrl who v) :=
  .ite h.execStopOrbits.nextOr (.ite h.execStartOrbits.nextOr (.ite h.execTickSourceChange.nextOr h.setSrc))

theorem KeptForm.writeBy (h : KeptForm s) {who : Requester} {addr : Nat} {v : Word} : KeptForm (s.writeBy who addr v) := by
  unfold State.writeBy
  extract_lets +onlyGivenNames r
  split
  · exact h.admitted
  · exact .ite h.admitted.writeOrbCtrl h.admitted.writeReg

theorem KeptForm.writeWord (h : KeptForm s) {who : Requester} {a : Nat} {v : Word} {sets : Nat} : KeptForm (s.writeWord who a v sets) :=
  .ite h.writeBy h.writeBy.setWord

theorem KeptForm.writeSized (h : KeptForm s) {a size : Nat} {v : Word64} {write : State → Nat → Word → State}
    (hwrite : ∀ t a v, KeptForm t → KeptForm (write t a v)) : KeptForm (s.writeSized a size v write) := by
  unfold State.writeSized
  split
  · exact hwrite _ _ _ h
  · exact hwrite _ _ _ (hwrite _ _ _ h)
  · exact h

theorem KeptForm.execRegisterWrite (h : KeptForm s) {who : Requester} {addr : RegAddr} {size : Nat} {value : Word64} {sets : Nat} :
    NextKept (execRegisterWrite who addr size value sets s) := by
  unfold Machine.execRegisterWrite
  split
  · split
    · split
      · exact .ite h.next h.aerUr.next
      · exact h.next
    · exact (h.writeSized fun _ _ _ h' => h'.writeWord).next
  · split
    · exact .ite h.next (.ite h.aerUr.next (h.writeSized fun _ _ _ h' => h'.bar4Write).next)
    · exact h.next
  · split
    · exact .ite h.next h.cfgWrite.next
    · exact h.next

/-! Every command -/

/-- The form is kept by every row of the table of commands. -/
theorem KeptForm.exec (h : KeptForm s) : ∀ {i : Instr}, NextKept (exec i s)
  | .registerWrite .. => h.execRegisterWrite
  | .readClearCounter .. => h.execReadClearCounter
  | .orbitTimerExpiry => h.execOrbitTimerExpiry
  | .otickEdge .. => h.execOtickEdge
  | .otickMiss => h.execOtickMiss
  | .stopOrbits .. => h.execStopOrbits
  | .startOrbits .. => h.execStartOrbits
  | .tickSourceChange .. => h.execTickSourceChange
  | .countLoad .. => h.execCountLoad
  | .actionArm .. => h.execActionArm
  | .actionDisarm .. => h.execActionDisarm
  | .serviceSliceStart => h.execServiceSliceStart
  | .linkPhaseRecentre .. => h.execLinkPhaseRecentre
  | .halyardTsvRecentre .. => h.execHalyardTsvRecentre
  | .thermalSensorTrim .. => h.execThermalSensorTrim
  | .calibrationComplete .. => h.execCalibrationComplete
  | .nsRollover => h.execNsRollover
  | .ppsEdge .. => h.execPpsEdge
  | .ppsMiss => h.execPpsMiss
  | .secLoad .. => h.execSecLoad
  | .timebaseSnapshotRead .. => h.execTimebaseSnapshotRead
  | .energyTotalRead .. => h.execEnergyTotalRead
  | .mxwld .. | .mxpass .. | .mxbunt .. | .mxidle .. | .mxmark .. => h.mxIssue
  | .mxmarkDone .. => h.execMxmarkDone
  | .weightLoadStart .. => h.execWeightLoadStart
  | .weightLoadComplete .. => h.execWeightLoadComplete
  | .passStart .. => h.execPassStart
  | .passComplete .. => h.execPassComplete
  | .rampDownStart .. => h.execRampDownStart
  | .rampStepExpiry .. => h.execRampStepExpiry
  | .rampUpStart .. => h.execRampUpStart
  | .transitionAdmit .. => h.execTransitionAdmit
  | .ctnop .. => h.execCtnop
  | .ctli .. => h.execCtli
  | .ctadd .. => h.execCtadd
  | .ctloop .. => h.execCtloop
  | .ctbr .. => h.execCtbr
  | .ctid .. => h.execCtid
  | .ctevt .. => h.execCtevt
  | .ctberth .. => h.execCtberth
  | .berthComplete .. => h.execBerthComplete
  | .programStart .. => h.execProgramStart
  | .programFetchComplete .. => h.execProgramFetchComplete
  | .sywait .. => h.execSywait
  | .sywaitSatisfied .. => h.execSywaitSatisfied
  | .sysig .. => h.execSysig
  | .syfence .. => h.execSyfence
  | .syfenceSatisfied .. => h.execSyfenceSatisfied
  | .syset .. => h.execSyset
  | .vadd .. | .vsub .. | .vmul .. | .vfma .. | .vfms .. | .vmax .. | .vmin .. | .vabs .. | .vneg .. | .vcmplt ..
  | .vcmpeq .. | .vsel .. | .vbci .. | .vexp2 .. | .vlog2 .. | .vrcp .. | .vrsq .. | .vsqrt .. | .vtanh ..
  | .vredsum .. | .vredmax .. | .vld .. | .vst .. | .vldb .. | .vmark .. => h.vxIssue
  | .vmarkDone .. => h.execVmarkDone
  | .stld .. | .stst .. | .stpf .. => h.stIssue
  | .stmark .. => h.execStmark
  | .stmarkDone .. => h.execStmarkDone
  | .streamComplete .. => h.execStreamComplete
  | .coreFaulted .. => h.execCoreFaulted
  | .watchdogHang .. => h.execWatchdogHang
  | .voyageLaunch .. => h.execVoyageLaunch
  | .voyageAbort .. => h.execVoyageAbort
  | .localStoreSplitChange .. => h.execLocalStoreSplitChange
  | .packetHop .. => h.execPacketHop
  | .tallyAdd .. => h.execTallyAdd
  | .frameSend .. => h.execFrameSend
  | .frameReceive .. => h.execFrameReceive
  | .linkEnable .. => h.execLinkEnable
  | .linkDisable .. => h.execLinkDisable
  | .sidebandUp .. => h.execSidebandUp
  | .sbTimeout .. => h.execSbTimeout
  | .mainbandTrained .. => h.execMainbandTrained
  | .mbTrainTimeout .. => h.execMbTrainTimeout
  | .ident .. => h.execIdent
  | .identityTimeout .. => h.execIdentityTimeout
  | .capabilityRecord .. => h.execCapabilityRecord
  | .paramTimeout .. => h.execParamTimeout
  | .laneFailure .. => h.execLaneFailure
  | .retrain .. => h.execRetrain
  | .retrainComplete .. => h.execRetrainComplete
  | .retrainTimeout .. => h.execRetrainTimeout
  | .probe .. => h.execProbe
  | .linkDelayMeasured .. => h.execLinkDelayMeasured
  | .mrd .. => h.execMrd
  | .mwr .. => h.execMwr
  | .mwrb .. => h.execMwrb
  | .msig .. => h.execMsig
  | .mevt .. => h.execMevt
  | .hrd .. => h.execHrd
  | .hwr .. => h.execHwr
  | .halyardRequestComplete .. => h.execHalyardRequestComplete
  | .expansionComplete .. => h.execExpansionComplete
  | .hrsp .. => h.execHrsp
  | .hack .. => h.execHack
  | .agedRemoteGrant .. => h.execAgedRemoteGrant
  | .rowIdleClose .. => h.execRowIdleClose
  | .refreshDue .. => h.execRefreshDue
  | .refreshPayback .. => h.execRefreshPayback
  | .refreshComplete .. => h.execRefreshComplete
  | .hcopy .. => h.execHcopy
  | .bkcast .. => h.execBkcast
  | .bksetk .. => h.execBksetk
  | .bkmark .. => h.execBkmark
  | .bkmarkDone .. => h.execBkmarkDone
  | .bkcmd .. => h.execBkcmd
  | .bksetkPacket .. => h.execBksetkPacket
  | .bkdone .. => h.execBkdone
  | .waveStart .. => h.execWaveStart
  | .engineStepComplete .. => h.execEngineStepComplete
  | .patrolScrubDue .. => h.execPatrolScrubDue
  | .scrubStepStart .. => h.execScrubStepStart
  | .lineFillReturn .. => h.execLineFillReturn
  | .missAdmit .. => h.execMissAdmit
  | .crds .. => h.execCrds
  | .cclaim .. => h.execCclaim
  | .cfill .. => h.execCfill
  | .cwb .. => h.execCwb
  | .cinv .. => h.execCinv
  | .crecall .. => h.execCrecall
  | .catom .. => h.execCatom
  | .cdata .. => h.execCdata
  | .cgrant .. => h.execCgrant
  | .ciack .. => h.execCiack
  | .cwbr .. => h.execCwbr
  | .cack .. => h.execCack
  | .invalRo .. => h.execInvalRo
  | .wbAll .. => h.execWbAll
  | .cacheCommandComplete .. => h.execCacheCommandComplete
  | .xinv .. => h.execXinv
  | .xinvDone .. => h.execXinvDone
  | .censusRead .. | .censusInc .. | .censusDec .. | .censusSet .. | .censusLock .. | .censusDecunlock ..
  | .censusUnlock .. => h.censusRow
  | .censusOpComplete .. => h.execCensusOpComplete
  | .freeTailAdvance .. => h.execFreeTailAdvance
  | .freePageWaitExpiry .. => h.execFreePageWaitExpiry
  | .energySample .. => h.execEnergySample
  | .powerWaveStart => h.execPowerWaveStart
  | .gateSegmentClose .. => h.execGateSegmentClose
  | .currentRegionTrip .. => h.execCurrentRegionTrip
  | .sensePointSample .. => h.execSensePointSample
  | .domainFault .. => h.execDomainFault
  | .vinWarning .. => h.execVinWarning
  | .vinAboveWarning .. => h.execVinAboveWarning
  | .releaseQualified => h.execReleaseQualified
  | .waveResume => h.execWaveResume
  | .vinBelowReset .. => h.execVinBelowReset
  | .fieldFault .. => h.execFieldFault
  | .governorWindow => h.execGovernorWindow
  | .energyCtrlWrite .. => h.execEnergyCtrlWrite
  | .freqRequest .. => h.execFreqRequest
  | .setpointReached .. => h.execSetpointReached
  | .stoppedFrequencyChange .. => h.execStoppedFrequencyChange
  | .pcapAssert .. => h.execPcapAssert
  | .pcapRelease .. => h.execPcapRelease
  | .thermalSensorSample .. => h.execThermalSensorSample
  | .energyForecast .. => h.execEnergyForecast
  | .coolreqPeriod => h.execCoolreqPeriod
  | .coolreqDutyTimeout => h.execCoolreqDutyTimeout
  | .doorbell .. => h.execDoorbell
  | .workOrderDispatch .. => h.execWorkOrderDispatch
  | .nop .. => h.execNop
  | .launch .. => h.execLaunch
  | .copy .. => h.execCopy
  | .signal .. => h.execSignal
  | .write .. => h.execWrite
  | .event .. => h.execEvent
  | .workOrderComplete .. => h.execWorkOrderComplete
  | .queueResume .. => h.execQueueResume
  | .queueEnable .. => h.execQueueEnable
  | .bar2Read .. => h.execBar2Read
  | .bar2Write .. => h.execBar2Write
  | .flr .. => h.execFlr
  | .perstRelease .. => h.execPerstRelease
  | .hostPortReset .. => h.execHostPortReset
  | .mgmt .. => h.execMgmt
  | .partitionRowsWrite .. => h.execPartitionRowsWrite
  | .partitionEnable .. => h.execPartitionEnable
  | .quiesceReq .. => h.execQuiesceReq
  | .partitionReset .. => h.execPartitionReset
  | .clusterReset .. => h.execClusterReset
  | .coreReset .. => h.execCoreReset
  | .eventRecordWritten .. => h.execEventRecordWritten
  | .eventHeadAdvance .. => h.execEventHeadAdvance
  | .msixHoldoffExpiry .. => h.execMsixHoldoffExpiry
  | .eventEnableWrite .. => h.execEventEnableWrite
  | .powerGood .. => h.execPowerGood
  | .pwrgdFall .. => h.execPwrgdFall
  | .vsbPowerOn .. => h.execVsbPowerOn
  | .vsbLoss .. => h.execVsbLoss
  | .auxSupplyFault .. => h.execAuxSupplyFault
  | .resetAll .. => h.execResetAll
  | .shutdown .. => h.execShutdown
  | .forceCold .. => h.execForceCold
  | .ensResetA .. => h.execEnsResetA
  | .ensResetB .. => h.execEnsResetB
  | .ensignWatchdogExpiry .. => h.execEnsignWatchdogExpiry
  | .ensignHeartbeat .. => h.execEnsignHeartbeat
  | .stewardTimeout .. => h.execStewardTimeout
  | .stewardless .. => h.execStewardless
  | .ensignClaim .. => h.execEnsignClaim
  | .ensignRoleGiveUp .. => h.execEnsignRoleGiveUp
  | .refclkLoss .. => h.execRefclkLoss
  | .refclkSelect .. => h.execRefclkSelect
  | .driverEclipse .. => h.execDriverEclipse
  | .ghostFlit .. => h.execGhostFlit
  | .bankRetire .. => h.execBankRetire
  | .portFail .. => h.execPortFail
  | .assign .. => h.execAssign
  | .release .. => h.execRelease
  | .testFlipArm .. => h.execTestFlipArm
  | .bistAll .. | .bistRow .. | .bistLink .. => h.bistWrite
  | .bistDone .. => h.execBistDone
  | .scanOpenRequest .. => h.execScanOpenRequest
  | .jtagInstruction .. => h.execJtagInstruction
  | .scanSequenceStart => h.execScanSequenceStart
  | .getInfo .. | .fwBegin .. | .fwWrite .. | .fwVerify .. | .fwActivate .. | .fwAbort .. => h.mailWrite
  | .mailboxCommandComplete .. => h.execMailboxCommandComplete
  | .getVersion .. => h.execGetVersion
  | .getCapabilities .. => h.execGetCapabilities
  | .negotiateAlgorithms .. => h.execNegotiateAlgorithms
  | .getDigests .. => h.execGetDigests
  | .getCertificate .. => h.execGetCertificate
  | .challenge .. => h.execChallenge
  | .getMeasurements .. => h.execGetMeasurements
  | .doeDiscovery .. => h.execDoeDiscovery
  | .setEndpointId .. => h.execSetEndpointId
  | .entdaa .. => h.execEntdaa
  | .setdasa .. => h.execSetdasa
  | .getSensorReading .. => h.execGetSensorReading
  | .setPowerCap .. => h.execSetPowerCap
  | .setCapOrbit .. => h.execSetCapOrbit
  | .setMinDuty .. => h.execSetMinDuty
  | .requestUpdate => h.execRequestUpdate
  | .flashLockTimeout .. => h.execFlashLockTimeout
  | .refclkRestored .. => h.execRefclkRestored
  | .vinAboveReset .. => h.execVinAboveReset
  | .auxSupplyInRegulation .. => h.execAuxSupplyInRegulation
  | .hostCompletion .. => h.execHostCompletion
  | .atsInvalidation .. => h.execAtsInvalidation
  | .reservedInstruction .. => h.execReservedInstruction
  | .vxInstructionRetire .. => h.execVxInstructionRetire
  | .activateFirmware .. => h.execActivateFirmware

/-! A step without a command -/

theorem KeptForm.idle (h : KeptForm s) : KeptForm s.idle := .ite h.bootNext (.ite h.sdNext h.advance.resetsGo)

theorem KeptForm.step (h : KeptForm s) : NextKept (step s) := by
  unfold Machine.step
  split
  · exact h.frame.exec
  · exact h.idle.next

end

/-- Settles O59: `KeptForm.step` from the form at hand; each operation of the model keeps the form by a lemma of its own, named after it. -/
theorem formKept : Obligations.FormKept := fun _ h => h.step

end Sys2Proof.Machine
end

section
namespace Sys2Proof.Machine

/-! ### The state after reset (O60) -/

/-- Settles O60: `keptForm_reset`, and the reset values of ORB_CTRL and ORB_PERIOD. -/
theorem formAtReset : Obligations.FormAtReset :=
  ⟨keptForm_reset, rfl, rfl, by decide, by decide, by decide, rfl, rfl⟩

section
variable {s t u : State}

/-! ### Named fields

The laws of `getF` for a field that has a name: that it lies in its word, and apart from another, is found by its own numbers. -/

theorem getF_of_word {f : Fld} (h : t.word f.addr = s.word f.addr) : t.getF f = s.getF f := by simp only [State.getF, h]

theorem on_of_word {f : Fld} (h : t.word f.addr = s.word f.addr) : t.on f = s.on f := by simp only [State.on, getF_of_word h]

theorem getF_setF {f : Fld} {v : Nat} (hv : v < 2 ^ f.width := by decide) (hf : f.fits := by unfold Fld.fits; decide) :
    (s.setF f v).getF f = v :=
  (State.getF_setF_same s hf v).trans (Nat.mod_eq_of_lt hv)

theorem getF_setF_off {f g : Fld} {v : Nat} (hf : f.fits := by unfold Fld.fits; decide) (h : f.apart g := by unfold Fld.apart; decide) :
    (s.setF f v).getF g = s.getF g :=
  State.getF_setF_apart s hf h v

theorem getF_countF {f : Fld} {n : Nat} (hf : f.fits := by unfold Fld.fits; decide) :
    (s.countF f n).getF f = satAdd (s.getF f) n (2 ^ f.width - 1) :=
  State.getF_countF_same s hf n

theorem on_setF {f : Fld} (hw : 1 < 2 ^ f.width := by decide) (hf : f.fits := by unfold Fld.fits; decide) : (s.setF f 1).on f = true :=
  beq_iff_eq.mpr (getF_setF hw hf)

theorem on_setF_zero {f : Fld} (hw : 0 < 2 ^ f.width := by decide) (hf : f.fits := by unfold Fld.fits; decide) : (s.setF f 0).on f = false := by
  rw [State.on, getF_setF hw hf]
  rfl

theorem on_setF_off {f g : Fld} {v : Nat} (hf : f.fits := by unfold Fld.fits; decide) (h : f.apart g := by unfold Fld.apart; decide) :
    (s.setF f v).on g = s.on g := by
  rw [State.on, getF_setF_off hf h, State.on]

end

end Sys2Proof.Machine
end

section
namespace Sys2Proof.Machine

/-! One at a time: these theorems share one default argument, on which all would wait. -/
set_option Elab.async false

/-! ### What a tick leaves of the tick logic -/

/-- The registers of the tick logic (R62): ORB_CTRL to ORB_ORBIT_LEN_LAST, and the action entries. -/
def timingReg (a : Nat) : Prop := (0x2100 ≤ a ∧ a < 0x2400) ∨ (0x2800 ≤ a ∧ a < 0x3000)

/-- The tick logic and its registers, the time and the staged values are as before. -/
structure TimingKept (base s : State) : Prop where
  orb : s.orb = base.orb
  now : s.now = base.now
  staged : s.staged = base.staged
  word : ∀ a, timingReg a → s.word a = base.word a

section
variable {base s : State}

theorem TimingKept.refl : TimingKept base base := ⟨rfl, rfl, rfl, fun _ _ => rfl⟩

/-- The frame: an update of any other part of the state keeps the tick logic. -/
theorem TimingKept.frame (h : TimingKept base s) {pending freeCtr written1 reply egress gov therm rings cores clusters packets mesh
    nextPkt links mtOut dram reqs nextTag ports cows nextCow xinvs unitTlb host power rel mgmt flash} :
    TimingKept base ⟨pending, freeCtr, s.now, s.regs, s.staged, written1, reply, egress, s.orb, gov, therm, rings, cores, clusters, packets,
      mesh, nextPkt, links, mtOut, dram, reqs, nextTag, ports, cows, nextCow, xinvs, unitTlb, host, power, rel, mgmt, flash⟩ :=
  ⟨h.orb, h.now, h.staged, h.word⟩

/-! The shapes that meanings are written in -/

theorem TimingKept.ite {t v : State} {c : Prop} {_ : Decidable c} (ht : TimingKept base t) (hv : TimingKept base v) :
    TimingKept base (if c then t else v) := by
  split
  · exact ht
  · exact hv

theorem TimingKept.ite_fst {α : Type} {q r : State × α} {c : Prop} {_ : Decidable c} (hq : TimingKept base q.1) (hr : TimingKept base r.1) :
    TimingKept base (if c then q else r).1 := by
  split
  · exact hq
  · exact hr

theorem TimingKept.pair {α : Type} {x : α} (h : TimingKept base s) : TimingKept base (s, x).1 := h

theorem TimingKept.pair_snd {α : Type} {x : α} (h : TimingKept base s) : TimingKept base (x, s).2 := h

theorem TimingKept.ite_snd {α : Type} {q r : α × State} {c : Prop} {_ : Decidable c} (hq : TimingKept base q.2) (hr : TimingKept base r.2) :
    TimingKept base (if c then q else r).2 := by
  split
  · exact hq
  · exact hr

theorem TimingKept.of_fst {α : Type} {r : State × α} {t : State} {x : α} (h : TimingKept base r.1) (e : r = (t, x)) : TimingKept base t := by
  rwa [e] at h

theorem TimingKept.foldl {α : Type} (h : TimingKept base s) {l : List α} {f : State → α → State}
    (hf : ∀ t x, TimingKept base t → TimingKept base (f t x)) : TimingKept base (l.foldl f s) :=
  List.foldlRecOn l f h fun t ht x _ => hf t x ht

theorem TimingKept.foldl_fst {α β : Type} {r : State × β} (h : TimingKept base r.1) {l : List α} {f : State × β → α → State × β}
    (hf : ∀ q x, TimingKept base q.1 → TimingKept base (f q x).1) : TimingKept base (l.foldl f r).1 :=
  List.foldlRecOn (motive := fun q => TimingKept base q.1) l f h fun q hq x _ => hf q x hq

/-! Registers outside the tick logic -/

theorem TimingKept.setWord (h : TimingKept base s) {a : Nat} {w : Word} (ha : ¬ timingReg a) : TimingKept base (s.setWord a w) :=
  ⟨h.orb, h.now, h.staged, fun b hb => (State.word_setWord_ne _ _ fun e : b = a => ha (e ▸ hb)).trans (h.word b hb)⟩

/-- Fields outside the tick logic that a tick or a stop sets: `orF`, `countF` and `wrapF` are `setF` by definition. -/
theorem TimingKept.setF (h : TimingKept base s) {f : Fld} {v : Nat} (ha : ¬ timingReg f.addr := by
    simp only [timingReg, pgRel,
      F.CLU_CC_COH_HIT_COUNT, F.CLU_CC_COH_LOOK_COUNT, F.CLU_CC_GSTALL_COUNT, F.CLU_CC_LD_HIT_COUNT, F.CLU_CC_LD_LOOK_COUNT,
      F.CLU_CC_MERGED_COUNT, F.CLU_CC_PF_HIT_COUNT, F.CLU_CC_PF_LOOK_COUNT, F.CLU_PSTATE_SLEWING, F.CLU_PSTATE_VSEL, F.CORE_L1_DROP_COUNT,
      F.CORE_L1_LD_HIT_COUNT, F.CORE_L1_LD_LOOK_COUNT, F.CORE_L1_PF_HIT_COUNT, F.CORE_L1_PF_LOOK_COUNT, F.CORE_XL_MISS_COUNT,
      F.DIE_BK_TOKCAP_CAP, F.DIE_FREQ_CEIL_GOV, F.DIE_FREQ_CEIL_THM, F.DIE_FREQ_CUR, F.DIE_FREQ_DEFER_COUNT, F.EVT_FLOOD_COUNT,
      F.EVT_PENDING_MASK, F.EVT_STAGED_COUNT, F.G_CE_COUNT_COUNT, F.G_ELOG_LOST_COUNT, F.G_ELOG_REC0, F.G_ELOG_REC1, F.G_ELOG_REC2,
      F.G_ELOG_REC3, F.G_ELOG_WR_COUNT, F.G_FLIP_CTRL_ARM, F.G_FLIP_CTRL_DONE, F.G_UE_COUNT_COUNT, F.HPT_XLATE_ERR_COUNT,
      F.HYP_BUS_BUSY_COUNT, F.HYP_ERR_COUNT, F.HYP_LASTERR_DROW, F.HYP_LASTERR_SPACE, F.HYP_LASTERR_STATUS, F.HYP_LASTERR_TYPE,
      F.HYP_RD_OWN_COUNT, F.HYP_RD_REM_COUNT, F.HYP_ROWMISS_COUNT, F.MNL_ERR_COUNT, F.MNL_LASTERR_DIE, F.MNL_LASTERR_STATUS,
      F.MNL_LASTERR_TYPE, F.MNL_LASTERR_WIN, F.ORB_EN_FLAGS_FREQ_DEFER, F.ORB_EN_FLAGS_LOW_YIELD, F.ORB_EN_FLAGS_PCAP_EXIT,
      F.ORB_EN_LIM_HIGH_E, F.ORB_EN_LIM_LOW_E, F.ORB_EN_LIM_LOW_OFF, F.ORB_EN_STATUS_COMP, F.ORB_EN_STATUS_FILL, F.ORB_EN_STATUS_LINKS,
      F.ORB_EN_STATUS_MEM, F.ORB_EN_STATUS_PCAP, F.PG_ERRCAP, F.PG_EVT_COUNT_COUNT, F.PRT_XF_COUNT_COUNT, F.PRT_XF_STATUS_KIND,
      F.PRT_XF_STATUS_LEVEL, F.PRT_XF_STATUS_SRC, F.PRT_XF_STATUS_SRCKIND, F.PRT_XF_STATUS_VALID, F.PRT_XF_STATUS_WRITE, F.PRT_XF_VA_HI_VA,
      F.PRT_XF_VA_LO_VA, F.PWR_DIV_US_COUNT, F.PWR_STATUS_DIV, F.PWR_STATUS_QUALIFIED, F.QUE_DONE_COUNT, F.QUE_HEAD_COUNT, F.QUE_LATE_COUNT,
      F.QUE_STATUS_ERR, F.QUE_STATUS_STATE] <;> omega) : TimingKept base (s.setF f v) :=
  h.setWord ha

/-- A field chosen between two. -/
theorem TimingKept.setF_ite {c : Prop} {_ : Decidable c} {f g : Fld} {v : Nat} (hf : TimingKept base (s.setF f v))
    (hg : TimingKept base (s.setF g v)) : TimingKept base (s.setF (if c then f else g) v) := by
  split
  · exact hf
  · exact hg

theorem TimingKept.setRing (h : TimingKept base s) {e : Nat} {r : RingState} : TimingKept base (s.setRing e r) := h.frame.setF

theorem TimingKept.ringKick (h : TimingKept base s) {e : Nat} : TimingKept base (s.ringKick e) := by
  unfold State.ringKick
  extract_lets +onlyGivenNames r
  split
  · exact h
  extract_lets +onlyGivenNames mask
  split
  · exact h.setRing.setF
  split
  · exact h
  · exact h.setRing

theorem TimingKept.postTo (h : TimingKept base s) {e : Nat} {ev : EvRec} : TimingKept base (s.postTo e ev) :=
  .ite h (.ite h.setRing.setF.setF h.setRing.ringKick)

theorem TimingKept.postBlock (h : TimingKept base s) {pg mask : Nat} : TimingKept base (s.postBlock pg mask) := by
  unfold State.postBlock
  split
  · exact h
  · exact h.postTo

theorem TimingKept.raise (h : TimingKept base s) {pg mask : Nat} (hpg : 0x3000 ≤ pg := by simp only [pgPwr, pgRel, pgPrt] <;> omega) :
    TimingKept base (s.raise pg mask) := by
  have h10 : ¬ timingReg (pg + 0x10) := by unfold timingReg; omega
  have h1C : ¬ timingReg (F.PG_EVT_COUNT_COUNT pg).addr := by simp only [timingReg, F.PG_EVT_COUNT_COUNT]; omega
  exact .ite ((h.setWord h10).setF h1C).postBlock ((h.setWord h10).setF h1C)

theorem TimingKept.raiseBit (h : TimingKept base s) {pg i : Nat} (hpg : 0x3000 ≤ pg := by simp only [pgPwr, pgRel, pgPrt] <;> omega) :
    TimingKept base (s.raiseBit pg i) := h.raise hpg

theorem TimingKept.xfault (h : TimingKept base s) {p kind level : Nat} {wr : Bool} {srcKind src va : Nat} :
    TimingKept base (s.xfault p kind level wr srcKind src va) :=
  .ite h.setF h.setF.setF.setF.setF.setF.setF.setF.setF.setF.raiseBit

theorem TimingKept.logRecord (h : TimingKept base s) {kind flags site loc synd : Nat} : TimingKept base (s.logRecord kind flags site loc synd) := by
  unfold State.logRecord
  extract_lets +onlyGivenNames w0 orb wr full _ s1
  have h1 : TimingKept base s1 := .ite h.setF.raiseBit h.setF.setF.setF.setF.setF
  exact .ite (TimingKept.ite h1.setF.setF.setF.setF h1).raise h1

theorem TimingKept.markLevel (h : TimingKept base s) : TimingKept base s.markLevel := h.frame

theorem TimingKept.closeWindow (h : TimingKept base s) : TimingKept base s.closeWindow := .ite h h.frame

theorem TimingKept.setCore (h : TimingKept base s) {i : Nat} {c : CoreState} : TimingKept base (s.setCore i c) := h.frame

theorem TimingKept.showLevel (h : TimingKept base s) : TimingKept base s.showLevel := h.setF.setF.setF.setF

theorem TimingKept.writeTokCap (h : TimingKept base s) : TimingKept base s.writeTokCap := .ite (h.foldl fun _ _ h' => h'.setF) h

theorem TimingKept.setLevel (h : TimingKept base s) {g : ℤ} : TimingKept base (s.setLevel g) :=
  .ite h.markLevel.frame.showLevel h.markLevel.frame.showLevel.writeTokCap

theorem TimingKept.shortLevel (h : TimingKept base s) {e len : Nat} : TimingKept base (s.shortLevel e len) := .ite h.setLevel h

theorem TimingKept.aim (h : TimingKept base s) {c v : Nat} : TimingKept base (s.aim c v) := .ite h h.setF.setF

theorem TimingKept.leadRise (h : TimingKept base s) {d f : Nat} : TimingKept base (s.leadRise d f) := h.foldl fun _ _ h' => h'.aim

theorem TimingKept.lead (h : TimingKept base s) {d : Nat} : TimingKept base (s.lead d) := h.leadRise

theorem TimingKept.pcapEnd (h : TimingKept base s) : TimingKept base s.pcapEnd := h.setF.setF.frame.showLevel.foldl fun _ _ h' => h'.lead

theorem TimingKept.pcapAtTick4 (h : TimingKept base s) : TimingKept base s.pcapAtTick4 := .ite h.pcapEnd h

theorem TimingKept.setCeilGov (h : TimingKept base s) {v : Nat} : TimingKept base (s.setCeilGov v) := h.foldl fun _ _ h' => h'.setF

theorem TimingKept.ceilDown (h : TimingKept base s) {trim2 len : Nat} : TimingKept base (s.ceilDown trim2 len) :=
  (TimingKept.ite h.setCeilGov h).foldl fun _ _ h' => .ite h'.setF h'

theorem TimingKept.divRelease (h : TimingKept base s) {extra : Nat} : TimingKept base (s.divRelease extra) :=
  h.setF.setF.setF.raiseBit

theorem TimingKept.divAtTick5 (h : TimingKept base s) : TimingKept base s.divAtTick5 := .ite h.divRelease h

theorem TimingKept.pcapAtTick5 (h : TimingKept base s) : TimingKept base s.pcapAtTick5 := .ite h.frame.setLevel h

theorem TimingKept.setStep (h : TimingKept base s) {d f : Nat} : TimingKept base (s.setStep d f) :=
  .ite (h.setF.foldl fun _ _ h' => h'.aim) h.setF

theorem TimingKept.freqAtTick (h : TimingKept base s) {d : Nat} : TimingKept base (s.freqAtTick d) :=
  .ite h.setStep (.ite h.setStep h.setF.setF.leadRise)

theorem TimingKept.portErr (h : TimingKept base s) {i ty addr status : Nat} : TimingKept base (s.portErr i ty addr status) :=
  h.setF.setF.setF.setF.setF

theorem TimingKept.logCode (h : TimingKept base s) {kind site loc : Nat} {o : CodeOut} : TimingKept base (s.logCode kind site loc o) := by
  unfold State.logCode
  split
  · exact h
  · exact h.setF.logRecord
  extract_lets +onlyGivenNames s1
  have h1 : TimingKept base s1 := h.setF.raiseBit
  split
  · exact .ite h1 h1.frame.logRecord
  · exact h1.frame.logRecord

theorem TimingKept.dramLog (h : TimingKept base s) {kind a n : Nat} : TimingKept base (s.dramLog kind a n) :=
  h.foldl fun _ _ h' => h'.logCode

theorem TimingKept.setPort (h : TimingKept base s) {i : Nat} {p : PortState} : TimingKept base (s.setPort i p) := h.frame

theorem TimingKept.openRow (h : TimingKept base s) {i a : Nat} : TimingKept base (s.openRow i a) := by
  unfold State.openRow
  extract_lets +onlyGivenNames q b s1 q1
  have h1 : TimingKept base s1 := by
    unfold s1
    split
    · exact .ite h h.setF
    · exact h
  exact h1.setPort

theorem TimingKept.tableRead (h : TimingKept base s) {a level : Nat} : TimingKept base (s.tableRead a level).1 := by
  unfold State.tableRead
  split
  · exact h.pair
  refine .ite_fst (TimingKept.ite h h.portErr).pair (.ite_fst h.portErr.pair ?_)
  extract_lets s1
  have h1 : TimingKept base s1 := h.openRow.setF.setF.dramLog
  exact .ite_fst h1.portErr.pair h1.pair

theorem TimingKept.walkFrom {p va n table : Nat} (h : TimingKept base s) : TimingKept base (walkFrom p va n table s).1 := by
  induction n generalizing s table with
  | zero => exact h
  | succ n ih =>
    unfold Machine.walkFrom
    extract_lets level a
    split
    next heq => exact h.tableRead.of_fst heq
    next heq =>
      have h1 := h.tableRead.of_fst heq
      split
      · exact h1
      · exact .ite_fst h1 (ih h1)

theorem TimingKept.walk (h : TimingKept base s) {p va : Nat} : TimingKept base (s.walk p va).1 :=
  .ite_fst h.pair (.ite_fst h.pair h.walkFrom)

theorem TimingKept.xlUnit (h : TimingKept base s) {u : Nat} {part : Option Nat} {va : Nat} {wr : Bool} : TimingKept base (s.xlUnit u part va wr).1 := by
  unfold State.xlUnit
  split
  · exact h
  next p _ =>
  extract_lets l r
  have hr : TimingKept base r.1 := by
    unfold r
    cases l.find? _ with
    | some x => exact h.frame
    | none =>
      have hw := h.walk (p := p) (va := va)
      generalize s.walk p va = q at hw
      obtain ⟨t, _ | y⟩ := q
      · exact hw
      · exact TimingKept.frame hw
  clear_value r
  obtain ⟨t, _ | x⟩ := r
  · exact hr
  · dsimp only
    split
    · exact hr
    · exact hr

theorem TimingKept.xlRecord (h : TimingKept base s) {p : Option Nat} {e : MemErr} {wr : Bool} {srcKind src va : Nat} :
    TimingKept base (s.xlRecord p e wr srcKind src va) := by
  unfold State.xlRecord
  split
  · exact h.xfault
  · exact h

theorem TimingKept.jobAnswer (h : TimingKept base s) {r : MReq} {dpa status : Nat} {d : List Byte} : TimingKept base (s.jobAnswer r dpa status d) := by
  unfold State.jobAnswer
  split
  · split
    · exact h
    · exact .ite h.frame h.frame.xlRecord
  · exact h

theorem TimingKept.newTag (h : TimingKept base s) {r : MReq} : TimingKept base (s.newTag r).2 := h.frame.pair_snd

theorem TimingKept.inject (h : TimingKept base s) {p : Packet} : TimingKept base (s.inject p) := h.frame

theorem TimingKept.cluSend (h : TimingKept base s) {c dst exit vc ty tag addr len aux : Nat} {d : List Byte} {masked : Bool} {mask : Nat} :
    TimingKept base (s.cluSend c dst exit vc ty tag addr len aux d masked mask) :=
  h.inject

theorem TimingKept.setLink (h : TimingKept base s) {n : Nat} {l : LinkState} : TimingKept base (s.setLink n l) := h.frame

theorem TimingKept.setPkt (h : TimingKept base s) {id : Nat} {p : Packet} : TimingKept base (s.setPkt id p) := h.frame

theorem TimingKept.dropPkt (h : TimingKept base s) {id : Nat} : TimingKept base (s.dropPkt id) := h.frame

theorem TimingKept.leaveMesh (h : TimingKept base s) {id : Nat} {p : Packet} : TimingKept base (s.leaveMesh id p) := h.dropPkt.setPkt

theorem TimingKept.toLink (h : TimingKept base s) {id n : Nat} {toB : Bool} {lane : Nat} {p : Packet} : TimingKept base (s.toLink id n toB lane p) :=
  h.leaveMesh.setLink

theorem TimingKept.extSend (h : TimingKept base s) {u part dst exit vc ty tag addr len aux : Nat} {d : List Byte} {masked : Bool} {mask : Nat} :
    TimingKept base (s.extSend u part dst exit vc ty tag addr len aux d masked mask) :=
  .ite h.inject.toLink h.inject

theorem TimingKept.unitSend (h : TimingKept base s) {u part dst exit vc ty tag addr len aux : Nat} {d : List Byte} {masked : Bool} {mask : Nat} :
    TimingKept base (s.unitSend u part dst exit vc ty tag addr len aux d masked mask) :=
  .ite h.cluSend h.extSend

theorem TimingKept.unitGo (h : TimingKept base s) {u : Nat} {x : Xlat} {r : MReq} : TimingKept base (s.unitGo u x r) := by
  unfold State.unitGo
  extract_lets +onlyGivenNames dpa
  split
  · exact h.jobAnswer
  · exact .ite h.newTag.unitSend h.newTag.unitSend

theorem TimingKept.jobRelease (h : TimingKept base s) {j : Nat} : TimingKept base (s.jobRelease j) := by
  unfold State.jobRelease
  split
  · exact h
  split
  · exact h
  extract_lets +onlyGivenNames put
  split
  · exact h.frame
  extract_lets +onlyGivenNames r
  have hr : TimingKept base r.1 := by
    refine TimingKept.foldl_fst h fun q x hq => ?_
    split
    · exact hq
    split
    next heq => exact TimingKept.of_fst hq.xlUnit heq
    next heq =>
      have h1 := TimingKept.of_fst hq.xlUnit heq
      split
      · split
        · exact .ite h1 h1.portErr
        · exact h1
      · exact h1
  clear_value r
  obtain ⟨t, ⟨q, e⟩ | l⟩ := r <;> change TimingKept base t at hr
  · exact hr.frame.jobAnswer
  · exact hr.frame.foldl fun _ _ h' => h'.unitGo

theorem TimingKept.setCfg (h : TimingKept base s) {f : Nat} {c : FnCfg} : TimingKept base (s.setCfg f c) := h.frame

theorem TimingKept.aerAdvisory (h : TimingKept base s) {f bar off len : Nat} : TimingKept base (s.aerAdvisory f bar off len) := h.setCfg

theorem TimingKept.mtSend (h : TimingKept base s) {o : MtOut} : TimingKept base (s.mtSend o) := h.inject.toLink

theorem TimingKept.setOrder (h : TimingKept base s) {id : Nat} {o : Order} : TimingKept base (s.setOrder id o) := h.frame

theorem TimingKept.jobSettle (h : TimingKept base s) {j : Nat} : TimingKept base (s.jobSettle j) := by
  unfold State.jobSettle
  extract_lets +onlyGivenNames s
  have h1 : TimingKept base s := h.jobRelease
  split
  · exact h1
  split
  · exact h1
  extract_lets +onlyGivenNames _ s1 d
  have h2 : TimingKept base s1 := h1.frame
  split
  · exact .ite (.ite (TimingKept.ite h2.setF h2).aerAdvisory (.ite h2.setF h2)) (TimingKept.ite h2.setF h2).frame
  · exact (TimingKept.ite h2 h2.setF.setF.setF.setF.setF).mtSend
  · exact h2
  split
  · exact h2
  extract_lets +onlyGivenNames o1
  split
  · exact h2.setOrder
  · exact h2.setOrder

theorem TimingKept.jobsSettle (h : TimingKept base s) : TimingKept base s.jobsSettle := h.foldl fun _ _ h' => h'.jobSettle

theorem TimingKept.progFault (h : TimingKept base s) {i cause info : Nat} : TimingKept base (s.progFault i cause info) :=
  .ite h h.setCore

theorem TimingKept.coreMemFault (h : TimingKept base s) {i : Nat} {e : MemErr} {wr : Bool} {va : Nat} : TimingKept base (s.coreMemFault i e wr va) := by
  unfold State.coreMemFault
  split
  · exact h.xlRecord.progFault
  · exact h.progFault

theorem TimingKept.failStream (h : TimingKept base s) {i sid : Nat} : TimingKept base (s.failStream i sid) := h.setCore

theorem TimingKept.setStream (h : TimingKept base s) {i : Nat} {x : CoreStream} : TimingKept base (s.setStream i x) := h.setCore

theorem TimingKept.l1Put (h : TimingKept base s) {i line : Nat} {d : List Byte} : TimingKept base (s.l1Put i line d) := .ite h h.setCore

theorem TimingKept.streamAnswer (h : TimingKept base s) {r : MReq} {dpa status : Nat} {d : List Byte} : TimingKept base (s.streamAnswer r dpa status d) := by
  unfold State.streamAnswer
  split
  · split
    · exact h
    · exact .ite h.failStream.coreMemFault (.ite h.setStream.l1Put h.setStream)
  · exact h

theorem TimingKept.cowFail (h : TimingKept base s) {c : Cow} {status : Nat} : TimingKept base (s.cowFail c status) := by
  unfold State.cowFail
  split
  · exact h.streamAnswer
  · exact h.jobAnswer

theorem TimingKept.cowAtom (h : TimingKept base s) {id : Nat} {c : Cow} {page op v : Nat} : TimingKept base (s.cowAtom id c page op v) := by
  unfold State.cowAtom
  split
  · exact h
  split
  · exact h
  · exact h.newTag.unitSend

theorem TimingKept.setCow (h : TimingKept base s) {id : Nat} {c : Cow} : TimingKept base (s.setCow id c) := h.frame

theorem TimingKept.cowStart (h : TimingKept base s) {u : Nat} {x : Xlat} {r : MReq} : TimingKept base (s.cowStart u x r) := by
  unfold State.cowStart
  extract_lets id c bad
  clear_value bad
  split
  · exact h.cowFail
  · exact h.frame.setCow.cowAtom

theorem TimingKept.jobReady (h : TimingKept base s) {r : MReq} : TimingKept base (s.jobReady r) := by
  unfold State.jobReady
  split
  · split
    · exact h.frame
    · exact h
  · exact h

theorem TimingKept.startJob (h : TimingKept base s) {kind : JobKind} {u : Nat} {part : Option Nat} {wr : Bool} {va len : Nat} {d : List Byte} {mask : Nat} :
    TimingKept base (s.startJob kind u part wr va len d mask) := by
  unfold State.startJob
  extract_lets +onlyGivenNames j ps req mk r
  have hr : TimingKept base r.1 := by
    refine TimingKept.foldl_fst h fun q x hq => ?_
    split
    · exact hq
    split
    next heq => exact TimingKept.of_fst hq.xlUnit heq
    next heq => exact TimingKept.of_fst hq.xlUnit heq
  clear_value r
  obtain ⟨t, ⟨q, e⟩ | l⟩ := r <;> change TimingKept base t at hr
  · exact hr.frame.jobAnswer
  · exact hr.frame.foldl fun _ _ h' => .ite h'.unitGo (.ite h'.cowStart h'.jobReady)

theorem TimingKept.startHeld (h : TimingKept base s) : TimingKept base s.startHeld := h.frame.foldl fun _ _ h' => h'.startJob

theorem TimingKept.setCluster (h : TimingKept base s) {c : Nat} {x : ClusterState} : TimingKept base (s.setCluster c x) := h.frame

theorem TimingKept.xlCluster (h : TimingKept base s) {c p va : Nat} : TimingKept base (s.xlCluster c p va).1 := by
  fun_cases State.xlCluster s c p va
  case case1 => exact h.setCluster
  case case2 heq => exact h.walk.of_fst heq
  case case3 heq _ _ => exact (h.walk.of_fst heq).setCluster

/-- Each way a core translates an address passes through `State.xlCluster`. -/
theorem TimingKept.xlCore (h : TimingKept base s) {i va : Nat} {wr : Bool} : TimingKept base (s.xlCore i va wr).1 := by
  unfold State.xlCore
  split
  · exact h
  extract_lets c r
  have hr : TimingKept base r.1 := by
    unfold r
    cases c.tlb.find? _ with
    | some x => exact h.setCore
    | none =>
      dsimp only
      split
      next heq => exact h.setF.xlCluster.of_fst heq
      next heq => exact (h.setF.xlCluster.of_fst heq).setCore
  clear_value r
  obtain ⟨t, _ | x⟩ := r
  · exact hr
  · dsimp only
    split
    · exact hr
    · exact hr

theorem TimingKept.cohAsk (h : TimingKept base s) {c line ty : Nat} {w : MReq × Nat} : TimingKept base (s.cohAsk c line ty w) := by
  unfold State.cohAsk
  extract_lets +onlyGivenNames k s1
  have h1 : TimingKept base s1 := h.setCluster
  split
  · exact h1
  · exact h1.cluSend

theorem TimingKept.cluDrop (h : TimingKept base s) {c line : Nat} : TimingKept base (s.cluDrop c line) := h.setCluster

theorem TimingKept.lineLog (h : TimingKept base s) {c line : Nat} {ro : Bool} {es : List (Nat × CodeOut)} : TimingKept base (s.lineLog c line ro es) :=
  h.foldl fun _ _ h' => h'.logCode

theorem TimingKept.cluTouch (h : TimingKept base s) {c line : Nat} : TimingKept base (s.cluTouch c line) := by
  unfold State.cluTouch
  extract_lets +onlyGivenNames k
  split
  · exact h.setCluster
  · exact h

theorem TimingKept.readLine (h : TimingKept base s) {hit : State → State} {c line : Nat} {x : CLine} {r : MReq} {dpa : Nat}
    (hhit : ∀ t, TimingKept base t → TimingKept base (hit t)) : TimingKept base (s.readLine hit c line x r dpa) :=
  .ite (.ite (hhit _ h).lineLog.streamAnswer (hhit _ h).lineLog.cluDrop.cohAsk) (hhit _ h).lineLog.cluTouch.streamAnswer

theorem TimingKept.flipDone (h : TimingKept base s) : TimingKept base s.flipDone := h.setF.setF

theorem TimingKept.lineFlip (h : TimingKept base s) {line mask : Nat} {old : Tab Nat} : TimingKept base (s.lineFlip line mask old).2 := by
  unfold State.lineFlip
  extract_lets +onlyGivenNames kept
  split
  · exact h.pair_snd
  · exact .ite_snd h.flipDone.pair_snd h.pair_snd

theorem TimingKept.cohWrite (h : TimingKept base s) {c line : Nat} {x : CLine} {st : CSt} {r : MReq} {dpa : Nat} : TimingKept base (s.cohWrite c line x st r dpa) :=
  h.lineFlip.setCluster.streamAnswer

theorem TimingKept.cohAccess (h : TimingKept base s) {c : Nat} {r : MReq} {dpa : Nat} {first : Bool} : TimingKept base (s.cohAccess c r dpa first) := by
  unfold State.cohAccess
  extract_lets +onlyGivenNames s hit line k join
  have h1 : TimingKept base s := .ite h.setF h
  split
  · exact h1.setCluster
  split
  · exact h1.setCluster
  split
  · exact h1.cohAsk
  split
  · exact h1.cluDrop.cohAsk
  · exact .ite h1.cohAsk (h1.readLine fun _ h' => .ite h'.setF h')
  · exact .ite (TimingKept.ite h1.setF h1).cohWrite (h1.readLine fun _ h' => .ite h'.setF h')
  · exact .ite (TimingKept.ite h1.setF h1).cohWrite (h1.readLine fun _ h' => .ite h'.setF h')
  · exact .ite (TimingKept.ite h1.setF h1).cohWrite (.ite (h1.readLine fun _ h' => .ite h'.setF h') h1.cohAsk)

theorem TimingKept.coreRequest (h : TimingKept base s) {i ty vc tag addr len aux : Nat} {d : List Byte} {masked : Bool} {mask : Nat} :
    TimingKept base (s.coreRequest i ty vc tag addr len aux d masked mask) := by
  unfold State.coreRequest
  split
  · exact h
  · exact h.inject

theorem TimingKept.coreStore (h : TimingKept base s) {i : Nat} {x : Xlat} {r : MReq} : TimingKept base (s.coreStore i x r) := by
  unfold State.coreStore
  extract_lets +onlyGivenNames dpa
  split
  · exact h.cohAccess
  extract_lets +onlyGivenNames lines drop s1
  have hdrop (t : State) (line : Nat) (ht : TimingKept base t) : TimingKept base (drop t line) := by
    unfold drop
    extract_lets +onlyGivenNames c t1
    have h1 : TimingKept base t1 := .ite ht.setCore.setF ht
    split
    · exact .ite h1.cluDrop h1
    · exact h1
  have h1 : TimingKept base s1 := h.foldl hdrop
  split
  · exact h1.streamAnswer
  · exact h1.newTag.coreRequest

theorem TimingKept.coreHrd (h : TimingKept base s) {i : Nat} {r : MReq} {a len : Nat} : TimingKept base (s.coreHrd i r a len) := by
  unfold State.coreHrd
  split
  · exact h.streamAnswer
  · exact h.newTag.coreRequest

theorem TimingKept.l1Get (h : TimingKept base s) {i line : Nat} : TimingKept base (s.l1Get i line).1 := by
  unfold State.l1Get
  extract_lets +onlyGivenNames c
  split
  · exact h.setCore.pair
  · exact h.pair

theorem TimingKept.missTake (h : TimingKept base s) {c : Nat} {w : Waiter} : TimingKept base (s.missTake c w) := by
  unfold State.missTake
  extract_lets +onlyGivenNames k line
  split
  · exact h.setCluster.setF
  split
  · exact h.streamAnswer
  · exact h.setCluster.newTag.cluSend

theorem TimingKept.miss (h : TimingKept base s) {c : Nat} {w : Waiter} : TimingKept base (s.miss c w) :=
  .ite h.missTake (.ite h.setCluster.setF h.setCluster)

theorem TimingKept.cluRead (h : TimingKept base s) {c : Nat} {w : Waiter} : TimingKept base (s.cluRead c w) := by
  unfold State.cluRead
  extract_lets +onlyGivenNames s1 line
  have h1 : TimingKept base s1 := .setF_ite h.setF h.setF
  split
  · exact .ite (.ite h1.lineLog.cluDrop.miss (TimingKept.setF_ite h1.lineLog.setF h1.lineLog.setF).cluTouch.streamAnswer) h1.miss
  · exact h1.miss

theorem TimingKept.coreLoad (h : TimingKept base s) {i : Nat} {x : Xlat} {r : MReq} : TimingKept base (s.coreLoad i x r) := by
  unfold State.coreLoad
  extract_lets +onlyGivenNames dpa
  split
  · exact h.cohAccess
  split
  · exact h.coreHrd
  split
  · exact h.coreHrd
  extract_lets +onlyGivenNames line r l1 s1
  have h1 : TimingKept base s1 := .ite (.setF_ite h.setF h.setF) h
  have hget : TimingKept base (if l1 then s1.l1Get i line else (s1, none)).1 := .ite_fst h1.l1Get h1
  split
  next heq =>
    have h2 := hget.of_fst heq
    exact (TimingKept.setF_ite h2.setF h2.setF).streamAnswer
  next heq => exact .ite (hget.of_fst heq).cluRead (hget.of_fst heq).coreHrd

theorem TimingKept.pumpOne (h : TimingKept base s) {i sid : Nat} : TimingKept base (s.pumpOne i sid).1 := by
  unfold State.pumpOne
  split
  · exact h.pair
  split
  · exact .ite_fst h.setStream.pair h.pair
  extract_lets +onlyGivenNames wr
  split
  · exact h.pair
  split
  next heq => exact (h.xlCore.of_fst heq).failStream.coreMemFault.pair
  next heq =>
    have h1 := h.xlCore.of_fst heq
    extract_lets +onlyGivenNames dpa
    exact .ite_fst h1.failStream.progFault.pair (TimingKept.ite (.ite h1.setStream.cowStart h1.setStream.coreStore) h1.setStream.coreLoad).pair

theorem TimingKept.pumpStream {i sid n : Nat} (h : TimingKept base s) : TimingKept base (pumpStream i sid n s) := by
  induction n generalizing s with
  | zero => exact h
  | succ n ih =>
    unfold Machine.pumpStream
    split
    next heq => exact ih (h.pumpOne.of_fst heq)
    next heq => exact h.pumpOne.of_fst heq

theorem TimingKept.pumpCore (h : TimingKept base s) {i : Nat} : TimingKept base (s.pumpCore i) :=
  h.foldl fun _ _ h' => .ite h' h'.pumpStream

theorem TimingKept.pumpAll (h : TimingKept base s) : TimingKept base s.pumpAll := h.foldl fun _ _ h' => h'.pumpCore

theorem TimingKept.writeMove (h : TimingKept base s) {id : Nat} : TimingKept base (s.writeMove id) := by
  unfold State.writeMove
  split
  · exact .ite h.setOrder h
  · exact h

theorem TimingKept.atsAsk (h : TimingKept base s) {order f a : Nat} {wr : Bool} : TimingKept base (s.atsAsk order f a wr) := h.frame

theorem TimingKept.orderJob (h : TimingKept base s) {id : Nat} {o : Order} {off : Nat} {wr : Bool} {va : Nat} {d : List Byte} {len : Nat} :
    TimingKept base (s.orderJob id o off wr va d len) :=
  h.startJob

theorem TimingKept.copyMove (h : TimingKept base s) {id : Nat} : TimingKept base (s.copyMove id).1 := by
  unfold State.copyMove
  split
  · exact h.pair
  split
  · exact h.pair
  split
  · exact .ite_fst h.setOrder.pair h.pair
  extract_lets +onlyGivenNames src dst len sp
  split
  · extract_lets +onlyGivenNames dest
    split
    · split
      · refine TimingKept.pair ?_
        extract_lets +onlyGivenNames src
        have h1 : TimingKept base src := h.setOrder
        exact h1.frame
      · exact h.atsAsk.pair
      · exact h.pair
    · exact h.setOrder.orderJob.pair
  · split
    · extract_lets +onlyGivenNames n s1
      have h1 : TimingKept base s1 := h.setOrder
      extract_lets +onlyGivenNames from_
      split
      · split
        · exact h1.frame.pair
        · exact h.atsAsk.pair
        · exact h.pair
      · exact h1.orderJob.pair
    · exact .ite_fst h.setOrder.pair h.pair

theorem TimingKept.copyPump {id n : Nat} (h : TimingKept base s) : TimingKept base (copyPump id n s) := by
  induction n generalizing s with
  | zero => exact h
  | succ n ih =>
    unfold Machine.copyPump
    split
    next heq => exact ih (h.copyMove.of_fst heq).jobsSettle
    next heq => exact h.copyMove.of_fst heq

theorem TimingKept.settle (h : TimingKept base s) : TimingKept base s.settle :=
  (h.jobsSettle.startHeld.jobsSettle.foldl fun _ _ h' => h'.copyPump.writeMove).pumpAll

theorem TimingKept.readDpa (h : TimingKept base s) {own : Bool} {a n : Nat} : TimingKept base (s.readDpa own a n).1 := by
  unfold State.readDpa
  split
  · exact .ite_fst h.pair (TimingKept.setF_ite h.openRow.setF h.openRow.setF).setF.pair
  · exact h.pair
  · exact (TimingKept.ite h h.portErr).pair
  · exact h.pair

theorem TimingKept.peek (h : TimingKept base s) {u p va len : Nat} : TimingKept base (s.peek u p va len).1 := by
  refine TimingKept.foldl_fst h fun q x hq => ?_
  split
  · exact hq
  split
  next heq => exact TimingKept.of_fst (hq.xlUnit) heq
  next heq =>
    have h1 := TimingKept.of_fst (hq.xlUnit) heq
    split
    next heq => exact h1.readDpa.of_fst heq
    next heq => exact h1.readDpa.of_fst heq

theorem TimingKept.ringEntry (h : TimingKept base s) {q idx : Nat} : TimingKept base (s.ringEntry q idx).1 := by
  unfold State.ringEntry
  split
  · exact h.pair
  extract_lets +onlyGivenNames size base
  split
  next heq => exact (h.peek.of_fst heq).pair
  next heq =>
    have h1 := h.peek.of_fst heq
    exact .ite_fst h1.pair h1.pair

/-- The head of a queue is read through its translation, and the state that read leaves has the form. -/
theorem TimingKept.headReady (h : TimingKept base s) {q : Nat} {r : State × Except (Nat × Nat) (List Nat) × Bool}
    (e : s.headReady q = some r) : TimingKept base r.1 := by
  unfold State.headReady at e
  split at e
  · exact nomatch e
  extract_lets io at e
  split at e
  · exact nomatch e
  split at e
  next heq =>
    cases e
    exact h.ringEntry.of_fst heq
  next heq =>
    extract_lets a at e
    split at e
    · cases e
      exact h.ringEntry.of_fst heq
    · exact nomatch e

theorem TimingKept.quStop (h : TimingKept base s) {q err : Nat} : TimingKept base (s.quStop q err) := by
  unfold State.quStop
  extract_lets +onlyGivenNames s1
  have h1 : TimingKept base s1 := h.setF.setF
  split
  · exact h1.raiseBit
  · exact h1

theorem TimingKept.quiesceCheck (h : TimingKept base s) {p : Nat} : TimingKept base (s.quiesceCheck p) := .ite h.raiseBit h

theorem TimingKept.orderEnd (h : TimingKept base s) {id : Nat} {o : Order} {st0 kind : Nat} : TimingKept base (s.orderEnd id o st0 kind) := by
  unfold State.orderEnd
  extract_lets q ring ev wants st err _ s1 s2 s3
  have h1 : TimingKept base s1 := h.frame.setF
  have h2 : TimingKept base s2 := .ite h1.quStop h1
  have h3 : TimingKept base s3 := .ite h2.postTo h2
  exact h3.quiesceCheck

theorem TimingKept.dispatch (h : TimingKept base s) {q : Nat} {r : Except (Nat × Nat) (List Nat)} {late : Bool} : TimingKept base (s.dispatch q r late) := by
  unfold State.dispatch
  extract_lets +onlyGivenNames g raw done o id _ s1 s2 _ s3
  have h1 : TimingKept base s1 := h.frame.setOrder.setF
  have h2 : TimingKept base s2 := .ite h1.setF h1
  have h3 : TimingKept base s3 := h2.frame
  exact .ite h3.orderEnd h3

theorem TimingKept.dispatchFirst (h : TimingKept base s) {l : List Nat} {t : State}
    (e : s.dispatchFirst l = some t) : TimingKept base t := by
  induction l with
  | nil => cases e
  | cons q l ih =>
    unfold State.dispatchFirst at e
    split at e
    next heq =>
      cases e
      exact (h.headReady heq).dispatch
    · exact ih e

theorem TimingKept.dispatchRound {io n : Nat} (h : TimingKept base s) : TimingKept base (dispatchRound io n s) := by
  induction n generalizing s with
  | zero => exact h
  | succ n ih =>
    unfold Machine.dispatchRound
    split
    next heq => exact ih (h.dispatchFirst heq)
    · exact h

theorem TimingKept.roundOf (h : TimingKept base s) {io : Nat} : TimingKept base (s.roundOf io) := h.dispatchRound

theorem TimingKept.dispatchRounds (h : TimingKept base s) : TimingKept base s.dispatchRounds := h.roundOf.roundOf

theorem TimingKept.ceilUp (h : TimingKept base s) {anyTrim : Bool} : TimingKept base (s.ceilUp anyTrim) :=
  ((TimingKept.ite h.setCeilGov h).foldl fun _ _ h' => .ite h'.setF h').foldl fun _ _ h' => h'.lead

theorem TimingKept.tickEnd (h : TimingKept base s) {closed : Bool} {trim2 len : Nat} {anyTrim : Bool} : TimingKept base (s.tickEnd closed trim2 len anyTrim) :=
  (h.pcapAtTick5.divAtTick5.ceilDown.foldl fun _ _ h' => h'.freqAtTick).frame.ceilUp.dispatchRounds.settle

theorem TimingKept.orbitBounds (h : TimingKept base s) {ramps : Bool} : TimingKept base (s.orbitBounds ramps) :=
  .ite (.ite h.frame.setF.setF.setF h.frame.setF.setF.setF.setF) h.frame.setF.setF.setF

theorem TimingKept.showOrder (h : TimingKept base s) {oldMem : Nat} : TimingKept base (s.showOrder oldMem) :=
  .ite h.showLevel h.showLevel.writeTokCap

end

end Sys2Proof.Machine
end

section
namespace Sys2Proof.Machine

/-! ### A tick, step by step (R44)

Step 2 closes the account (`State.tickClosed`), recognition counts the orbit (`State.countTick`, `State.overrunTick`), step 3 takes the
staged values (`State.tickOpened`); where no action is armed, the rest of the tick leaves the tick logic alone (`tick_kept`). -/

section
variable {s t : State}

theorem TimingKept.getF (h : TimingKept s t) {f : Fld} (hf : timingReg f.addr) : t.getF f = s.getF f := getF_of_word (h.word _ hf)

theorem TimingKept.on (h : TimingKept s t) {f : Fld} (hf : timingReg f.addr) : t.on f = s.on f := on_of_word (h.word _ hf)

/-! The account closes -/

/-- The registers that a closing account writes: the energy account's, and the length of the closed orbit (R41, R288). -/
def accountReg (a : Nat) : Prop := a = 0x2134 ∨ (0x2400 ≤ a ∧ a < 0x2800)

/-- Nothing that the tick logic reads has changed but the registers of the account. -/
structure AccountOnly (base s : State) : Prop where
  orb : s.orb = base.orb
  now : s.now = base.now
  staged : s.staged = base.staged
  cores : s.cores = base.cores
  regs : SameRegs accountReg base s

theorem AccountOnly.refl : AccountOnly s s := ⟨rfl, rfl, rfl, rfl, .refl⟩

theorem AccountOnly.withGov (h : AccountOnly s t) {g : GovState} : AccountOnly s { t with gov := g } := ⟨h.orb, h.now, h.staged, h.cores, h.regs⟩

theorem AccountOnly.setF (h : AccountOnly s t) {f : Fld} {v : Nat} (hf : f.addr = 0x2134 ∨ (0x2400 ≤ f.addr ∧ f.addr < 0x2800) := by decide) :
    AccountOnly s (t.setF f v) :=
  ⟨h.orb, h.now, h.staged, h.cores, h.regs.setF v hf⟩

theorem AccountOnly.closeWindow (h : AccountOnly s t) : AccountOnly s t.closeWindow := by
  unfold State.closeWindow
  extract_lets +onlyGivenNames g len
  split
  · exact h
  · exact h.withGov

/-- Last of all, a closing account writes the length of the closed orbit. -/
theorem accountClose_eq (s : State) : ∃ (x : State) (g : GovState), AccountOnly s x ∧
    s.accountClose = { x.setF F.ORB_ORBIT_LEN_LAST_LEN (min s.closeWindow.markLevel.orb.len (2 ^ 32 - 1)) with gov := g } := by
  unfold State.accountClose
  extract_lets +onlyGivenNames c g p e nrm ramp prev above below rampHit capOver s1 s2 s3 s4 s5 s6 s7 s8 s9
  have hc : AccountOnly s c := AccountOnly.refl.closeWindow.withGov
  have h1 : AccountOnly s s1 := hc.setF
  have h2 : AccountOnly s s2 := h1.setF
  have h3 : AccountOnly s s3 := h2.setF
  have h4 : AccountOnly s s4 := h3.setF
  have h5 : AccountOnly s s5 := h4.setF
  have h6 : AccountOnly s s6 := h5.setF.setF
  have h7 : AccountOnly s s7 := h6.setF.setF.setF.setF
  have h8 : AccountOnly s s8 := h7.setF.setF.setF.setF
  exact ⟨s8, _, h8, rfl⟩

theorem accountClose_only (s : State) : AccountOnly s s.accountClose := by
  obtain ⟨x, g, hx, h⟩ := accountClose_eq s
  rw [h]
  exact hx.setF.withGov

theorem accountClose_len (s : State) : s.accountClose.getF F.ORB_ORBIT_LEN_LAST_LEN = min s.orb.len (2 ^ 32 - 1) := by
  obtain ⟨x, g, -, h⟩ := accountClose_eq s
  have hlen : s.closeWindow.markLevel.orb = s.orb := AccountOnly.refl.closeWindow.withGov.orb
  rw [h, hlen]
  exact getF_setF (s := x) (by simp only [F.ORB_ORBIT_LEN_LAST_LEN]; omega)

/-- Step 2 of a tick: the account of the open orbit closes, or with none open the governor's window. -/
def State.tickClosed (s : State) : State := if s.orb.tickAt.isSome then s.accountClose else s.closeWindow

theorem tickClosed_only (s : State) : AccountOnly s s.tickClosed := by
  unfold State.tickClosed
  split
  · exact accountClose_only s
  · exact AccountOnly.refl.closeWindow

theorem tickClosed_len (h : s.orb.tickAt.isSome = true) : s.tickClosed.getF F.ORB_ORBIT_LEN_LAST_LEN = min s.orb.len (2 ^ 32 - 1) := by
  rw [State.tickClosed, if_pos h, accountClose_len]

/-! The orbit is counted -/

/-- The count that a tick gives (R46). -/
def State.nextCount (s : State) : Word64 :=
  if s.orb.loadPending then BitVec.ofNat 64 (s.getF F.ORB_COUNT_SET_HI_ORBIT * 2 ^ 32 + s.getF F.ORB_COUNT_SET_LO_ORBIT) else s.orb.count + 1

/-- The tick logic once the orbit is counted (R46, R61). -/
def OrbitState.counted (o : OrbitState) (n : Word64) : OrbitState := { o with count := n, loadPending := false, tickSec := o.sec, tickNs := o.ns }

theorem countTick_of_load (h : s.orb.loadPending = true) :
    s.countTick = { s.setF F.ORB_FLAGS_COUNT_LOADED 1 with orb := s.orb.counted s.nextCount } := by
  simp only [State.countTick, State.nextCount, OrbitState.counted, h, if_true]

theorem countTick_of_plain (h : s.orb.loadPending = false) : s.countTick = { s with orb := s.orb.counted s.nextCount } := by
  simp only [State.countTick, State.nextCount, OrbitState.counted, h, Bool.false_eq_true, if_false]

theorem countTick_eq (s : State) : s.countTick = { s with regs := s.countTick.regs, orb := s.orb.counted s.nextCount } := by
  cases h : s.orb.loadPending with
  | true => rw [countTick_of_load h]; rfl
  | false => rw [countTick_of_plain h]

theorem countTick_regs (s : State) : SameRegs (fun a => a = 0x2114) s s.countTick := by
  cases h : s.orb.loadPending with
  | true => rw [countTick_of_load h]; exact SameRegs.refl.setF (f := F.ORB_FLAGS_COUNT_LOADED) 1 rfl
  | false => rw [countTick_of_plain h]; exact .refl

theorem countTick_loaded (h : s.orb.loadPending = true) : s.countTick.on F.ORB_FLAGS_COUNT_LOADED = true := by
  have hset : (s.setF F.ORB_FLAGS_COUNT_LOADED 1).on F.ORB_FLAGS_COUNT_LOADED = true := on_setF
  rw [countTick_of_load h]
  exact hset

/-- The count of an orbit sets no flag of ORB_FLAGS but COUNT_LOADED. -/
theorem countTick_flag {f : Fld} (hf : F.ORB_FLAGS_COUNT_LOADED.apart f) : s.countTick.getF f = s.getF f := by
  cases h : s.orb.loadPending with
  | true => rw [countTick_of_load h]; exact getF_setF_off (h := hf)
  | false => rw [countTick_of_plain h]; rfl

end

end Sys2Proof.Machine
end

section
namespace Sys2Proof.Machine

section
variable {s t : State}

/-! Overruns (R54) -/

/-- Cores still in the program of an orbit earlier than the one that begins. -/
def State.lateCores (s : State) : List Nat := s.runningCores.filter (fun i => decide (s.programOrbit i < s.orbit))

/-- The partitions of those cores are marked in ORB_OVERRUN. -/
def State.markOverruns (s : State) : State := (s.lateCores.filterMap s.partOfSite).foldl (fun s p => s.orF F.ORB_OVERRUN_PART (2 ^ p)) s

/-- The tick is counted where a core is late. -/
def State.countOverrun (s u : State) : State := if u.lateCores.isEmpty then s else s.countF F.ORB_OVR_TICKS_COUNT 1

/-- What a tick marks beyond the registers is no part of the tick logic. -/
theorem overrunTick_kept (s : State) : TimingKept (s.markOverruns.countOverrun s) s.overrunTick :=
  TimingKept.refl.foldl fun _ _ h => h.setCore

theorem markOverruns_only (s : State) : OnlyRegs (fun a => a = 0x212C) s s.markOverruns :=
  List.foldlRecOn (motive := fun t => OnlyRegs (fun a => a = 0x212C) s t) _ _ .refl fun _ h _ _ => h.orF _ rfl

theorem countOverrun_only (s u : State) : OnlyRegs (fun a => a = 0x2130) s (s.countOverrun u) := by
  unfold State.countOverrun
  split
  · exact .refl
  · exact OnlyRegs.refl.countF _ rfl

theorem overrunTick_regs {a : Nat} (ha : timingReg a) (hne : a ≠ 0x212C ∧ a ≠ 0x2130) : s.overrunTick.word a = s.word a :=
  calc s.overrunTick.word a = (s.markOverruns.countOverrun s).word a := (overrunTick_kept s).word a ha
    _ = s.markOverruns.word a := (countOverrun_only _ _).2 a hne.2
    _ = s.word a := (markOverruns_only s).2 a hne.1

theorem overrunTick_orb (s : State) : s.overrunTick.orb = s.orb := by
  rw [(overrunTick_kept s).orb, (countOverrun_only _ _).1, (markOverruns_only s).1]

theorem overrunTick_now (s : State) : s.overrunTick.now = s.now := by
  rw [(overrunTick_kept s).now, (countOverrun_only _ _).1, (markOverruns_only s).1]

theorem isEmpty_filter {α : Type} (l : List α) (p : α → Bool) : (l.filter p).isEmpty = !l.any p := by
  induction l with
  | nil => rfl
  | cons a l ih => cases h : p a <;> simp [h, ih]

theorem overrunTick_count (s : State) : s.overrunTick.getF F.ORB_OVR_TICKS_COUNT =
    satAdd (s.getF F.ORB_OVR_TICKS_COUNT) (b2n (s.runningCores.any (fun i => decide (s.programOrbit i < s.orbit)))) (2 ^ F.ORB_OVR_TICKS_COUNT.width - 1) := by
  have hlt : s.getF F.ORB_OVR_TICKS_COUNT < 2 ^ F.ORB_OVR_TICKS_COUNT.width := s.getF_lt _
  have hzero : satAdd (s.getF F.ORB_OVR_TICKS_COUNT) 0 (2 ^ F.ORB_OVR_TICKS_COUNT.width - 1) = s.getF F.ORB_OVR_TICKS_COUNT :=
    satAdd_eq (by omega)
  have hmark : s.markOverruns.getF F.ORB_OVR_TICKS_COUNT = s.getF F.ORB_OVR_TICKS_COUNT :=
    getF_of_word ((markOverruns_only s).2 _ (by decide))
  rw [(overrunTick_kept s).getF (by simp [timingReg, F.ORB_OVR_TICKS_COUNT]), State.countOverrun, State.lateCores, isEmpty_filter]
  cases s.runningCores.any (fun i => decide (s.programOrbit i < s.orbit)) with
  | true =>
    rw [if_neg (by decide), getF_countF, hmark]
    rfl
  | false =>
    rw [if_pos (by decide), hmark]
    exact hzero.symm

theorem bit_eq_testBit (n i : Nat) : bit n i = n.testBit i := by
  rw [Nat.testBit_eq_decide_div_mod_eq, bit, Nat.shiftRight_eq_div_pow]
  rfl

/-- A mark stays, and marks the partition that it names. -/
theorem bit_orF_overrun (t : State) (q p : Nat) (hp : p < 16) :
    bit ((t.orF F.ORB_OVERRUN_PART (2 ^ q)).getF F.ORB_OVERRUN_PART) p = (bit (t.getF F.ORB_OVERRUN_PART) p || decide (q = p)) := by
  rw [State.getF_orF_same _ (by unfold Fld.fits; decide), bit_eq_testBit, bit_eq_testBit]
  simp only [F.ORB_OVERRUN_PART, Nat.testBit_mod_two_pow, hp, decide_true, Bool.true_and]
  exact (Nat.testBit_or _ _ _).trans (by rw [Nat.testBit_two_pow])

theorem bit_markOverruns (l : List Nat) (t : State) (p : Nat) (hp : p < 16) (h : p ∈ l ∨ bit (t.getF F.ORB_OVERRUN_PART) p = true) :
    bit ((l.foldl (fun s p => s.orF F.ORB_OVERRUN_PART (2 ^ p)) t).getF F.ORB_OVERRUN_PART) p = true := by
  induction l generalizing t with
  | nil => simpa using h
  | cons q l ih =>
    refine ih _ ?_
    rw [bit_orF_overrun t q p hp]
    rcases h with h | h
    · rcases List.mem_cons.mp h with rfl | h
      · simp
      · exact .inl h
    · simp [h]

theorem overrunTick_part {i p : Nat} (hi : i ∈ s.runningCores) (hlate : s.programOrbit i < s.orbit) (hpart : s.partOfSite i = some p)
    (hp : p < 16) : bit (s.overrunTick.getF F.ORB_OVERRUN_PART) p = true := by
  have hmem : p ∈ s.lateCores.filterMap s.partOfSite :=
    List.mem_filterMap.mpr ⟨i, List.mem_filter.mpr ⟨hi, decide_eq_true hlate⟩, hpart⟩
  rw [(overrunTick_kept s).getF (by simp [timingReg, F.ORB_OVERRUN_PART]),
    getF_of_word ((countOverrun_only _ s).2 _ (by decide))]
  exact bit_markOverruns _ s p hp (.inl hmem)

/-! What the overruns read lies outside the orbit page -/

/-- The cores, and every register outside the orbit page, are as before. -/
structure CoresKept (s t : State) : Prop where
  cores : t.cores = s.cores
  regs : SameRegs (onPage pgOrb) s t

theorem CoresKept.getF (h : CoresKept s t) {f : Fld} (hf : ¬ onPage pgOrb f.addr := by
    simp only [onPage, pgOrb, F.PG_STATE_STATE, pgCore, F.CORE_VOY_LAUNCH_LO_ORBIT, F.CORE_VOY_LAUNCH_HI_ORBIT, F.CORE_PROG_K_K,
      F.PRT_ROWS_LO_ROWS, F.PRT_ROWS_HI_ROWS] <;> omega) : t.getF f = s.getF f :=
  getF_of_word (h.regs _ hf)

theorem CoresKept.runningCores (h : CoresKept s t) : t.runningCores = s.runningCores := by
  have hst (i : Nat) : t.coreSt i = s.coreSt i := h.getF
  simp only [State.runningCores, h.cores, hst]

theorem CoresKept.programOrbit (h : CoresKept s t) (i : Nat) : t.programOrbit i = s.programOrbit i := by
  have hcore : t.core i = s.core i := by simp only [State.core, h.cores]
  have hlo : t.getF (F.CORE_VOY_LAUNCH_LO_ORBIT i) = s.getF (F.CORE_VOY_LAUNCH_LO_ORBIT i) := h.getF
  have hhi : t.getF (F.CORE_VOY_LAUNCH_HI_ORBIT i) = s.getF (F.CORE_VOY_LAUNCH_HI_ORBIT i) := h.getF
  have hk : t.getF (F.CORE_PROG_K_K i) = s.getF (F.CORE_PROG_K_K i) := h.getF
  simp only [State.programOrbit, hcore, hlo, hhi, hk]

theorem CoresKept.partOfSite (h : CoresKept s t) (i : Nat) : t.partOfSite i = s.partOfSite i := by
  have hlo (p : Nat) : t.getF (F.PRT_ROWS_LO_ROWS p) = s.getF (F.PRT_ROWS_LO_ROWS p) := h.getF
  have hhi (p : Nat) : t.getF (F.PRT_ROWS_HI_ROWS p) = s.getF (F.PRT_ROWS_HI_ROWS p) := h.getF
  simp only [State.partOfSite, State.partOfRow, hlo, hhi]

end

end Sys2Proof.Machine
end

section
namespace Sys2Proof.Machine

section
variable {s t : State}

/-! The staged values are taken (R44 step 3) -/

/-- The word of a register once its staged value is taken: `e` is mask and value. -/
def takenWord (w : Word) (e : Nat × Nat) : Word := BitVec.ofNat 32 (Nat.lor (Nat.land w.toNat (2 ^ 32 - 1 - e.1)) (Nat.land e.2 e.1))

/-- The values that are taken are written to registers alone. -/
theorem applyStaged_only (s : State) (l : Tab (Nat × Nat)) : OnlyRegs (fun a => a ∈ l.map Prod.fst) s (s.applyStaged l) :=
  List.foldlRecOn (motive := fun t => OnlyRegs (fun a => a ∈ l.map Prod.fst) s t) l _ .refl
    fun _ h _ he => h.setWord _ (List.mem_map_of_mem he)

theorem applyStaged_other {l : Tab (Nat × Nat)} {a : Nat} (h : a ∉ l.map Prod.fst) : (s.applyStaged l).word a = s.word a :=
  (applyStaged_only s l).2 a h

theorem tabGet_eq_none_iff {α : Type} {l : Tab α} {a : Nat} : tabGet l a = none ↔ a ∉ l.map Prod.fst := by
  induction l with
  | nil => simp
  | cons e l ih =>
    unfold tabGet
    by_cases h : e.1 = a
    · simp [h]
    · simp [h, ih, Ne.symm h]

/-- A register's staged value is taken once, where the list names each register once. -/
theorem applyStaged_taken {l : Tab (Nat × Nat)} {a : Nat} {e : Nat × Nat} (hl : tabSorted l = true) (h : tabGet l a = some e) :
    (s.applyStaged l).word a = takenWord (s.word a) e := by
  induction l generalizing s with
  | nil => cases h
  | cons x l ih =>
    rw [tabSorted_iff, List.map_cons, List.pairwise_cons] at hl
    obtain ⟨hlt, hl⟩ := hl
    unfold tabGet at h
    split at h
    next hx =>
      cases h
      have hout : a ∉ l.map Prod.fst := fun hm => absurd (hlt a hm) (by omega)
      subst hx
      exact (applyStaged_other hout).trans (State.word_setWord_same _ _ _)
    next hx =>
      refine (ih ((tabSorted_iff l).mpr hl) h).trans ?_
      rw [State.word_setWord_ne _ _ (Ne.symm hx)]

/-- No staged value waits for a register without a staged field (R11). -/
theorem not_mem_staged (hs : s.stagedPlain = true) {a : Nat} (ha : hasStaged a = false) : a ∉ s.staged.map Prod.fst := by
  intro hm
  obtain ⟨e, he, rfl⟩ := List.mem_map.mp hm
  exact absurd ((stagedPlain_iff s).mp hs e he) (by simp [ha])

/-! The new orbit opens -/

/-- The tick logic of an orbit that begins at an instant. -/
def OrbitState.opened (o : OrbitState) (now : Nat) : OrbitState := { o with tickAt := some now, len := 0, missed := false, sliceOpen := false }

/-- Steps 2 and 3 of a tick: the account closes, the orbit is counted and opens, the staged values are taken. -/
def State.tickOpened (s : State) : State :=
  let c := s.tickClosed.countTick.overrunTick
  let o : State := { c with
    staged := []
    orb := c.orb.opened c.now
    gov := { c.gov with orbE := Energy.zero, peak := 0, short := false, trim2 := 0, anyTrim := decide (0 < c.gov.level), markAt := c.now } }
  (o.shortLevel s.gov.winE (s.now - s.gov.winFrom)).applyStaged s.staged

theorem tickOpened_orb (s : State) : s.tickOpened.orb = (s.orb.counted s.tickClosed.nextCount).opened s.now := by
  rw [State.tickOpened, (applyStaged_only _ _).1]
  refine (TimingKept.refl.shortLevel).orb.trans ?_
  dsimp only
  rw [overrunTick_orb, overrunTick_now, countTick_eq, (tickClosed_only s).orb, (tickClosed_only s).now]

theorem tickOpened_now (s : State) : s.tickOpened.now = s.now := by
  rw [State.tickOpened, (applyStaged_only _ _).1]
  refine (TimingKept.refl.shortLevel).now.trans ?_
  dsimp only
  rw [overrunTick_now, countTick_eq, (tickClosed_only s).now]

theorem tickOpened_staged (s : State) : s.tickOpened.staged = [] := by
  rw [State.tickOpened, (applyStaged_only _ _).1]
  exact (TimingKept.refl.shortLevel).staged

/-- A register of the tick logic for which no value waits is as the count and the overruns leave it. -/
theorem tickOpened_word {a : Nat} (ha : timingReg a) (hs : a ∉ s.staged.map Prod.fst) :
    s.tickOpened.word a = s.tickClosed.countTick.overrunTick.word a :=
  (applyStaged_other hs).trans ((TimingKept.refl.shortLevel).word a ha)

theorem tickOpened_taken {a : Nat} {e : Nat × Nat} (ha : timingReg a) (hs : tabSorted s.staged = true) (h : tabGet s.staged a = some e) :
    s.tickOpened.word a = takenWord (s.tickClosed.countTick.overrunTick.word a) e := by
  refine (applyStaged_taken hs h).trans (congrArg (takenWord · e) ?_)
  exact (TimingKept.refl.shortLevel).word a ha

/-- Where no action is armed, the rest of a tick leaves the tick logic alone (R44 steps 4 to 6). -/
theorem tick_kept (h : s.armedSet = []) : TimingKept s.tickOpened s.tick := by
  unfold State.tick
  rw [h]
  extract_lets +onlyGivenNames armed staged closed len e win s1 trim2 anyTrim s2 _ _ s3 s4 s5
  have h4 : s4 = s.tickOpened := rfl
  have h5 : TimingKept s.tickOpened s5 := h4 ▸ TimingKept.refl.pcapAtTick4
  exact .ite h5 h5.showLevel.writeTokCap.orbitBounds.tickEnd

theorem armedSet_eq_nil (h : ∀ n, n < 64 → s.on (F.ORB_ACT_CTRL_ARM n) = false) : s.armedSet = [] := by
  have hnone : (List.range 64).filter (fun n => s.on (F.ORB_ACT_CTRL_ARM n)) = [] :=
    List.filter_eq_nil_iff.mpr fun n hn => by simp [h n (List.mem_range.mp hn)]
  rw [State.armedSet, hnone]
  rfl

end

end Sys2Proof.Machine
end

section
namespace Sys2Proof.Machine

section
variable {s t u v : State}

/-! What a tick without armed actions leaves -/

/-- Recognition and step 2 leave every register but the account's, ORB_FLAGS and the overruns' as it was. -/
theorem tickCounted_word {a : Nat} (ha : timingReg a) (hne : a ≠ 0x2114 ∧ a ≠ 0x212C ∧ a ≠ 0x2130 ∧ a ≠ 0x2134) :
    s.tickClosed.countTick.overrunTick.word a = s.word a := by
  obtain ⟨hflag, hpart, hovr, hlen⟩ := hne
  have hacc : ¬ accountReg a := by unfold accountReg; unfold timingReg at ha; omega
  rw [overrunTick_regs ha ⟨hpart, hovr⟩, countTick_regs _ a hflag, (tickClosed_only s).regs a hacc]

theorem tickClosed_nextCount (s : State) : s.tickClosed.nextCount = s.nextCount := by
  have hlo : s.tickClosed.getF F.ORB_COUNT_SET_LO_ORBIT = s.getF F.ORB_COUNT_SET_LO_ORBIT := getF_of_word ((tickClosed_only s).regs _ (by unfold accountReg; decide))
  have hhi : s.tickClosed.getF F.ORB_COUNT_SET_HI_ORBIT = s.getF F.ORB_COUNT_SET_HI_ORBIT := getF_of_word ((tickClosed_only s).regs _ (by unfold accountReg; decide))
  simp only [State.nextCount, (tickClosed_only s).orb, hlo, hhi]

theorem tick_orb (h : s.armedSet = []) : s.tick.orb = (s.orb.counted s.nextCount).opened s.now := by
  rw [(tick_kept h).orb, tickOpened_orb, tickClosed_nextCount]

theorem tick_now (h : s.armedSet = []) : s.tick.now = s.now := by rw [(tick_kept h).now, tickOpened_now]

theorem tick_staged (h : s.armedSet = []) : s.tick.staged = [] := by rw [(tick_kept h).staged, tickOpened_staged]

theorem tick_word (h : s.armedSet = []) {a : Nat} (ha : timingReg a) (hs : a ∉ s.staged.map Prod.fst)
    (hne : a ≠ 0x2114 ∧ a ≠ 0x212C ∧ a ≠ 0x2130 ∧ a ≠ 0x2134) : s.tick.word a = s.word a := by
  rw [(tick_kept h).word a ha, tickOpened_word ha hs, tickCounted_word ha hne]

theorem tick_taken (h : s.armedSet = []) {a : Nat} {e : Nat × Nat} (ha : timingReg a) (hs : tabSorted s.staged = true)
    (he : tabGet s.staged a = some e) (hne : a ≠ 0x2114 ∧ a ≠ 0x212C ∧ a ≠ 0x2130 ∧ a ≠ 0x2134) : s.tick.word a = takenWord (s.word a) e := by
  rw [(tick_kept h).word a ha, tickOpened_taken ha hs he, tickCounted_word ha hne]

/-- A register of the tick logic without a staged field is as the count and the overruns leave it. -/
theorem tick_counted (h : s.armedSet = []) (hs : s.stagedPlain = true) {f : Fld} (ha : timingReg f.addr) (hp : hasStaged f.addr = false) :
    s.tick.getF f = s.tickClosed.countTick.overrunTick.getF f := by
  rw [(tick_kept h).getF ha]
  exact getF_of_word (tickOpened_word ha (not_mem_staged hs hp))

/-- A field of ORB_FLAGS but COUNT_LOADED. -/
theorem tick_flag (h : s.armedSet = []) (hs : s.stagedPlain = true) {f : Fld} (ha : f.addr = 0x2114) (hf : F.ORB_FLAGS_COUNT_LOADED.apart f) :
    s.tick.getF f = s.getF f := by
  have hreg : timingReg f.addr := by unfold timingReg; omega
  rw [tick_counted h hs hreg (by rw [ha]; decide), getF_of_word (overrunTick_regs hreg (by omega)), countTick_flag hf]
  exact getF_of_word ((tickClosed_only s).regs _ (by unfold accountReg; omega))

theorem tick_loaded (h : s.armedSet = []) (hs : s.stagedPlain = true) (hload : s.orb.loadPending = true) :
    s.tick.on F.ORB_FLAGS_COUNT_LOADED = true := by
  have hreg : timingReg F.ORB_FLAGS_COUNT_LOADED.addr := by unfold timingReg; decide
  rw [State.on, tick_counted h hs hreg (by decide), getF_of_word (overrunTick_regs hreg (by decide))]
  exact countTick_loaded (s := s.tickClosed) (by rw [(tickClosed_only s).orb, hload])

theorem tick_len (h : s.armedSet = []) (hs : s.stagedPlain = true) (hopen : s.orb.tickAt.isSome = true) :
    s.tick.getF F.ORB_ORBIT_LEN_LAST_LEN = min s.orb.len (2 ^ 32 - 1) := by
  have hreg : timingReg F.ORB_ORBIT_LEN_LAST_LEN.addr := by unfold timingReg; decide
  rw [tick_counted h hs hreg (by decide), getF_of_word (overrunTick_regs hreg (by decide)), getF_of_word (countTick_regs _ _ (by decide)),
    tickClosed_len hopen]

/-- The cores stand as before when the overruns are marked. -/
theorem counted_coresKept (s : State) : CoresKept s s.tickClosed.countTick where
  cores := by rw [countTick_eq, (tickClosed_only s).cores]
  regs := fun a ha => by
    have hflag : a ≠ 0x2114 := by rintro rfl; exact ha rfl
    have hacc : ¬ accountReg a := by unfold accountReg; unfold onPage pgOrb at ha; omega
    rw [countTick_regs _ a hflag, (tickClosed_only s).regs a hacc]

theorem counted_orbit (s : State) : s.tickClosed.countTick.orbit = s.nextCount.toNat := by
  rw [State.orbit, countTick_eq]
  exact congrArg BitVec.toNat (tickClosed_nextCount s)

theorem tick_overruns (h : s.armedSet = []) (hs : s.stagedPlain = true) : s.tick.getF F.ORB_OVR_TICKS_COUNT =
    satAdd (s.getF F.ORB_OVR_TICKS_COUNT) (b2n (s.runningCores.any (fun i => decide (s.programOrbit i < s.nextCount.toNat))))
      (2 ^ F.ORB_OVR_TICKS_COUNT.width - 1) := by
  have hreg : timingReg F.ORB_OVR_TICKS_COUNT.addr := by unfold timingReg; decide
  have hold : s.tickClosed.countTick.getF F.ORB_OVR_TICKS_COUNT = s.getF F.ORB_OVR_TICKS_COUNT :=
    (getF_of_word (countTick_regs _ _ (by decide))).trans (getF_of_word ((tickClosed_only s).regs _ (by unfold accountReg; decide)))
  have hc := counted_coresKept s
  simp only [tick_counted h hs hreg (by decide), overrunTick_count, hold, hc.runningCores, hc.programOrbit, counted_orbit]

theorem tick_part (h : s.armedSet = []) (hs : s.stagedPlain = true) {i p : Nat} (hi : i ∈ s.runningCores)
    (hlate : s.programOrbit i < s.nextCount.toNat) (hpart : s.partOfSite i = some p) (hp : p < 16) :
    bit (s.tick.getF F.ORB_OVERRUN_PART) p = true := by
  have hreg : timingReg F.ORB_OVERRUN_PART.addr := by unfold timingReg; decide
  have hc := counted_coresKept s
  rw [tick_counted h hs hreg (by decide)]
  refine overrunTick_part (i := i) ?_ ?_ ?_ hp
  · rwa [hc.runningCores]
  · rwa [hc.programOrbit, counted_orbit]
  · rwa [hc.partOfSite]

/-! The state in which a tick is recognised -/

/-- The registers of the source of ticks: ORB_CTRL, ORB_STATUS, ORB_FLAGS and ORB_MISS_COUNT. -/
def sourceReg (a : Nat) : Prop := a = 0x2100 ∨ a = 0x2110 ∨ a = 0x2114 ∨ a = 0x2118

/-- `v` is `u` but for the source of ticks: what of `u` a tick in `v` reads. -/
structure TickFrom (u v : State) : Prop where
  now : v.now = u.now
  staged : v.staged = u.staged
  cores : v.cores = u.cores
  count : v.orb.count = u.orb.count
  load : v.orb.loadPending = u.orb.loadPending
  sec : v.orb.sec = u.orb.sec
  ns : v.orb.ns = u.orb.ns
  tickAt : v.orb.tickAt = u.orb.tickAt
  len : u.orb.tickAt.isSome = true → v.orb.len = u.orb.len
  regs : SameRegs sourceReg u v

theorem TickFrom.refl : TickFrom u u := ⟨rfl, rfl, rfl, rfl, rfl, rfl, rfl, rfl, fun _ => rfl, .refl⟩

theorem TickFrom.getF (h : TickFrom u v) {f : Fld} (hf : ¬ sourceReg f.addr) : v.getF f = u.getF f := getF_of_word (h.regs _ hf)

theorem TickFrom.armedSet (h : TickFrom u v) (harm : ∀ n, n < 64 → u.on (F.ORB_ACT_CTRL_ARM n) = false) : v.armedSet = [] :=
  armedSet_eq_nil fun n hn => (on_of_word (h.regs _ (by simp only [sourceReg, F.ORB_ACT_CTRL_ARM]; omega))).trans (harm n hn)

theorem TickFrom.plain (h : TickFrom u v) (hs : u.stagedPlain = true) : v.stagedPlain = true := by
  rw [State.stagedPlain, h.staged]
  exact hs

theorem TickFrom.coresKept (h : TickFrom u v) : CoresKept u v :=
  ⟨h.cores, h.regs.weaken fun a ha => by unfold sourceReg at ha; unfold onPage pgOrb; omega⟩

theorem TickFrom.nextCount (h : TickFrom u v) : v.nextCount = u.nextCount := by
  have hlo : v.getF F.ORB_COUNT_SET_LO_ORBIT = u.getF F.ORB_COUNT_SET_LO_ORBIT := h.getF (by unfold sourceReg; decide)
  have hhi : v.getF F.ORB_COUNT_SET_HI_ORBIT = u.getF F.ORB_COUNT_SET_HI_ORBIT := h.getF (by unfold sourceReg; decide)
  simp only [State.nextCount, h.load, h.count, hlo, hhi]

/-- What a tick gives, from the state in which it is recognised: each part by the lemma of its step. -/
theorem TickFrom.gives (h : TickFrom u v) (hrun : v.running = true) : TickGives u v.tick := by
  intro harm hord hplain
  have ha := h.armedSet harm
  have hs := h.plain hplain
  have hsorted : tabSorted v.staged = true := h.staged ▸ (Bool.and_eq_true_iff.mp hord).2
  have hc := h.coresKept
  have horb := tick_orb ha
  have horbit : v.tick.orbit = v.nextCount.toNat := by rw [State.orbit, horb]; rfl
  have hovr : v.getF F.ORB_OVR_TICKS_COUNT = u.getF F.ORB_OVR_TICKS_COUNT := h.getF (by unfold sourceReg; decide)
  have hstg (a : Nat) (hreg : a = 0x2104 ∨ a = 0x210C) : v.word a = u.word a := h.regs a (by unfold sourceReg; omega)
  refine ⟨(tick_now ha).trans h.now, ?running, tick_staged ha, ?count, ?load, ?loaded, ?tickAt, ?len, ?missed, ?slice, ?sec, ?ns, ?last,
    ?taken, ?kept, ?overruns, ?parts⟩
  case running =>
    have hctrl : v.tick.word 0x2100 = v.word 0x2100 :=
      tick_word ha (by unfold timingReg; decide) (not_mem_staged hs (by decide)) (by decide)
    exact (on_of_word (f := F.ORB_CTRL_RUN) hctrl).trans hrun
  case count => rw [horb, ← State.nextCount, ← h.nextCount]; rfl
  case load => rw [horb]; rfl
  case loaded => exact fun hl => tick_loaded ha hs (h.load.trans hl)
  case tickAt => rw [horb, ← h.now]; rfl
  case len => rw [horb]; rfl
  case missed => rw [horb]; rfl
  case slice => rw [horb]; rfl
  case sec => rw [horb, ← h.sec]; rfl
  case ns => rw [horb, ← h.ns]; rfl
  case last => exact fun hopen => by rw [tick_len ha hs (h.tickAt ▸ hopen), h.len hopen]; rfl
  case taken =>
    intro a hreg m x he
    rw [tick_taken ha (by unfold timingReg; omega) hsorted (h.staged ▸ he) (by omega), hstg a hreg]
    rfl
  case kept =>
    intro a hreg he
    rw [tick_word ha (by unfold timingReg; omega) (tabGet_eq_none_iff.mp (h.staged ▸ he)) (by omega), hstg a hreg]
  case overruns =>
    rw [tick_overruns ha hs, horbit, hovr, hc.runningCores]
    simp only [hc.programOrbit]
  case parts =>
    intro i p hi hlate hpart hp
    refine tick_part ha hs (i := i) ?_ ?_ ?_ hp
    · rwa [hc.runningCores]
    · rwa [hc.programOrbit, ← horbit]
    · rwa [hc.partOfSite]

end

end Sys2Proof.Machine
end

section
namespace Sys2Proof.Machine

section
variable {s t u v : State}

/-! ### Seconds (O4) -/

theorem secondEdge_of_load (h : s.on F.TIM_CTRL_SEC_LOAD = true) (ns : Nat) : s.secondEdge ns =
    ((({ s with orb := { s.orb with
          sec := BitVec.ofNat 64 (s.getF F.TIM_SEC_SET_HI_SEC * 2 ^ 32 + s.getF F.TIM_SEC_SET_LO_SEC), ns := ns } } : State).setF
      F.TIM_CTRL_SEC_LOAD 0).setF F.TIM_FLAGS_SEC_LOADED 1) :=
  if_pos h

theorem secondEdge_of_plain (h : s.on F.TIM_CTRL_SEC_LOAD = false) (ns : Nat) :
    s.secondEdge ns = { s with orb := { s.orb with sec := s.orb.sec + 1, ns := ns } } :=
  if_neg (by simp [h])

/-- A second edge counts, or takes the load that is pending (R58, R60). -/
theorem secondAt_secondEdge (s : State) (ns : Nat) : SecondAt ns s (s.secondEdge ns) := by
  cases h : s.on F.TIM_CTRL_SEC_LOAD with
  | false =>
    rw [secondEdge_of_plain h]
    exact ⟨rfl, fun _ => ⟨rfl, h, rfl⟩, fun hl => absurd hl (by simp [h])⟩
  | true =>
    rw [secondEdge_of_load h]
    exact ⟨rfl, fun hl => absurd hl (by simp [h]), fun _ => ⟨rfl, Eq.trans on_setF_off on_setF_zero, on_setF⟩⟩

theorem secondEdge_only (s : State) (ns : Nat) : OnlyRegs (fun a => a = 0x1100 ∨ a = 0x1108)
    { s with orb := { s.orb with sec := (s.secondEdge ns).orb.sec, ns := ns } } (s.secondEdge ns) := by
  cases h : s.on F.TIM_CTRL_SEC_LOAD with
  | false => rw [secondEdge_of_plain h]; exact .refl
  | true => rw [secondEdge_of_load h]; exact (OnlyRegs.refl.setF _ (.inl rfl)).setF _ (.inr rfl)

theorem execNsRollover_of_pps (h : s.on F.TIM_CTRL_PPS_EN = true) : exec .nsRollover s = .next s := if_pos h

/-- Without PPS_IN the second edge comes at the instant that TIM_NS reaches 1,000,000,000 (R58). -/
theorem execNsRollover_of_free (h : s.on F.TIM_CTRL_PPS_EN = false) :
    exec .nsRollover s = .next ((s.advance (s.nsLeft 1000000000)).secondEdge ((s.advance (s.nsLeft 1000000000)).orb.ns - 1000000000)) :=
  if_neg (by simp [h])

theorem execSecLoad_of_zero {who : Requester} {w : Word} (h : bit w.toNat 1 = false) : exec (.secLoad who w) s = .next s :=
  if_neg (by simp [h])

/-- An admitted write of 1 to SEC_LOAD makes a load pending (R60). -/
theorem execSecLoad_of_admitted {who : Requester} {w : Word} (h : bit w.toNat 1 = true) (ha : Admitted s u who 0x1100 2 w) :
    exec (.secLoad who w) s = .next (u.setF F.TIM_CTRL_SEC_LOAD 1) := by
  obtain ⟨m, hm, hneed⟩ := ha
  exact (if_pos h).trans (trigger_admitted _ hm hneed)

/-- Settles O4: `State.advance` counts, `secondAt_secondEdge` and `secondEdge_only` say what the edge does at the instant that R58 gives, and
`execSecLoad_of_admitted` what a write of SEC_LOAD does. -/
theorem seconds : Obligations.Seconds := by
  refine ⟨fun n s => ⟨rfl, rfl⟩, fun s => ⟨execNsRollover_of_pps, fun hpps hns hstep => ?_⟩, fun who w s u => ⟨execSecLoad_of_zero, fun hbit ha => ?_⟩⟩
  · have hreach : (s.advance ((10 ^ 9 - s.orb.ns) / 10)).orb.ns = 10 ^ 9 := by
      show s.orb.ns + 10 * ((10 ^ 9 - s.orb.ns) / 10) = 10 ^ 9
      omega
    have hedge := execNsRollover_of_free hpps
    rw [show s.nsLeft 1000000000 = (10 ^ 9 - s.orb.ns) / 10 from rfl, hreach] at hedge
    exact ⟨_, hedge, hreach, secondAt_secondEdge _ _, secondEdge_only _ _⟩
  · exact ⟨_, execSecLoad_of_admitted hbit ha, on_setF, OnlyRegs.refl.setF _ rfl⟩

/-! ### Edges of OTICK (O2) -/

theorem advanceTo_now_add (s : State) (dt : Nat) : s.advanceTo (s.now + dt) = s.advance dt := by
  rw [State.advanceTo, Nat.add_sub_cancel_left]

theorem missDue_eq_some {m : Nat} (h : s.missDue = some m) :
    (s.orb.missed = false ∨ s.src = 2) ∧ s.orb.fallback = false ∧ ∃ b, s.missBase = some b ∧ m = b + s.period + s.tol := by
  unfold State.missDue at h
  split at h
  next hc =>
    simp only [Bool.and_eq_true, Bool.or_eq_true, Bool.not_eq_true', beq_iff_eq] at hc
    obtain ⟨⟨-, hfall⟩, hmissed⟩ := hc
    obtain ⟨b, hb, rfl⟩ := Option.map_eq_some_iff.mp h
    exact ⟨hmissed, hfall, b, hb, rfl⟩
  · cases h

theorem missBase_of_open {b : Nat} (h : s.orb.tickAt = some b) : s.missBase = some b := by rw [State.missBase, h]

/-- With OTICK selected and no miss due before it, an edge is recognised as it comes (R37). -/
theorem execOtickEdge_now {dt : Nat} (hrun : s.running = true) (hsrc : s.src ≠ 0)
    (hmiss : ∀ m, s.missDue = some m → s.now + dt ≤ m) : exec (.otickEdge dt) s = .next (s.advance dt).edgeNow := by
  have hgo : (!s.running || s.src == 0) = false := by simp [hrun, hsrc]
  show execOtickEdge dt s = _
  unfold execOtickEdge
  rw [← advanceTo_now_add]
  simp only [hgo, Bool.false_eq_true, if_false]
  cases h : s.missDue with
  | none => rfl
  | some m => simp only [if_neg (Nat.not_lt.mpr (hmiss m h))]

theorem edgeNow_of_late {b : Nat} (hopen : s.orb.tickAt = some b) (hfall : s.orb.fallback = false) (h : b + s.period ≤ s.now + s.tol) :
    s.edgeNow = s.tick := by
  simp [State.edgeNow, hopen, hfall, h]

theorem edgeNow_of_early {b : Nat} (hopen : s.orb.tickAt = some b) (hfall : s.orb.fallback = false) (h : s.now + s.tol < b + s.period) :
    s.edgeNow = (s.setF F.ORB_FLAGS_OTICK_EARLY 1).countF F.ORB_EARLY_COUNT_COUNT 1 := by
  simp [State.edgeNow, hopen, hfall, h]

/-- Settles O2: with no miss before it an edge is recognised as it comes (`execOtickEdge_now`); before P − TOL it is flagged and counted, and
otherwise it is a tick, which `TickFrom.gives` describes. -/
theorem edgeAcceptance : Obligations.EdgeAcceptance := by
  unfold Obligations.EdgeAcceptance
  intro dt b s hrun hsrc hfall hopen hmiss u
  have hbefore (m : Nat) (hm : s.missDue = some m) : s.now + dt ≤ m := by
    obtain ⟨hdue, -, b', hb', rfl⟩ := missDue_eq_some hm
    obtain rfl : b = b' := Option.some.inj ((missBase_of_open hopen).symm.trans hb')
    rcases hmiss with ⟨hone, hmissed⟩ | hle
    · rw [hmissed, hone] at hdue
      exact absurd hdue (by decide)
    · exact hle
  have hedge : exec (.otickEdge dt) s = .next u.edgeNow := execOtickEdge_now hrun hsrc hbefore
  have hopen : u.orb.tickAt = some b := hopen
  have hfall : u.orb.fallback = false := hfall
  refine ⟨fun hearly => ?_, fun hlate => ?_⟩
  · rw [edgeNow_of_early hopen hfall hearly] at hedge
    refine ⟨_, hedge, Eq.trans on_setF_off on_setF, Eq.trans getF_countF ?_, (OnlyRegs.refl.setF _ (.inl rfl)).countF _ (.inr rfl)⟩
    rw [getF_setF_off]
    rfl
  · rw [edgeNow_of_late hopen hfall hlate] at hedge
    exact ⟨_, hedge, TickFrom.refl.gives hrun⟩

end

end Sys2Proof.Machine
end

section
namespace Sys2Proof.Machine

/-! ### Where a calibration's end fails (O5)

The statement bounds no tally that a broadcast's collection of reports holds. A TALLY field has 6 bits (R201), but in the state below the
collection at the port of site 0 names tally 3,147,590, whose register would lie where PG_STATE of the next halyard port does. When the
recentre of row 0 ends with a failed port 0, the port's broadcast reports COL_FAIL, its collection is complete, and that tally is added. -/

/-- The broadcast that the port of site 0 holds, from its own site. -/
def ownBroadcast : Packet :=
  { place := .router 0, route := 0, cur := 0, left := 0, xed := false, vc := 0, srcKind := 0, masked := false, src := siteNum 0, ty := 0,
    part := 0, clu := false, tag := 0, addr := 0, len := 0, aux := 2, data := [], mask := 0 }

/-- A collection at the port of site 0 that awaits that port alone and adds to a tally past the last. -/
def strayCollect : Collect :=
  { head := none, tag := 0, waits := [0], each := 1, waves := 0, status := 0, columns := 0, setk := true, ten := true, tally := 3147590, wmax := 0 }

/-- Row 0 is in calibration until time 0, its port 0 in RECENTRE with that broadcast and collection. -/
def strayState : State :=
  { State.reset with
    regs := [(0x80000C, halRecentre)]
    orb := { OrbitState.reset with calibs := [⟨1, 0, 0⟩] }
    cores := [(0, { CoreState.fresh with bk := [⟨1, [], [], false, true, 0, 0⟩] })]
    ports := [(0, { PortState.fresh 0 with
      bcasts := [{ setk := none, cmd := [], banks := 0, pkt := ownBroadcast, before := [], todo := [], active := [], waves := 0, uncorr := false, started := false }]
      collects := [strayCollect] })] }

/-- The tally's register is PG_STATE of the halyard port of site 1. -/
theorem strayCollect_tally : (tallyFld 0 strayCollect.tally).addr = (F.PG_STATE_STATE (pgHyp 1)).addr := by decide

theorem strayState_hal : strayState.hal 1 = halOff := by decide +kernel

/-- The recentre's end takes port 1 out of OFF, though it is not in RECENTRE. -/
theorem strayState_spoilt : (match exec (.calibrationComplete 1 0 [0]) strayState with | .next t => t.hal 1 | _ => halOff) = halTraining := by
  decide +kernel

/-- Refutes O5: `strayState` meets the hypotheses on CALIBRATION_COMPLETE, and the failure of port 0 writes PG_STATE of port 1, which is not in
RECENTRE and would have to stay as it is. -/
theorem not_timebase : ¬ Obligations.Timebase := by
  unfold Obligations.Timebase
  rintro ⟨-, -, -, hends⟩
  obtain ⟨-, -, hrow, -⟩ := hends ⟨1, 0, 0⟩ [0] strayState rfl
  obtain ⟨t, ht, -, -, hhal⟩ := hrow rfl (by decide)
  have hstays : t.hal 1 = halOff := by
    rw [hhal 1 (by decide), strayState_hal]
    rfl
  have hspoilt := strayState_spoilt
  simp only [ht, hstays] at hspoilt
  exact absurd hspoilt (by decide)

end Sys2Proof.Machine
end

section
namespace Sys2Proof.Machine

section
variable {s u v : State}

/-! ### Ticks of the timer, missed edges, fallback and relock (O3) -/

theorem TickFrom.setF (h : TickFrom u v) {f : Fld} {x : Nat} (hf : sourceReg f.addr) : TickFrom u (v.setF f x) :=
  ⟨h.now, h.staged, h.cores, h.count, h.load, h.sec, h.ns, h.tickAt, h.len, h.regs.setF x hf⟩

/-- The frame: miss, fallback and watched edges are no part of what a tick reads. -/
theorem TickFrom.withSource (h : TickFrom u v) {missed fallback : Bool} {watch : List Nat} :
    TickFrom u { v with orb := { v.orb with missed := missed, fallback := fallback, watch := watch } } :=
  ⟨h.now, h.staged, h.cores, h.count, h.load, h.sec, h.ns, h.tickAt, h.len, h.regs⟩

theorem TickFrom.noFallback (h : TickFrom u v) : TickFrom u v.noFallback := h.withSource.setF (.inr (.inl rfl))

theorem TickFrom.missNow (h : TickFrom u v) : TickFrom u v.missNow := by
  unfold State.missNow
  split
  · exact h
  · exact (h.withSource.setF (.inr (.inr (.inl rfl)))).setF (.inr (.inr (.inr rfl)))

/-! A missed edge -/

theorem missNow_of_first (h : s.orb.missed = false) : s.missNow =
    (({ s with orb := { s.orb with missed := true } } : State).setF F.ORB_FLAGS_OTICK_MISS 1).countF F.ORB_MISS_COUNT_COUNT 1 :=
  if_neg (by simp [h])

/-- A miss counts once, in ORB_FLAGS and ORB_MISS_COUNT (R38). -/
theorem missNow_only (h : s.orb.missed = false) :
    OnlyRegs (fun a => a = 0x2114 ∨ a = 0x2118) { s with orb := { s.orb with missed := true } } s.missNow := by
  rw [missNow_of_first h]
  exact (OnlyRegs.refl.setF _ (.inl rfl)).countF _ (.inr rfl)

theorem missNow_flag (h : s.orb.missed = false) : s.missNow.on F.ORB_FLAGS_OTICK_MISS = true := by
  rw [missNow_of_first h]
  exact Eq.trans on_setF_off on_setF

theorem missNow_count (h : s.orb.missed = false) : s.missNow.getF F.ORB_MISS_COUNT_COUNT =
    satAdd (s.getF F.ORB_MISS_COUNT_COUNT) 1 (2 ^ F.ORB_MISS_COUNT_COUNT.width - 1) := by
  rw [missNow_of_first h, getF_countF, getF_setF_off]
  rfl

theorem missDue_of_base {b : Nat} (hrun : s.running = true) (hsrc : s.src ≠ 0) (hfall : s.orb.fallback = false) (hmissed : s.orb.missed = false)
    (hb : s.missBase = some b) : s.missDue = some (b + s.period + s.tol) := by
  simp [State.missDue, hrun, hsrc, hfall, hmissed, hb]

theorem execOtickMiss_of_due {m : Nat} (h : s.missDue = some m) : exec .otickMiss s = .next (s.advanceTo m).missAct := by
  show execOtickMiss s = _
  simp only [execOtickMiss, h]

theorem missAct_of_plain (h : s.src = 1) : s.missAct = s.missNow := if_neg (by omega)

theorem missAct_of_fallBack (h : s.src = 2) : s.missAct = s.fallBack := if_pos h

/-! Fallback: the state in which the timer takes over -/

/-- The tick logic as the timer takes over: the miss is counted, the fallback is flagged and begins (R38). -/
def State.fallen (s : State) : State :=
  let m := (s.missNow.setF F.ORB_FLAGS_FALLBACK 1).setF F.ORB_STATUS_ACTIVE_SRC 0
  { m with orb := { m.orb with fallback := true, watch := [] } }

theorem fallBack_eq (s : State) : s.fallBack = s.fallen.tick := rfl

theorem TickFrom.fallen (h : TickFrom u v) : TickFrom u v.fallen :=
  ((h.missNow.setF (.inr (.inr (.inl rfl)))).setF (.inr (.inl rfl))).withSource (missed := v.missNow.orb.missed)

/-- ORB_CTRL is no register of the miss or the fallback. -/
theorem fallen_ctrl (s : State) {f : Fld} (hf : f.addr = 0x2100) : s.fallen.getF f = s.getF f := by
  have hmiss : s.missNow.getF f = s.getF f := by
    unfold State.missNow
    split
    · rfl
    · exact getF_of_word (((SameRegs.refl (p := fun a => a = 0x2114 ∨ a = 0x2118)).setF _ (.inl rfl)).countF _ (.inr rfl) _ (by omega))
  refine Eq.trans (getF_of_word ?_) hmiss
  exact ((SameRegs.refl (p := fun a => a = 0x2114 ∨ a = 0x2110)).setF _ (.inl rfl)).setF _ (.inr rfl) _ (by omega)

theorem fallen_running (s : State) : s.fallen.running = s.running := by
  rw [State.running, State.on, fallen_ctrl s rfl, State.running, State.on]

theorem fallen_activeSrc (s : State) : s.fallen.on F.ORB_STATUS_ACTIVE_SRC = false :=
  on_setF_zero (s := s.missNow.setF F.ORB_FLAGS_FALLBACK 1)

theorem fallen_fallbackFlag (s : State) : s.fallen.on F.ORB_FLAGS_FALLBACK = true :=
  Eq.trans (on_setF_off (s := s.missNow.setF F.ORB_FLAGS_FALLBACK 1) (f := F.ORB_STATUS_ACTIVE_SRC)) on_setF

theorem fallen_miss (s : State) : s.fallen.getF F.ORB_FLAGS_OTICK_MISS = s.missNow.getF F.ORB_FLAGS_OTICK_MISS :=
  Eq.trans (getF_setF_off (s := s.missNow.setF F.ORB_FLAGS_FALLBACK 1) (f := F.ORB_STATUS_ACTIVE_SRC)) getF_setF_off

theorem fallen_count (s : State) : s.fallen.getF F.ORB_MISS_COUNT_COUNT = s.missNow.getF F.ORB_MISS_COUNT_COUNT :=
  Eq.trans (getF_setF_off (s := s.missNow.setF F.ORB_FLAGS_FALLBACK 1) (f := F.ORB_STATUS_ACTIVE_SRC)) getF_setF_off

/-! What of the source stands after the tick -/

/-- A tick leaves a field of ORB_CTRL, ORB_STATUS or ORB_MISS_COUNT as it finds it. -/
theorem tick_source (h : s.armedSet = []) (hs : s.stagedPlain = true) {f : Fld} (ha : f.addr = 0x2100 ∨ f.addr = 0x2110 ∨ f.addr = 0x2118) :
    s.tick.getF f = s.getF f := by
  have hplain : hasStaged f.addr = false := by rcases ha with h | h | h <;> rw [h] <;> decide
  exact getF_of_word (tick_word h (by unfold timingReg; omega) (not_mem_staged hs hplain) (by omega))

theorem tick_fallback (h : s.armedSet = []) : s.tick.orb.fallback = s.orb.fallback := by
  rw [tick_orb h]
  rfl

/-- What a fallback's tick leaves of the source of ticks. -/
theorem fallBack_source (h : TickFrom u s) (harm : ∀ n, n < 64 → u.on (F.ORB_ACT_CTRL_ARM n) = false) (hplain : u.stagedPlain = true) :
    s.fallBack.orb.fallback = true ∧ s.fallBack.on F.ORB_STATUS_ACTIVE_SRC = false ∧ s.fallBack.on F.ORB_FLAGS_FALLBACK = true ∧
      s.fallBack.src = s.src ∧ s.fallBack.getF F.ORB_FLAGS_OTICK_MISS = s.missNow.getF F.ORB_FLAGS_OTICK_MISS ∧
      s.fallBack.getF F.ORB_MISS_COUNT_COUNT = s.missNow.getF F.ORB_MISS_COUNT_COUNT := by
  have ha := h.fallen.armedSet harm
  have hs := h.fallen.plain hplain
  refine ⟨tick_fallback ha, ?_, ?_, (tick_source ha hs (.inl rfl)).trans (fallen_ctrl s rfl),
    (tick_flag ha hs rfl (by unfold Fld.apart; decide)).trans (fallen_miss s), (tick_source ha hs (.inr (.inr rfl))).trans (fallen_count s)⟩
  · rw [fallBack_eq, State.on, tick_source ha hs (.inr (.inl rfl))]
    exact fallen_activeSrc s
  · rw [fallBack_eq, State.on, tick_flag ha hs rfl (by unfold Fld.apart; decide)]
    exact fallen_fallbackFlag s

theorem fallBack_gives (h : TickFrom u s) (hrun : s.running = true) : TickGives u s.fallBack :=
  h.fallen.gives ((fallen_running s).trans hrun)

/-! Relock -/

/-- The tick logic as OTICK takes over again: the fallback ends, and the relock is flagged (R39). -/
def State.relocked (s : State) : State := (s.noFallback.setF F.ORB_STATUS_ACTIVE_SRC 1).setF F.ORB_FLAGS_RELOCK 1

theorem TickFrom.relocked (h : TickFrom u v) : TickFrom u v.relocked :=
  (h.noFallback.setF (.inr (.inl rfl))).setF (.inr (.inr (.inl rfl)))

theorem relocked_running (s : State) : s.relocked.running = s.running :=
  on_of_word ((((SameRegs.refl (p := fun a => a = 0x2110 ∨ a = 0x2114)).setF _ (.inl rfl)).setF _ (.inl rfl)).setF _ (.inr rfl) _ (by decide))

/-- The third of three edges that lie P ± TOL apart relocks (R39). -/
theorem watchEdge_of_third {a1 a2 b : Nat} {rest : List Nat} (hw : s.orb.watch = a2 :: a1 :: rest) (h1 : s.spaced a1 a2 = true)
    (h2 : s.spaced a2 s.now = true) : s.watchEdge b =
      if b + s.period ≤ s.now + s.tol then s.relocked.tick
      else ({ s with orb := { s.orb with watch := [s.now, a2, a1] } } : State).setF F.ORB_STATUS_RELOCKING 1 := by
  simp [State.watchEdge, State.relocked, hw, h1, h2, b2n]

theorem edgeNow_of_fallback {b : Nat} (hopen : s.orb.tickAt = some b) (hfall : s.orb.fallback = true) : s.edgeNow = s.watchEdge b := by
  simp [State.edgeNow, hopen, hfall]

/-- What the relocking tick leaves of the source of ticks. -/
theorem relocked_source (harm : ∀ n, n < 64 → s.on (F.ORB_ACT_CTRL_ARM n) = false) (hplain : s.stagedPlain = true) :
    s.relocked.tick.orb.fallback = false ∧ s.relocked.tick.on F.ORB_STATUS_ACTIVE_SRC = true ∧
      s.relocked.tick.on F.ORB_FLAGS_RELOCK = true ∧ s.relocked.tick.on F.ORB_STATUS_RELOCKING = false := by
  have h : TickFrom s s.relocked := TickFrom.refl.relocked
  have ha := h.armedSet harm
  have hs := h.plain hplain
  refine ⟨tick_fallback ha, ?_, ?_, ?_⟩
  · rw [State.on, tick_source ha hs (.inr (.inl rfl))]
    exact Eq.trans on_setF_off on_setF
  · rw [State.on, tick_flag ha hs rfl (by unfold Fld.apart; decide)]
    exact on_setF
  · rw [State.on, tick_source ha hs (.inr (.inl rfl))]
    exact Eq.trans on_setF_off (Eq.trans on_setF_off on_setF_zero)

/-! The commands while orbits run -/

/-- ORBIT_TIMER_EXPIRY ticks P after the last tick where the timer is in use (R36). -/
theorem execOrbitTimerExpiry_of_timer {b : Nat} (hopen : s.orb.tickAt = some b) (h : s.timerOn = true) :
    exec .orbitTimerExpiry s = .next (s.advanceTo (b + s.period)).tick := by
  show execOrbitTimerExpiry s = _
  simp only [execOrbitTimerExpiry, hopen, h, if_true]

theorem execOrbitTimerExpiry_of_otick (hsrc : s.src ≠ 0) (hfall : s.orb.fallback = false) : exec .orbitTimerExpiry s = .next s := by
  have hoff : s.timerOn = false := by simp [State.timerOn, hsrc, hfall]
  show execOrbitTimerExpiry s = _
  unfold execOrbitTimerExpiry
  cases s.orb.tickAt with
  | none => rfl
  | some t => simp [hoff]

/-- With SRC 1 a missed edge is flagged and counted, and no more (R38). -/
theorem otickMiss_counts {b : Nat} (hrun : s.running = true) (hsrc : s.src = 1) (hfall : s.orb.fallback = false) (hmissed : s.orb.missed = false)
    (hopen : s.orb.tickAt = some b) :
    let u := s.advanceTo (b + s.period + s.tol)
    ∃ t, exec .otickMiss s = .next t ∧ t.on F.ORB_FLAGS_OTICK_MISS = true ∧
      t.getF F.ORB_MISS_COUNT_COUNT = satAdd (s.getF F.ORB_MISS_COUNT_COUNT) 1 (2 ^ F.ORB_MISS_COUNT_COUNT.width - 1) ∧
      OnlyRegs (fun a => a = 0x2114 ∨ a = 0x2118) { u with orb := { u.orb with missed := true } } t := by
  intro u
  have hm : u.orb.missed = false := hmissed
  have hdue := execOtickMiss_of_due (missDue_of_base hrun (by omega) hfall hmissed (missBase_of_open hopen))
  have hone : u.src = 1 := hsrc
  rw [missAct_of_plain hone] at hdue
  exact ⟨_, hdue, missNow_flag hm, missNow_count hm, missNow_only hm⟩

/-- With SRC 2 the timer takes over with a tick at P + TOL (R38, R42). -/
theorem otickMiss_fallsBack {b : Nat} (hrun : s.running = true) (hsrc : s.src = 2) (hfall : s.orb.fallback = false) (hmissed : s.orb.missed = false)
    (hb : s.missBase = some b) :
    exec .otickMiss s = .next (s.advanceTo (b + s.period + s.tol)).fallBack := by
  have hdue := execOtickMiss_of_due (missDue_of_base hrun (by omega) hfall hmissed hb)
  have htwo : (s.advanceTo (b + s.period + s.tol)).src = 2 := hsrc
  rwa [missAct_of_fallBack htwo] at hdue

theorem missBase_of_two {b : Nat} (hsrc : s.src = 2) (h : s.orb.tickAt = some b ∨ (s.orb.tickAt = none ∧ s.orb.startAt = b)) : s.missBase = some b := by
  rcases h with h | ⟨hnone, rfl⟩
  · exact missBase_of_open h
  · simp [State.missBase, hnone, hsrc]

/-- In fallback no miss is due: an edge is watched as it comes (R39). -/
theorem execOtickEdge_of_fallback {dt b : Nat} (hrun : s.running = true) (hsrc : s.src = 2) (hfall : s.orb.fallback = true)
    (hopen : s.orb.tickAt = some b) : exec (.otickEdge dt) s = .next ((s.advance dt).watchEdge b) := by
  have hbefore (m : Nat) (hm : s.missDue = some m) : s.now + dt ≤ m := by
    obtain ⟨-, hno, -⟩ := missDue_eq_some hm
    exact absurd (hfall.symm.trans hno) (by decide)
  have hedge : (s.advance dt).edgeNow = (s.advance dt).watchEdge b := edgeNow_of_fallback hopen hfall
  rw [execOtickEdge_now hrun (by omega) hbefore, hedge]

end

end Sys2Proof.Machine
end

section
namespace Sys2Proof.Machine

section
variable {s u v : State}

/-! ### Writes of ORB_CTRL (O3) -/

/-- No function writes the orbit page but one with the management view (R62, R315). -/
theorem fnReach_orbCtrl (s : State) (f : Nat) : s.fnReach f 0x2100 true = false := rfl

/-- A write of ORB_CTRL that is admitted changes nothing beside its effect. -/
theorem admitted_orbCtrl {who : Requester} {w : Word} {need : Nat} (h : Admitted s u who 0x2100 need w) : u = s := by
  obtain ⟨m, hm, -⟩ := h
  obtain ⟨n, d, hreg⟩ : ∃ n d, regAt 0x2100 = some (.orbit, n, d) := ⟨_, _, rfl⟩
  unfold State.admitted at hm
  rw [hreg] at hm
  simp only [fnReach_orbCtrl] at hm
  split at hm
  · cases hm
  split at hm
  · split at hm <;> grind
  · split at hm <;> grind


theorem execStopOrbits_of_admitted {who : Requester} {w : Word} (hrun : s.running = true) (hbit : bit w.toNat 2 = false)
    (h : Admitted s u who 0x2100 7 w) : exec (.stopOrbits who w) s = .next (u.setSrc w.toNat).stopOrbits := by
  obtain ⟨m, hm, hneed⟩ := h
  have hgo : (s.running && !bit w.toNat 2) = true := by simp [hrun, hbit]
  exact (if_pos hgo).trans (trigger_admitted _ hm hneed)

theorem execStopOrbits_of_stopped {who : Requester} {w : Word} (hrun : s.running = false) : exec (.stopOrbits who w) s = .next s :=
  if_neg (by simp [hrun])

theorem execStartOrbits_of_admitted {who : Requester} {w : Word} (hrun : s.running = false) (hbit : bit w.toNat 2 = true)
    (h : Admitted s u who 0x2100 7 w) : exec (.startOrbits who w) s = .next (u.startOrbits w.toNat) := by
  obtain ⟨m, hm, hneed⟩ := h
  have hgo : (!s.running && bit w.toNat 2) = true := by simp [hrun, hbit]
  exact (if_pos hgo).trans (trigger_admitted _ hm hneed)

theorem execTickSourceChange_of_admitted {who : Requester} {w : Word} (hrun : s.running = true) (hbit : bit w.toNat 2 = true)
    (hne : w.toNat % 4 ≠ 3) (hsrc : w.toNat % 4 ≠ s.src) (h : Admitted s u who 0x2100 7 w) :
    exec (.tickSourceChange who w) s = .next (u.changeSrc w.toNat) := by
  obtain ⟨m, hm, hneed⟩ := h
  have hgo : (s.running && bit w.toNat 2 && w.toNat % 4 != 3 && w.toNat % 4 != s.src) = true := by simp [hrun, hbit, hne, hsrc]
  exact (if_pos hgo).trans (trigger_admitted _ hm hneed)

theorem execTickSourceChange_of_same {who : Requester} {w : Word} (hsrc : w.toNat % 4 = s.src) : exec (.tickSourceChange who w) s = .next s :=
  if_neg (by simp [hsrc])

/-! SRC takes the written value -/

/-- The source that a write of ORB_CTRL leaves (R35). -/
def State.srcAfter (s : State) (n : Nat) : Nat := if n % 4 = 3 then s.src else n % 4

theorem setSrc_src (s : State) (n : Nat) : (s.setSrc n).src = s.srcAfter n := by
  unfold State.setSrc State.srcAfter
  split
  · rfl
  · exact getF_setF (by simp only [F.ORB_CTRL_SRC]; omega)

theorem setSrc_only (s : State) (n : Nat) : OnlyRegs (fun a => a = 0x2100) s (s.setSrc n) := by
  unfold State.setSrc
  split
  · exact .refl
  · exact OnlyRegs.refl.setF _ rfl

theorem setSrc_running (s : State) (n : Nat) : (s.setSrc n).running = s.running := by
  unfold State.setSrc
  split
  · rfl
  · exact on_setF_off

theorem TickFrom.setSrc (h : TickFrom u v) {n : Nat} : TickFrom u (v.setSrc n) := by
  unfold State.setSrc
  split
  · exact h
  · exact h.setF (.inl rfl)

/-! A change of the source (R43) -/

/-- The tick logic with the new source in use: no fallback, no relock. -/
def State.sourceTaken (s : State) (n : Nat) : State := ((s.setSrc n).noFallback).setF F.ORB_STATUS_ACTIVE_SRC (b2n (decide (n % 4 ≠ 0)))

theorem TickFrom.sourceTaken (h : TickFrom u v) {n : Nat} : TickFrom u (v.sourceTaken n) := h.setSrc.noFallback.setF (.inr (.inl rfl))

theorem setSrc_eq (s : State) (n : Nat) : s.setSrc n = { s with regs := (s.setSrc n).regs } := (setSrc_only s n).1

theorem sourceTaken_orb (s : State) (n : Nat) : (s.sourceTaken n).orb = { s.orb with fallback := false, watch := [] } := by
  rw [State.sourceTaken, setSrc_eq]
  rfl

theorem sourceTaken_only (s : State) (n : Nat) :
    OnlyRegs (fun a => a = 0x2100 ∨ a = 0x2110) { s with orb := (s.sourceTaken n).orb } (s.sourceTaken n) := by
  have hregs : SameRegs (fun a => a = 0x2100 ∨ a = 0x2110) s (s.sourceTaken n) :=
    (((setSrc_only s n).2.weaken fun _ h => .inl h).setF _ (.inr rfl)).setF _ (.inr rfl)
  refine ⟨?_, hregs⟩
  rw [State.sourceTaken, setSrc_eq]
  rfl

/-- ORB_STATUS is no register of the source that is selected. -/
theorem sourceTaken_ctrl (s : State) (n : Nat) : (s.sourceTaken n).word 0x2100 = (s.setSrc n).word 0x2100 :=
  (((SameRegs.refl (p := fun a => a = 0x2110)).setF _ rfl).setF _ rfl) 0x2100 (by decide)

theorem sourceTaken_src (s : State) (n : Nat) : (s.sourceTaken n).src = s.srcAfter n :=
  (getF_of_word (f := F.ORB_CTRL_SRC) (sourceTaken_ctrl s n)).trans (setSrc_src s n)

theorem sourceTaken_running (s : State) (n : Nat) : (s.sourceTaken n).running = s.running :=
  (on_of_word (f := F.ORB_CTRL_RUN) (sourceTaken_ctrl s n)).trans (setSrc_running s n)

theorem on_setF_b2n {f : Fld} {b : Bool} (hw : 1 < 2 ^ f.width := by decide) (hf : f.fits := by unfold Fld.fits; decide) :
    (s.setF f (b2n b)).on f = b := by
  cases b with
  | true => exact on_setF hw hf
  | false => exact on_setF_zero (by omega) hf

theorem sourceTaken_activeSrc (s : State) (n : Nat) : (s.sourceTaken n).on F.ORB_STATUS_ACTIVE_SRC = decide (n % 4 ≠ 0) := on_setF_b2n

theorem sourceTaken_period (s : State) (n : Nat) : (s.sourceTaken n).period = s.period :=
  congrArg (100 * ·) (getF_of_word (f := F.ORB_PERIOD_PERIOD_US) ((sourceTaken_only s n).2 _ (by decide)))

theorem sourceTaken_tol (s : State) (n : Nat) : (s.sourceTaken n).tol = s.tol :=
  congrArg (100 * ·) (getF_of_word (f := F.ORB_OTICK_TOL_TOL_US) ((sourceTaken_only s n).2 _ (by decide)))

theorem sourceTaken_now (s : State) (n : Nat) : (s.sourceTaken n).now = s.now := by rw [(sourceTaken_only s n).1]

/-- The end of the open orbit by the new source has passed (R43). -/
def State.endPassed (s : State) (n b : Nat) : Prop := (n % 4 = 0 ∧ b + s.period ≤ s.now) ∨ (n % 4 = 2 ∧ b + s.period + s.tol ≤ s.now)

theorem sourceTaken_open {b n : Nat} (h : s.orb.tickAt = some b) : (s.sourceTaken n).orb.tickAt = some b := by
  rw [sourceTaken_orb]
  exact h

/-- The open orbit stays open unless its end has passed by the new source (R43). -/
theorem changeSrc_of_open {b n : Nat} (hopen : s.orb.tickAt = some b) (h : ¬ s.endPassed n b) : s.changeSrc n = s.sourceTaken n := by
  have ht : (s.sourceTaken n).orb.tickAt = some b := sourceTaken_open hopen
  unfold State.endPassed at h
  rw [State.changeSrc, ← State.sourceTaken]
  simp only [ht, missBase_of_open ht, sourceTaken_period, sourceTaken_tol, sourceTaken_now]
  split
  · exact if_neg (by omega)
  split
  · exact if_neg (by omega)
  · rfl

theorem changeSrc_of_timer {b n : Nat} (hopen : s.orb.tickAt = some b) (hn : n % 4 = 0) (h : b + s.period ≤ s.now) :
    s.changeSrc n = (s.sourceTaken n).tick := by
  have ht : (s.sourceTaken n).orb.tickAt = some b := sourceTaken_open hopen
  rw [State.changeSrc, ← State.sourceTaken]
  simp only [ht, sourceTaken_period, sourceTaken_now, hn, if_true, h]

theorem changeSrc_of_otick {b n : Nat} (hopen : s.orb.tickAt = some b) (hn : n % 4 = 2) (h : b + s.period + s.tol ≤ s.now) :
    s.changeSrc n = (s.sourceTaken n).fallBack := by
  have ht : (s.sourceTaken n).orb.tickAt = some b := sourceTaken_open hopen
  rw [State.changeSrc, ← State.sourceTaken]
  simp only [missBase_of_open ht, sourceTaken_period, sourceTaken_tol, sourceTaken_now, hn, h]
  rfl

/-- The end that has passed comes at once, with a tick (R43). -/
theorem changeSrc_of_passed {b n : Nat} (hrun : s.running = true) (hopen : s.orb.tickAt = some b) (h : s.endPassed n b) :
    TickGives s (s.changeSrc n) ∧ ((∀ n, n < 64 → s.on (F.ORB_ACT_CTRL_ARM n) = false) → s.stagedPlain = true →
      (s.changeSrc n).src = n % 4 ∧ (s.changeSrc n).on F.ORB_STATUS_ACTIVE_SRC = false ∧ (s.changeSrc n).orb.fallback = decide (n % 4 = 2)) := by
  have hfrom : TickFrom s (s.sourceTaken n) := TickFrom.refl.sourceTaken
  have hgo : (s.sourceTaken n).running = true := (sourceTaken_running s n).trans hrun
  have hsrc (hne : n % 4 ≠ 3) : (s.sourceTaken n).src = n % 4 := (sourceTaken_src s n).trans (if_neg hne)
  rcases h with ⟨hn, hpast⟩ | ⟨hn, hpast⟩
  · rw [changeSrc_of_timer hopen hn hpast]
    refine ⟨hfrom.gives hgo, fun harm hplain => ?_⟩
    have ha := hfrom.armedSet harm
    have hs := hfrom.plain hplain
    refine ⟨(tick_source ha hs (.inl rfl)).trans (hsrc (by omega)), ?_, ?_⟩
    · rw [State.on, tick_source ha hs (.inr (.inl rfl)), ← State.on, sourceTaken_activeSrc, hn]
      rfl
    · rw [tick_fallback ha, sourceTaken_orb, hn]
      rfl
  · rw [changeSrc_of_otick hopen hn hpast]
    refine ⟨fallBack_gives hfrom hgo, fun harm hplain => ?_⟩
    obtain ⟨hfall, hactive, -, hkept, -, -⟩ := fallBack_source hfrom harm hplain
    exact ⟨hkept.trans (hsrc (by omega)), hactive, by rw [hfall, hn]; rfl⟩

/-! The start (R42) -/

/-- The tick logic as the orbits start: RUN at 1, no orbit open, no fallback. -/
def State.startTaken (s : State) (n : Nat) : State :=
  let r := ((s.setSrc n).setF F.ORB_CTRL_RUN 1).noFallback
  let a := r.setF F.ORB_STATUS_ACTIVE_SRC (b2n (decide (r.src ≠ 0)))
  { a with orb := { a.orb with tickAt := none, startAt := a.now, missed := false, sliceOpen := false, len := 0 } }

theorem startOrbits_eq (s : State) (n : Nat) : s.startOrbits n =
    if (s.startTaken n).src = 0 then ((s.startTaken n).advance 1).tick else s.startTaken n := rfl

theorem startTaken_regs (s : State) (n : Nat) : SameRegs (fun a => a = 0x2100 ∨ a = 0x2110) s (s.startTaken n) :=
  (((setSrc_only s n).2.weaken fun _ h => .inl h).setF _ (.inl rfl)).setF _ (.inr rfl) |>.setF _ (.inr rfl)

theorem startTaken_eq (s : State) (n : Nat) : s.startTaken n = { s with
    regs := (s.startTaken n).regs
    orb := { s.orb with fallback := false, watch := [], tickAt := none, startAt := s.now, missed := false, sliceOpen := false, len := 0 } } := by
  rw [State.startTaken, setSrc_eq]
  rfl

theorem startTaken_ctrl (s : State) (n : Nat) : (s.startTaken n).word 0x2100 = ((s.setSrc n).setF F.ORB_CTRL_RUN 1).word 0x2100 :=
  (((SameRegs.refl (p := fun a => a = 0x2110)).setF _ rfl).setF _ rfl) 0x2100 (by decide)

theorem startTaken_src (s : State) (n : Nat) : (s.startTaken n).src = s.srcAfter n :=
  (getF_of_word (f := F.ORB_CTRL_SRC) (startTaken_ctrl s n)).trans (Eq.trans getF_setF_off (setSrc_src s n))

theorem startTaken_running (s : State) (n : Nat) : (s.startTaken n).running = true :=
  (on_of_word (f := F.ORB_CTRL_RUN) (startTaken_ctrl s n)).trans on_setF

theorem startTaken_activeSrc (h : s.srcAfter n ≠ 0) : (s.startTaken n).on F.ORB_STATUS_ACTIVE_SRC = true := by
  have hsrc : (((s.setSrc n).setF F.ORB_CTRL_RUN 1).noFallback).src = s.srcAfter n :=
    Eq.trans getF_setF_off (Eq.trans (getF_setF_off (f := F.ORB_CTRL_RUN)) (setSrc_src s n))
  refine Eq.trans (on_setF_b2n (s := ((s.setSrc n).setF F.ORB_CTRL_RUN 1).noFallback)) ?_
  rw [hsrc]
  exact decide_eq_true h

/-- The first tick comes in the next cycle with SRC 0; it reads the state before the start, with no orbit open. -/
theorem startTaken_from (s : State) (n : Nat) :
    TickFrom (({ s with orb := { s.orb with tickAt := none } } : State).advance 1) ((s.startTaken n).advance 1) := by
  have hregs : SameRegs sourceReg s (s.startTaken n) := (startTaken_regs s n).weaken fun a ha => by unfold sourceReg; omega
  rw [startTaken_eq]
  exact ⟨rfl, rfl, rfl, rfl, rfl, rfl, rfl, rfl, fun h => absurd h Bool.false_ne_true, hregs⟩

theorem startOrbits_of_timer {n : Nat} (h : s.srcAfter n = 0) :
    TickGives (({ s with orb := { s.orb with tickAt := none } } : State).advance 1) (s.startOrbits n) := by
  rw [startOrbits_eq, if_pos ((startTaken_src s n).trans h)]
  exact (startTaken_from s n).gives (startTaken_running s n)

/-- With OTICK the orbits await an edge (R42). -/
theorem startOrbits_of_otick {n : Nat} (h : s.srcAfter n ≠ 0) : s.startOrbits n = s.startTaken n := by
  rw [startOrbits_eq, if_neg (by rwa [startTaken_src])]

/-! The stop (R42) -/

/-- The account closes, and the staged values are taken at once (R42). -/
def State.stopTaken (s : State) : State :=
  let c := s.tickClosed.shortLevel s.gov.winE (s.now - s.gov.winFrom)
  ({ c with staged := [] } : State).applyStaged c.staged

/-- The tick logic once the orbits have stopped: no orbit is open. -/
def State.stopClosed (s : State) : State :=
  let r := (s.stopTaken.setF F.ORB_CTRL_RUN 0).noFallback
  { r with
    orb := { r.orb with tickAt := none, len := 0, missed := false, sliceOpen := false }
    gov := { r.gov with roll := [], peak := 0, short := false } }

/-- The rest of a stop leaves the tick logic alone: no action fires (R42). -/
theorem stopOrbits_kept (s : State) : TimingKept s.stopClosed s.stopOrbits := by
  unfold State.stopOrbits
  extract_lets +onlyGivenNames e len s1 s2 s3 _ _ s4 s5 s6
  have h4 : TimingKept s.stopClosed s4 := TimingKept.refl
  have h5 : TimingKept s.stopClosed s5 := h4.showOrder
  have h6 : TimingKept s.stopClosed s6 := .ite h5.pcapEnd h5
  exact .ite h6.divRelease h6

/-- The short window is no part of the tick logic. -/
theorem shortClosed_kept (s : State) : TimingKept s.tickClosed (s.tickClosed.shortLevel s.gov.winE (s.now - s.gov.winFrom)) := TimingKept.refl.shortLevel

theorem shortClosed_staged (s : State) : (s.tickClosed.shortLevel s.gov.winE (s.now - s.gov.winFrom)).staged = s.staged :=
  (shortClosed_kept s).staged.trans (tickClosed_only s).staged

theorem stopTaken_orb (s : State) : s.stopTaken.orb = s.orb := by
  rw [State.stopTaken, (applyStaged_only _ _).1]
  exact (shortClosed_kept s).orb.trans (tickClosed_only s).orb

theorem stopTaken_now (s : State) : s.stopTaken.now = s.now := by
  rw [State.stopTaken, (applyStaged_only _ _).1]
  exact (shortClosed_kept s).now.trans (tickClosed_only s).now

theorem stopTaken_staged (s : State) : s.stopTaken.staged = [] := by rw [State.stopTaken, (applyStaged_only _ _).1]

/-- A register of the tick logic for which no value waits is as the closed account leaves it. -/
theorem stopTaken_word {a : Nat} (ha : timingReg a) (hs : a ∉ s.staged.map Prod.fst) : s.stopTaken.word a = s.tickClosed.word a :=
  (applyStaged_other (by rwa [shortClosed_staged])).trans ((shortClosed_kept s).word a ha)

/-- The staged values take effect (R42). -/
theorem stopTaken_taken {a : Nat} {e : Nat × Nat} (ha : timingReg a) (hs : tabSorted s.staged = true) (he : tabGet s.staged a = some e) :
    s.stopTaken.word a = takenWord (s.tickClosed.word a) e :=
  (applyStaged_taken (by rwa [shortClosed_staged]) (by rwa [shortClosed_staged])).trans
    (congrArg (takenWord · e) ((shortClosed_kept s).word a ha))

theorem stopClosed_regs (s : State) : SameRegs (fun a => a = 0x2100 ∨ a = 0x2110) s.stopTaken s.stopClosed :=
  (SameRegs.refl.setF _ (.inl rfl)).setF _ (.inr rfl)

/-! What a stop leaves -/

theorem stopOrbits_orb (s : State) :
    s.stopOrbits.orb = { s.orb with fallback := false, watch := [], tickAt := none, len := 0, missed := false, sliceOpen := false } := by
  rw [(stopOrbits_kept s).orb, ← stopTaken_orb s]
  rfl

theorem stopOrbits_now (s : State) : s.stopOrbits.now = s.now := (stopOrbits_kept s).now.trans (stopTaken_now s)

theorem stopOrbits_staged (s : State) : s.stopOrbits.staged = [] := (stopOrbits_kept s).staged.trans (stopTaken_staged s)

theorem stopOrbits_running (s : State) : s.stopOrbits.running = false :=
  ((stopOrbits_kept s).on (by unfold timingReg; decide)).trans (Eq.trans on_setF_off on_setF_zero)

theorem stopOrbits_src (hs : s.stagedPlain = true) : s.stopOrbits.src = s.src := by
  have hreg : timingReg F.ORB_CTRL_SRC.addr := by unfold timingReg; decide
  have hstop : s.stopClosed.src = s.stopTaken.src := Eq.trans getF_setF_off (getF_setF_off (f := F.ORB_CTRL_RUN))
  have htaken : s.stopTaken.src = s.tickClosed.src := getF_of_word (stopTaken_word hreg (not_mem_staged hs (by decide)))
  have hclosed : s.tickClosed.src = s.src := getF_of_word ((tickClosed_only s).regs _ (by unfold accountReg; decide))
  exact ((stopOrbits_kept s).getF hreg).trans (hstop.trans (htaken.trans hclosed))

/-- A register of the tick logic but ORB_CTRL, ORB_STATUS and the length of the closed orbit, for which no value waits. -/
theorem stopOrbits_word {a : Nat} (ha : timingReg a) (hs : a ∉ s.staged.map Prod.fst) (hne : a ≠ 0x2100 ∧ a ≠ 0x2110 ∧ a ≠ 0x2134) :
    s.stopOrbits.word a = s.word a := by
  have hacc : ¬ accountReg a := by unfold accountReg; unfold timingReg at ha; omega
  rw [(stopOrbits_kept s).word a ha, stopClosed_regs s a (by omega), stopTaken_word ha hs, (tickClosed_only s).regs a hacc]

theorem stopOrbits_taken {a : Nat} {e : Nat × Nat} (ha : timingReg a) (hs : tabSorted s.staged = true) (he : tabGet s.staged a = some e)
    (hne : a ≠ 0x2100 ∧ a ≠ 0x2110 ∧ a ≠ 0x2134) : s.stopOrbits.word a = takenWord (s.word a) e := by
  have hacc : ¬ accountReg a := by unfold accountReg; unfold timingReg at ha; omega
  rw [(stopOrbits_kept s).word a ha, stopClosed_regs s a (by omega), stopTaken_taken ha hs he, (tickClosed_only s).regs a hacc]

theorem stopOrbits_len (hs : s.stagedPlain = true) (hopen : s.orb.tickAt.isSome = true) :
    s.stopOrbits.getF F.ORB_ORBIT_LEN_LAST_LEN = min s.orb.len (2 ^ 32 - 1) := by
  have hreg : timingReg F.ORB_ORBIT_LEN_LAST_LEN.addr := by unfold timingReg; decide
  have hword := (stopClosed_regs s _ (by decide)).trans (stopTaken_word hreg (not_mem_staged hs (by decide)))
  rw [(stopOrbits_kept s).getF hreg, getF_of_word hword, tickClosed_len hopen]

/-- No value waits for ARM of an action (R49). -/
theorem hasStaged_actionCtrl : ∀ n, n < 64 → hasStaged (0x2814 + 0x20 * n) = false := by decide

end

end Sys2Proof.Machine
end

section
namespace Sys2Proof.Machine

section
variable {s u v : State}

/-! ### The statement on ticks (O3) -/

/-- In fallback the third of three edges P ± TOL apart relocks with a tick, or at the next edge that comes late enough (R39). -/
theorem otickEdge_relocks {dt a1 a2 b : Nat} {rest : List Nat} (hrun : s.running = true) (hsrc : s.src = 2) (hfall : s.orb.fallback = true)
    (hopen : s.orb.tickAt = some b) (hw : s.orb.watch = a2 :: a1 :: rest) (h1 : s.spaced a1 a2 = true) (h2 : s.spaced a2 (s.now + dt) = true) :
    let u := s.advance dt
    (b + s.period ≤ u.now + s.tol → ∃ t, exec (.otickEdge dt) s = .next t ∧ TickGives u t ∧
      ((∀ n, n < 64 → s.on (F.ORB_ACT_CTRL_ARM n) = false) → s.stagedPlain = true →
        t.orb.fallback = false ∧ t.on F.ORB_STATUS_ACTIVE_SRC = true ∧ t.on F.ORB_FLAGS_RELOCK = true ∧ t.on F.ORB_STATUS_RELOCKING = false)) ∧
    (u.now + s.tol < b + s.period → ∃ t, exec (.otickEdge dt) s = .next t ∧ t.on F.ORB_STATUS_RELOCKING = true ∧ t.orb.tickAt = some b ∧
      t.orb.count = s.orb.count ∧ t.timerOn = false ∧ OnlyRegs (fun a => a = 0x2110) { u with orb := t.orb } t) := by
  intro u
  have hedge := execOtickEdge_of_fallback (dt := dt) hrun hsrc hfall hopen
  rw [watchEdge_of_third (s := s.advance dt) hw h1 h2] at hedge
  refine ⟨fun hlate => ?_, fun hearly => ?_⟩
  · rw [if_pos (show b + u.period ≤ u.now + u.tol from hlate)] at hedge
    exact ⟨_, hedge, TickFrom.refl.relocked.gives ((relocked_running _).trans hrun), fun harm hplain => relocked_source (s := u) harm hplain⟩
  · rw [if_neg (show ¬ b + u.period ≤ u.now + u.tol from Nat.not_le.mpr hearly)] at hedge
    refine ⟨_, hedge, on_setF, hopen, rfl, ?_, OnlyRegs.refl.setF _ rfl⟩
    generalize hp : ({ u with orb := { u.orb with watch := [u.now, a2, a1] } } : State) = p
    have hlock : (p.setF F.ORB_STATUS_RELOCKING 1).on F.ORB_STATUS_RELOCKING = true := on_setF
    have hsrc2 : (p.setF F.ORB_STATUS_RELOCKING 1).src = 2 := Eq.trans getF_setF_off (hp ▸ hsrc)
    simp [State.timerOn, hlock, hsrc2]

/-- The ticks that come without an edge, and those of fallback and relock (R36 to R39). -/
theorem ticks_of_running (hrun : s.running = true) :
    (∀ b, s.orb.tickAt = some b → s.timerOn = true → ∃ t, exec .orbitTimerExpiry s = .next t ∧ TickGives (s.advanceTo (b + s.period)) t) ∧
    (∀ b, s.src = 2 → s.orb.fallback = false → s.orb.missed = false → (s.orb.tickAt = some b ∨ (s.orb.tickAt = none ∧ s.orb.startAt = b)) →
      ∃ t, exec .otickMiss s = .next t ∧ TickGives (s.advanceTo (b + s.period + s.tol)) t ∧
        ((∀ n, n < 64 → s.on (F.ORB_ACT_CTRL_ARM n) = false) → s.stagedPlain = true →
          t.orb.fallback = true ∧ t.on F.ORB_FLAGS_OTICK_MISS = true ∧ t.on F.ORB_FLAGS_FALLBACK = true ∧ t.on F.ORB_STATUS_ACTIVE_SRC = false ∧
          t.getF F.ORB_MISS_COUNT_COUNT = satAdd (s.getF F.ORB_MISS_COUNT_COUNT) 1 (2 ^ F.ORB_MISS_COUNT_COUNT.width - 1))) := by
  refine ⟨fun b hopen htimer => ⟨_, execOrbitTimerExpiry_of_timer hopen htimer, TickFrom.refl.gives hrun⟩, ?_⟩
  intro b hsrc hfall hmissed hb
  have hm : (s.advanceTo (b + s.period + s.tol)).orb.missed = false := hmissed
  refine ⟨_, otickMiss_fallsBack hrun hsrc hfall hmissed (missBase_of_two hsrc hb), fallBack_gives .refl hrun, fun harm hplain => ?_⟩
  obtain ⟨hfb, hactive, hflag, -, hmiss, hcount⟩ := fallBack_source (s := s.advanceTo (b + s.period + s.tol)) .refl harm hplain
  exact ⟨hfb, (congrArg (· == 1) hmiss).trans (missNow_flag hm), hflag, hactive, hcount.trans (missNow_count hm)⟩

/-- STOP_ORBITS closes the orbit, takes the staged values and fires nothing (R42). -/
theorem stopOrbits_gives {n : Nat} (hord : s.tablesOrdered = true) (hplain : s.stagedPlain = true) :
    let t := (s.setSrc n).stopOrbits
    t.running = false ∧ t.src = s.srcAfter n ∧ t.orb.tickAt = none ∧ t.orb.count = s.orb.count ∧ t.now = s.now ∧ t.staged = [] ∧ t.orb.fallback = false ∧
      (s.orb.tickAt.isSome = true → t.getF F.ORB_ORBIT_LEN_LAST_LEN = min s.orb.len (2 ^ F.ORB_ORBIT_LEN_LAST_LEN.width - 1)) ∧
      (∀ n, n < 64 → t.word (0x2814 + 0x20 * n) = s.word (0x2814 + 0x20 * n)) ∧
      (∀ a m x, a = 0x2104 ∨ a = 0x210C → tabGet s.staged a = some (m, x) →
        t.word a = BitVec.ofNat 32 (Nat.lor (Nat.land (s.word a).toNat (2 ^ 32 - 1 - m)) (Nat.land x m))) := by
  intro t
  have horb : (s.setSrc n).orb = s.orb := by rw [setSrc_eq]
  have hnow : (s.setSrc n).now = s.now := by rw [setSrc_eq]
  have hstaged : (s.setSrc n).staged = s.staged := by rw [setSrc_eq]
  have hs : (s.setSrc n).stagedPlain = true := by rwa [State.stagedPlain, hstaged]
  have hsorted : tabSorted (s.setSrc n).staged = true := hstaged ▸ (Bool.and_eq_true_iff.mp hord).2
  have hword (a : Nat) (ha : a ≠ 0x2100) : (s.setSrc n).word a = s.word a := (setSrc_only s n).2 a ha
  have ht : t.orb = { s.orb with fallback := false, watch := [], tickAt := none, len := 0, missed := false, sliceOpen := false } := by
    rw [stopOrbits_orb, horb]
  refine ⟨stopOrbits_running _, (stopOrbits_src hs).trans (setSrc_src s n), by rw [ht], by rw [ht], (stopOrbits_now _).trans hnow,
    stopOrbits_staged _, by rw [ht], ?len, ?arms, ?taken⟩
  case len =>
    intro hopen
    rw [stopOrbits_len hs (horb ▸ hopen), horb]
    rfl
  case arms =>
    intro k hk
    rw [stopOrbits_word (by unfold timingReg; omega) (not_mem_staged hs (hasStaged_actionCtrl k hk)) (by omega), hword _ (by omega)]
  case taken =>
    intro a m x ha he
    rw [stopOrbits_taken (by unfold timingReg; omega) hsorted (hstaged.symm ▸ he) (by omega), hword _ (by omega)]
    rfl

/-- A stamp of 32 bits names the orbit that is congruent to it within half its range of the count (R47). -/
theorem stampOrbit_nearest (stamp c : Nat) : (stampOrbit stamp c - stamp) % 2 ^ 32 = 0 ∧ (c : Int) - 2 ^ 31 ≤ stampOrbit stamp c ∧
    stampOrbit stamp c ≤ (c : Int) + 2 ^ 31 - 1 := by
  unfold stampOrbit
  dsimp only
  omega

/-- Settles O3: each command is a tick in a state that differs from the given one in the source of ticks alone (`TickFrom.gives`), or the write
of a few registers; `stopOrbits_gives` says what a stop leaves. -/
theorem ticks : Obligations.Ticks := by
  refine ⟨fun s hrun => ?_, fun who w s u hadm => ?_, fun stamp c _ => stampOrbit_nearest stamp c⟩
  · obtain ⟨htimer, hmiss⟩ := ticks_of_running hrun
    exact ⟨htimer, execOrbitTimerExpiry_of_otick, fun b hsrc hfall hmissed hopen => otickMiss_counts hrun hsrc hfall hmissed hopen, hmiss,
      fun dt a1 a2 b rest hsrc hfall hopen hw _ _ _ h1 h2 => otickEdge_relocks hrun hsrc hfall hopen hw h1 h2⟩
  · obtain rfl := admitted_orbCtrl hadm
    intro src
    refine ⟨fun hrun hbit hord hplain => ⟨_, execStopOrbits_of_admitted hrun hbit hadm, stopOrbits_gives hord hplain⟩,
      execStopOrbits_of_stopped, fun hrun hbit => ⟨_, execStartOrbits_of_admitted hrun hbit hadm, startOrbits_of_timer, fun hsrc => ?_⟩,
      fun b hrun hbit hne hchange hopen => ⟨_, execTickSourceChange_of_admitted hrun hbit hne hchange hadm, fun hpast => ?_, changeSrc_of_passed hrun hopen⟩,
      fun _ => execTickSourceChange_of_same⟩
    · rw [startOrbits_of_otick hsrc]
      have heq := startTaken_eq u w.toNat
      exact ⟨startTaken_running u _, startTaken_src u _, by rw [heq], by rw [heq], by rw [heq], startTaken_activeSrc hsrc, by rw [heq], by rw [heq],
        startTaken_regs u _⟩
    · rw [changeSrc_of_open hopen hpast]
      exact ⟨(sourceTaken_src u _).trans (if_neg hne), sourceTaken_activeSrc u _, sourceTaken_orb u _, sourceTaken_only u _⟩

end

end Sys2Proof.Machine
end

section
namespace Sys2Proof.Machine

section
variable {s t : State} {i : Nat}

/-! ### Rules of a core's operations, for the matrix engine: issue, the program counter, tallies, reads of the local store -/

theorem OnlyCore.weaken {p q : Nat → Prop} (h : OnlyCore i p s t) (k : ∀ a, p a → q a) : OnlyCore i q s t := ⟨h.1, h.2.1.weaken k, h.2.2⟩

theorem issueOk_parts {w : Word64} (h : s.issueOk i w = true) :
    s.coreSt i = coreRunning ∧ (s.core i).fault = none ∧ s.queueFull i (wClass w) = false := by
  simp only [State.issueOk, Bool.and_eq_true, Bool.not_eq_true', beq_iff_eq, Option.isNone_iff_eq_none] at h
  obtain ⟨⟨⟨⟨⟨hst, -⟩, hfault⟩, -⟩, hroom⟩, -⟩ := h
  exact ⟨hst, hfault, hroom⟩

/-- A legal word that the core may issue has its effect (R114). -/
theorem issue_of_legal {w : Word64} {cls cause : Nat} {isOp legal : Bool} {eff : State → State} (hok : s.issueOk i w = true)
    (hcls : wClass w = cls) (hop : isOp = true) (hlegal : legal = true) : issue s i w cls isOp legal cause eff = .next (eff s) := by
  simp [issue, hok, hcls, hop, hlegal]

/-- An illegal one faults the core with the class's cause (R111). -/
theorem issue_of_illegal {w : Word64} {cls cause : Nat} {isOp legal : Bool} {eff : State → State} (hok : s.issueOk i w = true)
    (hcls : wClass w = cls) (hop : isOp = true) (hlegal : legal = false) :
    issue s i w cls isOp legal cause eff = .next (s.progFault i cause 0) := by
  simp [issue, hok, hcls, hop, hlegal]

theorem issue_of_held {w : Word64} {cls cause : Nat} {isOp legal : Bool} {eff : State → State} (h : s.issueOk i w = false) :
    issue s i w cls isOp legal cause eff = .next s := by
  simp [issue, h]

/-- A core that may issue has no fault yet, so that the fault it takes is recorded (R136). -/
theorem progFault_of_issueOk {w : Word64} (h : s.issueOk i w = true) (cause info : Nat) :
    s.progFault i cause info = s.setCore i
      { s.core i with fault := some ⟨cause, s.getF (F.CORE_PC_PC i), s.getF (F.CORE_PROG_K_K i), info⟩ } := by
  obtain ⟨hst, hfault, -⟩ := issueOk_parts h
  have hcan : s.canFault i = true := by rw [State.canFault, hst]; rfl
  simp [State.progFault, hfault, hcan]

/-- Before the program's last word the program counter goes on by one and nothing else changes (R116). -/
theorem nextPc_of_room (h : s.getF (F.CORE_PC_PC i) + 1 < (s.core i).prog.length) :
    s.nextPc i = s.setF (F.CORE_PC_PC i) (s.getF (F.CORE_PC_PC i) + 1) :=
  if_neg (by omega)

theorem pcNext_setF {u : State} (h : u.getF (F.CORE_PC_PC i) = s.getF (F.CORE_PC_PC i)) :
    PcNext i s (u.setF (F.CORE_PC_PC i) (u.getF (F.CORE_PC_PC i) + 1)) := by
  rw [h]
  exact State.getF_setF_same u (f := F.CORE_PC_PC i) (by decide : 0 + 12 ≤ 32) _

theorem tallyFld_addr (i k : Nat) : (tallyFld i k).addr = pgCore i + 0x180 + 4 * (k / 2) := by
  unfold tallyFld
  split <;> rfl

theorem tallyFld_width (i k : Nat) : (tallyFld i k).width = 16 := by
  unfold tallyFld
  split <;> rfl

theorem tallyFld_fits (i k : Nat) : (tallyFld i k).fits := by
  unfold tallyFld
  split
  · exact (by decide : 0 + 16 ≤ 32)
  · exact (by decide : 16 + 16 ≤ 32)

/-- A tally below its maximum goes up by one, and nothing else changes (R117). -/
theorem tallyAdd_one {k : Nat} (h : s.getF (tallyFld i k) < 0xFFFF) :
    s.tallyAdd i k 1 = s.setF (tallyFld i k) (s.getF (tallyFld i k) + 1) :=
  if_pos h

theorem getF_tallyAdd_one {k : Nat} (h : s.getF (tallyFld i k) < 0xFFFF) :
    (s.tallyAdd i k 1).getF (tallyFld i k) = s.getF (tallyFld i k) + 1 := by
  rw [tallyAdd_one h]
  exact getF_setF (by rw [tallyFld_width]; omega) (tallyFld_fits i k)

/-- What every core holds beside its registers is as before. -/
structure SameCores (base s : State) : Prop where
  cores : s.cores = base.cores

theorem SameCores.refl : SameCores s s := ⟨rfl⟩

theorem SameCores.ite {u : State} {c : Prop} {_ : Decidable c} (ht : SameCores s t) (hu : SameCores s u) : SameCores s (if c then t else u) := by
  split
  · exact ht
  · exact hu

theorem SameCores.setF (h : SameCores s t) {f : Fld} {v : Nat} : SameCores s (t.setF f v) := ⟨h.cores⟩

theorem SameCores.withRel (h : SameCores s t) {r : RelState} : SameCores s { t with rel := r } := ⟨h.cores⟩

/-- An event changes registers and event rings (R401). -/
theorem SameCores.raise (h : SameCores s t) {pg mask : Nat} : SameCores s (t.raise pg mask) := ⟨by rw [(raise_events t pg mask).1, h.cores]⟩

theorem SameCores.logRecord (h : SameCores s t) {kind flags site loc synd : Nat} : SameCores s (t.logRecord kind flags site loc synd) := by
  unfold State.logRecord
  extract_lets +onlyGivenNames w0 orb wr full _ s1
  have h1 : SameCores s s1 := .ite h.setF.raise h.setF.setF.setF.setF.setF
  exact .ite (SameCores.ite h1.setF.setF.setF.setF h1).raise h1

theorem SameCores.logCode (h : SameCores s t) {kind site loc : Nat} {o : CodeOut} : SameCores s (t.logCode kind site loc o) := by
  unfold State.logCode
  split
  · exact h
  · exact h.setF.logRecord
  extract_lets +onlyGivenNames s1
  have h1 : SameCores s s1 := h.setF.raise
  split
  · exact .ite h1 h1.withRel.logRecord
  · exact h1.withRel.logRecord

theorem progFault_core (cause info : Nat) : ∃ f, (s.progFault i cause info).core i = { s.core i with fault := f } := by
  unfold State.progFault
  dsimp only
  split
  · exact ⟨_, rfl⟩
  · exact ⟨_, State.core_setCore_same i _⟩

/-- Of its core, a read of the local store can change the fault alone (R366). -/
theorem lsNote_core (a n : Nat) : ∃ f, (s.lsNote i a n).core i = { s.core i with fault := f } := by
  have hlog (es : List (Nat × CodeOut)) : (es.foldl (fun s e => s.logCode 4 i e.1 e.2) s).core i = s.core i := by
    have hkept : SameCores s (es.foldl (fun s e => s.logCode 4 i e.1 e.2) s) := List.foldlRecOn es _ .refl fun _ h _ _ => h.logCode
    rw [State.core, State.core, hkept.cores]
  unfold State.lsNote
  dsimp only
  split
  · next e _ =>
    obtain ⟨f, hf⟩ := progFault_core (s := ((s.core i).ls.errors a n).foldl (fun s e => s.logCode 4 i e.1 e.2) s) (i := i)
      causeUncorr (3 + 2 ^ 16 * (e.1 / 64))
    exact ⟨f, by rw [hf, hlog]⟩
  · exact ⟨_, hlog _⟩

/-- A local store whose codewords are whole has nothing to note. -/
theorem lsNote_of_whole (h : (s.core i).ls.flips = []) (a n : Nat) : s.lsNote i a n = s := by
  simp [State.lsNote, Memory.errors, h]

theorem foldl_lsNote_core (a n : Nat → Nat) (l : List Nat) (s : State) :
    ∃ f, (l.foldl (fun s q => s.lsNote i (a q) (n q)) s).core i = { s.core i with fault := f } := by
  induction l generalizing s with
  | nil => exact ⟨_, rfl⟩
  | cons q l ih =>
    obtain ⟨f, hf⟩ := ih (s.lsNote i (a q) (n q))
    obtain ⟨g, hg⟩ := lsNote_core (s := s) (i := i) (a q) (n q)
    exact ⟨f, by rw [List.foldl_cons, hf, hg]⟩

theorem foldl_lsNote_of_whole (a n : Nat → Nat) (l : List Nat) (h : (s.core i).ls.flips = []) :
    l.foldl (fun s q => s.lsNote i (a q) (n q)) s = s :=
  List.foldlRecOn (motive := fun t => t = s) l _ rfl fun t ht q _ => by rw [ht, lsNote_of_whole h]

end

end Sys2Proof.Machine
end

section
namespace Sys2Proof.Machine

section
variable {s : State} {i : Nat}

/-! ### Rules of the matrix engine: a command in its cycle, the engine set, its queue and its quadrants -/

/-- At the cycle that the engine's time has come to, a command acts on the state as it stands. -/
theorem mxAt_of_now {w : MxWhen} (h : MxNow s i w) (f : State → Out) : s.mxAt i w f = f s := by
  obtain ⟨hpow, hstart, hclock, hbanks⟩ := h
  have hto : s.mxTo i w = s := by simp [State.mxTo, hstart, hclock, State.mxRun]
  simp [State.mxAt, hpow, hto, hbanks, State.lsContests, hclock]

/-- Setting the engine changes the core's engine and CORE_MX_STATUS alone. -/
theorem setMx_only (s : State) (i : Nat) (m : MxState) : OnlyCore i (mxStatus i) s (s.setMx i m) := by
  have hcore : OnlyCore i (mxStatus i) s (s.setCore i { s.core i with mx := m }) := OnlyCore.refl.setCore _
  have hcount := (hcore.setF (f := F.CORE_MX_STATUS_QDEPTH i) m.queue.length rfl).setF (f := F.CORE_MX_STATUS_GATED i) m.gated rfl
  exact (hcount.setF (f := F.CORE_MX_STATUS_BUNTING i) (b2n m.bunting) rfl).setF (f := F.CORE_MX_STATUS_FROZEN i) (b2n m.frozen) rfl

@[simp] theorem core_setMx (s : State) (i : Nat) (m : MxState) : (s.setMx i m).core i = { s.core i with mx := m } := by
  simp [State.setMx]

theorem getF_setMx (m : MxState) {f : Fld} (h : f.addr ≠ pgCore i + 0x204) : (s.setMx i m).getF f = s.getF f :=
  getF_of_word ((setMx_only s i m).2.1 _ h)

/-! The queue settles -/

/-- Settling takes words off the front of the queue, and beside the queue changes the loads and the gap's override alone. -/
theorem mxSettle_eq (sh : Nat) (q : List (Nat × MxOp)) (m : MxState) :
    ∃ q' loads gap, q' <:+ q ∧ mxSettle sh q m = { m with queue := q', loads := loads, gap := gap } := by
  induction q generalizing m with
  | nil => exact ⟨[], m.loads, m.gap, List.suffix_refl _, rfl⟩
  | cons e q ih =>
    have htail (m' : MxState) (loads₀ : List MxLoad) (gap₀ : MxGap) (hm : m' = { m with loads := loads₀, gap := gap₀ }) :
        ∃ q' loads gap, q' <:+ e :: q ∧ mxSettle sh q m' = { m with queue := q', loads := loads, gap := gap } := by
      obtain ⟨q', loads, gap, hq, heq⟩ := ih m'
      exact ⟨q', loads, gap, hq.trans (List.suffix_cons _ _), by rw [heq, hm]⟩
    have hstay : ∃ q' loads gap, q' <:+ e :: q ∧ ({ m with queue := e :: q } : MxState) = { m with queue := q', loads := loads, gap := gap } :=
      ⟨_, m.loads, m.gap, List.suffix_refl _, rfl⟩
    obtain ⟨n, op⟩ := e
    cases op with
    | wld wa fmt qm =>
      unfold mxSettle
      split
      · exact htail _ _ m.gap rfl
      · exact hstay
    | pass => exact hstay
    | bunt count => exact htail _ m.loads _ rfl
    | idle =>
      unfold mxSettle
      split
      · exact htail _ m.loads _ rfl
      · exact hstay
    | mark => exact hstay

section
variable (sh : Nat) (q : List (Nat × MxOp)) (m : MxState)

theorem mxSettle_suffix : (mxSettle sh q m).queue <:+ q := by
  obtain ⟨q', loads, gap, hq, heq⟩ := mxSettle_eq sh q m
  rwa [heq]

@[simp] theorem mxSettle_runs : (mxSettle sh q m).runs = m.runs := by
  obtain ⟨q', loads, gap, -, heq⟩ := mxSettle_eq sh q m
  rw [heq]

@[simp] theorem mxSettle_quad (p : Nat) : (mxSettle sh q m).quad p = m.quad p := by
  obtain ⟨q', loads, gap, -, heq⟩ := mxSettle_eq sh q m
  rw [heq]
  rfl

@[simp] theorem mxSettle_clock : (mxSettle sh q m).clock = m.clock := by
  obtain ⟨q', loads, gap, -, heq⟩ := mxSettle_eq sh q m
  rw [heq]

@[simp] theorem mxSettle_ramp : (mxSettle sh q m).ramp = m.ramp := by
  obtain ⟨q', loads, gap, -, heq⟩ := mxSettle_eq sh q m
  rw [heq]

end

@[simp] theorem core_putMx (s : State) (i : Nat) (m : MxState) :
    (s.putMx i m).core i = { s.core i with mx := mxSettle (s.shape i) m.queue m } :=
  core_setMx s i _

theorem putMx_only (s : State) (i : Nat) (m : MxState) : OnlyCore i (mxStatus i) s (s.putMx i m) := setMx_only s i _

theorem getF_putMx (m : MxState) {f : Fld} (h : f.addr ≠ pgCore i + 0x204) : (s.putMx i m).getF f = s.getF f := getF_setMx _ h

theorem getF_putMx_pc {m : MxState} : (s.putMx i m).getF (F.CORE_PC_PC i) = s.getF (F.CORE_PC_PC i) :=
  getF_putMx _ (by simp [F.CORE_PC_PC, pgCore])

/-! The quadrants -/

theorem mxQuads_nodup (sh qmask : Nat) : (mxQuads sh qmask).Nodup := by
  unfold mxQuads
  split
  · exact List.nodup_singleton 0
  · exact List.nodup_range.filter _

@[simp] theorem quad_setQuad_same (m : MxState) (q : Nat) (x : Quad) : (m.setQuad q x).quad q = x := by
  simp [MxState.quad, MxState.setQuad]

theorem quad_setQuad_ne (m : MxState) {p q : Nat} (x : Quad) (h : p ≠ q) : (m.setQuad q x).quad p = m.quad p := by
  simp [MxState.quad, MxState.setQuad, tabGet_tabPut_ne _ _ h]

/-- Each quadrant of a list is changed by `g`. Issue, the start of a load and the taking up of tiles change quadrants so. -/
def MxState.mapQuads (m : MxState) (g : Nat → Quad → Quad) (qs : List Nat) : MxState :=
  qs.foldl (fun m q => m.setQuad q (g q (m.quad q))) m

theorem mapQuads_eq (m : MxState) (g : Nat → Quad → Quad) (qs : List Nat) : m.mapQuads g qs = { m with quads := (m.mapQuads g qs).quads } :=
  List.foldlRecOn (motive := fun t : MxState => t = { m with quads := t.quads }) qs _ rfl fun t ht q _ => by
    rw [ht]
    rfl

theorem mapQuads_quad (m : MxState) (g : Nat → Quad → Quad) {qs : List Nat} (hqs : qs.Nodup) (p : Nat) :
    (m.mapQuads g qs).quad p = if p ∈ qs then g p (m.quad p) else m.quad p := by
  unfold MxState.mapQuads
  induction qs generalizing m with
  | nil => simp
  | cons q qs ih =>
    obtain ⟨hq, hqs⟩ := List.nodup_cons.mp hqs
    rw [List.foldl_cons, ih _ hqs]
    by_cases hp : p = q
    · subst hp
      simp [hq]
    · simp [hp, quad_setQuad_ne]

end

end Sys2Proof.Machine
end

section
namespace Sys2Proof.Machine

section
variable {s : State} {i : Nat} {tm : MxWhen} {w : Word64}

/-! ### Issue of the MX instructions (O6) -/

/-- What issue records about the weights is recorded in the quadrants alone. -/
theorem mxIssueQuads_eq (sh : Nat) (m : MxState) (o : MxOp) : mxIssueQuads sh m o = { m with quads := (mxIssueQuads sh m o).quads } := by
  cases o with
  | wld => exact mapQuads_eq m (fun _ x => { x with issWaiting := x.issWaiting ++ [_] }) _
  | pass _ _ _ _ _ swap =>
    cases swap with
    | true => exact mapQuads_eq m (fun _ x => { x with issActive := x.issWaiting.head?, issWaiting := x.issWaiting.drop 1 }) _
    | false => rfl
  | bunt => rfl
  | idle => rfl
  | mark => rfl

/-- The engine with an instruction last in its queue, before the queue settles. -/
def MxState.joined (m : MxState) (sh : Nat) (o : MxOp) : MxState :=
  { mxIssueQuads sh m o with queue := m.queue ++ [(m.issued, o)], issued := m.issued + 1 }

/-- The effect of an issued word: its instruction joins the queue, and the program goes on (R108). -/
def mxJoin (i : Nat) (w : Word64) (s : State) : State :=
  match mxDecode w with
  | none => s
  | some o => (s.putMx i ((s.core i).mx.joined (s.shape i) o)).nextPc i

theorem exec_mxOps {e : (Nat → Word64 → MxWhen → Instr) × Nat} (he : e ∈ mxOps) (hnow : MxNow s i tm) :
    exec (e.1 i w tm) s = issue s i w 1 (wOp w == e.2) (mxLegal s i w) causeMx (mxJoin i w) := by
  have hissue (op : Nat) : mxIssue op i w tm s = issue s i w 1 (wOp w == op) (mxLegal s i w) causeMx (mxJoin i w) := by
    refine (mxAt_of_now hnow _).trans (congrArg _ (funext fun s => ?_))
    cases hdec : mxDecode w with
    | none => simp only [mxJoin, hdec]
    | some o =>
      simp only [mxJoin, hdec, MxState.joined]
      rw [mxIssueQuads_eq]
  simp only [mxOps, List.mem_cons, List.not_mem_nil, or_false] at he
  obtain rfl | rfl | rfl | rfl | rfl := he
  · exact hissue 1
  · exact hissue 2
  · exact hissue 3
  · exact hissue 4
  · exact hissue 5

theorem mxDecode_of_legal (h : mxLegal s i w = true) : ∃ o, mxDecode w = some o := by
  cases hdec : mxDecode w with
  | some o => exact ⟨o, rfl⟩
  | none => simp [mxLegal, hdec] at h

/-- Before the program's last word the effect is a put of the engine and a step of the program counter. -/
theorem mxJoin_of_room {o : MxOp} (hdec : mxDecode w = some o) (hroom : s.getF (F.CORE_PC_PC i) + 1 < (s.core i).prog.length) :
    mxJoin i w s = (s.putMx i ((s.core i).mx.joined (s.shape i) o)).setF (F.CORE_PC_PC i)
      ((s.putMx i ((s.core i).mx.joined (s.shape i) o)).getF (F.CORE_PC_PC i) + 1) := by
  unfold mxJoin
  rw [hdec]
  refine nextPc_of_room ?_
  rwa [getF_putMx_pc, core_putMx]

/-- Settles O6: a word of an MX opcode is issued (`exec_mxOps`) with the effect `mxJoin`, is held by a full queue, or faults the core. -/
theorem mxIssue_settled : Obligations.MxIssue := by
  intro e he i w tm s hnow hop m queue
  rw [exec_mxOps he hnow]
  obtain ⟨hcls, hop⟩ : wClass w = 1 ∧ (wOp w == e.2) = true := by simpa [opIs, wClass, wOp] using hop
  refine ⟨fun ⟨hok, hroom⟩ hlegal => ?_, fun hfull => ?_, fun hok hlegal => ?_⟩
  · obtain ⟨o, hdec⟩ := mxDecode_of_legal hlegal
    refine ⟨_, o, hdec, issue_of_legal hok hcls hop hlegal, ?_⟩
    rw [mxJoin_of_room hdec hroom]
    refine ⟨pcNext_setF getF_putMx_pc, ?_, ((putMx_only s i _).weaken fun _ h => .inr h).setF _ (.inl rfl)⟩
    rw [State.core_setF, core_putMx]
    rfl
  · have hheld : s.issueOk i w = false := by
      by_contra hok
      obtain ⟨-, -, hroom⟩ := issueOk_parts (Bool.eq_true_of_not_eq_false hok)
      rw [hcls] at hroom
      exact absurd hfull (of_decide_eq_false hroom)
    exact issue_of_held hheld
  · rw [issue_of_illegal hok hcls hop hlegal, progFault_of_issueOk hok]

end

end Sys2Proof.Machine
end

section
namespace Sys2Proof.Machine

section
variable {s : State} {i q : Nat} {w : MxWhen}

/-! ### Weight loads and marks (O7) -/

/-- At the head of the loads, one that some of its targets can take starts in each of those (R97, R98). -/
theorem loadStart_head {m : MxState} {sh : Nat} {l : MxLoad} (rest : List MxLoad) (h : ∃ p ∈ mxQuads sh l.todo, TileFree m sh p) :
    ∃ qs, m.loadStart sh (l :: rest) [] = some (l, qs) ∧ qs.Nodup ∧ ∀ p, p ∈ qs ↔ p ∈ mxQuads sh l.todo ∧ TileFree m sh p := by
  let free (p : Nat) : Bool := !([] : List Nat).contains p && (m.quad p).waiting.isNone && decide ((m.quad p).loadFree ≤ m.clock) &&
    (sh != 0 || decide ((m.quad p).setFree ≤ m.flow))
  have hfree (p : Nat) : free p = true ↔ TileFree m sh p := by
    simp [free, TileFree, and_assoc, or_iff_not_imp_left]
  have hmem (p : Nat) : p ∈ (mxQuads sh l.todo).filter free ↔ p ∈ mxQuads sh l.todo ∧ TileFree m sh p := by
    rw [List.mem_filter, hfree]
  obtain ⟨p, hp⟩ := h
  refine ⟨(mxQuads sh l.todo).filter free, if_neg ?_, (mxQuads_nodup sh l.todo).filter _, hmem⟩
  exact fun hempty => List.not_mem_nil (List.isEmpty_iff.mp hempty ▸ (hmem p).mpr hp)

/-- A quadrant in which a load has started at a cycle: its tile waits there, and its bus or port is taken for Lw cycles (R96, R98). -/
def State.loadsTile (s : State) (i clock : Nat) (l : MxLoad) (q : Nat) (x : Quad) : Quad :=
  { x with
    waiting := some ⟨l.fmt, s.tileData i l.waddr l.fmt l.qmask q, clock, false⟩
    loadFree := clock + mxLw (s.shape i) l.fmt }

/-- Setting a quadrant leaves the clock, so that a load starts in all its targets in one cycle. -/
theorem foldl_loadsTile (s : State) (i : Nat) (l : MxLoad) (qs : List Nat) (m : MxState) :
    qs.foldl (fun m q => m.setQuad q (s.loadsTile i m.clock l q (m.quad q))) m = m.mapQuads (s.loadsTile i m.clock l) qs := by
  unfold MxState.mapQuads
  induction qs generalizing m with
  | nil => rfl
  | cons q qs ih => exact ih _

/-- The start of a load sets the quadrants that it starts in, and reads its tiles from the local store. -/
theorem startLoad_eq (s : State) (i : Nat) (l : MxLoad) (qs : List Nat) : ∃ (loads : List MxLoad) (a n : Nat → Nat), s.startLoad i l qs =
    qs.foldl (fun s q => s.lsNote i (a q) (n q))
      (s.putMx i { (s.core i).mx.mapQuads (s.loadsTile i (s.core i).mx.clock l) qs with loads := loads }) := by
  unfold State.startLoad
  extract_lets sh m m1 todo loads size
  have hm1 : m1 = m.mapQuads (s.loadsTile i m.clock l) qs := foldl_loadsTile s i l qs m
  rw [hm1]
  exact ⟨loads, fun q => 64 * l.waddr + ((mxQuads sh l.qmask).takeWhile (· != q)).length * size, fun _ => size, rfl⟩

theorem execWeightLoadStart_of_some (hnow : MxNow s i w) {l : MxLoad} {qs : List Nat}
    (h : (s.core i).mx.loadStart (s.shape i) (s.core i).mx.loads [] = some (l, qs)) :
    exec (.weightLoadStart i w) s = .next (s.startLoad i l qs) := by
  show execWeightLoadStart i w s = _
  rw [execWeightLoadStart, mxAt_of_now hnow]
  simp only [h]

theorem execWeightLoadStart_of_none (hnow : MxNow s i w) (h : (s.core i).mx.loads = []) : exec (.weightLoadStart i w) s = .next s := by
  show execWeightLoadStart i w s = _
  rw [execWeightLoadStart, mxAt_of_now hnow]
  simp only [h, MxState.loadStart]

theorem tileDone_of_due {m : MxState} {sh : Nat} {x : Tile} (hload : x.loaded = false) (hdue : x.start + mxLw sh x.fmt ≤ m.clock + 1) :
    m.tileDone sh (some x) = true := by
  simp [MxState.tileDone, hload, hdue]

/-- The end of a load marks the tile as loaded where it waits (R96, R98). -/
theorem execWeightLoadComplete_of_waiting (hnow : MxNow s i w) {x : Tile} (hwait : ((s.core i).mx.quad q).waiting = some x)
    (hdone : (s.core i).mx.tileDone (s.shape i) (some x) = true) : exec (.weightLoadComplete i q w) s =
      .next (s.putMx i ((s.core i).mx.setQuad q { (s.core i).mx.quad q with waiting := some { x with loaded := true } })) := by
  show execWeightLoadComplete i q w s = _
  rw [execWeightLoadComplete, mxAt_of_now hnow]
  simp only [hwait, hdone, if_true, Option.map_some, markLoaded]

/-- It marks the active tile where a pass has taken the tile up already. -/
theorem execWeightLoadComplete_of_active (hnow : MxNow s i w) {x : Tile} (hwait : ((s.core i).mx.quad q).waiting = none)
    (hactive : ((s.core i).mx.quad q).active = some x) (hdone : (s.core i).mx.tileDone (s.shape i) (some x) = true) :
    exec (.weightLoadComplete i q w) s =
      .next (s.putMx i ((s.core i).mx.setQuad q { (s.core i).mx.quad q with active := some { x with loaded := true } })) := by
  have hnone : (s.core i).mx.tileDone (s.shape i) none = false := rfl
  show execWeightLoadComplete i q w s = _
  rw [execWeightLoadComplete, mxAt_of_now hnow]
  simp only [hwait, hactive, hdone, hnone, Bool.false_eq_true, if_false, if_true, Option.map_some, markLoaded]

/-- An MXMARK that is due counts in its tally and leaves the queue (R107). -/
theorem execMxmarkDone_of_due (hnow : MxNow s i w) {n k : Nat} {rest : List (Nat × MxOp)} (hqueue : (s.core i).mx.queue = (n, .mark k) :: rest)
    (hquiet : (s.core i).mx.quiet = true) :
    exec (.mxmarkDone i w) s = .next ((s.putMx i { (s.core i).mx with queue := rest }).tallyAdd i k 1) := by
  have hdue : (s.core i).mx.markDue = some k := by simp [MxState.markDue, hqueue, hquiet]
  show execMxmarkDone i w s = _
  rw [execMxmarkDone, mxAt_of_now hnow]
  simp only [hdue, hqueue, List.drop_one, List.tail_cons]

theorem getF_putMx_tally {m : MxState} {k : Nat} (hk : k < 64) : (s.putMx i m).getF (tallyFld i k) = s.getF (tallyFld i k) :=
  getF_putMx m (by rw [tallyFld_addr]; omega)

/-- Settles O7: `loadStart_head` names the targets that a load starts in and `startLoad_eq` what the start does there; a load's end sets one
quadrant, and a mark's takes the instruction off the queue and counts. -/
theorem mxWeights : Obligations.MxWeights := by
  intro i q w s hnow m sh
  refine ⟨fun l rest hloads hfree => ?_, fun hloads => execWeightLoadStart_of_none hnow hloads, fun x hload hdue => ?_,
    fun n k rest hk hqueue hquiet hroom => ?_⟩
  · obtain ⟨qs, hstart, hnodup, hmem⟩ := loadStart_head rest hfree
    rw [← hloads] at hstart
    refine ⟨_, execWeightLoadStart_of_some hnow hstart, ?_⟩
    obtain ⟨loads, a, n, heq⟩ := startLoad_eq s i l qs
    rw [heq]
    generalize hput : s.putMx i { (s.core i).mx.mapQuads (s.loadsTile i m.clock l) qs with loads := loads } = u
    have hcore : u.core i = { s.core i with mx := mxSettle sh m.queue { m.mapQuads (s.loadsTile i m.clock l) qs with loads := loads } } := by
      rw [← hput, core_putMx, mapQuads_eq]
    obtain ⟨f, hf⟩ := foldl_lsNote_core (i := i) a n qs u
    have hquad (p : Nat) : (u.core i).mx.quad p = if p ∈ qs then s.loadsTile i m.clock l p (m.quad p) else m.quad p := by
      rw [hcore]
      exact (mxSettle_quad _ _ _ _).trans (mapQuads_quad m _ hnodup p)
    rw [hf]
    refine ⟨by rw [hcore], by rw [hcore], ?_, fun p hp hfree => ?_, fun p hp => ?_, fun hflips => ?_⟩
    · simp only [hcore, mxSettle_runs]
      rw [mapQuads_eq]
    · rw [hquad, if_pos ((hmem p).mpr ⟨hp, hfree⟩)]
      exact ⟨rfl, rfl, rfl⟩
    · rw [hquad, if_neg (mt (hmem p).mp hp)]
    · rw [foldl_lsNote_of_whole a n qs (by rw [hcore]; exact hflips), ← hput]
      exact putMx_only s i _
  · have hput (m' : MxState) {y : Quad} (hquad : m'.quad q = y) (hexec : exec (.weightLoadComplete i q w) s = .next (s.putMx i m')) :
        ∃ t, exec (.weightLoadComplete i q w) s = .next t ∧ (t.core i).mx.quad q = y ∧
          t.core i = { s.core i with mx := (t.core i).mx } ∧ OnlyCore i (mxStatus i) s t := by
      refine ⟨_, hexec, ?_, by rw [core_putMx], putMx_only s i _⟩
      rw [core_putMx]
      exact (mxSettle_quad _ _ _ _).trans hquad
    have hdone := tileDone_of_due hload hdue
    intro Loads
    exact ⟨fun hwait => hput _ (quad_setQuad_same _ _ _) (execWeightLoadComplete_of_waiting hnow hwait hdone),
      fun hwait hactive => hput _ (quad_setQuad_same _ _ _) (execWeightLoadComplete_of_active hnow hwait hactive hdone)⟩
  · refine ⟨_, execMxmarkDone_of_due hnow hqueue hquiet, ?_⟩
    have htally := getF_putMx_tally (s := s) (i := i) (m := { m with queue := rest }) hk
    rw [← htally] at hroom
    refine ⟨by rw [getF_tallyAdd_one hroom, htally], ?_, ?_⟩
    · rw [tallyAdd_one hroom, State.core_setF, core_putMx]
    · rw [tallyAdd_one hroom]
      have hput : OnlyCore i (fun a => mxStatus i a ∨ tallyReg i k a) s (s.putMx i { m with queue := rest }) :=
        (putMx_only s i _).weaken fun _ h => .inl h
      exact hput.setF _ (.inr rfl)

end

end Sys2Proof.Machine
end

section
namespace Sys2Proof.Machine

section
variable {s : State} {i q : Nat} {w : MxWhen}

/-! ### The start of a pass (O8) -/

/-- With nothing marked frozen the array is not frozen (R101). -/
theorem not_freezing {m : MxState} {sh : Nat} (h : w.freezes = []) : m.freezing sh w = false := by
  simp [MxState.freezing, MxState.causes, h]

/-- A ready pass is the next to start where no pass queued before it is ready (R108). -/
theorem startable_of_ready {m : MxState} {sh n : Nat} {o : MxOp} (hnext : m.next sh q = some (n, o)) (hready : m.passReady sh m.clock n o = true)
    (hfirst : ∀ e ∈ m.heads sh, e.1 < n → m.passReady sh m.clock e.1 e.2 = false) : m.startable sh q = some (n, o) := by
  have hall : (m.heads sh).all (fun e => decide (n ≤ e.1) || !(m.passReady sh m.clock e.1 e.2)) = true := by
    rw [List.all_eq_true]
    intro e he
    rcases Nat.lt_or_ge e.1 n with hlt | hge
    · simp [hfirst e he hlt]
    · simp [hge]
  simp [MxState.startable, hnext, hready, hall]

/-- A started pass takes up the waiting tile of each of its quadrants where it swaps, and otherwise leaves the weights alone (R96, R98). -/
def MxState.swapped (m : MxState) (sh : Nat) (o : MxOp) : MxState :=
  if o.swap then m.mapQuads (fun _ x => x.takeUp sh) (o.quads sh) else m

theorem swapped_eq (m : MxState) (sh : Nat) (o : MxOp) : m.swapped sh o = { m with quads := (m.swapped sh o).quads } := by
  unfold MxState.swapped
  split
  · exact mapQuads_eq _ _ _
  · rfl

theorem swapped_runs (m : MxState) (sh : Nat) (o : MxOp) : (m.swapped sh o).runs = m.runs := by rw [swapped_eq]

theorem swapped_clock (m : MxState) (sh : Nat) (o : MxOp) : (m.swapped sh o).clock = m.clock := by rw [swapped_eq]

theorem quads_nodup (sh : Nat) (o : MxOp) : (o.quads sh).Nodup := by
  cases o with
  | pass => exact mxQuads_nodup sh _
  | wld => exact List.nodup_nil
  | bunt => exact List.nodup_nil
  | idle => exact List.nodup_nil
  | mark => exact List.nodup_nil

theorem swapped_quad (m : MxState) (sh : Nat) (o : MxOp) (p : Nat) :
    (m.swapped sh o).quad p = if o.swap = true ∧ p ∈ o.quads sh then (m.quad p).takeUp sh else m.quad p := by
  unfold MxState.swapped
  cases o.swap with
  | true => simpa using mapQuads_quad m (fun _ x => x.takeUp sh) (quads_nodup sh o) p
  | false => simp

/-- The engine in which a pass has started: it has left the queue and runs, with the active tiles of its quadrants and no row entered. -/
def MxState.passStarted (m : MxState) (sh n : Nat) (o : MxOp) : MxState :=
  { m.swapped sh o with
    queue := (m.swapped sh o).queue.filter (fun e => e.1 != n)
    runs := (m.swapped sh o).runs ++
      [⟨n, o, (o.quads sh).filterMap (fun q => ((m.swapped sh o).quad q).active.map (fun t => (q, t))), 0, []⟩]
    ramp := .none
    awaiting := false }

theorem passStarted_runs (m : MxState) (sh n : Nat) (o : MxOp) : (m.passStarted sh n o).runs = m.runs ++
    [⟨n, o, (o.quads sh).filterMap (fun q => ((m.swapped sh o).quad q).active.map (fun t => (q, t))), 0, []⟩] :=
  congrArg (· ++ _) (swapped_runs m sh o)

theorem execPassStart_of_due (hnow : MxNow s i w) {n : Nat} {o : MxOp} (h : s.passDue i w q = some (n, o)) :
    exec (.passStart i q w) s = .next (s.putMx i ((s.core i).mx.passStarted (s.shape i) n o)) := by
  show execPassStart i q w s = _
  rw [execPassStart, mxAt_of_now hnow]
  simp only [h]
  rfl

theorem execPassStart_of_none (hnow : MxNow s i w) (h : s.passDue i w q = none) : exec (.passStart i q w) s = .next s := by
  show execPassStart i q w s = _
  rw [execPassStart, mxAt_of_now hnow]
  simp only [h]

/-- Settles O8: a ready pass that nothing holds is due, and `MxState.passStarted` is the engine that its start leaves. -/
theorem mxPassStart : Obligations.MxPassStart := by
  intro i q n o w s hnow m sh hnext hready hfirst Starts
  refine ⟨fun hgated hfreeze hheld => ?_, fun hstop => execPassStart_of_none hnow ?_, fun x => ⟨rfl, rfl, fun hfull hactive => if_pos ⟨hfull, hactive⟩⟩⟩
  · have hdue : s.passDue i w q = some (n, o) := by
      have hopen : (decide (m.gated = 0) && !(m.freezing sh w) && !(s.mxHeld i m.clock)) = true := by
        simp [hgated, not_freezing hfreeze, hheld]
      exact (if_pos hopen).trans (startable_of_ready hnext hready hfirst)
    have hcore : (s.putMx i (m.passStarted sh n o)).core i = { s.core i with mx := mxSettle sh (m.passStarted sh n o).queue (m.passStarted sh n o) } :=
      core_putMx s i _
    refine ⟨_, execPassStart_of_due hnow hdue, ?_⟩
    rw [hcore]
    refine ⟨⟨_, (mxSettle_runs _ _ _).trans (passStarted_runs m sh n o), rfl, rfl, rfl, rfl⟩, fun e he => ?_,
      (mxSettle_clock _ _ _).trans (swapped_clock m sh o), mxSettle_ramp _ _ _,
      fun p => (mxSettle_quad _ _ _ p).trans (swapped_quad m sh o p), rfl, putMx_only s i _⟩
    have hmem := (mxSettle_suffix _ _ _).subset he
    simpa using (List.mem_filter.mp hmem).2
  · refine if_neg ?_
    rcases hstop with hgated | hheld
    · simp [Nat.ne_of_gt hgated, m]
    · simp [m, hheld]

end

end Sys2Proof.Machine
end

section
namespace Sys2Proof.Machine

section
variable {s : State} {i : Nat} {w : MxWhen}

/-! ### The clock-gate ramp (O10) -/

/-- A transition that the limiter counts changes a cluster alone (R269). -/
theorem limiterTake_eq (s : State) (i cycle : Nat) : ∃ l, s.limiterTake i cycle = { s with clusters := l } := by
  unfold State.limiterTake
  split
  · exact ⟨_, rfl⟩
  · exact ⟨_, rfl⟩

/-- What a step of the ramp does to the engine: a quarter is gated or ungated where the limiter has a place, and otherwise waits (R105, R269). -/
structure RampStepped (free : Bool) (dir : Ramp) (m m' : MxState) : Prop where
  gated : m'.gated = if free then (if dir = .down then min 4 (m.gated + 1) else m.gated - 1) else m.gated
  awaiting : m'.awaiting = !free
  lastStep : free = true → m'.lastStep = m.clock
  runs : m'.runs = m.runs
  queue : m'.queue = m.queue

/-- The engine with one quarter more gated, or one fewer. -/
def MxState.quarterStepped (m : MxState) (dir : Ramp) : MxState :=
  let g := if dir = .down then min 4 (m.gated + 1) else m.gated - 1
  { m with gated := g, lastStep := m.clock, awaiting := false, ramp := if g = 0 ∨ g = 4 then .none else dir }

theorem gateStep_of_free {dir : Ramp} (h : s.limiterFree i (s.core i).mx.clock = true) :
    s.gateStep i dir = (s.setMx i ((s.core i).mx.quarterStepped dir)).limiterTake i (s.core i).mx.clock :=
  if_pos h

theorem gateStep_of_full {dir : Ramp} (h : s.limiterFree i (s.core i).mx.clock = false) :
    s.gateStep i dir = s.setMx i { (s.core i).mx with awaiting := true, ramp := dir } :=
  if_neg (by simp [h])

theorem gateStep_eq (s : State) (i : Nat) (dir : Ramp) : ∃ m' l, s.gateStep i dir = { s.setMx i m' with clusters := l } ∧
    RampStepped (s.limiterFree i (s.core i).mx.clock) dir (s.core i).mx m' := by
  cases hfree : s.limiterFree i (s.core i).mx.clock with
  | true =>
    obtain ⟨l, hl⟩ := limiterTake_eq (s.setMx i ((s.core i).mx.quarterStepped dir)) i (s.core i).mx.clock
    exact ⟨_, l, (gateStep_of_free hfree).trans hl, rfl, rfl, fun _ => rfl, rfl, rfl⟩
  | false => exact ⟨{ (s.core i).mx with awaiting := true, ramp := dir }, _, gateStep_of_full hfree, rfl, rfl, nofun, rfl, rfl⟩

/-! When each command of the ramp steps it -/

theorem execRampDownStart_of_due (hnow : MxNow s i w) (h : s.rampDownDue i w = true) : exec (.rampDownStart i w) s = .next (s.gateStep i .down) := by
  show execRampDownStart i w s = _
  rw [execRampDownStart, mxAt_of_now hnow, if_pos h]

theorem execRampStepExpiry_of_due (hnow : MxNow s i w) (h : s.rampStepDue i = true) (hup : s.rampUpDue i = false) :
    exec (.rampStepExpiry i w) s = .next (s.gateStep i (s.core i).mx.ramp) := by
  show execRampStepExpiry i w s = _
  rw [execRampStepExpiry, mxAt_of_now hnow, h, hup]
  rfl

theorem execRampUpStart_of_due (hnow : MxNow s i w) (h : s.rampUpDue i = true) : exec (.rampUpStart i w) s =
    .next (s.setMx i { (s.core i).mx with ramp := .up, lastStep := (s.core i).mx.clock, awaiting := false }) := by
  show execRampUpStart i w s = _
  rw [execRampUpStart, mxAt_of_now hnow]
  simp only [h, if_true]

theorem execTransitionAdmit_quarter (hnow : MxNow s i w) : exec (.transitionAdmit i 0 w) s = .next (s.admitQuarter i) := by
  show execTransitionAdmit i 0 w s = _
  rw [execTransitionAdmit, if_pos rfl, mxAt_of_now hnow]

theorem execTransitionAdmit_vxStart (hwait : (s.core i).vxWait = true) (hfree : s.limiterFree i w.cycle = true) :
    exec (.transitionAdmit i 1 w) s =
      .next ((s.setCore i { s.core i with vxWait := false, vxOn := true, vxMark := w.cycle }).limiterTake i w.cycle) := by
  show execTransitionAdmit i 1 w s = _
  simp [execTransitionAdmit, hwait, hfree]

theorem execTransitionAdmit_vxStop (hon : (s.core i).vxOn = true) (hidle : (s.core i).vx = []) (hlong : (s.core i).vxMark + 64 ≤ w.cycle)
    (hfree : s.limiterFree i w.cycle = true) : exec (.transitionAdmit i 2 w) s =
      .next ((s.setCore i { s.core i with vxOn := false, vxMark := w.cycle }).limiterTake i w.cycle) := by
  show execTransitionAdmit i 2 w s = _
  simp [execTransitionAdmit, hon, hidle, Nat.not_lt.mpr hlong, hfree]

/-- With no ramp under way and nothing that asks for the array, the ramp goes down at a COMP trim, past MXBUNT's count, after MXIDLE's passes, or
after BUNT_LEN gap cycles (R105, R109, R291). -/
theorem rampDownDue_of_gap (hquarter : (s.core i).mx.gated < 4) (hwait : (s.core i).mx.awaiting = false) (hhold : s.gov.pcapHold = false)
    (hramp : (s.core i).mx.ramp = .none) (hfill : s.mxFill i = 0) (hask : (s.core i).mx.asks (s.shape i) = false)
    (hend : 0 < s.compTrim (siteDie i) ∨ ((s.core i).mx.gap = .normal ∧ s.getF (F.CORE_MX_CTRL_BUNT_LEN i) ≤ (s.core i).mx.gapRun) ∨
      (∃ g, (s.core i).mx.gap = .bunt 0 g) ∨ (∃ g, (s.core i).mx.gap = .idle g ∧ (s.core i).mx.runs = [])) : s.rampDownDue i w = true := by
  simp only [State.rampDownDue, hquarter, hwait, hhold, hramp, hfill, hask]
  rcases hend with htrim | ⟨hgap, hlong⟩ | ⟨g, hgap⟩ | ⟨g, hgap, hruns⟩
  · simp [htrim]
  · simp [hgap, hlong]
  · simp [hgap]
  · simp [hgap, hruns]

/-- A waiting transition that something still asks for is made once the limiter has a place. -/
theorem admitQuarter_of_free (hwait : (s.core i).mx.awaiting = true) (hfree : s.limiterFree i (s.core i).mx.clock = true) (hup : s.rampUpDue i = false)
    (hasked : (s.core i).mx.ramp = .down → (s.core i).mx.gated = 0 → s.gov.pcapHold = false →
      (s.core i).mx.asks (s.shape i) = false ∧ s.mxFill i = 0) :
    s.admitQuarter i = s.gateStep i (s.core i).mx.ramp := by
  have hkeep : ((s.core i).mx.ramp = .down && (s.core i).mx.gated == 0 && ((s.core i).mx.asks (s.shape i) || decide (0 < s.mxFill i)) &&
      !s.gov.pcapHold) = false := by
    by_contra hdrop
    simp only [Bool.not_eq_false, Bool.and_eq_true, decide_eq_true_eq, beq_iff_eq, Bool.or_eq_true, Bool.not_eq_true'] at hdrop
    obtain ⟨⟨⟨hdown, hnone⟩, hask⟩, hhold⟩ := hdrop
    obtain ⟨hquiet, hfill⟩ := hasked hdown hnone hhold
    simp [hquiet, hfill] at hask
  simp only [State.admitQuarter, hwait, hkeep, hfree, hup]
  rfl

/-- Settles O10: each command's condition holds by its own hypotheses, and what the step then does is `gateStep_eq`. -/
theorem mxRamp : Obligations.MxRamp := by
  intro i w s hnow c m sh free Gates
  have ⟨_, _, hclock, _⟩ := hnow
  have hgates (x : Instr) (dir : Ramp) (hx : exec x s = .next (s.gateStep i dir)) : Gates x dir := by
    obtain ⟨m', l, heq, hstep⟩ := gateStep_eq s i dir
    obtain ⟨hstate, hregs, hcores⟩ := setMx_only s i m'
    rw [hclock] at hstep
    have hcore : ({ s.setMx i m' with clusters := l } : State).core i = { c with mx := m' } := core_setMx s i m'
    refine ⟨_, hx, ?_⟩
    rw [heq, hcore]
    exact ⟨hstep.gated, hstep.awaiting, fun h => (hstep.lastStep h).trans hclock, rfl, hstep.runs, hstep.queue, hcores, hregs, by rw [hstate]⟩
  refine ⟨fun hquarter hwait hhold hramp hfill hask hend => ?_, fun hquarter hwait hhold hramp => ?_, fun hramp hwait hstep hup => ?_,
    fun hwait hfree hup hasked => ?_, fun hquarter hramp hhold hask => ?_, fun hwait hfree => ?_, fun hon hidle hlong hfree => ?_⟩
  · exact hgates _ _ (execRampDownStart_of_due hnow (rampDownDue_of_gap hquarter hwait hhold hramp hfill hask hend))
  · refine hgates _ _ (execRampDownStart_of_due hnow ?_)
    simp [State.rampDownDue, m, c, hquarter, hwait, hhold, hramp]
  · refine hgates _ _ (execRampStepExpiry_of_due hnow ?_ hup)
    simp [State.rampStepDue, m, c, hramp, hwait, hclock, hstep]
  · refine hgates _ _ ((execTransitionAdmit_quarter hnow).trans ?_)
    rw [admitQuarter_of_free hwait (hclock ▸ hfree) hup hasked]
  · have hdue : s.rampUpDue i = true := by
      simpa [State.rampUpDue, hquarter, hramp, hhold, m, c, sh] using hask
    refine ⟨_, execRampUpStart_of_due hnow hdue, ?_, by rw [core_setMx], setMx_only s i _⟩
    rw [core_setMx, ← hclock]
  · exact execTransitionAdmit_vxStart hwait hfree
  · exact execTransitionAdmit_vxStop hon hidle hlong hfree

end

end Sys2Proof.Machine
end

section
namespace Sys2Proof.Machine

/-! ### Where the end of a pass fails (O9)

The statement bounds no tally that a pass names, though what it says of CORE_MX_PASSES holds for every one. A TALLY field has 6 bits (R107), but
the pass below names tally 84, whose register would lie where CORE_MX_PASSES does: its end counts twice there, once as a pass and once as
the tally. A pass that names one of the 64 tallies does not meet that register, which lies past theirs. -/

/-- A pass of one row that adds to a tally past the last: the row has entered, and is due to be written. -/
def strayPass : MxRun := ⟨0, .pass 0 0 1 0 false false 0xF true 84, [], 1, [⟨0, 0, List.replicate 256 0, {}⟩]⟩

/-- Core 0 has power, and that pass alone in its array, in the first cycle of its engine. -/
def strayPassState : State :=
  { State.reset with
    regs := [((F.PG_STATE_STATE (pgCore 0)).addr, BitVec.ofNat 32 coreIdle)]
    cores := [(0, { CoreState.fresh with mx := { MxState.fresh with started := true, runs := [strayPass] } })] }

/-- The tally's register is CORE_MX_PASSES. -/
theorem strayPass_tally : (tallyFld 0 84).addr = (F.CORE_MX_PASSES_COUNT 0).addr := rfl

theorem strayPassState_now : MxNow strayPassState 0 ⟨0, [], []⟩ := by
  refine ⟨?_, rfl, rfl, rfl⟩
  decide +kernel

theorem strayPassState_passes : strayPassState.getF (F.CORE_MX_PASSES_COUNT 0) = 0 := by decide +kernel

/-- The end of the pass counts two passes. -/
theorem strayPassState_counted :
    (match exec (.passComplete 0 0 ⟨0, [], []⟩) strayPassState with | .next t => t.getF (F.CORE_MX_PASSES_COUNT 0) | _ => 0) = 2 := by
  decide +kernel

/-- Refutes O9: `strayPassState` meets the hypotheses on PASS_COMPLETE, and CORE_MX_PASSES goes from 0 to 2 where the statement has it at 1. -/
theorem not_mxPassComplete : ¬ Obligations.MxPassComplete := by
  unfold Obligations.MxPassComplete
  intro h
  obtain ⟨hends, -⟩ := h 0 0 strayPass ⟨0, [], []⟩ strayPassState rfl
  obtain ⟨t, ht, -, -, -, -, -, hpasses, -⟩ :=
    hends strayPassState_now rfl (by decide +kernel) (by decide) ⟨0, 0, List.replicate 256 0, {}⟩ rfl (by decide +kernel)
  have hcounted := strayPassState_counted
  rw [strayPassState_passes] at hpasses
  simp only [ht, hpasses] at hcounted
  exact absurd hcounted (by decide)

end Sys2Proof.Machine
end

section
namespace Sys2Proof.Machine

section
variable {s t u : State} {i : Nat} {w : Word64}

/-! ### Rules of a core's operations: frames, and issue of the CT and SY words -/

theorem SameRegs.getF {p : Nat → Prop} (h : SameRegs p s t) {f : Fld} (hf : ¬ p f.addr) : t.getF f = s.getF f := getF_of_word (h _ hf)

theorem SameRegs.on {p : Nat → Prop} (h : SameRegs p s t) {f : Fld} (hf : ¬ p f.addr) : t.on f = s.on f := on_of_word (h _ hf)

theorem onPage_pgCore {i n : Nat} (h : n < 0x1000) : onPage (pgCore i) (pgCore i + n) := by
  unfold onPage pgCore
  omega

theorem OnlyCore.trans {p : Nat → Prop} (h : OnlyCore i p s t) (k : OnlyCore i p t u) : OnlyCore i p s u :=
  ⟨by rw [k.1, h.1], h.2.1.trans k.2.1, fun j hj => (k.2.2 j hj).trans (h.2.2 j hj)⟩

theorem opIs_parts {w : Word64} {cls op : Nat} (h : opIs w cls op = true) : wClass w = cls ∧ (wOp w == op) = true := by
  simpa [opIs, wClass, wOp] using h

/-! The words of the CT and SY classes are issued by one rule, each with its own opcode, reserved bits and effect (R115, R119) -/

/-- The effect of CTLOOP: its register counts down, and the branch is taken while it is not 0 (R115). -/
def ctloopEffect (i r g : Nat) (s : State) : State :=
  if (s.setScalar i r (s.scalar i r - 1)).scalar i r = 0 then (s.setScalar i r (s.scalar i r - 1)).nextPc i
  else (s.setScalar i r (s.scalar i r - 1)).goTo i g

theorem exec_ctnop : exec (.ctnop i w) s = issue s i w 0 (wOp w == 0) (onlyBits w 56 []) causeCt (fun s => s.nextPc i) := rfl

theorem exec_ctli : exec (.ctli i w) s = issue s i w 0 (wOp w == 1) (onlyBits w 56 [(52, 4), (0, 32)]) causeCt
    (fun s => (s.setScalar i (bits w.toNat 52 4) (BitVec.ofNat 32 (bits w.toNat 0 32))).nextPc i) := rfl

theorem exec_ctadd : exec (.ctadd i w) s = issue s i w 0 (wOp w == 2) (onlyBits w 56 [(52, 4), (48, 4), (0, 32)]) causeCt
    (fun s => (s.setScalar i (bits w.toNat 52 4) (s.scalar i (bits w.toNat 48 4) + BitVec.ofNat 32 (bits w.toNat 0 32))).nextPc i) := rfl

theorem exec_ctloop : exec (.ctloop i w) s = issue s i w 0 (wOp w == 3) (onlyBits w 56 [(48, 4), (0, 12)] && targetOk s i w) causeCt
    (ctloopEffect i (bits w.toNat 48 4) (bits w.toNat 0 12)) := rfl

theorem exec_ctbr : exec (.ctbr i w) s = issue s i w 0 (wOp w == 4) (onlyBits w 56 [(0, 12)] && targetOk s i w) causeCt
    (fun s => s.goTo i (bits w.toNat 0 12)) := rfl

theorem exec_ctid : exec (.ctid i w) s = issue s i w 0 (wOp w == 5) (onlyBits w 56 [(52, 4), (0, 2)] && decide (bits w.toNat 0 2 < 2)) causeCt
    (fun s => (s.setScalar i (bits w.toNat 52 4) (BitVec.ofNat 32
      (if bits w.toNat 0 2 = 0 then s.getF (F.CORE_VOY_LCORE_LCORE i) else s.getF (F.CORE_PROG_K_K i)))).nextPc i) := rfl

theorem exec_ctevt : exec (.ctevt i w) s = issue s i w 0 (wOp w == 6) (onlyBits w 56 [(0, 16)]) causeCt
    (fun s => (s.postCore i ⟨0x02, 0, siteNum i, bits w.toNat 0 16, s.orbit, s.coreData0 i, 0, 1⟩).nextPc i) := rfl

theorem exec_ctberth : exec (.ctberth i w) s = issue s i w 0 (wOp w == 7) (onlyBits w 56 [(0, 1)]) causeCt
    (fun s => s.setCore i { s.core i with hold := .berth (bit w.toNat 0) }) := rfl

theorem exec_sywait : exec (.sywait i w) s = issue s i w 4 (wOp w == 1) (onlyBits w 56 [(50, 6), (0, 16)] && bits w.toNat 0 16 != 0) causeSy
    (fun s => s.setCore i { s.core i with hold := .sywait (bits w.toNat 50 6) (bits w.toNat 0 16) }) := rfl

theorem exec_syfence : exec (.syfence i w) s = issue s i w 4 (wOp w == 3) (onlyBits w 56 []) causeSy
    (fun s => s.setCore i { s.core i with hold := .fence }) := rfl

theorem exec_syset : exec (.syset i w) s = issue s i w 4 (wOp w == 4) (onlyBits w 56 [(50, 6), (0, 16)]) causeSy
    (fun s => (s.setF (tallyFld i (bits w.toNat 50 6)) (bits w.toNat 0 16)).nextPc i) := rfl

section
variable {c : Instr} {cls op cause : Nat} {legal : Bool} {eff : State → State}

/-- A legal word that the core may issue has its effect (R114). -/
theorem exec_of_legal (hexec : exec c s = issue s i w cls (wOp w == op) legal cause eff) (hok : s.issueOk i w = true) (hop : opIs w cls op = true)
    (hlegal : legal = true) : exec c s = .next (eff s) :=
  hexec.trans (issue_of_legal hok (opIs_parts hop).1 (opIs_parts hop).2 hlegal)

/-- An illegal one faults the core in its place (R116, R119, R136). -/
theorem exec_of_illegal (hexec : exec c s = issue s i w cls (wOp w == op) legal cause eff) (hok : s.issueOk i w = true) (hop : opIs w cls op = true)
    (hlegal : legal = false) : exec c s = .next (s.setCore i
      { s.core i with fault := some ⟨cause, s.getF (F.CORE_PC_PC i), s.getF (F.CORE_PROG_K_K i), 0⟩ }) := by
  rw [hexec, issue_of_illegal hok (opIs_parts hop).1 (opIs_parts hop).2 hlegal, progFault_of_issueOk hok]

end

end

end Sys2Proof.Machine
end

section
namespace Sys2Proof.Machine

section
variable {s t u : State} {i : Nat}

/-! ### Retirement in the vector engine (O16) -/

/-- Nothing but what a core holds, its own page and the reliability page's registers, and what clusters hold beside their pages has changed. -/
def RetireOnly (i : Nat) (s t : State) : Prop :=
  t = { s with regs := t.regs, cores := t.cores, clusters := t.clusters } ∧ (∀ j, j ≠ i → t.core j = s.core j) ∧
  SameRegs (fun a => onPage (pgCore i) a ∨ onPage pgRel a) s t

theorem RetireOnly.refl : RetireOnly i s s := ⟨rfl, fun _ _ => rfl, .refl⟩

theorem RetireOnly.trans (h : RetireOnly i s t) (k : RetireOnly i t u) : RetireOnly i s u :=
  ⟨by rw [k.1, h.1], fun j hj => (k.2.1 j hj).trans (h.2.1 j hj), h.2.2.trans k.2.2⟩

theorem RetireOnly.of_onlyCore {p : Nat → Prop} (h : OnlyCore i p s t) (k : ∀ a, p a → onPage (pgCore i) a ∨ onPage pgRel a) : RetireOnly i s t :=
  ⟨by rw [h.1], h.2.2, h.2.1.weaken k⟩

/-- A place in the step limiter is no register, and none of a core's own (R269). -/
theorem RetireOnly.limiterTake (h : RetireOnly i s t) (cycle : Nat) : RetireOnly i s (t.limiterTake i cycle) := by
  obtain ⟨l, hl⟩ := limiterTake_eq t i cycle
  rw [hl]
  exact h.trans ⟨rfl, fun _ _ => rfl, .of_regs rfl⟩

/-! A start of the vector engine, and the contests for banks -/

/-- The state in which an instruction retires: the vector engine has started, with a place in the step limiter after 64 idle cycles (R269). -/
def State.vxBegun (s : State) (i cycle : Nat) : State :=
  if (s.core i).vxOn then s
  else if (s.core i).vxMark + 64 ≤ cycle then (s.setCore i { s.core i with vxOn := true, vxMark := cycle, vxWait := false }).limiterTake i cycle
  else s.setCore i { s.core i with vxOn := true, vxMark := cycle, vxWait := false }

theorem core_limiterTake (s : State) (i cycle j : Nat) : (s.limiterTake i cycle).core j = s.core j := by
  obtain ⟨l, hl⟩ := limiterTake_eq s i cycle
  rw [hl]
  rfl

theorem vxBegun_core (s : State) (i cycle : Nat) : ∃ on mark wait,
    (s.vxBegun i cycle).core i = { s.core i with vxOn := on, vxMark := mark, vxWait := wait } := by
  unfold State.vxBegun
  split
  · exact ⟨_, _, _, rfl⟩
  · split
    · exact ⟨true, cycle, false, by rw [core_limiterTake, State.core_setCore_same]⟩
    · exact ⟨true, cycle, false, State.core_setCore_same i _⟩

theorem vxBegun_only (s : State) (i cycle : Nat) : RetireOnly i s (s.vxBegun i cycle) := by
  have hset (c : CoreState) : RetireOnly i s (s.setCore i c) := .of_onlyCore (p := fun _ => False) (OnlyCore.refl.setCore c) (by simp)
  unfold State.vxBegun
  split
  · exact .refl
  · split
    · exact (hset _).limiterTake cycle
    · exact hset _

/-- Contests for banks change who waits there and count the losers (R132). -/
theorem lsContests_core (l : List BankCycle) (s : State) : ∃ wait, (s.lsContests i l).core i = { s.core i with lsWait := wait } := by
  unfold State.lsContests
  induction l generalizing s with
  | nil => exact ⟨_, rfl⟩
  | cons b l ih =>
    obtain ⟨wait, hwait⟩ := ih (s.lsContest i b)
    exact ⟨wait, by rw [List.foldl_cons, hwait, State.lsContest, State.core_countF, State.core_setCore_same]⟩

theorem lsContests_only (l : List BankCycle) (s : State) : OnlyCore i (onPage (pgCore i)) s (s.lsContests i l) :=
  List.foldlRecOn l _ .refl fun _ h _ _ => (h.setCore _).countF _ (onPage_pgCore (n := 0x158) (by decide))

/-- Where the engine may retire the instruction, it starts if it has to, retires it, and the contests are counted. -/
theorem execVxInstructionRetire_of_may {slot cycle : Nat} {banks : List BankCycle} {e : VxEntry} (h : VxMayRetire s i slot cycle e) :
    exec (.vxInstructionRetire i slot cycle banks) s = .next ((vxRetire i slot e (s.vxBegun i cycle)).lsContests i banks) := by
  obtain ⟨hslot, hmark, hhold, hecl, hstarted, hroom⟩ := h
  have hfree : (!(s.core i).vxOn && decide ((s.core i).vxMark + 64 ≤ cycle) && !s.limiterFree i cycle) = false := by
    obtain hon | hsoon | hfree := hroom
    · simp [hon]
    · simp [show ¬ (s.core i).vxMark + 64 ≤ cycle by omega]
    · simp [hfree]
  show execVxInstructionRetire i slot cycle banks s = _
  simp [execVxInstructionRetire, State.vxBegun, hslot, hmark, hhold, hecl, hstarted, hfree]

/-! What an instruction writes -/

/-- A write of a local store writes the bytes and, where a flip is armed for one of them, marks it (R371). -/
theorem lsPut_core (s : State) (i a : Nat) (l : List Byte) : ∃ flips,
    (s.lsPut i a l).core i = { s.core i with ls := { (s.core i).ls.writeL a l with flips := flips } } := by
  unfold State.lsPut
  dsimp only
  split
  · exact ⟨_, State.core_setCore_same i _⟩
  · split
    · exact ⟨_, by rw [State.flipDone, State.core_setF, State.core_setF, State.core_setCore_same, State.core_setCore_same]⟩
    · exact ⟨_, State.core_setCore_same i _⟩

theorem lsPut_only (s : State) (i a : Nat) (l : List Byte) : RetireOnly i s (s.lsPut i a l) := by
  have hset (u : State) (c : CoreState) : OnlyCore i (onPage pgRel) u (u.setCore i c) := OnlyCore.refl.setCore c
  unfold State.lsPut
  dsimp only
  split
  · exact .of_onlyCore (hset s _) fun _ h => .inr h
  · split
    · exact .of_onlyCore ((((hset s _).setCore _).setF (f := F.G_FLIP_CTRL_ARM) 0 rfl).setF (f := F.G_FLIP_CTRL_DONE) 1 rfl) fun _ h => .inr h
    · exact .of_onlyCore (hset s _) fun _ h => .inr h

theorem lsNote_of_clean {a n : Nat} (h : (s.core i).ls.errors a n = []) : s.lsNote i a n = s := by
  simp [State.lsNote, h]

theorem core_addFlags (s : State) (i : Nat) (f : FpFlags) (j : Nat) : (s.addFlags i f).core j = s.core j := rfl

/-- The state in which an instruction has been counted and has left the queue, its core being `c` otherwise (R123). -/
def State.vxLeft (s : State) (i slot : Nat) (e : VxEntry) (c : CoreState) : State :=
  (s.countF (F.CORE_VX_BUSY_COUNT i) (vxInterval e.word)).setCore i { c with vx := dropAt (s.core i).vx slot }

theorem vxLeft_only (s : State) (i slot : Nat) (e : VxEntry) (c : CoreState) : OnlyCore i (onPage (pgCore i)) s (s.vxLeft i slot e c) :=
  (OnlyCore.refl.countF _ (onPage_pgCore (n := 0x150) (by decide))).setCore _

section
variable {slot : Nat} {e : VxEntry}

theorem vxRetire_store (h : wVxOp e.word = 0x31) : vxRetire i slot e s =
    (s.vxLeft i slot e (s.core i)).lsPut i e.addr (((s.core i).vreg (vA e.word)).flatMap (fun x => toBytes (leBytes 4 x.toNat))) := by
  simp [vxRetire, h, State.vxLeft]

theorem vxRetire_compare (h : wVxOp e.word = 0x0A ∨ wVxOp e.word = 0x0B) : vxRetire i slot e s =
    (s.vxLeft i slot e ((s.core i).setMask (vD e.word) (vxCompare (s.core i) e.word).1)).addFlags i (vxCompare (s.core i) e.word).2 := by
  have hst : wVxOp e.word ≠ 0x31 := by omega
  simp [vxRetire, h, hst, State.vxLeft, CoreState.setMask]

theorem vxRetire_lanes (hlt : wVxOp e.word ≠ 0x0A) (heq : wVxOp e.word ≠ 0x0B) (hst : wVxOp e.word ≠ 0x31)
    (hclean : wVxOp e.word = 0x30 ∨ wVxOp e.word = 0x32 → (s.core i).ls.errors e.addr (vxSpan (wVxOp e.word)) = []) :
    let r := vxResult (s.core i) e.word ((s.core i).ls.deliver e.addr (vxSpan (wVxOp e.word)))
    vxRetire i slot e s = (s.vxLeft i slot e ((s.core i).setVreg (vD e.word) r.1)).addFlags i r.2 := by
  intro r
  have hleft : vxRetire i slot e s = (if wVxOp e.word = 0x30 ∨ wVxOp e.word = 0x32 then
      ((s.vxLeft i slot e ((s.core i).setVreg (vD e.word) r.1)).addFlags i r.2).lsNote i e.addr (vxSpan (wVxOp e.word))
      else (s.vxLeft i slot e ((s.core i).setVreg (vD e.word) r.1)).addFlags i r.2) := by
    simp [vxRetire, hlt, heq, hst, State.vxLeft, CoreState.setVreg, State.lsData, r]
  rw [hleft]
  split
  · next hload =>
    refine lsNote_of_clean ?_
    rw [core_addFlags, State.vxLeft, State.core_setCore_same]
    exact hclean hload
  · rfl

end

theorem addFlags_only (f : FpFlags) (h : RetireOnly i s t) : RetireOnly i s (t.addFlags i f) :=
  h.trans (.of_onlyCore (p := onPage (pgCore i)) (OnlyCore.refl.setWord _ (onPage_pgCore (n := 0x130) (by decide))) fun _ h => .inl h)

/-- Whatever the instruction, its retirement changes its core, the core's page and an armed flip. -/
theorem vxRetire_only (s : State) (i slot : Nat) (e : VxEntry)
    (hclean : wVxOp e.word = 0x30 ∨ wVxOp e.word = 0x32 → (s.core i).ls.errors e.addr (vxSpan (wVxOp e.word)) = []) :
    RetireOnly i s (vxRetire i slot e s) := by
  have hleft (c : CoreState) : RetireOnly i s (s.vxLeft i slot e c) := .of_onlyCore (vxLeft_only s i slot e c) fun _ h => .inl h
  by_cases hst : wVxOp e.word = 0x31
  · rw [vxRetire_store hst]
    exact (hleft _).trans (lsPut_only _ i _ _)
  by_cases hcmp : wVxOp e.word = 0x0A ∨ wVxOp e.word = 0x0B
  · rw [vxRetire_compare hcmp]
    exact addFlags_only _ (hleft _)
  · rw [vxRetire_lanes (fun h => hcmp (.inl h)) (fun h => hcmp (.inr h)) hst hclean]
    exact addFlags_only _ (hleft _)

@[simp] theorem vreg_setVreg_same (c : CoreState) (r : Nat) (v : List Word) : (c.setVreg r v).vreg r = v := by
  simp [CoreState.vreg, CoreState.setVreg]

theorem vreg_setVreg_ne (c : CoreState) {r d : Nat} (v : List Word) (h : r ≠ d) : (c.setVreg d v).vreg r = c.vreg r := by
  simp [CoreState.vreg, CoreState.setVreg, tabGet_tabPut_ne _ _ h]

theorem mask_setMask_same (c : CoreState) {m : Nat} (v : Word64) (h : m ≠ 0) : (c.setMask m v).mask m = v := by
  simp [CoreState.mask, CoreState.setMask, h]

theorem mask_setMask_ne (c : CoreState) {m d : Nat} (v : Word64) (h : m ≠ d) : (c.setMask d v).mask m = c.mask m := by
  simp [CoreState.mask, CoreState.setMask, tabGet_tabPut_ne _ _ h]

/-- What the core `k` holds once the instruction has retired, beside a start of the engine and waits for banks: its result is written, and it has left the queue (R121 to R125). -/
structure VxWrote (c k : CoreState) (slot : Nat) (e : VxEntry) : Prop where
  vx : k.vx = dropAt c.vx slot
  scalars : k.scalars = c.scalars
  hold : k.hold = c.hold
  fault : k.fault = c.fault
  compare : wVxOp e.word = 0x0A ∨ wVxOp e.word = 0x0B → (vD e.word ≠ 0 → k.mask (vD e.word) = (vxCompare c e.word).1) ∧
    (∀ m, m ≠ vD e.word → k.mask m = c.mask m) ∧ k.vregs = c.vregs ∧ k.ls = c.ls
  store : wVxOp e.word = 0x31 → k.vregs = c.vregs ∧ k.masks = c.masks ∧ ∃ flips,
    k.ls = { c.ls.writeL e.addr ((c.vreg (vA e.word)).flatMap (fun x => toBytes (leBytes 4 x.toNat))) with flips := flips }
  lanes : wVxOp e.word ≠ 0x0A → wVxOp e.word ≠ 0x0B → wVxOp e.word ≠ 0x31 →
    k.vreg (vD e.word) = (vxResult c e.word (c.ls.deliver e.addr (vxSpan (wVxOp e.word)))).1 ∧ VregsBut (vD e.word) c k ∧
    k.masks = c.masks ∧ k.ls = c.ls

theorem vxRetire_wrote (s : State) (i slot : Nat) (e : VxEntry)
    (hclean : wVxOp e.word = 0x30 ∨ wVxOp e.word = 0x32 → (s.core i).ls.errors e.addr (vxSpan (wVxOp e.word)) = []) :
    VxWrote (s.core i) ((vxRetire i slot e s).core i) slot e := by
  by_cases hst : wVxOp e.word = 0x31
  · obtain ⟨flips, hput⟩ := lsPut_core (s.vxLeft i slot e (s.core i)) i e.addr
      (((s.core i).vreg (vA e.word)).flatMap (fun x => toBytes (leBytes 4 x.toNat)))
    rw [vxRetire_store hst, hput, State.vxLeft, State.core_setCore_same]
    exact ⟨rfl, rfl, rfl, rfl, by omega, fun _ => ⟨rfl, rfl, flips, rfl⟩, fun _ _ h => absurd hst h⟩
  by_cases hcmp : wVxOp e.word = 0x0A ∨ wVxOp e.word = 0x0B
  · rw [vxRetire_compare hcmp, core_addFlags, State.vxLeft, State.core_setCore_same]
    exact ⟨rfl, rfl, rfl, rfl, fun _ => ⟨mask_setMask_same _ _, fun _ hm => mask_setMask_ne _ _ hm, rfl, rfl⟩, fun h => absurd h hst, by omega⟩
  · rw [vxRetire_lanes (fun h => hcmp (.inl h)) (fun h => hcmp (.inr h)) hst hclean, core_addFlags, State.vxLeft, State.core_setCore_same]
    exact ⟨rfl, rfl, rfl, rfl, fun h => absurd h hcmp, fun h => absurd h hst,
      fun _ _ _ => ⟨vreg_setVreg_same _ _ _, fun _ hr => vreg_setVreg_ne _ _ hr, rfl, rfl⟩⟩

/-- The bytes of a memory do not depend on the marks of its codewords. -/
theorem read_writeL_flips_in (m : Memory) (flips : Tab Nat) {l : List Byte} {a k : Nat} {b : Byte} (h : l[k]? = some b) :
    ({ m.writeL a l with flips := flips } : Memory).read (a + k) = b :=
  m.read_writeL_in l a k b h

theorem read_writeL_flips_out (m : Memory) (flips : Tab Nat) {l : List Byte} {a k : Nat} (h : k < a ∨ a + l.length ≤ k) :
    ({ m.writeL a l with flips := flips } : Memory).read k = m.read k :=
  m.read_writeL_out l a k h

/-- Settles O16: the engine starts if it has to (`vxBegun_core`), the instruction writes its one result (`vxRetire_wrote`), and the
contests for banks touch none of it (`lsContests_core`). -/
theorem vxRetire_settled : Obligations.VxRetire := by
  intro i slot cycle banks s e hmay c op hclean
  refine ⟨_, execVxInstructionRetire_of_may hmay, ?_⟩
  obtain ⟨on, mark, wait, hbegun⟩ := vxBegun_core s i cycle
  obtain ⟨lsWait, hcontests⟩ := lsContests_core (i := i) banks (vxRetire i slot e (s.vxBegun i cycle))
  have hclean' : wVxOp e.word = 0x30 ∨ wVxOp e.word = 0x32 → ((s.vxBegun i cycle).core i).ls.errors e.addr (vxSpan (wVxOp e.word)) = [] := by
    rwa [hbegun]
  have honly : RetireOnly i s ((vxRetire i slot e (s.vxBegun i cycle)).lsContests i banks) :=
    ((vxBegun_only s i cycle).trans (vxRetire_only _ i slot e hclean')).trans (.of_onlyCore (lsContests_only banks _) fun _ h => .inl h)
  obtain ⟨hvx, hscalars, hhold, hfault, hcompare, hstore, hlanes⟩ := vxRetire_wrote _ i slot e hclean'
  rw [hbegun] at hvx hscalars hhold hfault hcompare hstore hlanes
  simp only [hcontests]
  refine ⟨hvx, hscalars, hhold, hfault, hcompare, fun hst => ?_, hlanes, honly⟩
  obtain ⟨hvregs, hmasks, flips, hls⟩ := hstore hst
  refine ⟨hvregs, hmasks, fun n b hb => ?_, fun a ha => ?_⟩
  · rw [hls]
    exact read_writeL_flips_in _ flips hb
  · rw [hls]
    exact read_writeL_flips_out _ flips ha

end

end Sys2Proof.Machine
end

section
namespace Sys2Proof.Machine

section
variable {s t u : State} {e : Nat}

/-! ### Rules of the event rings -/

/-- The registers that show what waits at a ring: EVT_PENDING and EVT_STAGED (R334). -/
def waitReg (e a : Nat) : Prop := a = pgEvt e + 0x114 ∨ a = pgEvt e + 0x120


theorem waitReg_lt {a : Nat} (h : waitReg e a) : pgEvt e + 0x114 ≤ a ∧ a ≤ pgEvt e + 0x120 := by
  unfold waitReg at h
  omega

@[simp] theorem ring_setF (s : State) (f : Fld) (v e : Nat) : (s.setF f v).ring e = s.ring e := rfl
@[simp] theorem ring_orF (s : State) (f : Fld) (v e : Nat) : (s.orF f v).ring e = s.ring e := rfl
@[simp] theorem ring_countF (s : State) (f : Fld) (n e : Nat) : (s.countF f n).ring e = s.ring e := rfl
@[simp] theorem ring_wrapF (s : State) (f : Fld) (n e : Nat) : (s.wrapF f n).ring e = s.ring e := rfl

@[simp] theorem ring_setRing (s : State) (e : Nat) (r : RingState) : (s.setRing e r).ring e = r := by
  simp [State.setRing, State.ring]

theorem setRing_same (s : State) (e : Nat) (r : RingState) : SameRegs (waitReg e) s (s.setRing e r) :=
  SameRegs.setF (t := { s with rings := tabPut s.rings e r }) (.of_regs rfl) _ (.inr rfl)

theorem getF_setRing_staged (s : State) (e : Nat) {r : RingState} (h : r.staged.length < 32) :
    (s.setRing e r).getF (F.EVT_STAGED_COUNT e) = r.staged.length :=
  getF_setF (f := F.EVT_STAGED_COUNT e) h (by decide : 0 + 5 ≤ 32)

theorem getF_setRing_pending (s : State) (e : Nat) (r : RingState) : (s.setRing e r).getF (F.EVT_PENDING_MASK e) = s.getF (F.EVT_PENDING_MASK e) :=
  getF_of_word (State.word_setF_ne _ (by simp [F.EVT_PENDING_MASK, F.EVT_STAGED_COUNT]) _)

/-- A ring is full by its counts and its size alone. -/
theorem ringFull_congr (h : SameRegs (waitReg e) s t) : t.ringFull e = s.ringFull e := by
  have hlog : t.getF (F.EVT_CFG_LOG2 e) = s.getF (F.EVT_CFG_LOG2 e) := h.getF (by simp [waitReg, F.EVT_CFG_LOG2, pgEvt])
  have htail : t.getF (F.EVT_TAIL_COUNT e) = s.getF (F.EVT_TAIL_COUNT e) := h.getF (by simp [waitReg, F.EVT_TAIL_COUNT, pgEvt])
  have hhead : t.getF (F.EVT_HEAD_COUNT e) = s.getF (F.EVT_HEAD_COUNT e) := h.getF (by simp [waitReg, F.EVT_HEAD_COUNT, pgEvt])
  simp only [State.ringFull, hlog, htail, hhead]

/-! The next record starts -/

theorem ringKick_of_full (h : s.ringFull e = true) : s.ringKick e = s := by
  simp [State.ringKick, h]

theorem ringKick_of_busy (h : (s.ring e).inProgress.isSome = true) : s.ringKick e = s := by
  simp [State.ringKick, h]

/-- The summary of the classes that wait, with the count of lost events (R334). -/
def State.summaryOf (s : State) (e : Nat) : EvRec := ⟨0x0F, 0, e, s.getF (F.EVT_PENDING_MASK e), s.orbit, 0, (s.ring e).lost, 15⟩

theorem ringKick_of_pending (hidle : (s.ring e).inProgress = none) (hroom : s.ringFull e = false) (hmask : s.getF (F.EVT_PENDING_MASK e) ≠ 0) :
    s.ringKick e = (s.setRing e { s.ring e with inProgress := some (s.summaryOf e), lost := 0 }).setF (F.EVT_PENDING_MASK e) 0 := by
  simp [State.ringKick, State.summaryOf, hidle, hroom, hmask]

theorem ringKick_of_staged (hidle : (s.ring e).inProgress = none) (hroom : s.ringFull e = false) (hmask : s.getF (F.EVT_PENDING_MASK e) = 0)
    {ev : EvRec} {rest : List EvRec} (hstaged : (s.ring e).staged = ev :: rest) :
    s.ringKick e = s.setRing e { s.ring e with inProgress := some ev, staged := rest } := by
  simp [State.ringKick, hidle, hroom, hmask, hstaged]

theorem ringKick_of_empty (hmask : s.getF (F.EVT_PENDING_MASK e) = 0) (hstaged : (s.ring e).staged = []) : s.ringKick e = s := by
  simp [State.ringKick, hmask, hstaged]

theorem ringKick_same (s : State) (e : Nat) : SameRegs (waitReg e) s (s.ringKick e) := by
  unfold State.ringKick
  dsimp only
  split
  · exact .refl
  split
  · exact (setRing_same s e _).setF _ (.inl rfl)
  split
  · exact .refl
  · exact setRing_same s e _

/-- What an idle ring does where it may start a record (R334). -/
structure RingStarts (e : Nat) (s t : State) : Prop where
  full : t.ringFull e = true → (t.ring e).inProgress = none ∧ (t.ring e).staged = (s.ring e).staged ∧ (t.ring e).lost = (s.ring e).lost
  summary : t.ringFull e = false → s.getF (F.EVT_PENDING_MASK e) ≠ 0 → (t.ring e).inProgress = some (s.summaryOf e) ∧
    (t.ring e).staged = (s.ring e).staged ∧ (t.ring e).lost = 0 ∧ t.getF (F.EVT_PENDING_MASK e) = 0
  oldest : t.ringFull e = false → s.getF (F.EVT_PENDING_MASK e) = 0 →
    (t.ring e).inProgress = (s.ring e).staged.head? ∧ (t.ring e).staged = (s.ring e).staged.tail

theorem ringKick_starts (hidle : (s.ring e).inProgress = none) : RingStarts e s (s.ringKick e) := by
  have hfull : (s.ringKick e).ringFull e = s.ringFull e := ringFull_congr (ringKick_same s e)
  refine ⟨fun h => ?_, fun h hmask => ?_, fun h hmask => ?_⟩ <;> rw [hfull] at h
  · rw [ringKick_of_full h]
    exact ⟨hidle, rfl, rfl⟩
  · rw [ringKick_of_pending hidle h hmask, ring_setF, ring_setRing]
    exact ⟨rfl, rfl, rfl, getF_setF (f := F.EVT_PENDING_MASK e) (by decide : 0 < 2 ^ 16) (by decide : 0 + 16 ≤ 32)⟩
  · cases hstaged : (s.ring e).staged with
    | nil =>
      rw [ringKick_of_empty hmask hstaged]
      exact ⟨hidle, hstaged⟩
    | cons ev rest =>
      rw [ringKick_of_staged hidle h hmask hstaged, ring_setRing]
      exact ⟨rfl, rfl⟩

/-- A start changes what is in progress, what is staged and what is lost; the holdoff runs on. -/
theorem ringKick_ring (s : State) (e : Nat) : ∃ now staged lost, (s.ringKick e).ring e = { s.ring e with inProgress := now, staged := staged, lost := lost } := by
  unfold State.ringKick
  dsimp only
  split
  · exact ⟨_, _, _, rfl⟩
  split
  · exact ⟨_, _, _, by rw [ring_setF, ring_setRing]⟩
  split
  · exact ⟨_, _, _, rfl⟩
  · exact ⟨_, _, _, ring_setRing s e _⟩

/-! An event reaches a ring -/

/-- A full staging queue or ring counts the event and keeps its class (R334). -/
theorem postTo_of_full {ev : EvRec} (hon : s.on (F.EVT_CFG_EN e) = true) (hfull : 16 ≤ (s.ring e).staged.length ∨ s.ringFull e = true) :
    s.postTo e ev = ((s.setRing e { s.ring e with lost := (s.ring e).lost + 1 }).orF (F.EVT_PENDING_MASK e) (2 ^ ev.cls)).countF
      (F.EVT_FLOOD_COUNT e) 1 := by
  simp only [State.postTo, hon]
  rcases hfull with h | h <;> simp [h]

/-- Otherwise the event is staged, and may start (R334). -/
theorem postTo_of_room {ev : EvRec} (hon : s.on (F.EVT_CFG_EN e) = true) (hstaged : (s.ring e).staged.length < 16) (hroom : s.ringFull e = false) :
    s.postTo e ev = (s.setRing e { s.ring e with staged := (s.ring e).staged ++ [ev] }).ringKick e := by
  simp [State.postTo, hon, hroom, Nat.not_le.mpr hstaged]

theorem getF_orF_pending (s : State) (e n : Nat) (h : n < 16) :
    (s.orF (F.EVT_PENDING_MASK e) (2 ^ n)).getF (F.EVT_PENDING_MASK e) = Nat.lor (s.getF (F.EVT_PENDING_MASK e)) (2 ^ n) := by
  have hmask : Nat.lor (s.getF (F.EVT_PENDING_MASK e)) (2 ^ n) < 2 ^ 16 :=
    Nat.or_lt_two_pow (s.getF_lt (F.EVT_PENDING_MASK e)) (Nat.pow_lt_pow_right (by decide) h)
  exact (State.getF_orF_same s (f := F.EVT_PENDING_MASK e) (by decide : 0 + 16 ≤ 32) _).trans (Nat.mod_eq_of_lt hmask)

theorem pending_apart_flood (e : Nat) : (F.EVT_PENDING_MASK e).apart (F.EVT_FLOOD_COUNT e) :=
  .inl (by simp [F.EVT_FLOOD_COUNT, F.EVT_PENDING_MASK])

theorem flood_apart_pending (e : Nat) : (F.EVT_FLOOD_COUNT e).apart (F.EVT_PENDING_MASK e) :=
  .inl (by simp [F.EVT_FLOOD_COUNT, F.EVT_PENDING_MASK])

/-- A ring does with an event what R334 says, for every class of R334. -/
theorem postTo_takes (s : State) (e : Nat) {ev : EvRec} (hcls : ev.cls < 16) : RingTakes e ev s (s.postTo e ev) := by
  refine ⟨fun hoff => by rw [State.postTo, hoff]; rfl, fun hon hfull => ?_, fun hon hstaged hroom => ?_⟩
  · rw [postTo_of_full hon hfull]
    refine ⟨by rw [ring_countF, ring_orF, ring_setRing], ?_, ?_⟩
    · rw [State.getF_countF_apart _ (f := F.EVT_FLOOD_COUNT e) (by decide : 0 + 32 ≤ 32) (flood_apart_pending e), getF_orF_pending _ e _ hcls,
        getF_setRing_pending]
    · rw [getF_countF (f := F.EVT_FLOOD_COUNT e) (by decide : 0 + 32 ≤ 32),
        State.getF_orF_apart _ (f := F.EVT_PENDING_MASK e) (by decide : 0 + 16 ≤ 32) (pending_apart_flood e),
        (setRing_same s e _).getF (by simp [waitReg, F.EVT_FLOOD_COUNT, pgEvt])]
  · rw [postTo_of_room hon hstaged hroom]
    refine ⟨fun hbusy => ?_, fun hidle hmask hempty => ?_⟩
    · rw [ringKick_of_busy (by rw [ring_setRing]; exact hbusy), ring_setRing, getF_setRing_staged _ _ (by rw [List.length_append, List.length_singleton]; omega)]
      exact ⟨rfl, List.length_append⟩
    · rw [ringKick_of_staged (ev := ev) (rest := []) (by rw [ring_setRing]; exact hidle) ((ringFull_congr (setRing_same s e _)).trans hroom)
        ((getF_setRing_pending s e _).trans hmask) (by rw [ring_setRing, hempty]; rfl), ring_setRing, ring_setRing, hempty]

/-- The registers of a ring beyond its page's header. -/
def ringReg (e a : Nat) : Prop := pgEvt e + 0x100 ≤ a ∧ a < pgEvt e + 0x124

/-- What a ring does with an event depends on the rings and on the ring's own registers. -/
theorem RingTakes.congr {ev : EvRec} {s' t' : State} (h : RingTakes e ev s t) (hs : s'.rings = s.rings) (ht : t'.rings = t.rings)
    (hsw : ∀ a, ringReg e a → s'.word a = s.word a) (htw : ∀ a, ringReg e a → t'.word a = t.word a) : RingTakes e ev s' t' := by
  have hring (x y : State) (h : x.rings = y.rings) : x.ring e = y.ring e := by rw [State.ring, h, State.ring]
  have hfull : s'.ringFull e = s.ringFull e := by
    have hf (f : Fld) (hf : ringReg e f.addr) : s'.getF f = s.getF f := getF_of_word (hsw _ hf)
    simp only [State.ringFull, hf (F.EVT_CFG_LOG2 e) (by simp [ringReg, F.EVT_CFG_LOG2, pgEvt]),
      hf (F.EVT_TAIL_COUNT e) (by simp [ringReg, F.EVT_TAIL_COUNT, pgEvt]), hf (F.EVT_HEAD_COUNT e) (by simp [ringReg, F.EVT_HEAD_COUNT, pgEvt])]
  have hon : s'.on (F.EVT_CFG_EN e) = s.on (F.EVT_CFG_EN e) := on_of_word (hsw _ (by simp [ringReg, F.EVT_CFG_EN, pgEvt]))
  have hmask : s'.getF (F.EVT_PENDING_MASK e) = s.getF (F.EVT_PENDING_MASK e) := getF_of_word (hsw _ (by simp [ringReg, F.EVT_PENDING_MASK, pgEvt]))
  have hflood : s'.getF (F.EVT_FLOOD_COUNT e) = s.getF (F.EVT_FLOOD_COUNT e) := getF_of_word (hsw _ (by simp [ringReg, F.EVT_FLOOD_COUNT, pgEvt]))
  have hmask' : t'.getF (F.EVT_PENDING_MASK e) = t.getF (F.EVT_PENDING_MASK e) := getF_of_word (htw _ (by simp [ringReg, F.EVT_PENDING_MASK, pgEvt]))
  have hflood' : t'.getF (F.EVT_FLOOD_COUNT e) = t.getF (F.EVT_FLOOD_COUNT e) := getF_of_word (htw _ (by simp [ringReg, F.EVT_FLOOD_COUNT, pgEvt]))
  have hstaged' : t'.getF (F.EVT_STAGED_COUNT e) = t.getF (F.EVT_STAGED_COUNT e) := getF_of_word (htw _ (by simp [ringReg, F.EVT_STAGED_COUNT, pgEvt]))
  unfold RingTakes
  rwa [hring s' s hs, hring t' t ht, hfull, hon, hmask, hflood, hmask', hflood', hstaged']

end

end Sys2Proof.Machine
end

section
namespace Sys2Proof.Machine

section
variable {s t u : State} {e : Nat}

/-! ### Event records, their messages and the writes that a ring takes (O49) -/

/-! The message of a vector -/

/-- What a signalled vector sends: its message, or nothing where it may not be sent now (R333). -/
def State.msixMsgs (s : State) (f v : Nat) : List Egress :=
  if s.msixOpen f v = true then [.msix f v (s.msixEntry f v).1 (s.msixEntry f v).2.1] else []

theorem msixMsgs_congr (h : t.host = s.host) (f v : Nat) : t.msixMsgs f v = s.msixMsgs f v := by
  have hentry : t.msixEntry f v = s.msixEntry f v := by rw [State.msixEntry, h, State.msixEntry]
  have hopen : t.msixOpen f v = s.msixOpen f v := by simp only [State.msixOpen, State.busMaster, State.cfg, hentry, h]
  rw [State.msixMsgs, hopen, hentry, State.msixMsgs]

/-- Signalling a vector sends what it sends, keeps it pending where it is masked, and changes nothing else (R333). -/
theorem sendMsix_eq (s : State) (f v : Nat) : ∃ pba, s.sendMsix f v = { s with egress := s.egress ++ s.msixMsgs f v, host := { s.host with pba := pba } } ∧
    ((s.cfg f).msixOn = true → s.msixOpen f v = false → 64 * f + v ∈ pba) := by
  unfold State.sendMsix State.msixMsgs
  by_cases hon : (s.cfg f).msixOn = true
  · by_cases hopen : s.msixOpen f v = true
    · exact ⟨s.host.pba, by simp [hon, hopen, State.msixOut], by simp [hopen]⟩
    · by_cases hpend : 64 * f + v ∈ s.host.pba
      · exact ⟨s.host.pba, by simp [hon, hopen, hpend], fun _ _ => hpend⟩
      · exact ⟨s.host.pba ++ [64 * f + v], by simp [hon, hopen, hpend], fun _ _ => by simp⟩
  · have hopen : s.msixOpen f v = false := by simp [State.msixOpen, hon]
    exact ⟨s.host.pba, by simp [hon, hopen], fun h => absurd h hon⟩

/-- A vector that is enabled and may not be sent is pending (R333). -/
def MsixPends (f v : Nat) (s t : State) : Prop := (s.cfg f).msixOn = true → s.msixOpen f v = false → 64 * f + v ∈ t.host.pba

/-- What the message of a record does: sent at once without a running holdoff, and owed within one; with a holdoff time it starts one (R333). -/
structure RingMessaged (e : Nat) (s t : State) : Prop where
  egress : t.egress = s.egress ++
    if s.getF (F.EVT_IRQ_HOLDOFF_US e) = 0 ∨ (s.ring e).holdFrom = none then s.msixMsgs (s.getF (F.EVT_CFG_FN e)) (s.getF (F.EVT_CFG_VEC e)) else []
  pends : s.getF (F.EVT_IRQ_HOLDOFF_US e) = 0 ∨ (s.ring e).holdFrom = none → MsixPends (s.getF (F.EVT_CFG_FN e)) (s.getF (F.EVT_CFG_VEC e)) s t
  holds : s.getF (F.EVT_IRQ_HOLDOFF_US e) ≠ 0 →
    (t.ring e).holdFrom = some ((s.ring e).holdFrom.getD s.now) ∧ ((s.ring e).holdFrom.isSome = true → (t.ring e).owed = true)
  ring : ∃ hold owed, t.ring e = { s.ring e with holdFrom := hold, owed := owed }
  regs : SameRegs (waitReg e) s t
  pending : t.getF (F.EVT_PENDING_MASK e) = s.getF (F.EVT_PENDING_MASK e)
  orb : t.orb = s.orb

theorem ringMsg_eq (s : State) (e : Nat) : ∃ pba, s.ringMsg e =
    { s with egress := s.egress ++ s.msixMsgs (s.getF (F.EVT_CFG_FN e)) (s.getF (F.EVT_CFG_VEC e)), host := { s.host with pba := pba } } ∧
    ((s.cfg (s.getF (F.EVT_CFG_FN e))).msixOn = true → s.msixOpen (s.getF (F.EVT_CFG_FN e)) (s.getF (F.EVT_CFG_VEC e)) = false →
      64 * s.getF (F.EVT_CFG_FN e) + s.getF (F.EVT_CFG_VEC e) ∈ pba) :=
  sendMsix_eq s _ _

/-- The message of a ring is that of the same vector after what the ring holds has been set. -/
theorem ringMsg_setRing (s : State) (e : Nat) (r : RingState) : ∃ pba, (s.setRing e r).ringMsg e =
    { s.setRing e r with egress := s.egress ++ s.msixMsgs (s.getF (F.EVT_CFG_FN e)) (s.getF (F.EVT_CFG_VEC e)), host := { s.host with pba := pba } } ∧
    ((s.cfg (s.getF (F.EVT_CFG_FN e))).msixOn = true → s.msixOpen (s.getF (F.EVT_CFG_FN e)) (s.getF (F.EVT_CFG_VEC e)) = false →
      64 * s.getF (F.EVT_CFG_FN e) + s.getF (F.EVT_CFG_VEC e) ∈ pba) := by
  obtain ⟨pba, heq, hpend⟩ := ringMsg_eq (s.setRing e r) e
  have hfn : (s.setRing e r).getF (F.EVT_CFG_FN e) = s.getF (F.EVT_CFG_FN e) := (setRing_same s e r).getF (by simp [waitReg, F.EVT_CFG_FN, pgEvt])
  have hvec : (s.setRing e r).getF (F.EVT_CFG_VEC e) = s.getF (F.EVT_CFG_VEC e) := (setRing_same s e r).getF (by simp [waitReg, F.EVT_CFG_VEC, pgEvt])
  rw [hfn, hvec] at heq hpend
  refine ⟨pba, ?_, hpend⟩
  rw [heq, msixMsgs_congr (s := s) rfl]
  rfl

theorem ringIrq_messaged (s : State) (e : Nat) : RingMessaged e s (s.ringIrq e) := by
  unfold State.ringIrq
  split
  · next hzero =>
    obtain ⟨pba, heq, hpend⟩ := ringMsg_eq s e
    rw [heq]
    exact ⟨by rw [if_pos (.inl hzero)], fun _ => hpend, fun h => absurd hzero h, ⟨_, _, rfl⟩, .of_regs rfl, rfl, rfl⟩
  · next hnonzero =>
    dsimp only
    split
    · next hold =>
      refine ⟨?_, fun h => ?_, fun _ => ⟨?_, fun _ => ?_⟩, ⟨(s.ring e).holdFrom, true, ?_⟩, setRing_same s e _, getF_setRing_pending s e _, rfl⟩
      · simp [hnonzero, hold]
      · simp [hnonzero, hold] at h
      · simp [hold]
      · simp
      · simp
    · next hold =>
      obtain ⟨pba, heq, hpend⟩ := ringMsg_setRing s e { s.ring e with holdFrom := some s.now }
      rw [heq]
      exact ⟨by rw [if_pos (.inr hold)], fun _ => hpend, fun _ => ⟨by rw [hold]; exact congrArg RingState.holdFrom (ring_setRing s e _), by simp [hold]⟩,
        ⟨some s.now, (s.ring e).owed, ring_setRing s e _⟩, setRing_same s e _, getF_setRing_pending s e _, rfl⟩

/-! The bytes of a record -/

theorem length_leBytes (n v : Nat) : (leBytes n v).length = n := by
  induction n generalizing v with
  | zero => rfl
  | succ n ih => rw [leBytes, List.length_cons, ih]

theorem leNat_leBytes (n v : Nat) : leNat (leBytes n v) = v % 256 ^ n := by
  induction n generalizing v with
  | zero => simp [leBytes, leNat, Nat.mod_one]
  | succ n ih => rw [leBytes, leNat, ih, pow_succ', Nat.mod_mul]

theorem lt_of_mem_leBytes {n v b : Nat} (h : b ∈ leBytes n v) : b < 256 := by
  induction n generalizing v with
  | zero => simp [leBytes] at h
  | succ n ih =>
    rw [leBytes, List.mem_cons] at h
    obtain rfl | h := h
    · exact Nat.mod_lt _ (by decide)
    · exact ih h

theorem map_toNat_toBytes {l : List Nat} (h : ∀ b ∈ l, b < 256) : (toBytes l).map BitVec.toNat = l := by
  rw [toBytes, List.map_map]
  refine (List.map_congr_left fun b hb => ?_).trans (List.map_id l)
  simp [Nat.mod_eq_of_lt (h b hb)]

/-- A number written little-endian among bytes is read back from its place. -/
theorem leNat_drop_take {l pre post : List Nat} {o n v : Nat} (hl : l = pre ++ leBytes n v ++ post) (ho : pre.length = o) :
    leNat ((l.drop o).take n) = v % 256 ^ n := by
  subst hl ho
  rw [List.append_assoc, List.drop_left, List.take_left' (length_leBytes n v), leNat_leBytes]

/-- KIND and FLAGS, the first two bytes of a record; PHASE is the top bit of FLAGS (R332). -/
def recordHead (r : EvRec) (log2 tail : Nat) : List Nat := [r.kind % 256, (r.flags + 128 * ((tail / 2 ^ log2 + 1) % 2)) % 256]

theorem map_toNat_recordBytes (r : EvRec) (log2 tail : Nat) : (recordBytes r log2 tail).map BitVec.toNat =
    recordHead r log2 tail ++ leBytes 2 r.src ++ leBytes 4 r.code ++ leBytes 8 r.orbit ++ leBytes 8 r.data0 ++ leBytes 4 r.data1 ++ leBytes 4 tail := by
  refine map_toNat_toBytes fun b hb => ?_
  simp only [List.mem_append, List.mem_cons, List.not_mem_nil, or_false] at hb
  obtain (((((((rfl | rfl) | h) | h) | h) | h) | h) | h) := hb
  · exact Nat.mod_lt _ (by decide)
  · exact Nat.mod_lt _ (by decide)
  all_goals exact lt_of_mem_leBytes h

theorem recordBytes_fields (ev : EvRec) (log2 tail : Nat) :
    let d := (recordBytes ev log2 tail).map BitVec.toNat
    let field (o n : Nat) : Nat := leNat ((d.drop o).take n)
    d.length = 32 ∧ field 0 1 = ev.kind % 256 ∧ field 1 1 % 128 = ev.flags % 128 ∧ field 2 2 = ev.src % 2 ^ 16 ∧ field 4 4 = ev.code % 2 ^ 32 ∧
    field 8 8 = ev.orbit % 2 ^ 64 ∧ field 16 8 = ev.data0 % 2 ^ 64 ∧ field 24 4 = ev.data1 % 2 ^ 32 ∧ field 28 4 = tail % 2 ^ 32 ∧
    (ev.flags < 128 → field 1 1 / 128 = (if tail / 2 ^ log2 % 2 = 0 then 1 else 0)) := by
  intro d field
  have hd : d = _ := map_toNat_recordBytes ev log2 tail
  have hflags : field 1 1 = (ev.flags + 128 * ((tail / 2 ^ log2 + 1) % 2)) % 256 := by
    show leNat ((d.drop 1).take 1) = _
    rw [hd]
    rfl
  refine ⟨?_, ?_, ?_, ?_, ?_, ?_, ?_, ?_, ?_, fun hplain => ?_⟩
  · rw [hd]
    simp [recordHead, length_leBytes]
  · show leNat ((d.drop 0).take 1) = _
    rw [hd]
    rfl
  · rw [hflags]
    omega
  · exact leNat_drop_take (pre := recordHead ev log2 tail) (by rw [hd]; simp only [List.append_assoc]; rfl) rfl
  · exact leNat_drop_take (pre := recordHead ev log2 tail ++ leBytes 2 ev.src) (by rw [hd]; simp only [List.append_assoc]; rfl) (by simp [recordHead, length_leBytes])
  · exact leNat_drop_take (pre := recordHead ev log2 tail ++ leBytes 2 ev.src ++ leBytes 4 ev.code) (by rw [hd]; simp only [List.append_assoc]; rfl)
      (by simp [recordHead, length_leBytes])
  · exact leNat_drop_take (pre := recordHead ev log2 tail ++ leBytes 2 ev.src ++ leBytes 4 ev.code ++ leBytes 8 ev.orbit)
      (by rw [hd]; simp only [List.append_assoc]; rfl) (by simp [recordHead, length_leBytes])
  · exact leNat_drop_take (pre := recordHead ev log2 tail ++ leBytes 2 ev.src ++ leBytes 4 ev.code ++ leBytes 8 ev.orbit ++ leBytes 8 ev.data0)
      (by rw [hd]) (by simp [recordHead, length_leBytes])
  · exact leNat_drop_take (post := []) (pre := recordHead ev log2 tail ++ leBytes 2 ev.src ++ leBytes 4 ev.code ++ leBytes 8 ev.orbit ++ leBytes 8 ev.data0 ++
      leBytes 4 ev.data1) (by rw [hd, List.append_nil]) (by simp [recordHead, length_leBytes])
  · rw [hflags]
    split <;> omega

/-! Whole writes -/

/-- An admitted write of a function outside the management view is counted where a field of the register is the view's own (R315). -/
theorem admitted_cases {who : Requester} {a m : Nat} {v : Word} (h : s.admitted who a v = (u, some m)) :
    u = s ∨ ∃ ctrl only, m = 0xFFFFFFFF - Nat.lor ctrl only ∧ only ≠ 0 := by
  unfold State.admitted at h
  split at h
  · cases h
  cases hreg : regAt a with
  | none => simp [hreg] at h
  | some r =>
    obtain ⟨k, n, d⟩ := r
    simp only [hreg] at h
    split at h
    · split at h
      · split at h <;> simp at h
        exact .inl h.1.symm
      · exact .inl (Prod.mk.inj h).1.symm
    · cases who with
      | fn f =>
        dsimp only at h
        split at h
        · simp at h
        split at h
        · simp at h
        split at h
        · next hview =>
          refine .inr ⟨_, mgmtOnlyBits k (a % 0x1000), (Option.some.inj (Prod.mk.inj h).2).symm, fun h0 => ?_⟩
          simp [h0, bits] at hview
        · exact .inl (Prod.mk.inj h).1.symm
      | ensign => simp at h
      | i3c => simp at h

/-- A write admitted with every bit finds the state as it was. -/
theorem eq_of_admitted_whole {who : Requester} {a : Nat} {v : Word} (h : Admitted s u who a 0xFFFFFFFF v) : u = s := by
  obtain ⟨m, hm, hall⟩ := h
  obtain hsame | ⟨ctrl, only, hmask, honly⟩ := admitted_cases hm
  · exact hsame
  · have hle : 0xFFFFFFFF ≤ m := hall ▸ Nat.and_le_left
    have hor : Nat.lor ctrl only = 0 := by omega
    exact absurd (Nat.or_eq_zero_iff.mp hor).2 honly

/-- A whole write gives a plain field of 32 bits the word (R11). -/
theorem fieldWritten_whole (r : RVal) (v : Word) (cur : Nat) : fieldWritten 0xFFFFFFFF ⟨0, 32, .rw, r, none⟩ v.toNat cur = v.toNat := by
  have hmask : bits 0xFFFFFFFF 0 32 = 0xFFFFFFFF := by decide
  have hv : bits v.toNat 0 32 = v.toNat := Nat.mod_eq_of_lt v.isLt
  have hall : Nat.land v.toNat 0xFFFFFFFF = v.toNat := (Nat.and_two_pow_sub_one_eq_mod v.toNat 32).trans (Nat.mod_eq_of_lt v.isLt)
  have hnone : Nat.land cur 0 = 0 := Nat.and_zero cur
  simp only [fieldWritten, hmask, hv, hall, Nat.reducePow, Nat.reduceSub, hnone]
  exact Nat.zero_or v.toNat

theorem ofNat_setBits_whole (w : Nat) (v : Word) : BitVec.ofNat 32 (setBits w 0 32 v.toNat) = v := by
  refine BitVec.eq_of_toNat_eq ?_
  rw [BitVec.toNat_ofNat, ← Nat.shiftRight_zero (n := setBits w 0 32 v.toNat)]
  exact (bits_setBits_same w 0 32 v.toNat).trans (Nat.mod_eq_of_lt v.isLt)

/-- A whole write of a register that is one plain field stores the word (R11). -/
theorem store_whole {a n : Nat} {k : PageKind} {d : RegDesc} {r : RVal} (s : State) (v : Word) (h : regAt a = some (k, n, d))
    (hd : d.fields = [⟨0, 32, .rw, r, none⟩]) : s.store a 0xFFFFFFFF v true = s.setWord a v := by
  have hwritten : writtenWord s a 0xFFFFFFFF v true d.fields (s.word a).toNat = setBits (s.word a).toNat 0 32 v.toNat := by
    rw [hd, writtenWord, fieldWritten_whole, writtenWord]
    rfl
  unfold State.store
  simp only [h, Bool.true_or, hwritten, ofNat_setBits_whole]
  simp [hd]

/-- PG_EVT_EN stands in every page's header (R401). -/
theorem regAt_evtEn {page n : Nat} {k : PageKind} (h : pageKind page = some (k, n)) :
    ∃ d, regAt (0x1000 * page + 0x14) = some (k, n, d) ∧ d.fields = [⟨0, 32, .rw, .val 0, none⟩] := by
  have hpage : (0x1000 * page + 0x14) / 0x1000 = page := by omega
  have hoff : (0x1000 * page + 0x14) % 0x1000 = 0x14 := by omega
  have hword : (0x1000 * page + 0x14) % 4 = 0 := by omega
  have hfind : findReg (regsOf k) 0x14 = some (⟨0x14, 0, 1, [⟨0, 32, .rw, .val 0, none⟩]⟩, 0) := by cases k <;> rfl
  exact ⟨_, by simp only [regAt, hword, hpage, hoff, h, hfind]; rfl, rfl⟩

theorem regAt_evtHead {e : Nat} (he : e < 64) : ∃ d, regAt (pgEvt e + 0x10C) = some (.event, e, d) ∧ d.fields = [⟨0, 32, .rw, .val 0, none⟩] := by
  have hpage : (pgEvt e + 0x10C) / 0x1000 = 128 + e := by unfold pgEvt; omega
  have hoff : (pgEvt e + 0x10C) % 0x1000 = 0x10C := by unfold pgEvt; omega
  have hword : (pgEvt e + 0x10C) % 4 = 0 := by unfold pgEvt; omega
  have hkind : ∀ e, e < 64 → pageKind (128 + e) = some (.event, e) := by decide
  have hfind : findReg (regsOf .event) 0x10C = some (⟨0x10C, 0, 1, [⟨0, 32, .rw, .val 0, none⟩]⟩, 0) := rfl
  exact ⟨_, by simp only [regAt, hword, hpage, hoff, hkind e he, hfind]; rfl, rfl⟩

/-! The commands -/

theorem core_postCore (s : State) (j : Nat) (ev : EvRec) (i : Nat) : (s.postCore j ev).core i = s.core i := by
  rw [(postCore_events s j ev).1]
  rfl

theorem pgCore_not_onRings (i n : Nat) : ¬ onRings (pgCore i + n) := by
  unfold onRings pgCore
  omega

theorem ctevt_posts {i : Nat} {w : Word64} (hissue : Issues s i w) (hop : opIs w 0 6 = true) (hlegal : onlyBits w 56 [(0, 16)] = true) :
    ∃ t, exec (.ctevt i w) s = .next t ∧ PcNext i s t ∧ t.core i = s.core i ∧ SameRegs (fun a => pcReg i a ∨ onRings a) s t ∧ t.dram = s.dram ∧
      (∀ p, s.partOfSite i = some p → RingTakes (s.getF (F.PRT_DEFRING_RING p)) ⟨0x02, 0, siteNum i, bits w.toNat 0 16, s.orbit, s.coreData0 i, 0, 1⟩ s t) ∧
      (s.partOfSite i = none → t.rings = s.rings) := by
  refine ⟨_, exec_of_legal exec_ctevt hissue.1 hop hlegal, ?_⟩
  generalize hev : (⟨0x02, 0, siteNum i, bits w.toNat 0 16, s.orbit, s.coreData0 i, 0, 1⟩ : EvRec) = ev
  have hpost := postCore_events s i ev
  have hpc : (s.postCore i ev).getF (F.CORE_PC_PC i) = s.getF (F.CORE_PC_PC i) := hpost.2.getF (pgCore_not_onRings i 0x12C)
  rw [nextPc_of_room (by rw [hpc, core_postCore]; exact hissue.2)]
  refine ⟨pcNext_setF hpc, core_postCore s i ev i, (hpost.2.weaken fun _ h => .inr h).setF _ (.inl rfl), ?_, fun p hp => ?_, fun hnone => ?_⟩
  · rw [State.setF_dram, hpost.1]
  · have hring : s.getF (F.PRT_DEFRING_RING p) < 64 := ring_lt rfl s
    have heq : s.postCore i ev = s.postTo (s.getF (F.PRT_DEFRING_RING p)) ev := by simp [State.postCore, hp]
    rw [heq]
    have hcls : ev.cls < 16 := hev ▸ (by decide : 1 < 16)
    refine (postTo_takes s _ hcls).congr rfl rfl (fun _ _ => rfl) fun a ha => State.word_setF_ne _ (fun h => ?_) _
    unfold ringReg pgEvt at ha
    simp only [h, F.CORE_PC_PC] at ha
    omega
  · simp [State.postCore, hnone]

/-- A start depends on what the ring holds beside its record in progress and its holdoff, on its classes, and on the orbit. -/
theorem RingStarts.of_same {s' : State} (h : RingStarts e s t) (hring : ∃ now hold owed, s.ring e = { s'.ring e with inProgress := now, holdFrom := hold, owed := owed })
    (hmask : s.getF (F.EVT_PENDING_MASK e) = s'.getF (F.EVT_PENDING_MASK e)) (horb : s.orb = s'.orb) : RingStarts e s' t := by
  obtain ⟨now, hold, owed, hring⟩ := hring
  obtain ⟨hfull, hsummary, holdest⟩ := h
  have hsum : s.summaryOf e = s'.summaryOf e := by simp only [State.summaryOf, State.orbit, hmask, horb, hring]
  rw [hring] at hfull hsummary holdest
  rw [hsum, hmask] at hsummary
  rw [hmask] at holdest
  exact ⟨hfull, hsummary, holdest⟩

/-- The state in which a record has been taken for its write: it is no longer in progress, and the tail has moved (R333). -/
def State.recordTaken (s : State) (e : Nat) : State := (s.setRing e { s.ring e with inProgress := none }).wrapF (F.EVT_TAIL_COUNT e) 1

/-- The state in which the bytes of the record are on their way to the host (R332). -/
def State.recordSent (s : State) (e : Nat) (ev : EvRec) : State :=
  { s.recordTaken e with egress := s.egress ++ [.hostWrite (s.getF (F.EVT_CFG_FN e)) (s.recordAt e (s.getF (F.EVT_TAIL_COUNT e))) false
      (recordBytes ev (s.getF (F.EVT_CFG_LOG2 e)) (s.getF (F.EVT_TAIL_COUNT e)))] }

theorem recordTaken_same (s : State) (e : Nat) : SameRegs (fun a => a = pgEvt e + 0x110 ∨ waitReg e a) s (s.recordTaken e) :=
  ((setRing_same s e _).weaken fun _ h => .inr h).wrapF 1 (.inl rfl)

theorem recordTaken_ring (s : State) (e : Nat) : (s.recordTaken e).ring e = { s.ring e with inProgress := none } := by
  rw [State.recordTaken, ring_wrapF, ring_setRing]

theorem recordTaken_tail (s : State) (e : Nat) : (s.recordTaken e).getF (F.EVT_TAIL_COUNT e) = (s.getF (F.EVT_TAIL_COUNT e) + 1) % 2 ^ 32 := by
  rw [State.recordTaken, State.getF_wrapF_same _ (f := F.EVT_TAIL_COUNT e) (by decide : 0 + 32 ≤ 32),
    (setRing_same s e _).getF (by simp [waitReg, F.EVT_TAIL_COUNT, pgEvt])]
  rfl

theorem recordTaken_pending (s : State) (e : Nat) : (s.recordTaken e).getF (F.EVT_PENDING_MASK e) = s.getF (F.EVT_PENDING_MASK e) := by
  rw [State.recordTaken, State.getF_wrapF_apart _ (f := F.EVT_TAIL_COUNT e) (by decide : 0 + 32 ≤ 32) (.inl (by simp [F.EVT_TAIL_COUNT, F.EVT_PENDING_MASK])),
    getF_setRing_pending]

/-- What is sent to a host is no register. -/
theorem getF_withEgress (s : State) (l : List Egress) (f : Fld) : ({ s with egress := l } : State).getF f = s.getF f := rfl

theorem ring_withEgress (s : State) (l : List Egress) (e : Nat) : ({ s with egress := l } : State).ring e = s.ring e := rfl

theorem SameRegs.withEgress {p : Nat → Prop} (h : SameRegs p s t) (l : List Egress) : SameRegs p s { t with egress := l } := h

/-- The write of a record in host memory is followed by its message and the next record's start. -/
theorem execEventRecordWritten_of_host {ev : EvRec} (hnow : (s.ring e).inProgress = some ev) (hon : s.on (F.EVT_CFG_EN e) = true)
    (hdev : s.on (F.EVT_CFG_DEV e) = false) (hmaster : s.busMaster (s.getF (F.EVT_CFG_FN e)) = true) :
    exec (.eventRecordWritten e) s = .next (((s.recordSent e ev).ringIrq e).ringKick e).settle.resetsGo := by
  have hdev' : (s.recordTaken e).on (F.EVT_CFG_DEV e) = false :=
    ((recordTaken_same s e).on (by simp [waitReg, F.EVT_CFG_DEV, pgEvt])).trans hdev
  rw [State.recordTaken] at hdev'
  show execEventRecordWritten e s = _
  simp only [execEventRecordWritten, hnow, hon, hdev, hmaster, hdev', Bool.not_true, Bool.not_false, Bool.and_false, Bool.or_false, Bool.false_eq_true,
    if_false] <;> rfl

theorem recordSent_same (s : State) (e : Nat) (ev : EvRec) : SameRegs (fun a => a = pgEvt e + 0x110 ∨ waitReg e a) s (s.recordSent e ev) :=
  (recordTaken_same s e).withEgress _

theorem recordSent_ring (s : State) (e : Nat) (ev : EvRec) : (s.recordSent e ev).ring e = { s.ring e with inProgress := none } := by
  rw [State.recordSent, ring_withEgress, recordTaken_ring]

theorem recordSent_tail (s : State) (e : Nat) (ev : EvRec) : (s.recordSent e ev).getF (F.EVT_TAIL_COUNT e) = (s.getF (F.EVT_TAIL_COUNT e) + 1) % 2 ^ 32 := by
  rw [State.recordSent, getF_withEgress, recordTaken_tail]

theorem recordSent_pending (s : State) (e : Nat) (ev : EvRec) : (s.recordSent e ev).getF (F.EVT_PENDING_MASK e) = s.getF (F.EVT_PENDING_MASK e) := by
  rw [State.recordSent, getF_withEgress, recordTaken_pending]

/-- The record is written to its place, its message follows, the tail moves, and what waits starts (R332 to R334). -/
theorem eventRecordWritten_writes {ev : EvRec} (hnow : (s.ring e).inProgress = some ev) (hon : s.on (F.EVT_CFG_EN e) = true)
    (hdev : s.on (F.EVT_CFG_DEV e) = false) (hmaster : s.busMaster (s.getF (F.EVT_CFG_FN e)) = true) :
    let fn := s.getF (F.EVT_CFG_FN e)
    let vec := s.getF (F.EVT_CFG_VEC e)
    let tail := s.getF (F.EVT_TAIL_COUNT e)
    let atOnce := s.getF (F.EVT_IRQ_HOLDOFF_US e) = 0 ∨ (s.ring e).holdFrom = none
    ∃ t, exec (.eventRecordWritten e) s = .next t.settle.resetsGo ∧ t.getF (F.EVT_TAIL_COUNT e) = (tail + 1) % 2 ^ 32 ∧
      t.egress = s.egress ++ [.hostWrite fn (s.recordAt e tail) false (recordBytes ev (s.getF (F.EVT_CFG_LOG2 e)) tail)] ++
        (if atOnce then s.msixMsgs fn vec else []) ∧
      (atOnce → MsixPends fn vec s t) ∧
      (s.getF (F.EVT_IRQ_HOLDOFF_US e) ≠ 0 →
        (t.ring e).holdFrom = some ((s.ring e).holdFrom.getD s.now) ∧ ((s.ring e).holdFrom.isSome = true → (t.ring e).owed = true)) ∧
      RingStarts e s t := by
  intro fn vec tail atOnce
  refine ⟨_, execEventRecordWritten_of_host hnow hon hdev hmaster, ?_⟩
  have hsent := recordSent_same s e ev
  have hhold : (s.recordSent e ev).getF (F.EVT_IRQ_HOLDOFF_US e) = s.getF (F.EVT_IRQ_HOLDOFF_US e) :=
    hsent.getF (by simp [waitReg, F.EVT_IRQ_HOLDOFF_US, pgEvt])
  have hfn : (s.recordSent e ev).getF (F.EVT_CFG_FN e) = fn := hsent.getF (by simp [waitReg, F.EVT_CFG_FN, pgEvt])
  have hvec : (s.recordSent e ev).getF (F.EVT_CFG_VEC e) = vec := hsent.getF (by simp [waitReg, F.EVT_CFG_VEC, pgEvt])
  have hring := recordSent_ring s e ev
  obtain ⟨hegress, hpends, hholds, ⟨hold, owed, hmring⟩, hregs, hpending, horb⟩ := ringIrq_messaged (s.recordSent e ev) e
  rw [hhold, hfn, hvec, hring] at hegress hpends
  rw [hhold, hring] at hholds
  rw [hring] at hmring
  have hkick := (ringKick_events ((s.recordSent e ev).ringIrq e) e).1
  obtain ⟨now, staged, lost, hkring⟩ := ringKick_ring ((s.recordSent e ev).ringIrq e) e
  have htail : ¬ waitReg e (F.EVT_TAIL_COUNT e).addr := by simp [waitReg, F.EVT_TAIL_COUNT, pgEvt]
  refine ⟨?_, ?_, fun h => ?_, fun h => ?_, ?_⟩
  · rw [(ringKick_same _ e).getF htail, hregs.getF htail, recordSent_tail]
  · rw [hkick]
    exact hegress.trans (by rw [msixMsgs_congr (s := s) rfl]; rfl)
  · rw [hkick]
    exact hpends h
  · rw [hkring]
    exact hholds h
  · refine (ringKick_starts (by rw [hmring])).of_same ⟨none, hold, owed, hmring⟩ (hpending.trans (recordSent_pending s e ev)) horb

/-- A whole write of EVT_HEAD starts a record that waited for space (R334). -/
theorem eventHeadAdvance_starts {who : Requester} {v : Word} (he : e < 64) (hadm : Admitted s u who (pgEvt e + 0x10C) 0xFFFFFFFF v)
    (hidle : (s.ring e).inProgress = none) (hon : s.on (F.EVT_CFG_EN e) = true) :
    ∃ t, exec (.eventHeadAdvance who e v) s = .next t ∧ t.getF (F.EVT_HEAD_COUNT e) = v.toNat ∧ RingStarts e u t ∧ t.dram = u.dram := by
  have hsame := eq_of_admitted_whole hadm
  subst hsame
  obtain ⟨m, hm, hall⟩ := hadm
  obtain ⟨d, hreg, hd⟩ := regAt_evtHead he
  have hen : (u.setWord (pgEvt e + 0x10C) v).on (F.EVT_CFG_EN e) = true :=
    (on_of_word (State.word_setWord_ne u v (by simp [F.EVT_CFG_EN, pgEvt]))).trans hon
  have hexec : exec (.eventHeadAdvance who e v) u = .next ((u.setWord (pgEvt e + 0x10C) v).ringKick e) := by
    show execEventHeadAdvance who e v u = _
    rw [execEventHeadAdvance, if_pos he, trigger_admitted _ hm hall]
    simp only [store_whole u v hreg hd, hen, if_true]
  refine ⟨_, hexec, ?_, ?_, ?_⟩
  · rw [(ringKick_same _ e).getF (by simp [waitReg, F.EVT_HEAD_COUNT, pgEvt])]
    show bits ((u.setWord (pgEvt e + 0x10C) v).word (pgEvt e + 0x10C)).toNat 0 32 = _
    rw [State.word_setWord_same]
    exact Nat.mod_eq_of_lt v.isLt
  · exact (ringKick_starts (s := u.setWord (pgEvt e + 0x10C) v) hidle).of_same ⟨_, _, _, rfl⟩
      (getF_of_word (State.word_setWord_ne u v (by simp [F.EVT_PENDING_MASK, pgEvt]))) rfl
  · rw [(ringKick_events _ e).1]
    rfl

/-- At the end of a holdoff one message more is sent if records were written meanwhile (R333). -/
theorem msixHoldoffExpiry_sends {t0 : Nat} (hold : (s.ring e).holdFrom = some t0) (hon : s.on (F.EVT_CFG_EN e) = true) :
    let fn := s.getF (F.EVT_CFG_FN e)
    let vec := s.getF (F.EVT_CFG_VEC e)
    ∃ t, exec (.msixHoldoffExpiry e) s = .next t ∧ t0 + 100 * s.getF (F.EVT_IRQ_HOLDOFF_US e) ≤ t.now ∧
      ((s.ring e).owed = true → t.egress = s.egress ++ s.msixMsgs fn vec ∧ MsixPends fn vec s t ∧
        (t.ring e).holdFrom = some t.now ∧ (t.ring e).owed = false) ∧
      ((s.ring e).owed = false → t.egress = s.egress ∧ (t.ring e).holdFrom = none) := by
  intro fn vec
  have hen : (s.advanceTo (t0 + 100 * s.getF (F.EVT_IRQ_HOLDOFF_US e))).on (F.EVT_CFG_EN e) = true := hon
  have hlate : t0 + 100 * s.getF (F.EVT_IRQ_HOLDOFF_US e) ≤ (s.advanceTo (t0 + 100 * s.getF (F.EVT_IRQ_HOLDOFF_US e))).now := by
    rw [State.now_advanceTo]
    exact Nat.le_max_right _ _
  generalize hu : s.advanceTo (t0 + 100 * s.getF (F.EVT_IRQ_HOLDOFF_US e)) = u at hen hlate
  cases howed : (s.ring e).owed with
  | true =>
    obtain ⟨pba, hmsg, hpend⟩ := ringMsg_setRing u e { s.ring e with holdFrom := some u.now, owed := false }
    have hexec : exec (.msixHoldoffExpiry e) s = .next ((u.setRing e { s.ring e with holdFrom := some u.now, owed := false }).ringMsg e) := by
      show execMsixHoldoffExpiry e s = _
      simp [execMsixHoldoffExpiry, hold, hu, hen, howed]
    have hmsgs : u.msixMsgs fn vec = s.msixMsgs fn vec := msixMsgs_congr (hu ▸ rfl) fn vec
    have hegress : u.egress = s.egress := hu ▸ rfl
    have hregs : u.regs = s.regs := hu ▸ rfl
    have hhost : u.host = s.host := hu ▸ rfl
    have hfn : u.getF (F.EVT_CFG_FN e) = fn := State.getF_congr hregs _
    have hvec : u.getF (F.EVT_CFG_VEC e) = vec := State.getF_congr hregs _
    rw [hfn, hvec] at hpend
    refine ⟨_, hexec.trans (congrArg _ hmsg), hlate, fun _ => ⟨?_, ?_, ?_, ?_⟩, fun h => absurd h (by decide)⟩
    · show u.egress ++ u.msixMsgs (u.getF (F.EVT_CFG_FN e)) (u.getF (F.EVT_CFG_VEC e)) = _
      rw [hfn, hvec, hmsgs, hegress]
    · intro hmsix hclosed
      refine hpend ?_ ?_
      · rwa [State.cfg, hhost]
      · simpa only [State.msixOpen, State.busMaster, State.msixEntry, State.cfg, hhost] using hclosed
    · exact congrArg RingState.holdFrom (ring_setRing u e _)
    · exact congrArg RingState.owed (ring_setRing u e _)
  | false =>
    have hexec : exec (.msixHoldoffExpiry e) s = .next (u.setRing e { s.ring e with holdFrom := none, owed := false }) := by
      show execMsixHoldoffExpiry e s = _
      simp [execMsixHoldoffExpiry, hold, hu, howed]
    refine ⟨_, hexec, hlate, fun h => absurd h (by decide), fun _ => ⟨?_, congrArg RingState.holdFrom (ring_setRing u e _)⟩⟩
    rw [State.setRing_egress, ← hu, State.advanceTo_egress]

theorem evClass_lt (k : PageKind) (mask : Nat) : evClass k mask < 16 := by
  unfold evClass
  repeat' split
  all_goals decide

/-- An event that reaches a ring writes no register of a page's header. -/
theorem postTo_same (s : State) (e : Nat) (ev : EvRec) : SameRegs (ringReg e) s (s.postTo e ev) := by
  have hwait (a : Nat) (h : waitReg e a) : ringReg e a := by
    unfold waitReg at h
    unfold ringReg
    omega
  unfold State.postTo
  split
  · exact .refl
  dsimp only
  split
  · exact (((setRing_same s e _).weaken hwait).orF _ (hwait _ (.inl rfl))).countF 1 (by simp [ringReg, F.EVT_FLOOD_COUNT, pgEvt])
  · exact ((setRing_same s e _).weaken hwait).trans ((ringKick_same _ e).weaken hwait)

theorem postBlock_of_kind {page n : Nat} {k : PageKind} (h : pageKind page = some (k, n)) (s : State) (mask : Nat) :
    s.postBlock (0x1000 * page) mask = s.postTo (s.getF (F.PG_EVT_ROUTE_RING (0x1000 * page)))
      ⟨0x05, 0, page, mask, s.orbit, s.getF (F.PG_ERRCAP (0x1000 * page) 0), 0, evClass k mask⟩ := by
  have hpage : 0x1000 * page / 0x1000 = page := by omega
  simp only [State.postBlock, hpage, h]

/-- A header register is no ring's register. -/
theorem header_not_ringReg (e page : Nat) {n : Nat} (h : n < 0x100) : ¬ ringReg e (0x1000 * page + n) := by
  unfold ringReg pgEvt
  omega

/-- A write of PG_EVT_EN stores the word, and posts one event where it enables events that are set (R405). -/
theorem eventEnableWrite_posts {who : Requester} {page n : Nat} {v : Word} {k : PageKind} (hkind : pageKind page = some (k, n))
    (hadm : Admitted s u who (0x1000 * page + 0x14) 0xFFFFFFFF v) :
    let pg := 0x1000 * page
    let newly := Nat.land (v.toNat - Nat.land v.toNat (u.word (pg + 0x14)).toNat) (u.word (pg + 0x10)).toNat
    ∃ t, exec (.eventEnableWrite who page v) s = .next t ∧ t.word (pg + 0x14) = v ∧ t.word (pg + 0x10) = u.word (pg + 0x10) ∧
      (newly = 0 → t.rings = u.rings) ∧
      (newly ≠ 0 → RingTakes (u.getF (F.PG_EVT_ROUTE_RING pg)) ⟨0x05, 0, page, newly, u.orbit, u.getF (F.PG_ERRCAP pg 0), 0, evClass k newly⟩ u t) := by
  intro pg newly
  obtain ⟨m, hm, hall⟩ := hadm
  obtain ⟨d, hreg, hd⟩ := regAt_evtEn hkind
  have hexec : exec (.eventEnableWrite who page v) s =
      .next (if newly ≠ 0 then (u.setWord (pg + 0x14) v).postBlock pg newly else u.setWord (pg + 0x14) v) := by
    show execEventEnableWrite who page v s = _
    rw [execEventEnableWrite]
    refine (trigger_admitted _ hm hall).trans ?_
    dsimp only
    rw [store_whole u v hreg hd]
    rfl
  have hen : (u.setWord (pg + 0x14) v).word (pg + 0x14) = v := State.word_setWord_same u _ v
  have hevt : (u.setWord (pg + 0x14) v).word (pg + 0x10) = u.word (pg + 0x10) := State.word_setWord_ne u v (by omega)
  refine ⟨_, hexec, ?_⟩
  by_cases hnew : newly = 0
  · rw [if_neg (by simpa using hnew)]
    exact ⟨hen, hevt, fun _ => rfl, fun h => absurd hnew h⟩
  · rw [if_pos hnew, postBlock_of_kind hkind]
    have hroute : (u.setWord (pg + 0x14) v).getF (F.PG_EVT_ROUTE_RING pg) = u.getF (F.PG_EVT_ROUTE_RING pg) :=
      getF_of_word (State.word_setWord_ne u v (by simp [F.PG_EVT_ROUTE_RING]))
    have hcap : (u.setWord (pg + 0x14) v).getF (F.PG_ERRCAP pg 0) = u.getF (F.PG_ERRCAP pg 0) :=
      getF_of_word (State.word_setWord_ne u v (by simp [F.PG_ERRCAP]))
    rw [hroute, hcap]
    have hposted := postTo_same (u.setWord (pg + 0x14) v) (u.getF (F.PG_EVT_ROUTE_RING pg))
      ⟨0x05, 0, page, newly, (u.setWord (pg + 0x14) v).orbit, u.getF (F.PG_ERRCAP pg 0), 0, evClass k newly⟩
    refine ⟨(hposted _ (header_not_ringReg _ page (by decide))).trans hen, (hposted _ (header_not_ringReg _ page (by decide))).trans hevt,
      fun h => absurd h hnew, fun _ => ?_⟩
    refine (postTo_takes (u.setWord (pg + 0x14) v) _ (evClass_lt k newly)).congr rfl rfl (fun a ha => ?_) fun _ _ => rfl
    refine (State.word_setWord_ne u v fun h => ?_).symm
    exact header_not_ringReg _ page (by decide) (h ▸ ha)

/-- Settles O49: `ctevt_posts`, `recordBytes_fields`, `eventRecordWritten_writes`, `eventHeadAdvance_starts`, `msixHoldoffExpiry_sends` and
`eventEnableWrite_posts`, one part each. -/
theorem eventRecords : Obligations.EventRecords := by
  refine ⟨fun i w s => ctevt_posts, recordBytes_fields, fun e s he => ?_, fun who page v k n s u => eventEnableWrite_posts⟩
  refine ⟨fun ev hnow hon hdev hmaster => ?_, fun who v u hadm hidle hon _ => ?_, fun t0 hold hon => ?_⟩
  · obtain ⟨t, hexec, htail, hegress, hpends, hholds, hfull, hsummary, holdest⟩ := eventRecordWritten_writes hnow hon hdev hmaster
    exact ⟨t, hexec, htail, hegress, hpends, hholds, hfull, hsummary, holdest⟩
  · obtain ⟨t, hexec, hhead, ⟨hfull, hsummary, holdest⟩, hdram⟩ := eventHeadAdvance_starts he hadm hidle hon
    obtain rfl := eq_of_admitted_whole hadm
    exact ⟨t, hexec, hhead, ⟨hfull, hsummary, holdest⟩, hdram⟩
  · exact msixHoldoffExpiry_sends hold hon

end

end Sys2Proof.Machine
end

section
namespace Sys2Proof.Machine

section
variable {s t u : State} {i : Nat} {w : Word64}

/-! ### Issue of the CT, SY and VX instructions (O11 to O15) -/

/-! What an issued word does to scalar registers and to the program counter -/

@[simp] theorem scalar_setF (s : State) (f : Fld) (v i r : Nat) : (s.setF f v).scalar i r = s.scalar i r := rfl

/-- A write of a scalar register reads back, unless it is S0, and no other register changes (R115). -/
theorem scalarSet_setScalar (s : State) (i d : Nat) (v : Word) : ScalarSet i d v s (s.setScalar i d v) := by
  unfold ScalarSet State.setScalar State.scalar
  by_cases hd : d = 0
  · simp [hd]
  by_cases hv : v = 0
  · simp only [hd, hv, if_true, if_false, State.core_setCore_same, tabGet_tabDel_same]
    exact ⟨rfl, fun r hr => by rw [tabGet_tabDel_ne _ hr]⟩
  · simp only [hd, hv, if_false, State.core_setCore_same, tabGet_tabPut_same]
    exact ⟨rfl, fun r hr => by rw [tabGet_tabPut_ne _ _ hr]⟩

theorem sameButScalars_setScalar (s : State) (i d : Nat) (v : Word) : SameButScalars i s (s.setScalar i d v) := by
  unfold SameButScalars State.setScalar
  split
  · rfl
  · rw [State.core_setCore_same]

theorem setScalar_only {p : Nat → Prop} (s : State) (i d : Nat) (v : Word) : OnlyCore i p s (s.setScalar i d v) := by
  unfold State.setScalar
  split
  · exact .refl
  · exact OnlyCore.refl.setCore _

theorem setScalar_regs (s : State) (i d : Nat) (v : Word) : (s.setScalar i d v).regs = s.regs := by
  unfold State.setScalar
  split <;> rfl

theorem setScalar_prog (s : State) (i d : Nat) (v : Word) : ((s.setScalar i d v).core i).prog = (s.core i).prog := by
  rw [sameButScalars_setScalar s i d v]

/-- A target in the program is where the program goes on (R115). -/
theorem goTo_of_target {g : Nat} (h : g < (s.core i).prog.length) : s.goTo i g = s.setF (F.CORE_PC_PC i) g := if_neg (by omega)

theorem getF_setF_pc (s : State) (i v : Nat) : (s.setF (F.CORE_PC_PC i) v).getF (F.CORE_PC_PC i) = v % 2 ^ 12 :=
  State.getF_setF_same s (f := F.CORE_PC_PC i) (by decide : 0 + 12 ≤ 32) v

/-- A scalar register is set and the program goes on: what CTLI, CTADD and CTID do (R115). -/
theorem setScalar_nextPc (hroom : s.getF (F.CORE_PC_PC i) + 1 < (s.core i).prog.length) (d : Nat) (v : Word) :
    let t := (s.setScalar i d v).nextPc i
    ScalarSet i d v s t ∧ SameButScalars i s t ∧ PcNext i s t ∧ OnlyCore i (pcReg i) s t := by
  intro t
  have hpc : (s.setScalar i d v).getF (F.CORE_PC_PC i) = s.getF (F.CORE_PC_PC i) := State.getF_congr (setScalar_regs s i d v) _
  have ht : t = (s.setScalar i d v).setF (F.CORE_PC_PC i) ((s.setScalar i d v).getF (F.CORE_PC_PC i) + 1) :=
    nextPc_of_room (by rw [hpc, setScalar_prog]; exact hroom)
  rw [ht]
  exact ⟨scalarSet_setScalar s i d v, sameButScalars_setScalar s i d v, pcNext_setF hpc, (setScalar_only s i d v).setF _ rfl⟩

theorem nextPc_only (hroom : s.getF (F.CORE_PC_PC i) + 1 < (s.core i).prog.length) :
    (s.nextPc i).core i = s.core i ∧ PcNext i s (s.nextPc i) ∧ OnlyRegs (pcReg i) s (s.nextPc i) := by
  rw [nextPc_of_room hroom]
  exact ⟨rfl, pcNext_setF rfl, OnlyRegs.refl.setF _ rfl⟩

/-- CTBR goes to its target, and changes nothing else (R115). -/
theorem goTo_only {g : Nat} (hlt : g < 2 ^ 12) (h : g < (s.core i).prog.length) :
    (s.goTo i g).core i = s.core i ∧ (s.goTo i g).getF (F.CORE_PC_PC i) = g ∧ OnlyRegs (pcReg i) s (s.goTo i g) := by
  rw [goTo_of_target h]
  exact ⟨rfl, (getF_setF_pc s i g).trans (Nat.mod_eq_of_lt hlt), OnlyRegs.refl.setF _ rfl⟩

theorem ctloopEffect_only {r g : Nat} (hroom : s.getF (F.CORE_PC_PC i) + 1 < (s.core i).prog.length) (hlt : g < 2 ^ 12)
    (htarget : g < (s.core i).prog.length) :
    let t := ctloopEffect i r g s
    ScalarSet i r (s.scalar i r - 1) s t ∧ SameButScalars i s t ∧ OnlyCore i (pcReg i) s t ∧
    t.getF (F.CORE_PC_PC i) = (if t.scalar i r = 0 then (s.getF (F.CORE_PC_PC i) + 1) % 2 ^ 12 else g) := by
  intro t
  obtain ⟨hset, hsame, hnext, honly⟩ := setScalar_nextPc hroom r (s.scalar i r - 1)
  have hval : (s.setScalar i r (s.scalar i r - 1)).scalar i r = (if r = 0 then 0 else s.scalar i r - 1) := (scalarSet_setScalar s i r _).1
  by_cases hzero : (s.setScalar i r (s.scalar i r - 1)).scalar i r = 0
  · have ht : t = (s.setScalar i r (s.scalar i r - 1)).nextPc i := if_pos hzero
    rw [ht]
    exact ⟨hset, hsame, honly, by rw [if_pos (hset.1.trans (hval.symm.trans hzero))]; exact hnext⟩
  · have ht : t = (s.setScalar i r (s.scalar i r - 1)).setF (F.CORE_PC_PC i) g :=
      (if_neg hzero).trans (goTo_of_target (by rwa [setScalar_prog]))
    rw [ht]
    refine ⟨scalarSet_setScalar s i r _, sameButScalars_setScalar s i r _, (setScalar_only s i r _).setF _ rfl, ?_⟩
    rw [scalar_setF, if_neg hzero, getF_setF_pc, Nat.mod_eq_of_lt hlt]

/-- After the program's last word the core faults at the program's length (R116). -/
theorem nextPc_of_last (hrun : s.coreSt i = coreRunning) (hfault : (s.core i).fault = none)
    (hlast : s.getF (F.CORE_PC_PC i) + 1 = (s.core i).prog.length) :
    s.nextPc i = (s.setF (F.CORE_PC_PC i) (s.getF (F.CORE_PC_PC i) + 1)).setCore i
      { s.core i with fault := some ⟨causeCt, (s.getF (F.CORE_PC_PC i) + 1) % 2 ^ 12, s.getF (F.CORE_PROG_K_K i), 0⟩ } := by
  have hst : (s.setF (F.CORE_PC_PC i) (s.getF (F.CORE_PC_PC i) + 1)).coreSt i = coreRunning :=
    (getF_of_word (f := F.PG_STATE_STATE (pgCore i)) (State.word_setF_ne _ (by simp [F.PG_STATE_STATE, F.CORE_PC_PC, pgCore]) _)).trans hrun
  have hk : (s.setF (F.CORE_PC_PC i) (s.getF (F.CORE_PC_PC i) + 1)).getF (F.CORE_PROG_K_K i) = s.getF (F.CORE_PROG_K_K i) :=
    getF_of_word (State.word_setF_ne _ (by simp [F.CORE_PROG_K_K, F.CORE_PC_PC]) _)
  have hcan : (s.setF (F.CORE_PC_PC i) (s.getF (F.CORE_PC_PC i) + 1)).canFault i = true := by rw [State.canFault, hst]; rfl
  unfold State.nextPc State.goTo
  rw [if_pos (by omega)]
  simp only [State.progFault, State.core_setF, hfault, hcan, getF_setF_pc, hk]
  rfl

/-- Settles O11: each instruction is issued with its effect (`exec_of_legal`), and `setScalar_nextPc`, `nextPc_only`, `goTo_only` and
`ctloopEffect_only` say what the effects are. -/
theorem ctPlain : Obligations.CtPlain := by
  intro i w s d imm g r Done
  refine ⟨fun ⟨hok, hroom⟩ => ⟨fun hop hlegal => ?_, fun hop hlegal => ?_, fun hop hlegal => ?_, fun hop hlegal hsel => ?_, fun htarget => ?_⟩,
    fun hok hop hlegal hlast => ?_⟩
  · exact ⟨_, exec_of_legal exec_ctnop hok hop hlegal, nextPc_only hroom⟩
  · exact ⟨_, exec_of_legal exec_ctli hok hop hlegal, setScalar_nextPc hroom d imm⟩
  · exact ⟨_, exec_of_legal exec_ctadd hok hop hlegal, setScalar_nextPc hroom d _⟩
  · exact ⟨_, exec_of_legal exec_ctid hok hop (by simp [hlegal, hsel]), setScalar_nextPc hroom d _⟩
  · have hlt : g < 2 ^ 12 := bits_lt _ _ _
    have hin : g < (s.core i).prog.length := of_decide_eq_true htarget
    exact ⟨fun hop hlegal => ⟨_, exec_of_legal exec_ctbr hok hop (by simp [hlegal, htarget]), goTo_only hlt hin⟩,
      fun hop hlegal => ⟨_, exec_of_legal exec_ctloop hok hop (by simp [hlegal, htarget]), ctloopEffect_only hroom hlt hin⟩⟩
  · obtain ⟨hrun, hfault, -⟩ := issueOk_parts hok
    refine ⟨_, exec_of_legal exec_ctnop hok hop hlegal, ?_⟩
    rw [nextPc_of_last hrun hfault hlast]
    exact ⟨getF_setF_pc s i _, (OnlyCore.setF (p := pcReg i) .refl (f := F.CORE_PC_PC i) _ rfl).setCore _, State.core_setCore_same i _⟩

/-! Holds of the issue stage (R52, R115, R119) -/

/-- Settles O12: each word is issued (`exec_of_legal`), and its effect is the hold alone. -/
theorem issueHolds : Obligations.IssueHolds := by
  intro i w s hok
  exact ⟨fun hop hlegal => exec_of_legal exec_ctberth hok hop hlegal,
    fun hop hlegal hcount => exec_of_legal exec_sywait hok hop (by simp [hlegal, hcount]),
    fun hop hlegal => exec_of_legal exec_syfence hok hop hlegal⟩

/-- The state in which a hold has ended after `cycles` cycles: the core goes on to its next word (R119, R139). -/
def State.holdEnded (s : State) (i cycles : Nat) : State :=
  ((s.setCore i { s.core i with hold := .none }).countF (F.CORE_SYWAIT_CYC_COUNT i) cycles).nextPc i

theorem holdEnded_only (hroom : s.getF (F.CORE_PC_PC i) + 1 < (s.core i).prog.length) (cycles : Nat) :
    (s.holdEnded i cycles).core i = { s.core i with hold := .none } ∧ HeldCounted i cycles s (s.holdEnded i cycles) ∧ PcNext i s (s.holdEnded i cycles) ∧
    OnlyCore i (fun a => pcReg i a ∨ a = pgCore i + 0x14C) s (s.holdEnded i cycles) := by
  have hpc : ((s.setCore i { s.core i with hold := .none }).countF (F.CORE_SYWAIT_CYC_COUNT i) cycles).getF (F.CORE_PC_PC i) = s.getF (F.CORE_PC_PC i) :=
    State.getF_countF_apart _ (f := F.CORE_SYWAIT_CYC_COUNT i) (by decide : 0 + 32 ≤ 32) (.inl (by simp [F.CORE_SYWAIT_CYC_COUNT, F.CORE_PC_PC])) cycles
  rw [State.holdEnded, nextPc_of_room (by rw [hpc, State.core_countF, State.core_setCore_same]; exact hroom)]
  refine ⟨by rw [State.core_setF, State.core_countF, State.core_setCore_same], ?_, pcNext_setF hpc, ?_⟩
  · unfold HeldCounted
    rw [State.getF_setF_apart _ (f := F.CORE_PC_PC i) (by decide : 0 + 12 ≤ 32) (.inl (by simp [F.CORE_SYWAIT_CYC_COUNT, F.CORE_PC_PC])),
      State.getF_countF_same _ (f := F.CORE_SYWAIT_CYC_COUNT i) (by decide : 0 + 32 ≤ 32), State.getF_setCore]
  · exact ((OnlyCore.refl.setCore _).countF (f := F.CORE_SYWAIT_CYC_COUNT i) _ (.inr rfl)).setF (f := F.CORE_PC_PC i) _ (.inl rfl)

theorem tally_apart {k : Nat} (hk : k < 64) {f : Fld} (hf : f.addr < pgCore i + 0x180 ∨ pgCore i + 0x200 ≤ f.addr) : (tallyFld i k).apart f :=
  .inl (by rw [tallyFld_addr]; omega)

theorem getF_setF_tally {k : Nat} (hk : k < 64) (s : State) (v : Nat) {f : Fld} (hf : f.addr < pgCore i + 0x180 ∨ pgCore i + 0x200 ≤ f.addr) :
    (s.setF (tallyFld i k) v).getF f = s.getF f :=
  State.getF_setF_apart s (tallyFld_fits i k) (tally_apart hk hf) v

theorem getF_tally_lt (s : State) (i k : Nat) : s.getF (tallyFld i k) < 2 ^ 16 := tallyFld_width i k ▸ s.getF_lt (tallyFld i k)

/-- A hold by SYWAIT that its tally satisfies ends with COUNT subtracted (R119). -/
theorem sywait_ends {k n cycles : Nat} (hroom : s.getF (F.CORE_PC_PC i) + 1 < (s.core i).prog.length) (hk : k < 64) (hhold : (s.core i).hold = .sywait k n)
    (hrun : s.coreSt i = coreRunning) (hfault : (s.core i).fault = none) (hn : n ≤ s.getF (tallyFld i k)) :
    ∃ t, exec (.sywaitSatisfied i cycles) s = .next t ∧ t.getF (tallyFld i k) = s.getF (tallyFld i k) - n ∧
      t.core i = { s.core i with hold := .none } ∧ HeldCounted i cycles s t ∧ PcNext i s t ∧
      OnlyCore i (fun a => pcReg i a ∨ tallyReg i k a ∨ a = pgCore i + 0x14C) s t := by
  have hexec : exec (.sywaitSatisfied i cycles) s = .next ((s.setF (tallyFld i k) (s.getF (tallyFld i k) - n)).holdEnded i cycles) := by
    show execSywaitSatisfied i cycles s = _
    simp [execSywaitSatisfied, hhold, hrun, hfault, hn, State.holdEnded]
  have hpc : (s.setF (tallyFld i k) (s.getF (tallyFld i k) - n)).getF (F.CORE_PC_PC i) = s.getF (F.CORE_PC_PC i) :=
    getF_setF_tally hk s _ (.inl (by simp [F.CORE_PC_PC, pgCore]))
  obtain ⟨hcore, hheld, hnext, honly⟩ := holdEnded_only (s := s.setF (tallyFld i k) (s.getF (tallyFld i k) - n)) (i := i) (by rwa [hpc]) cycles
  refine ⟨_, hexec, ?_, hcore, ?_, hnext.trans (by rw [hpc]), ?_⟩
  · have hkept : ∀ a, a = (tallyFld i k).addr → ¬ (pcReg i a ∨ a = pgCore i + 0x14C) := fun a ha => by
      rw [ha, tallyFld_addr, pcReg]
      omega
    rw [honly.2.1.getF (hkept _ rfl)]
    exact getF_setF (by rw [tallyFld_width]; have := getF_tally_lt s i k; omega) (tallyFld_fits i k)
  · exact hheld.trans (by rw [getF_setF_tally hk s _ (.inl (by simp [F.CORE_SYWAIT_CYC_COUNT, pgCore]))])
  · have htally : OnlyCore i (tallyReg i k) s (s.setF (tallyFld i k) (s.getF (tallyFld i k) - n)) := OnlyCore.refl.setF _ rfl
    have hw := htally.weaken (q := fun a => pcReg i a ∨ tallyReg i k a ∨ a = pgCore i + 0x14C) fun _ h => .inr (.inl h)
    exact hw.trans (honly.weaken fun _ h => h.imp id .inr)

/-- A hold by SYFENCE ends where the test of R52 holds (R119). -/
theorem syfence_ends {cycles : Nat} (hroom : s.getF (F.CORE_PC_PC i) + 1 < (s.core i).prog.length) (hhold : (s.core i).hold = .fence)
    (hrun : s.coreSt i = coreRunning) (hfault : (s.core i).fault = none) (htest : s.berthTest i = true) :
    ∃ t, exec (.syfenceSatisfied i cycles) s = .next t ∧ t.core i = { s.core i with hold := .none } ∧ HeldCounted i cycles s t ∧ PcNext i s t ∧
      OnlyCore i (fun a => pcReg i a ∨ a = pgCore i + 0x14C) s t := by
  refine ⟨s.holdEnded i cycles, ?_, holdEnded_only hroom cycles⟩
  show execSyfenceSatisfied i cycles s = _
  simp [execSyfenceSatisfied, hhold, hrun, hfault, htest, State.holdEnded]

/-- SYSET sets the own tally (R119). -/
theorem syset_sets (hroom : s.getF (F.CORE_PC_PC i) + 1 < (s.core i).prog.length) (hok : s.issueOk i w = true) (hop : opIs w 4 4 = true)
    (hlegal : onlyBits w 56 [(50, 6), (0, 16)] = true) :
    ∃ t, exec (.syset i w) s = .next t ∧ t.getF (tallyFld i (bits w.toNat 50 6)) = bits w.toNat 0 16 ∧ t.core i = s.core i ∧
      PcNext i s t ∧ OnlyRegs (fun a => pcReg i a ∨ tallyReg i (bits w.toNat 50 6) a) s t := by
  have hk : bits w.toNat 50 6 < 64 := bits_lt _ _ _
  generalize hkdef : bits w.toNat 50 6 = k at hk
  have hpc : (s.setF (tallyFld i k) (bits w.toNat 0 16)).getF (F.CORE_PC_PC i) = s.getF (F.CORE_PC_PC i) :=
    getF_setF_tally hk s _ (.inl (by simp [F.CORE_PC_PC, pgCore]))
  refine ⟨_, exec_of_legal exec_syset hok hop hlegal, ?_⟩
  rw [hkdef, nextPc_of_room (by rw [hpc]; exact hroom)]
  refine ⟨?_, rfl, pcNext_setF hpc, (OnlyRegs.refl.setF (f := tallyFld i k) _ (.inr rfl)).setF (f := F.CORE_PC_PC i) _ (.inl rfl)⟩
  rw [State.getF_setF_apart _ (f := F.CORE_PC_PC i) (by decide : 0 + 12 ≤ 32) (.inl (by rw [tallyFld_addr]; simp only [F.CORE_PC_PC, pgCore]; omega))]
  exact getF_setF (by rw [tallyFld_width]; exact bits_lt _ _ _) (tallyFld_fits i k)

/-- Settles O13: `sywait_ends`, `syfence_ends` and `syset_sets`, one part each. -/
theorem syncCompletes : Obligations.SyncCompletes := by
  intro i cycles w s hroom
  exact ⟨fun k n hk hhold hrun hfault hn => sywait_ends hroom hk hhold hrun hfault hn,
    fun hhold hrun hfault htest => syfence_ends hroom hhold hrun hfault htest, fun hok hop hlegal => syset_sets hroom hok hop hlegal⟩

/-! The VX class (R113, R121, R123) -/

/-- Each of the 25 mnemonics is issued by the same rule, for its own opcode. -/
theorem exec_vxRows {e : (Nat → Word64 → Instr) × Nat} (he : e ∈ vxRows) : exec (e.1 i w) s = vxIssue e.2 i w s := by
  simp only [vxRows, List.mem_cons, List.not_mem_nil, or_false] at he
  obtain rfl | rfl | rfl | rfl | rfl | rfl | rfl | rfl | rfl | rfl | rfl | rfl | rfl | rfl | rfl | rfl | rfl | rfl | rfl | rfl | rfl | rfl | rfl | rfl | rfl := he
  all_goals rfl

theorem vxIs_parts {op : Nat} (h : vxIs w op = true) : wClass w = 2 ∧ (wVxOp w == op) = true := by
  simpa [vxIs, wClass, wVxOp] using h

/-- An issued VX instruction is last in the vector engine's queue, its address read now (R113, R114). -/
def vxJoin (op i : Nat) (w : Word64) (s : State) : State :=
  (s.setCore i { s.core i with vx := (s.core i).vx ++ [⟨w, if 0x30 ≤ op ∧ op ≤ 0x32 then vxAddr s i w else 0⟩] }).nextPc i

theorem vxIssue_eq (op : Nat) : vxIssue op i w s = issue s i w 2 (wVxOp w == op) (vxLegal s i w) causeVx (vxJoin op i w) := rfl

theorem vxJoin_only (op : Nat) (w : Word64) (hroom : s.getF (F.CORE_PC_PC i) + 1 < (s.core i).prog.length) :
    PcNext i s (vxJoin op i w s) ∧ OnlyCore i (pcReg i) s (vxJoin op i w s) ∧
    (vxJoin op i w s).core i = { s.core i with vx := (s.core i).vx ++ [⟨w, if 0x30 ≤ op ∧ op ≤ 0x32 then vxAddr s i w else 0⟩] } := by
  rw [vxJoin, nextPc_of_room (by rw [State.getF_setCore, State.core_setCore_same]; exact hroom)]
  exact ⟨pcNext_setF rfl, (OnlyCore.refl.setCore _).setF _ rfl, State.core_setCore_same i _⟩

/-- Settles O14: a legal word joins the queue (`vxJoin_only`); with eight waiting it is held (`issue_of_held`). -/
theorem vxIssue_settled : Obligations.VxIssue := by
  intro e he i w s hop
  obtain ⟨hcls, hop⟩ := vxIs_parts hop
  rw [exec_vxRows he, vxIssue_eq]
  refine ⟨fun ⟨hok, hroom⟩ hlegal => ⟨_, issue_of_legal hok hcls hop hlegal, vxJoin_only e.2 w hroom⟩, fun hfull => issue_of_held ?_⟩
  simp [State.issueOk, State.queueFull, hcls, hfull]

/-- Settles O15: an illegal word faults in place of its effect (`exec_of_illegal`), and the core has no fault yet (`progFault_of_issueOk`). -/
theorem illegalWords : Obligations.IllegalWords := by
  intro i w s hok Faults
  refine ⟨fun c hc => ?_, fun hop h => exec_of_illegal exec_ctnop hok hop h, fun hop h => exec_of_illegal exec_ctbr hok hop (by simp [h]),
    fun hop h => exec_of_illegal exec_ctloop hok hop (by simp [h]), fun hop h => exec_of_illegal exec_ctid hok hop (by rw [decide_eq_false (Nat.not_lt.mpr h), Bool.and_false]),
    fun hop h => exec_of_illegal exec_sywait hok hop (by simp [h]), fun e he hop h => ?_⟩
  · show execReservedInstruction i w s = _
    simp only [execReservedInstruction, hc, hok, if_true, progFault_of_issueOk hok]
  · show exec (e.1 i w) s = _
    rw [exec_vxRows he, vxIssue_eq, issue_of_illegal hok (vxIs_parts hop).1 (vxIs_parts hop).2 h, progFault_of_issueOk hok]

end

end Sys2Proof.Machine
end

section
namespace Sys2Proof.Machine

section
variable {s t u : State} {i : Nat} {w : Word64}

/-! ### Marks and streams (O17 to O19) -/

/-! An increment of a tally (R117) -/

theorem progFault_only {p : Nat → Prop} (s : State) (i cause info : Nat) : OnlyCore i p s (s.progFault i cause info) := by
  unfold State.progFault
  dsimp only
  split
  · exact .refl
  · exact OnlyCore.refl.setCore _

theorem progFault_regs (s : State) (i cause info : Nat) : (s.progFault i cause info).regs = s.regs := by
  unfold State.progFault
  dsimp only
  split <;> rfl

/-- A core that can fault, and has not, takes the fault (R136). -/
theorem progFault_of_can (hcan : s.canFault i = true) (hnone : (s.core i).fault = none) (cause info : Nat) :
    s.progFault i cause info = s.setCore i
      { s.core i with fault := some ⟨cause, s.getF (F.CORE_PC_PC i), s.getF (F.CORE_PROG_K_K i), info⟩ } := by
  simp [State.progFault, hcan, hnone]

theorem tallyAdd_of_max {k : Nat} (h : s.getF (tallyFld i k) = 0xFFFF) : s.tallyAdd i k 1 = (s.setF (tallyFld i k) 0xFFFF).progFault i causeTally k := by
  unfold State.tallyAdd
  rw [h]
  rfl

/-- An increment leaves its tally one higher, or at the maximum. -/
theorem getF_tallyAdd (s : State) (i k : Nat) : (s.tallyAdd i k 1).getF (tallyFld i k) = min (s.getF (tallyFld i k) + 1) 0xFFFF := by
  have hlt := getF_tally_lt s i k
  by_cases hmax : s.getF (tallyFld i k) = 0xFFFF
  · rw [tallyAdd_of_max hmax, State.getF_congr (progFault_regs _ i causeTally k), getF_setF (by rw [tallyFld_width]; decide) (tallyFld_fits i k), hmax]
    rfl
  · rw [getF_tallyAdd_one (by omega)]
    omega

/-- It changes that tally and, past the maximum, the core's fault. -/
theorem tallyAdd_only (s : State) (i k : Nat) : OnlyCore i (tallyReg i k) s (s.tallyAdd i k 1) := by
  have hset (v : Nat) : OnlyCore i (tallyReg i k) s (s.setF (tallyFld i k) v) := OnlyCore.refl.setF v rfl
  unfold State.tallyAdd
  dsimp only
  split
  · exact hset _
  · exact (hset _).trans (progFault_only _ i causeTally k)

theorem tallyAdd_core (s : State) (i k : Nat) : ∃ f, (s.tallyAdd i k 1).core i = { s.core i with fault := f } := by
  unfold State.tallyAdd
  dsimp only
  split
  · exact ⟨_, rfl⟩
  · exact progFault_core _ _

/-- Past the maximum the receiving core faults (R117). -/
theorem tallyAdd_overflows {k : Nat} (hk : k < 64) (hmax : s.getF (tallyFld i k) = 0xFFFF) (hcan : s.canFault i = true) (hnone : (s.core i).fault = none) :
    ((s.tallyAdd i k 1).core i).fault = some ⟨causeTally, s.getF (F.CORE_PC_PC i), s.getF (F.CORE_PROG_K_K i), k⟩ := by
  have hkeep {f : Fld} (hf : f.addr < pgCore i + 0x180) : (s.setF (tallyFld i k) 0xFFFF).getF f = s.getF f := getF_setF_tally hk s _ (.inl hf)
  have hst : (s.setF (tallyFld i k) 0xFFFF).coreSt i = s.coreSt i := hkeep (f := F.PG_STATE_STATE (pgCore i)) (by simp [F.PG_STATE_STATE])
  have hcan' : (s.setF (tallyFld i k) 0xFFFF).canFault i = true := by rwa [State.canFault, hst]
  rw [tallyAdd_of_max hmax, progFault_of_can hcan' hnone, State.core_setCore_same, hkeep (by simp [F.CORE_PC_PC, pgCore]),
    hkeep (by simp [F.CORE_PROG_K_K, pgCore])]

/-- Settles O17: VMARK leaves the queue, and its tally is incremented (`getF_tallyAdd`, `tallyAdd_only`, `tallyAdd_overflows`). -/
theorem tallyMarks : Obligations.TallyMarks := by
  intro i s e rest hqueue hmark k old
  have hk : k < 64 := bits_lt _ _ _
  have hexec : exec (.vmarkDone i) s = .next ((s.setCore i { s.core i with vx := rest }).tallyAdd i k 1) := by
    show execVmarkDone i s = _
    simp [execVmarkDone, hqueue, hmark, k]
  obtain ⟨f, hcore⟩ := tallyAdd_core (s.setCore i { s.core i with vx := rest }) i k
  rw [State.core_setCore_same] at hcore
  refine ⟨_, hexec, getF_tallyAdd _ i k, by rw [hcore], (OnlyCore.refl.setCore _).trans (tallyAdd_only _ i k), fun hlt => ?_, fun hmax hcan hnone => ?_⟩
  · rw [tallyAdd_one (s := s.setCore i { s.core i with vx := rest }) hlt, State.core_setF, State.core_setCore_same]
  · exact tallyAdd_overflows hk hmax hcan (by rw [State.core_setCore_same]; exact hnone)

/-! Issue of the ST words (R126 to R128) -/

/-- The mark that STMARK puts behind all earlier streams (R126). -/
def markOf (s : State) (i : Nat) (w : Word64) : CoreStream :=
  ⟨(s.core i).nextStream, 4, true, bits w.toNat 0 6, ⟨0, 0, 0, 0, 0, 0, false, 0, 0, [], [], [], 0⟩, 0, 0, [], 0, 0, [], [], [], [], [], [], false, {}⟩

theorem exec_stmark : exec (.stmark i w) s = issue s i w 3 (wOp w == 4) (onlyBits w 56 [(0, 6)]) causeSt (fun s =>
    (s.setCore i { s.core i with streams := (s.core i).streams ++ [markOf s i w], nextStream := (s.core i).nextStream + 1 }).nextPc i) := rfl

/-- What issue does with a stream whose descriptor `d` lies whole in the scratchpad: PATH 1 is judged first, then the fields, then the conversion (R85, R128). -/
theorem stIssue_of_whole {op : Nat} {b : List Nat} {d : StDesc} (hok : s.issueOk i w = true) (hop : opIs w 3 op = true) (hword : stWordOk w = true)
    (hroom : 64 * bits w.toNat 41 15 + 64 ≤ s.scratchBytes i) (hclean : (s.core i).ls.errors (64 * bits w.toNat 41 15) 64 = [])
    (hb : s.lsData i (64 * bits w.toNat 41 15) 64 = b) (hd : descOf b (s.scalar i (bits w.toNat 37 4)).toNat (s.scalar i (bits w.toNat 33 4)).toNat = d) :
    stIssue i w s op =
      match if s.leavesColumn i d (op != 2) then some 1 else d.illegal b (op != 2) (op != 3) (s.scratchBytes i) with
      | some f => .next (s.progFault i causeSt f)
      | none => match convRefusal d.conv (d.n 0) with
        | some k => .next (s.progFault i causeConv (d.conv + 2 ^ 16 * k))
        | none => .next ((s.stEnter i w op d).nextPc i) := by
  obtain ⟨hcls, hop⟩ := opIs_parts hop
  have hfault := (issueOk_parts hok).2.1
  simp only [stIssue, hok, hcls, hop, hword, lsNote_of_clean hclean, hfault, hb, hd, decide_eq_false (Nat.not_lt.mpr hroom)] <;> rfl

/-- Settles O18: `stIssue_of_whole` for the streams, `exec_stmark` for the mark. -/
theorem streamIssue : Obligations.StreamIssue := by
  intro i w s hok a b d Faults
  refine ⟨fun e he hop hword hroom hclean => ?_, fun hop hlegal hroom => ?_⟩
  · have hexec : exec e.1 s = stIssue i w s e.2 := by
      simp only [List.mem_cons, List.not_mem_nil, or_false] at he
      obtain rfl | rfl | rfl := he
      all_goals rfl
    have hissue := hexec.trans (stIssue_of_whole (b := b) (d := d) hok hop hword hroom hclean rfl rfl)
    have hfaults {cause info : Nat} (h : exec e.1 s = .next (s.progFault i cause info)) : Faults e.1 cause info := by
      show exec e.1 s = _
      rw [h, progFault_of_issueOk hok]
    refine ⟨fun hleaves => hfaults ?_, fun hpath => ?_, fun f hstays hbad => hfaults ?_, fun hstays hgood => ⟨fun k hk => hfaults ?_, fun hk => ?_⟩⟩
    · simp only [hissue, hleaves, if_true]
    · simp [State.leavesColumn, hpath]
    · simp only [hissue, hstays, hbad, Bool.false_eq_true, if_false]
    · simp only [hissue, hstays, hgood, hk, Bool.false_eq_true, if_false]
    · simp only [hissue, hstays, hgood, hk, Bool.false_eq_true, if_false]
  · refine ⟨_, markOf s i w, exec_of_legal exec_stmark hok hop hlegal, rfl, rfl, ?_⟩
    rw [nextPc_of_room (by rw [State.getF_setCore, State.core_setCore_same]; exact hroom)]
    exact ⟨pcNext_setF rfl, (OnlyCore.refl.setCore _).setF _ rfl, State.core_setCore_same i _⟩

/-! Ends of streams and marks (R126, R129) -/

/-- A stream's tally and remote signal follow its count, and last the streams that waited go on (R129). -/
def State.streamEnded (s : State) (i : Nat) (x : CoreStream) : State :=
  let u := s.countF (F.CORE_ST_DONE_COUNT i) 1
  let v := if x.ten then u.tallyAdd i x.tally 1 else u
  (if x.desc.rsig then v.signal i x.desc.rroute x.desc.rtally 1 else v).pumpCore i

section
variable {sid : Nat} {x : CoreStream}

theorem execStreamComplete_prefetch (hx : s.streamOf i sid = some x) (hop : x.op = 3) (htodo : x.todo = []) (hwait : x.waiting = 0) :
    exec (.streamComplete i sid) s = .next ((s.killStream i sid).streamEnded i x) := by
  show execStreamComplete i sid s = _
  simp only [execStreamComplete, hx, hop, htodo, hwait, State.streamEnded] <;> rfl

theorem execStreamComplete_store (hx : s.streamOf i sid = some x) (hop : x.op = 2) (hwriting : x.writing = true) (htodo : x.todo = []) (hwait : x.waiting = 0) :
    exec (.streamComplete i sid) s = .next (((s.killStream i sid).addFlags i x.flags).streamEnded i x) := by
  show execStreamComplete i sid s = _
  simp only [execStreamComplete, hx, hop, hwriting, htodo, hwait, State.streamEnded] <;> rfl

theorem execStreamComplete_load (hx : s.streamOf i sid = some x) (hop : x.op = 1) (htodo : x.todo = []) (hwait : x.waiting = 0) :
    let r := x.convert (joined x.got) (joined x.gotAux)
    exec (.streamComplete i sid) s = .next ((((s.killStream i sid).stLand i x r.1 r.2.1).addFlags i r.2.2).streamEnded i x) := by
  intro r
  show execStreamComplete i sid s = _
  simp only [execStreamComplete, hx, hop, htodo, hwait, State.streamEnded, r]
  rfl

end

/-- Settles O19: a stream ends by its kind (`execStreamComplete_prefetch`, `execStreamComplete_store`, `execStreamComplete_load`), and a mark
at the head of its queue likewise. -/
theorem streamEnds : Obligations.StreamEnds := by
  intro i sid s
  refine ⟨fun x hx hop htodo hwait => execStreamComplete_prefetch hx hop htodo hwait,
    fun x hx hop hwriting htodo hwait => execStreamComplete_store hx hop hwriting htodo hwait,
    fun x hx hop htodo hwait => execStreamComplete_load hx hop htodo hwait, fun x rest hstreams hop => ?_⟩
  show execStmarkDone i s = _
  simp only [execStmarkDone, hstreams, hop, if_true]

end

end Sys2Proof.Machine
end

section
namespace Sys2Proof.Machine

section
variable {s t u : State} {i : Nat}

/-! ### A core's voyage (O20, O21) -/

theorem getF_setF_ne {f g : Fld} (s : State) (v : Nat) (h : g.addr ≠ f.addr) : (s.setF f v).getF g = s.getF g := getF_of_word (State.word_setF_ne s h v)

theorem getF_countF_ne {f g : Fld} (s : State) (n : Nat) (h : g.addr ≠ f.addr) : (s.countF f n).getF g = s.getF g := getF_setF_ne s _ h

/-- The state of a core is the one set. -/
theorem coreSt_setCoreSt (s : State) (i : Nat) {v : Nat} (h : v < 16) : (s.setCoreSt i v).coreSt i = v :=
  getF_setF (f := F.PG_STATE_STATE (pgCore i)) h (by decide : 0 + 4 ≤ 32)

/-- The state of a core stands in its page's header. -/
theorem getF_setCoreSt_ne {g : Fld} (s : State) (i v : Nat) (h : g.addr ≠ pgCore i + 0xC) : (s.setCoreSt i v).getF g = s.getF g := getF_setF_ne s v h

/-! Launch (R133) -/

theorem tally_apart_tally {i k m : Nat} (h : m ≠ k) : (tallyFld i m).apart (tallyFld i k) := by
  unfold Fld.apart
  rw [tallyFld_addr, tallyFld_addr]
  by_cases haddr : m / 2 = k / 2
  · unfold tallyFld
    split
    · rw [if_neg (by omega)]
      exact .inr (.inl (by decide : 0 + 16 ≤ 16))
    · rw [if_pos (by omega)]
      exact .inr (.inr (by decide : 0 + 16 ≤ 16))
  · exact .inl (by omega)

/-- The tallies of a list are set to 0. -/
def State.zeroTallies (s : State) (i : Nat) (l : List Nat) : State := l.foldl (fun s k => s.setF (tallyFld i k) 0) s

theorem getF_setF_tally_zero (s : State) (i k : Nat) : (s.setF (tallyFld i k) 0).getF (tallyFld i k) = 0 :=
  getF_setF (by rw [tallyFld_width]; decide) (tallyFld_fits i k)

theorem zeroTallies_zero (s : State) (i : Nat) {l : List Nat} {k : Nat} (hk : k ∈ l ∨ s.getF (tallyFld i k) = 0) :
    (s.zeroTallies i l).getF (tallyFld i k) = 0 := by
  unfold State.zeroTallies
  induction l generalizing s with
  | nil => exact hk.resolve_left (by simp)
  | cons m l ih =>
    refine ih _ ?_
    by_cases hmk : m = k
    · exact .inr (hmk ▸ getF_setF_tally_zero s i m)
    · refine hk.imp (fun h => (List.mem_cons.mp h).resolve_left (Ne.symm hmk)) fun h => ?_
      rwa [State.getF_setF_apart s (tallyFld_fits i m) (tally_apart_tally hmk)]

theorem zeroTallies_only (s : State) (i : Nat) {l : List Nat} (hl : ∀ k ∈ l, k < 64) : OnlyCore i (onPage (pgCore i)) s (s.zeroTallies i l) :=
  List.foldlRecOn l _ .refl fun _ h k hk => h.setF _ (by
    rw [tallyFld_addr, Nat.add_assoc]
    exact onPage_pgCore (by have := hl k hk; omega))

theorem zeroTallies_core (s : State) (i : Nat) (l : List Nat) (j : Nat) : (s.zeroTallies i l).core j = s.core j :=
  List.foldlRecOn (motive := fun t : State => t.core j = s.core j) l _ rfl fun _ h _ _ => h

/-- What a core holds as its voyage is launched: no register set, and program 0 being fetched (R133). -/
def CoreState.launched (c : CoreState) : CoreState :=
  { c with scalars := [], vregs := [], masks := [], prog := [], fetch := .running 0, hold := .none, fault := none, l1 := [], wdog := 0, kTurns := 0 }

/-- The registers of a launched core: no tally, no flag, n, k and the program counter 0 (R133). -/
def State.countsCleared (s : State) (i : Nat) : State :=
  ((((s.zeroTallies i (List.range 64)).setWord (pgCore i + 0x130) 0).setF (F.CORE_SR_N_N i) 0).setF (F.CORE_PROG_K_K i) 0).setF (F.CORE_PC_PC i) 0

theorem launch_of_idle (hst : s.coreSt i = coreIdle ∨ s.coreSt i = coreEnded) (hfault : (s.core i).fault = none) :
    s.launch i = ((s.setCore i (s.core i).launched).countsCleared i).setCoreSt i coreLoaded := by
  unfold State.launch
  dsimp only
  rw [if_neg (by simp only [hfault]; simp; omega)]
  rfl

theorem launch_refused (h : (s.coreSt i ≠ coreIdle ∧ s.coreSt i ≠ coreEnded) ∨ (s.core i).fault.isSome = true) : s.launch i = s := if_pos h

theorem countsCleared_only (s : State) (i : Nat) : OnlyCore i (onPage (pgCore i)) s (s.countsCleared i) := by
  have htallies : OnlyCore i (onPage (pgCore i)) s (s.zeroTallies i (List.range 64)) := zeroTallies_only s i fun k hk => List.mem_range.mp hk
  have hflags := htallies.setWord (0 : Word) (onPage_pgCore (n := 0x130) (by decide))
  exact ((hflags.setF (f := F.CORE_SR_N_N i) 0 (onPage_pgCore (n := 0x144) (by decide))).setF (f := F.CORE_PROG_K_K i) 0
    (onPage_pgCore (n := 0x128) (by decide))).setF (f := F.CORE_PC_PC i) 0 (onPage_pgCore (n := 0x12C) (by decide))

theorem countsCleared_core (s : State) (i : Nat) : (s.countsCleared i).core i = s.core i := by
  rw [State.countsCleared, State.core_setF, State.core_setF, State.core_setF, State.core_setWord, zeroTallies_core]

theorem countsCleared_tally (s : State) (i : Nat) {k : Nat} (hk : k < 64) : (s.countsCleared i).getF (tallyFld i k) = 0 := by
  have hne {a : Nat} (h : a < pgCore i + 0x180) : (tallyFld i k).addr ≠ a := by
    rw [tallyFld_addr]
    omega
  unfold State.countsCleared
  rw [getF_setF_ne _ _ (hne (by simp [F.CORE_PC_PC, pgCore])), getF_setF_ne _ _ (hne (by simp [F.CORE_PROG_K_K, pgCore])),
    getF_setF_ne _ _ (hne (by simp [F.CORE_SR_N_N, pgCore])), getF_of_word (State.word_setWord_ne _ _ (hne (by simp)))]
  exact zeroTallies_zero s i (.inl (List.mem_range.mpr hk))

theorem countsCleared_flags (s : State) (i : Nat) : (s.countsCleared i).word (pgCore i + 0x130) = 0 := by
  unfold State.countsCleared
  rw [State.word_setF_ne _ (by simp [F.CORE_PC_PC, pgCore]), State.word_setF_ne _ (by simp [F.CORE_PROG_K_K, pgCore]),
    State.word_setF_ne _ (by simp [F.CORE_SR_N_N, pgCore]), State.word_setWord_same]

theorem countsCleared_n (s : State) (i : Nat) : (s.countsCleared i).getF (F.CORE_SR_N_N i) = 0 := by
  unfold State.countsCleared
  rw [getF_setF_ne _ _ (by simp [F.CORE_PC_PC, F.CORE_SR_N_N]), getF_setF_ne _ _ (by simp [F.CORE_PROG_K_K, F.CORE_SR_N_N])]
  exact getF_setF (f := F.CORE_SR_N_N i) (by decide : 0 < 2 ^ 32) (by decide : 0 + 32 ≤ 32)

theorem countsCleared_k (s : State) (i : Nat) : (s.countsCleared i).getF (F.CORE_PROG_K_K i) = 0 := by
  unfold State.countsCleared
  rw [getF_setF_ne _ _ (by simp [F.CORE_PC_PC, F.CORE_PROG_K_K])]
  exact getF_setF (f := F.CORE_PROG_K_K i) (by decide : 0 < 2 ^ 32) (by decide : 0 + 32 ≤ 32)

theorem countsCleared_pc (s : State) (i : Nat) : (s.countsCleared i).getF (F.CORE_PC_PC i) = 0 := getF_setF_pc _ i 0

/-- A launch in IDLE or ENDED clears the core and enters LOADED (R133). -/
theorem launch_loads (hst : s.coreSt i = coreIdle ∨ s.coreSt i = coreEnded) (hfault : (s.core i).fault = none) :
    (s.launch i).coreSt i = coreLoaded ∧ (∀ k, k < 64 → (s.launch i).getF (tallyFld i k) = 0) ∧ (s.launch i).word (pgCore i + 0x130) = 0 ∧
    (s.launch i).getF (F.CORE_SR_N_N i) = 0 ∧ (s.launch i).getF (F.CORE_PROG_K_K i) = 0 ∧ (s.launch i).getF (F.CORE_PC_PC i) = 0 ∧
    (s.launch i).core i = (s.core i).launched ∧ OnlyCore i (onPage (pgCore i)) s (s.launch i) := by
  rw [launch_of_idle hst hfault]
  refine ⟨coreSt_setCoreSt _ i (by decide), fun k hk => ?_, ?_, ?_, ?_, ?_, ?_, ?_⟩
  · rw [getF_setCoreSt_ne _ i _ (by rw [tallyFld_addr]; omega), countsCleared_tally _ i hk]
  · rw [State.setCoreSt, State.setPgState, State.word_setF_ne _ (by simp [F.PG_STATE_STATE]), countsCleared_flags]
  · rw [getF_setCoreSt_ne _ i _ (by simp [F.CORE_SR_N_N, pgCore]), countsCleared_n]
  · rw [getF_setCoreSt_ne _ i _ (by simp [F.CORE_PROG_K_K, pgCore]), countsCleared_k]
  · rw [getF_setCoreSt_ne _ i _ (by simp [F.CORE_PC_PC, pgCore]), countsCleared_pc]
  · rw [State.core_setCoreSt, countsCleared_core, State.core_setCore_same]
  · exact ((OnlyCore.refl.setCore _).trans (countsCleared_only _ i)).setF (f := F.PG_STATE_STATE (pgCore i)) _ (onPage_pgCore (n := 0xC) (by decide))

/-! Writes of CORE_VOY_CMD and CORE_LS_SPLIT (R131, R133, R136) -/

section
variable {who : Requester} {v : Word}

theorem execVoyageLaunch_of_admitted (hadm : Admitted s u who (pgCore i + 0x124) 1 v) (hlaunch : bit v.toNat 0 = true) :
    exec (.voyageLaunch who i v) s = .next
      (if bit v.toNat 1 && (u.coreSt i == coreLoaded || u.coreSt i == coreRunning || u.coreSt i == coreBerthed) then u.progFault i causeAbort 0
      else u.launch i) := by
  obtain ⟨m, hm, hall⟩ := hadm
  show execVoyageLaunch who i v s = _
  rw [execVoyageLaunch, if_pos hlaunch]
  exact trigger_admitted _ hm hall

theorem execVoyageAbort_of_admitted (hadm : Admitted s u who (pgCore i + 0x124) 2 v) (habort : bit v.toNat 1 = true) (hlaunch : bit v.toNat 0 = false) :
    exec (.voyageAbort who i v) s = .next
      (if u.coreSt i == coreLoaded || u.coreSt i == coreRunning || u.coreSt i == coreBerthed then u.progFault i causeAbort 0 else u) := by
  obtain ⟨m, hm, hall⟩ := hadm
  show execVoyageAbort who i v s = _
  rw [execVoyageAbort, if_pos habort, trigger_admitted _ hm hall, hlaunch]
  rfl

theorem execLocalStoreSplitChange_of_admitted (hadm : Admitted s u who (pgCore i + 0x104) 7 v) :
    exec (.localStoreSplitChange who i v) s = .next (u.setSplit i (bits v.toNat 0 3)) := by
  obtain ⟨m, hm, hall⟩ := hadm
  exact trigger_admitted (fun s => s.setSplit i (bits v.toNat 0 3)) hm hall

end

/-- A core in LOADED, RUNNING or BERTHED can fault (R136). -/
theorem canFault_of_live (h : s.coreSt i = coreLoaded ∨ s.coreSt i = coreRunning ∨ s.coreSt i = coreBerthed) : s.canFault i = true := by
  obtain h | h | h := h <;> rw [State.canFault, h] <;> rfl

theorem tabGet_filter_addr {α : Type} (l : Tab α) (p : Nat → Bool) {a : Nat} (ha : p a = true) : tabGet (l.filter (fun e => p e.1)) a = tabGet l a := by
  induction l with
  | nil => rfl
  | cons e l ih =>
    obtain ⟨b, x⟩ := e
    by_cases hb : b = a
    · subst hb
      simp [ha, tabGet]
    · by_cases hp : p b = true
      · simp only [List.filter_cons, hp, if_true, tabGet, if_neg hb, ih]
      · simp only [List.filter_cons, hp, tabGet, if_neg hb]
        exact ih

/-- Bytes below a range that is filled anew read as before. -/
theorem read_refill_below (m : Memory) {lo hi a : Nat} (g : Option Nat) (h : a < lo) : (m.refill lo hi g).read a = m.read a := by
  have hcells : tabGet (m.refill lo hi g).cells a = tabGet m.cells a :=
    tabGet_filter_addr m.cells (fun a => decide (a < lo) || decide (hi ≤ a)) (by simp [h])
  have hfill : fillAt (m.refill lo hi g).fill a = fillAt m.fill a := if_neg (by omega)
  rw [Memory.read, hcells, hfill, Memory.read]

/-- The state in which the L1 has taken a size: the registers alone have changed (R131). -/
def State.splitTaken (s : State) (i v : Nat) : State := { s.setF (F.CORE_LS_SPLIT_L1 i) v with freeCtr := s.freeCtr + 1 }

theorem setSplit_of_new {v : Nat} (hout : s.inVoyage i = false) (hv : v ≤ 4) (hnew : s.getF (F.CORE_LS_SPLIT_L1 i) ≠ v) :
    s.setSplit i v = (s.splitTaken i v).setCore i { s.core i with
      ls := (s.core i).ls.refill (min (s.scratchBytes i) ((s.splitTaken i v).scratchBytes i)) 0x200000 (some s.freeCtr), l1 := [] } := by
  unfold State.setSplit
  rw [if_neg (by simp [hout, hnew]; omega)]
  rfl

theorem setSplit_of_same {v : Nat} (h : s.getF (F.CORE_LS_SPLIT_L1 i) = v) : s.setSplit i v = s := by
  unfold State.setSplit
  rw [if_pos (by simp [h])]

/-- A new size keeps the scratchpad below the boundary and empties the L1 (R131). -/
theorem setSplit_keeps {v : Nat} (hout : s.inVoyage i = false) (hv : v ≤ 4) (hnew : s.getF (F.CORE_LS_SPLIT_L1 i) ≠ v) :
    let t := s.setSplit i v
    t.getF (F.CORE_LS_SPLIT_L1 i) = v ∧ (t.core i).l1 = [] ∧
    (∀ a, a < s.scratchBytes i → a < t.scratchBytes i → (t.core i).ls.read a = (s.core i).ls.read a) ∧
    SameRegs (fun a => a = pgCore i + 0x104) s t ∧ (∀ j, j ≠ i → t.core j = s.core j) ∧
    t = { s with regs := t.regs, cores := t.cores, freeCtr := s.freeCtr + 1 } := by
  intro t
  have ht : t = _ := setSplit_of_new hout hv hnew
  rw [ht]
  refine ⟨?_, by rw [State.core_setCore_same], fun a ha hb => ?_, ?_, fun j hj => ?_, rfl⟩
  · exact getF_setF (f := F.CORE_LS_SPLIT_L1 i) (show v < 2 ^ 3 by omega) (by decide : 0 + 3 ≤ 32)
  · rw [State.core_setCore_same]
    exact read_refill_below _ _ (lt_min ha hb)
  · exact SameRegs.refl.setF (t := s) (f := F.CORE_LS_SPLIT_L1 i) v rfl
  · exact State.core_setCore_ne _ hj

/-- Settles O20: `launch_loads`, `launch_refused`, `progFault_of_can`, `setSplit_keeps` and `setSplit_of_same` are the effects of the writes. -/
theorem voyageWrites : Obligations.VoyageWrites := by
  intro who i v s u
  refine ⟨fun hadm hlaunch => ⟨fun hst hfault => ?_, fun hrefused habort => ?_⟩, fun hadm habort hlaunch => ?_, fun hadm hout hsize => ⟨fun hsame => ?_, fun hnew => ?_⟩⟩
  · have hidle : (u.coreSt i == coreLoaded || u.coreSt i == coreRunning || u.coreSt i == coreBerthed) = false := by
      obtain h | h := hst <;> rw [h] <;> rfl
    refine ⟨_, execVoyageLaunch_of_admitted hadm hlaunch, ?_⟩
    rw [if_neg (by simp [hidle])]
    exact launch_loads hst hfault
  · rw [execVoyageLaunch_of_admitted hadm hlaunch, habort, launch_refused hrefused]
    rfl
  · intro live
    have hlive : (u.coreSt i == coreLoaded || u.coreSt i == coreRunning || u.coreSt i == coreBerthed) = true ↔ live := by
      simp only [Bool.or_eq_true, beq_iff_eq, or_assoc, live]
    rw [execVoyageAbort_of_admitted hadm habort hlaunch]
    exact ⟨fun h hfault => by rw [if_pos (hlive.mpr h), progFault_of_can (canFault_of_live h) hfault], fun h => by rw [if_neg (mt hlive.mp h)]⟩
  · rw [execLocalStoreSplitChange_of_admitted hadm, setSplit_of_same hsame]
  · exact ⟨_, execLocalStoreSplitChange_of_admitted hadm, setSplit_keeps hout hsize hnew⟩

end

end Sys2Proof.Machine
end

section
namespace Sys2Proof.Machine

section
variable {s t u : State} {i : Nat}

/-! ### The life of a program (O21) -/

/-! Start (R53, R134) -/

/-- What the core holds as program `ws` of index `k` starts: the next program's fetch has begun where there is one (R134). -/
def State.coreStarted (s : State) (i k : Nat) (ws : List Word64) : CoreState :=
  { s.core i with prog := ws, hold := .none, wdog := 0, fetch := if s.hasNext i k then .running ((k + 1) % 2 ^ 32) else .idle }

/-- The state in which program `ws` of index `k` runs from index 0, after `stall` cycles of waiting (R134, R139). -/
def State.programStarted (s : State) (i k stall : Nat) (ws : List Word64) : State :=
  (((s.setCore i (s.coreStarted i k ws)).countF (F.CORE_FETCH_STALL_COUNT i) stall).setF (F.CORE_PC_PC i) 0).setCoreSt i coreRunning

theorem execProgramStart_of_ready {stall : Nat} {ws : List Word64} (hst : s.coreSt i = coreLoaded ∨ s.coreSt i = coreBerthed)
    (hfault : (s.core i).fault = none) (horbit : s.programOrbit i ≤ s.orbit) (hclosed : s.orb.tickAt = none)
    (hfetch : (s.core i).fetch = .ready (s.getF (F.CORE_PROG_K_K i)) ws) :
    exec (.programStart i stall) s = .next (s.programStarted i (s.getF (F.CORE_PROG_K_K i)) stall ws) := by
  have hstep : s.toStep6 = s := by rw [State.toStep6, hclosed]
  have hwaits : (s.coreSt i == coreLoaded || s.coreSt i == coreBerthed) = true := by simpa using hst
  show execProgramStart i stall s = _
  simp only [execProgramStart, hwaits, hfault, decide_eq_false (Nat.not_lt.mpr horbit), hfetch, hstep, Bool.not_true,
    Option.isSome_none, Bool.or_false, Bool.false_eq_true, ne_eq, not_true_eq_false, if_false]
  rw [State.programStarted, State.coreStarted, hfault]

theorem programStarted_runs (s : State) (i k stall : Nat) (ws : List Word64) :
    (s.programStarted i k stall ws).coreSt i = coreRunning ∧ (s.programStarted i k stall ws).getF (F.CORE_PC_PC i) = 0 ∧
    (s.programStarted i k stall ws).core i = s.coreStarted i k ws ∧ OnlyCore i (onPage (pgCore i)) s (s.programStarted i k stall ws) := by
  refine ⟨coreSt_setCoreSt _ i (by decide), ?_, State.core_setCore_same i _, ?_⟩
  · rw [State.programStarted, getF_setCoreSt_ne _ i _ (by simp [F.CORE_PC_PC, pgCore]), getF_setF_pc]
    rfl
  · have hset : OnlyCore i (onPage (pgCore i)) s (s.setCore i (s.coreStarted i k ws)) := OnlyCore.refl.setCore _
    exact ((hset.countF (f := F.CORE_FETCH_STALL_COUNT i) _ (onPage_pgCore (n := 0x148) (by decide))).setF (f := F.CORE_PC_PC i) 0
      (onPage_pgCore (n := 0x12C) (by decide))).setF (f := F.PG_STATE_STATE (pgCore i)) _ (onPage_pgCore (n := 0xC) (by decide))

/-! Berth (R135) -/

/-- The state in which program k has berthed: the counter n is 0 and k has gone on (R135). -/
def State.programBerthed (s : State) (i : Nat) : State :=
  ((s.setCore i { s.core i with hold := .none, kTurns := (s.core i).kTurns + (s.getF (F.CORE_PROG_K_K i) + 1) / 2 ^ 32 }).setF (F.CORE_SR_N_N i) 0).setF
    (F.CORE_PROG_K_K i) ((s.getF (F.CORE_PROG_K_K i) + 1) % 2 ^ 32)

theorem programBerthed_only (s : State) (i : Nat) : OnlyCore i (onPage (pgCore i)) s (s.programBerthed i) :=
  ((OnlyCore.refl.setCore _).setF (f := F.CORE_SR_N_N i) 0 (onPage_pgCore (n := 0x144) (by decide))).setF (f := F.CORE_PROG_K_K i) _
    (onPage_pgCore (n := 0x128) (by decide))

theorem programBerthed_k (s : State) (i : Nat) : (s.programBerthed i).getF (F.CORE_PROG_K_K i) = (s.getF (F.CORE_PROG_K_K i) + 1) % 2 ^ 32 :=
  getF_setF (f := F.CORE_PROG_K_K i) (Nat.mod_lt _ (by decide) : _ < 2 ^ 32) (by decide : 0 + 32 ≤ 32)

theorem programBerthed_n (s : State) (i : Nat) : (s.programBerthed i).getF (F.CORE_SR_N_N i) = 0 := by
  rw [State.programBerthed, getF_setF_ne _ _ (by simp [F.CORE_PROG_K_K, F.CORE_SR_N_N])]
  exact getF_setF (f := F.CORE_SR_N_N i) (by decide : 0 < 2 ^ 32) (by decide : 0 + 32 ≤ 32)

theorem programBerthed_hold (s : State) (i : Nat) : ((s.programBerthed i).core i).hold = .none := by
  rw [State.programBerthed, State.core_setF, State.core_setF, State.core_setCore_same]

/-- The state in which the voyage has ended with this program, before its event: nothing is being fetched (R135). -/
def State.voyageEnded (s : State) (i : Nat) : State :=
  ((s.programBerthed i).setCore i { (s.programBerthed i).core i with fetch := .idle }).setCoreSt i coreEnded

theorem execBerthComplete_of_held {last : Bool} (hhold : (s.core i).hold = .berth last) (hrun : s.coreSt i = coreRunning)
    (hfault : (s.core i).fault = none) (htest : s.berthTest i = true) :
    exec (.berthComplete i) s = .next (if last || !s.hasNext i (s.getF (F.CORE_PROG_K_K i)) then
      (s.voyageEnded i).postCore i ⟨0x03, 0, siteNum i, 0, s.orbit, (s.programBerthed i).coreData0 i, 0, 1⟩
      else (s.programBerthed i).setCoreSt i coreBerthed) := by
  have hgo : (decide (s.coreSt i = coreRunning) && (s.core i).fault.isNone && s.berthTest i) = true := by simp [hrun, hfault, htest]
  show execBerthComplete i s = _
  simp only [execBerthComplete, hhold, hgo, if_true]
  split <;> rfl

/-- What both ends of a berth share: n is 0, k has gone on, and the hold is gone (R135). -/
structure Berths (i : Nat) (s t : State) : Prop where
  k : t.getF (F.CORE_PROG_K_K i) = (s.getF (F.CORE_PROG_K_K i) + 1) % 2 ^ 32
  n : t.getF (F.CORE_SR_N_N i) = 0
  hold : (t.core i).hold = .none
  only : t = { s with regs := t.regs, cores := t.cores, rings := t.rings }
  regs : SameRegs (fun a => onPage (pgCore i) a ∨ onRings a) s t

theorem programBerthed_berths (s : State) (i : Nat) : Berths i s (s.programBerthed i) := by
  obtain ⟨honly, hregs, -⟩ := programBerthed_only s i
  exact ⟨programBerthed_k s i, programBerthed_n s i, programBerthed_hold s i, by rw [honly], hregs.weaken fun _ h => .inl h⟩

theorem Berths.setCore (h : Berths i s t) {c : CoreState} (hc : c.hold = .none) : Berths i s (t.setCore i c) :=
  ⟨by rw [State.getF_setCore, h.k], by rw [State.getF_setCore, h.n], by rw [State.core_setCore_same, hc], by rw [h.only]; rfl, h.regs⟩

theorem Berths.setCoreSt (h : Berths i s t) (st : Nat) : Berths i s (t.setCoreSt i st) :=
  ⟨by rw [getF_setCoreSt_ne _ i _ (by simp [F.CORE_PROG_K_K, pgCore]), h.k], by rw [getF_setCoreSt_ne _ i _ (by simp [F.CORE_SR_N_N, pgCore]), h.n],
    by rw [State.core_setCoreSt, h.hold], by rw [h.only]; rfl,
    h.regs.setF (f := F.PG_STATE_STATE (pgCore i)) st (.inl (onPage_pgCore (n := 0xC) (by decide)))⟩

theorem Berths.postCore (h : Berths i s t) (ev : EvRec) : Berths i s (t.postCore i ev) := by
  obtain ⟨honly, hregs⟩ := postCore_events t i ev
  exact ⟨by rw [hregs.getF (pgCore_not_onRings i 0x128), h.k], by rw [hregs.getF (pgCore_not_onRings i 0x144), h.n], by rw [core_postCore, h.hold],
    by rw [honly, h.only], h.regs.trans (hregs.weaken fun _ h => .inr h)⟩

theorem coreSt_postCore (s : State) (i : Nat) (ev : EvRec) : (s.postCore i ev).coreSt i = s.coreSt i :=
  (postCore_events s i ev).2.getF (f := F.PG_STATE_STATE (pgCore i)) (pgCore_not_onRings i 0xC)

theorem voyageEnded_berths (s : State) (i : Nat) : Berths i s (s.voyageEnded i) :=
  ((programBerthed_berths s i).setCore (c := { (s.programBerthed i).core i with fetch := .idle }) (programBerthed_hold s i)).setCoreSt coreEnded

/-- A satisfied CTBERTH ends the program: the core is berthed, or the voyage ended with an event (R135). -/
theorem berthComplete_berths {last : Bool} (hhold : (s.core i).hold = .berth last) (hrun : s.coreSt i = coreRunning)
    (hfault : (s.core i).fault = none) (htest : s.berthTest i = true) :
    ∃ t, exec (.berthComplete i) s = .next t ∧
      t.coreSt i = (if last = true ∨ s.hasNext i (s.getF (F.CORE_PROG_K_K i)) = false then coreEnded else coreBerthed) ∧ Berths i s t := by
  have hexec := execBerthComplete_of_held hhold hrun hfault htest
  by_cases hends : last = true ∨ s.hasNext i (s.getF (F.CORE_PROG_K_K i)) = false
  · refine ⟨_, hexec.trans (congrArg _ (if_pos (by simpa using hends))), ?_, (voyageEnded_berths s i).postCore _⟩
    rw [if_pos hends, coreSt_postCore, State.voyageEnded, coreSt_setCoreSt _ i (by decide)]
  · refine ⟨_, hexec.trans (congrArg _ (if_neg (by simpa using hends))), ?_, (programBerthed_berths s i).setCoreSt _⟩
    rw [if_neg hends, coreSt_setCoreSt _ i (by decide)]

/-! Faults (R136, R139) -/

/-- The cycles of a hold by SYWAIT or SYFENCE are counted (R139). -/
def State.syncHeld (s : State) (i held : Nat) : State :=
  match (s.core i).hold with
  | .sywait _ _ | .fence => s.countF (F.CORE_SYWAIT_CYC_COUNT i) held
  | _ => s

/-- Beside them the cycles of a wait for a fetch may be counted, in a register of their own. -/
theorem countHeld_cases (s : State) (i held : Nat) :
    s.countHeld i held = s.syncHeld i held ∨ s.countHeld i held = (s.syncHeld i held).countF (F.CORE_FETCH_STALL_COUNT i) held := by
  have hsync : s.countHeld i held = match (s.core i).fetch with
      | .running _ => if s.coreSt i == coreLoaded || s.coreSt i == coreBerthed then (s.syncHeld i held).countF (F.CORE_FETCH_STALL_COUNT i) held else s.syncHeld i held
      | _ => s.syncHeld i held := rfl
  rw [hsync]
  split
  · split
    · exact .inr rfl
    · exact .inl rfl
  · exact .inl rfl

theorem syncHeld_only (s : State) (i held : Nat) : OnlyRegs (fun a => a = pgCore i + 0x14C ∨ a = pgCore i + 0x148) s (s.syncHeld i held) := by
  have hcount : OnlyRegs (fun a => a = pgCore i + 0x14C ∨ a = pgCore i + 0x148) s (s.countF (F.CORE_SYWAIT_CYC_COUNT i) held) :=
    OnlyRegs.refl.countF held (.inl rfl)
  unfold State.syncHeld
  split
  · exact hcount
  · exact hcount
  · exact .refl

theorem countHeld_only (s : State) (i held : Nat) : OnlyRegs (fun a => a = pgCore i + 0x14C ∨ a = pgCore i + 0x148) s (s.countHeld i held) := by
  obtain h | h := countHeld_cases s i held <;> rw [h]
  · exact syncHeld_only s i held
  · exact (syncHeld_only s i held).countF (f := F.CORE_FETCH_STALL_COUNT i) held (.inr rfl)

theorem syncHeld_counts (held : Nat) (h : (∃ k n, (s.core i).hold = .sywait k n) ∨ (s.core i).hold = .fence) : HeldCounted i held s (s.syncHeld i held) := by
  have hcount : HeldCounted i held s (s.countF (F.CORE_SYWAIT_CYC_COUNT i) held) :=
    State.getF_countF_same s (f := F.CORE_SYWAIT_CYC_COUNT i) (by decide : 0 + 32 ≤ 32) held
  unfold State.syncHeld
  obtain ⟨k, n, hhold⟩ | hhold := h <;> rw [hhold] <;> exact hcount

theorem countHeld_counts (held : Nat) (h : (∃ k n, (s.core i).hold = .sywait k n) ∨ (s.core i).hold = .fence) : HeldCounted i held s (s.countHeld i held) := by
  obtain hc | hc := countHeld_cases s i held <;> rw [hc]
  · exact syncHeld_counts held h
  · exact (getF_countF_ne _ held (by simp [F.CORE_SYWAIT_CYC_COUNT, F.CORE_FETCH_STALL_COUNT])).trans (syncHeld_counts held h)

/-- The state of a core that has entered FAULTED with the record of its fault, before its event (R136). -/
def State.faultRecorded (s : State) (i : Nat) (f : FaultRec) : State :=
  ((((s.setCoreSt i coreFaulted).setF (F.CORE_FAULT_CAUSE i) f.cause).setF (F.CORE_FAULT_PC_PC i) f.pc).setF (F.CORE_FAULT_PC_K i) (f.k % 2 ^ 20)).setF
    (F.CORE_FAULT_INFO_INFO i) f.info

theorem execCoreFaulted_of_done {held : Nat} {f : FaultRec} (hfault : (s.core i).fault = some f) (hdone : s.enginesDone i = true) (hcan : s.canFault i = true) :
    exec (.coreFaulted i held) s = .next (((s.countHeld i held).faultRecorded i f).postCore i
      ⟨0x04, 2, siteNum i, f.cause, (s.countHeld i held).orbit, (s.countHeld i held).coreData0 i, f.info, 1⟩) := by
  obtain ⟨honly, hregs⟩ := countHeld_only s i held
  have hcore : (s.countHeld i held).core i = s.core i := by rw [honly]; rfl
  have hst : (s.countHeld i held).coreSt i = s.coreSt i := hregs.getF (f := F.PG_STATE_STATE (pgCore i)) (by simp [F.PG_STATE_STATE])
  have hdone' : (s.countHeld i held).enginesDone i = true := by rwa [State.enginesDone, hcore]
  have hcan' : (s.countHeld i held).canFault i = true := by rwa [State.canFault, hst]
  show execCoreFaulted i held s = _
  simp only [execCoreFaulted, hcore, hfault, hdone', hcan', Bool.not_true, Bool.or_self, Bool.false_eq_true, if_false]
  rfl

theorem faultRecorded_only (s : State) (i : Nat) (f : FaultRec) :
    OnlyRegs (fun a => a = pgCore i + 0xC ∨ (pgCore i + 0x134 ≤ a ∧ a ≤ pgCore i + 0x13C)) s (s.faultRecorded i f) := by
  have hst : OnlyRegs (fun a => a = pgCore i + 0xC ∨ (pgCore i + 0x134 ≤ a ∧ a ≤ pgCore i + 0x13C)) s (s.setCoreSt i coreFaulted) :=
    OnlyRegs.refl.setF (f := F.PG_STATE_STATE (pgCore i)) _ (.inl rfl)
  exact (((hst.setF (f := F.CORE_FAULT_CAUSE i) _ (.inr (by simp [F.CORE_FAULT_CAUSE, pgCore]))).setF (f := F.CORE_FAULT_PC_PC i) _
    (.inr (by simp [F.CORE_FAULT_PC_PC, pgCore]))).setF (f := F.CORE_FAULT_PC_K i) _ (.inr (by simp [F.CORE_FAULT_PC_K, pgCore]))).setF
    (f := F.CORE_FAULT_INFO_INFO i) _ (.inr (by simp [F.CORE_FAULT_INFO_INFO, pgCore]))

/-- The fault's record reads back: its cause, its program counter and index, and its information (R136). -/
theorem faultRecorded_fields (s : State) (i : Nat) (f : FaultRec) :
    (s.faultRecorded i f).coreSt i = coreFaulted ∧ (s.faultRecorded i f).getF (F.CORE_FAULT_CAUSE i) = f.cause % 2 ^ 8 ∧
    (s.faultRecorded i f).getF (F.CORE_FAULT_PC_PC i) = f.pc % 2 ^ 12 ∧ (s.faultRecorded i f).getF (F.CORE_FAULT_PC_K i) = f.k % 2 ^ 20 ∧
    (s.faultRecorded i f).getF (F.CORE_FAULT_INFO_INFO i) = f.info % 2 ^ 32 := by
  unfold State.faultRecorded
  refine ⟨?_, ?_, ?_, ?_, ?_⟩
  · rw [State.coreSt, State.pgState, getF_setF_ne _ _ (by simp [F.PG_STATE_STATE, F.CORE_FAULT_INFO_INFO, pgCore]),
      getF_setF_ne _ _ (by simp [F.PG_STATE_STATE, F.CORE_FAULT_PC_K, pgCore]), getF_setF_ne _ _ (by simp [F.PG_STATE_STATE, F.CORE_FAULT_PC_PC, pgCore]),
      getF_setF_ne _ _ (by simp [F.PG_STATE_STATE, F.CORE_FAULT_CAUSE, pgCore])]
    exact coreSt_setCoreSt s i (by decide)
  · rw [getF_setF_ne _ _ (by simp [F.CORE_FAULT_CAUSE, F.CORE_FAULT_INFO_INFO]), getF_setF_ne _ _ (by simp [F.CORE_FAULT_CAUSE, F.CORE_FAULT_PC_K]),
      getF_setF_ne _ _ (by simp [F.CORE_FAULT_CAUSE, F.CORE_FAULT_PC_PC])]
    exact State.getF_setF_same _ (f := F.CORE_FAULT_CAUSE i) (by decide : 0 + 8 ≤ 32) _
  · rw [getF_setF_ne _ _ (by simp [F.CORE_FAULT_PC_PC, F.CORE_FAULT_INFO_INFO]),
      State.getF_setF_apart _ (f := F.CORE_FAULT_PC_K i) (by decide : 12 + 20 ≤ 32) (.inr (.inr (by decide : 0 + 12 ≤ 12)))]
    exact State.getF_setF_same _ (f := F.CORE_FAULT_PC_PC i) (by decide : 0 + 12 ≤ 32) _
  · rw [getF_setF_ne _ _ (by simp [F.CORE_FAULT_PC_K, F.CORE_FAULT_INFO_INFO])]
    exact getF_setF (f := F.CORE_FAULT_PC_K i) (Nat.mod_lt _ (by decide) : _ < 2 ^ 20) (by decide : 12 + 20 ≤ 32)
  · exact State.getF_setF_same _ (f := F.CORE_FAULT_INFO_INFO i) (by decide : 0 + 32 ≤ 32) _

/-- A core whose engines are done enters FAULTED with its fault's record and an event, its held cycles counted (R136, R139). -/
theorem coreFaulted_records {held : Nat} {f : FaultRec} (hfault : (s.core i).fault = some f) (hdone : s.enginesDone i = true) (hcan : s.canFault i = true) :
    ∃ t, exec (.coreFaulted i held) s = .next t ∧ t.coreSt i = coreFaulted ∧ t.getF (F.CORE_FAULT_CAUSE i) = f.cause % 2 ^ 8 ∧
      t.getF (F.CORE_FAULT_PC_PC i) = f.pc % 2 ^ 12 ∧ t.getF (F.CORE_FAULT_PC_K i) = f.k % 2 ^ 20 ∧
      t.getF (F.CORE_FAULT_INFO_INFO i) = f.info % 2 ^ 32 ∧ ((∃ k n, (s.core i).hold = .sywait k n) ∨ (s.core i).hold = .fence → HeldCounted i held s t) ∧
      t = { s with regs := t.regs, rings := t.rings } ∧ SameRegs (fun a => onPage (pgCore i) a ∨ onRings a) s t := by
  refine ⟨_, execCoreFaulted_of_done hfault hdone hcan, ?_⟩
  generalize (⟨0x04, 2, siteNum i, f.cause, (s.countHeld i held).orbit, (s.countHeld i held).coreData0 i, f.info, 1⟩ : EvRec) = ev
  obtain ⟨hheld, hheldRegs⟩ := countHeld_only s i held
  obtain ⟨hrec, hrecRegs⟩ := faultRecorded_only (s.countHeld i held) i f
  obtain ⟨hpost, hpostRegs⟩ := postCore_events ((s.countHeld i held).faultRecorded i f) i ev
  obtain ⟨hst, hcause, hpc, hk, hinfo⟩ := faultRecorded_fields (s.countHeld i held) i f
  refine ⟨by rw [coreSt_postCore, hst], by rw [hpostRegs.getF (pgCore_not_onRings i 0x134), hcause], by rw [hpostRegs.getF (pgCore_not_onRings i 0x138), hpc],
    by rw [hpostRegs.getF (pgCore_not_onRings i 0x138), hk], by rw [hpostRegs.getF (pgCore_not_onRings i 0x13C), hinfo], fun hhold => ?_, by rw [hpost, hrec, hheld], ?_⟩
  · have hcyc : ((s.countHeld i held).faultRecorded i f).getF (F.CORE_SYWAIT_CYC_COUNT i) = (s.countHeld i held).getF (F.CORE_SYWAIT_CYC_COUNT i) :=
      hrecRegs.getF (by simp [F.CORE_SYWAIT_CYC_COUNT, pgCore])
    exact (hpostRegs.getF (pgCore_not_onRings i 0x14C)).trans (hcyc.trans (countHeld_counts held hhold))
  · have hheldPage : SameRegs (fun a => onPage (pgCore i) a ∨ onRings a) s (s.countHeld i held) := hheldRegs.weaken fun a h => .inl <| by
      obtain rfl | rfl := h <;> exact onPage_pgCore (by decide)
    have hrecPage : SameRegs (fun a => onPage (pgCore i) a ∨ onRings a) (s.countHeld i held) ((s.countHeld i held).faultRecorded i f) :=
      hrecRegs.weaken fun a h => .inl <| by
        unfold onPage
        unfold pgCore at h ⊢
        omega
    exact (hheldPage.trans hrecPage).trans (hpostRegs.weaken fun _ h => .inr h)

/-- A program that has run for its limit of orbits faults the core (R137). -/
theorem execWatchdogHang_of_limit (hrun : s.coreSt i = coreRunning) (hset : s.getF (F.CORE_WDOG_ORBITS i) ≠ 0)
    (hlimit : s.getF (F.CORE_WDOG_ORBITS i) ≤ (s.core i).wdog) (hfault : (s.core i).fault = none) :
    exec (.watchdogHang i) s = .next (s.setCore i
      { s.core i with fault := some ⟨causeHang, s.getF (F.CORE_PC_PC i), s.getF (F.CORE_PROG_K_K i), 0⟩ }) := by
  show execWatchdogHang i s = _
  rw [← progFault_of_can (canFault_of_live (.inr (.inl hrun))) hfault]
  exact if_pos (by simp [hrun, hset, hlimit])

theorem execProgramFetchComplete_of_words {k : Nat} {ws : List Word64} (hfetch : (s.core i).fetch = .running k) (hr : s.fetchProgram i k = (u, some ws)) :
    exec (.programFetchComplete i) s = .next (u.setCore i { u.core i with fetch := .ready k ws }) := by
  show execProgramFetchComplete i s = _
  rw [execProgramFetchComplete, hfetch]
  simp only [hr]

theorem execProgramFetchComplete_of_failure {k : Nat} (hfetch : (s.core i).fetch = .running k) (hr : s.fetchProgram i k = (u, none)) :
    exec (.programFetchComplete i) s = .next (u.setCore i { u.core i with fetch := .failed k }) := by
  show execProgramFetchComplete i s = _
  rw [execProgramFetchComplete, hfetch]
  simp only [hr]

/-- Settles O21: `programStarted_runs`, `berthComplete_berths`, `coreFaulted_records` and `execWatchdogHang_of_limit`, one event each, and the end of
a fetch with words or without. -/
theorem programLife : Obligations.ProgramLife := by
  intro i stall held s
  refine ⟨fun hst hfault horbit hclosed ws hfetch => ?_, fun k hfetch => ?_, fun last hhold hrun hfault htest => ?_,
    fun f hfault hdone hcan => coreFaulted_records hfault hdone hcan,
    fun hrun hset hlimit hfault => execWatchdogHang_of_limit hrun hset hlimit hfault⟩
  · obtain ⟨hrun, hpc, hcore, honly⟩ := programStarted_runs s i (s.getF (F.CORE_PROG_K_K i)) stall ws
    exact ⟨_, execProgramStart_of_ready hst hfault horbit hclosed hfetch, hrun, hpc, by rw [hcore]; rfl, by rw [hcore]; rfl, by rw [hcore]; rfl,
      by rw [hcore]; rfl, honly⟩
  · dsimp only
    rcases hr : s.fetchProgram i k with ⟨u, got⟩
    cases got with
    | none => exact execProgramFetchComplete_of_failure hfetch hr
    | some ws => exact execProgramFetchComplete_of_words hfetch hr
  · obtain ⟨t, hexec, hst, hk, hn, hnone, honly, hregs⟩ := berthComplete_berths hhold hrun hfault htest
    exact ⟨t, hexec, hst, hk, hn, hnone, honly, hregs⟩

end

end Sys2Proof.Machine
end

section
namespace Sys2Proof.Machine

section
variable {s t u : State} {i j id : Nat} {p : Packet}

/-! ### Route words (R143, R147)

A route word is its segments as digits of base 128, with EXIT above the eighth. -/

/-- The digits of a route word, its first segment lowest. -/
def segWord (segs : List (Nat × Nat)) : Nat := segs.foldr (fun x w => x.1 * 16 + x.2 + 128 * w) 0

/-- OP has 3 bits and ARG 4. -/
def SegsFit (segs : List (Nat × Nat)) : Prop := ∀ x ∈ segs, x.1 < 8 ∧ x.2 < 16

theorem foldl_zip_range' (segs : List (Nat × Nat)) (m k w : Nat) (h : segs.length ≤ m) :
    (segs.zip (List.range' k m)).foldl (fun w x => w + (x.1.1 * 16 + x.1.2) * 2 ^ (7 * x.2)) w = w + segWord segs * 128 ^ k := by
  induction segs generalizing m k w with
  | nil => simp [segWord]
  | cons x segs ih =>
    obtain _ | m := m
    · simp at h
    rw [List.range'_succ, List.zip_cons_cons, List.foldl_cons, ih m (k + 1) _ (by simpa using h), pow_mul]
    show _ = w + (x.1 * 16 + x.2 + 128 * segWord segs) * 128 ^ k
    ring

theorem mkRoute_eq {segs : List (Nat × Nat)} (h : segs.length ≤ 8) (exit : Nat) : mkRoute segs exit = segWord segs + exit * 128 ^ 8 := by
  rw [mkRoute, List.range_eq_range', foldl_zip_range' segs 8 0 0 h]
  norm_num

theorem segWord_lt {segs : List (Nat × Nat)} (h : SegsFit segs) : segWord segs < 128 ^ segs.length := by
  induction segs with
  | nil => simp [segWord]
  | cons x segs ih =>
    have hx := h x List.mem_cons_self
    have ht := ih fun y hy => h y (List.mem_cons_of_mem x hy)
    show x.1 * 16 + x.2 + 128 * segWord segs < 128 ^ (segs.length + 1)
    rw [pow_succ]
    omega

/-- Digit `k` of the segments is segment `k`, and END past the last. -/
theorem segWord_digit {segs : List (Nat × Nat)} (h : SegsFit segs) (k : Nat) :
    segWord segs / 128 ^ k % 128 = (segs.getD k (0, 0)).1 * 16 + (segs.getD k (0, 0)).2 := by
  induction segs generalizing k with
  | nil => simp [segWord]
  | cons x segs ih =>
    have hx := h x List.mem_cons_self
    have hcons : segWord (x :: segs) = x.1 * 16 + x.2 + 128 * segWord segs := rfl
    obtain _ | k := k
    · simp only [hcons, pow_zero, Nat.div_one, List.getD_cons_zero]
      omega
    · rw [hcons, pow_succ', ← Nat.div_div_eq_div_mul, Nat.add_mul_div_left _ _ (by decide : 0 < 128), Nat.div_eq_of_lt (by omega : x.1 * 16 + x.2 < 128),
        zero_add, List.getD_cons_succ]
      exact ih (fun y hy => h y (List.mem_cons_of_mem x hy)) k

theorem getD_fits {segs : List (Nat × Nat)} (h : SegsFit segs) (k : Nat) : (segs.getD k (0, 0)).1 < 8 ∧ (segs.getD k (0, 0)).2 < 16 := by
  rw [List.getD_eq_getElem?_getD]
  cases hk : segs[k]? with
  | none => decide
  | some x => exact h x (List.mem_of_getElem? hk)

/-- A segment is one digit. -/
theorem seg_of_digit {route k op arg : Nat} (harg : arg < 16) (h : route / 128 ^ k % 128 = op * 16 + arg) : seg route k = (op, arg) := by
  have hlow : 2 ^ (7 * k) = 128 ^ k := by rw [pow_mul]; norm_num
  have hhigh : 2 ^ (7 * k + 4) = 128 ^ k * 16 := by rw [pow_add, hlow]; norm_num
  unfold seg bits
  rw [Nat.shiftRight_eq_div_pow, Nat.shiftRight_eq_div_pow, hlow, hhigh, ← Nat.div_div_eq_div_mul]
  refine Prod.ext ?_ ?_ <;> dsimp only <;> omega

/-- Segment `k` of a built route is the `k`-th given, and END past the last. -/
theorem seg_mkRoute {segs : List (Nat × Nat)} (hfit : SegsFit segs) (hlen : segs.length ≤ 8) (exit : Nat) {k : Nat} (hk : k < 8) :
    seg (mkRoute segs exit) k = segs.getD k (0, 0) := by
  have hpow : (128 : Nat) ^ 8 = 128 ^ k * (128 * 128 ^ (7 - k)) := by rw [← pow_succ', ← pow_add]; congr 1; omega
  have hdigit : mkRoute segs exit / 128 ^ k % 128 = segWord segs / 128 ^ k % 128 := by
    rw [mkRoute_eq hlen, hpow, Nat.mul_left_comm, Nat.add_mul_div_left _ _ (by positivity), Nat.mul_left_comm, Nat.add_mul_mod_self_left]
  exact seg_of_digit (getD_fits hfit k).2 (hdigit.trans (segWord_digit hfit k))

theorem routeExit_mkRoute {segs : List (Nat × Nat)} (hfit : SegsFit segs) (hlen : segs.length ≤ 8) {exit : Nat} (he : exit < 8) :
    routeExit (mkRoute segs exit) = exit := by
  have hlt : segWord segs < 128 ^ 8 := (segWord_lt hfit).trans_le (Nat.pow_le_pow_right (by decide) hlen)
  have hpow : (2 : Nat) ^ 56 = 128 ^ 8 := by norm_num
  unfold routeExit bits
  rw [mkRoute_eq hlen, Nat.shiftRight_eq_div_pow, hpow, Nat.add_mul_div_right _ _ (by positivity), Nat.div_eq_of_lt hlt, zero_add]
  exact Nat.mod_eq_of_lt he

theorem takeWhile_map_getD (l : List (Nat × Nat)) (hl : ∀ x ∈ l, x.1 ≠ 0) (m : Nat) (h : l.length ≤ m) :
    ((List.range m).map (fun k => l.getD k (0, 0))).takeWhile (fun x => x.1 != 0) = l := by
  induction l generalizing m with
  | nil =>
    obtain _ | m := m
    · rfl
    · simp [List.range_succ_eq_map]
  | cons x l ih =>
    obtain _ | m := m
    · simp at h
    have hx := hl x List.mem_cons_self
    rw [List.range_succ_eq_map, List.map_cons, List.map_map, List.getD_cons_zero, List.takeWhile_cons_of_pos (by simpa using hx)]
    exact congrArg _ (ih (fun y hy => hl y (List.mem_cons_of_mem x hy)) m (by simpa using h))

/-- The segments of a built route are those it was built of (R147). -/
theorem segsOf_mkRoute {segs : List (Nat × Nat)} (hfit : SegsFit segs) (hlen : segs.length ≤ 8) (hop : ∀ x ∈ segs, x.1 ≠ 0) (exit : Nat) :
    segsOf (mkRoute segs exit) = segs := by
  have hmap : (List.range 8).map (seg (mkRoute segs exit)) = (List.range 8).map (fun k => segs.getD k (0, 0)) :=
    List.map_congr_left fun k hk => seg_mkRoute hfit hlen exit (List.mem_range.mp hk)
  rw [segsOf, hmap]
  exact takeWhile_map_getD segs hop 8 hlen

end

end Sys2Proof.Machine
end

section
namespace Sys2Proof.Machine

section
variable {s t u : State} {i j id op arg : Nat} {p q : Packet}

/-! ### Packets, and what a router does with one (R144, R145) -/

@[simp] theorem pkt_setPkt_same (s : State) (id : Nat) (p : Packet) : (s.setPkt id p).pkt id = some p := tabGet_tabPut_same _ _ _
theorem pkt_setPkt_ne (s : State) (p : Packet) (h : j ≠ id) : (s.setPkt id p).pkt j = s.pkt j := tabGet_tabPut_ne _ _ h
@[simp] theorem pkt_dropPkt_same (s : State) (id : Nat) : (s.dropPkt id).pkt id = none := tabGet_tabDel_same _ _
theorem pkt_dropPkt_ne (s : State) (h : j ≠ id) : (s.dropPkt id).pkt j = s.pkt j := tabGet_tabDel_ne _ h
@[simp] theorem pkt_leaveMesh_same (s : State) (id : Nat) (p : Packet) : (s.leaveMesh id p).pkt id = some p := pkt_setPkt_same _ _ _
theorem pkt_leaveMesh_ne (s : State) (p : Packet) (h : j ≠ id) : (s.leaveMesh id p).pkt j = s.pkt j :=
  (pkt_setPkt_ne _ p h).trans (pkt_dropPkt_ne s h)

/-- The hops that a packet has still to go in its current segment, begun or not (R144). -/
def Packet.toGo (p : Packet) : Nat := if p.left = 0 then (seg p.route p.cur).2 + 1 else p.left

/-- A packet one hop on, at router `j` (R144). -/
def Packet.hopped (p : Packet) (j : Nat) : Packet :=
  { p with place := .router j, left := p.toGo - 1, cur := if p.toGo - 1 = 0 then p.cur + 1 else p.cur }

/-- A packet has come into a router by its port opposite to the move (R150). -/
def State.enterRouter (s : State) (id op : Nat) (p : Packet) : State :=
  { s.setPkt id p with mesh := { s.mesh with inp := tabPut s.mesh.inp id (invDir op) } }

theorem execPacketHop_of_router (hp : s.pkt id = some p) (hat : p.place = .router i) (hord : s.inOrder id p = true) :
    exec (.packetHop id) s = if s.fabricOn (siteDie i) && s.winsOutput i id p then .next ((s.served i id p).routerStep id i p) else .next s := by
  show execPacketHop id s = _
  simp [execPacketHop, hp, hat, hord]

theorem restEnds_eq_false (hcur : p.cur < 8) (hseg : seg p.route p.cur = (op, arg)) (hop : op ≠ 0) : restEnds p.route p.cur = false := by
  simp [restEnds, hseg, hop]
  omega

theorem restEnds_eq_true (h : 8 ≤ p.cur ∨ (seg p.route p.cur).1 = 0) : restEnds p.route p.cur = true := by
  simpa [restEnds] using h

/-- After its last segment a packet is delivered to its EXIT (R143). -/
theorem routerStep_of_end (h : restEnds p.route p.cur = true) : s.routerStep id i p = s.deliver id i p := if_pos h

theorem deliver_core (h : routeExit p.route = 0) (htakes : s.coreTakes i = true) (hpart : p.ty = 1 → s.partOfSite i = some p.part) :
    s.deliver id i p = s.leaveMesh id { p with place := .core i } := by
  unfold State.deliver
  by_cases hty : p.ty = 1
  · simp [h, htakes, hpart hty]
  · simp [h, htakes, hty]

theorem deliver_hal (h : routeExit p.route = 1) : s.deliver id i p = s.leaveMesh id { p with place := .hal i } := by
  simp [State.deliver, h]

/-- A move segment takes the packet to the neighbour, with one hop fewer left (R144). -/
theorem routerStep_of_move (hcur : p.cur < 8) (hseg : seg p.route p.cur = (op, arg)) (hop : 1 ≤ op ∧ op ≤ 4)
    (hturn : p.left ≠ 0 ∨ turnOk p.vc p.route p.cur op = true) (hnext : neighbour i op = some j) :
    s.routerStep id i p = s.enterRouter id op (p.hopped j) := by
  have hgo : (decide (p.left = 0) && !turnOk p.vc p.route p.cur op) = false := by
    obtain h | h := hturn <;> simp [h]
  unfold State.routerStep
  rw [restEnds_eq_false hcur hseg (by omega)]
  simp only [hseg, hop, and_self, if_true, hgo, hnext, Bool.false_eq_true, if_false]
  simp only [State.enterRouter, Packet.hopped, Packet.toGo, hseg]
  rfl

theorem neighbour_cases (h : neighbour i op = some j) :
    (op = 1 ∧ siteRow i < 15 ∧ j = i + 17) ∨ (op = 2 ∧ siteCol i < 16 ∧ j = i + 1) ∨
    (op = 3 ∧ 0 < siteRow i ∧ j = i - 17) ∨ (op = 4 ∧ 0 < siteCol i ∧ j = i - 1) := by
  unfold neighbour at h
  dsimp only at h
  split at h
  case h_5 => cases h
  all_goals
    split at h
    · next hin => cases h; simp [hin]
    · cases h

theorem neighbour_ne (h : neighbour i op = some j) : j ≠ i := by
  have hrow : 0 < siteRow i → 17 ≤ i := by unfold siteRow; omega
  have hcol : 0 < siteCol i → 1 ≤ i := by unfold siteCol; omega
  have hcases := neighbour_cases h
  omega

end

end Sys2Proof.Machine
end

section
namespace Sys2Proof.Machine

section
variable {s t u : State} {i j k id op arg n m : Nat} {p q : Packet}

/-! ### A packet alone in the fabric (O26)

It wins every output and finds every buffer empty, so that each PACKET_HOP executes one hop of its route. -/

/-- The packet is the only one, and registers and power are those of `s`. -/
structure Alone (id : Nat) (p : Packet) (s t : State) : Prop where
  packets : t.packets = [(id, p)]
  regs : t.regs = s.regs
  power : t.power = s.power

theorem Alone.pkt (h : Alone id p s t) : t.pkt id = some p := by simp [State.pkt, h.packets, tabGet]

theorem Alone.inOrder (h : Alone id p s t) : t.inOrder id p = true := by simp [State.inOrder, h.packets]

theorem Alone.fabricOn (h : Alone id p s t) (d : Nat) : t.fabricOn d = s.fabricOn d := by rw [State.fabricOn, h.power, State.fabricOn]

theorem Alone.coreTakes (h : Alone id p s t) (i : Nat) : t.coreTakes i = s.coreTakes i := by
  rw [State.coreTakes, State.coreSt, State.pgState, State.getF_congr h.regs]
  rfl

/-- The buffers of every other router are empty (R150). -/
theorem Alone.held (h : Alone id p s t) (hat : p.place = .router i) (hne : j ≠ i) (port vc : Nat) (xed : Bool) : t.held j port vc xed = 0 := by
  simp [State.held, h.packets, hat, hne.symm]

theorem needs_le (p : Packet) : p.needs ≤ 16 ∧ (p.vc = 0 → p.needs ≤ 2) ∧ (p.vc = 2 → p.needs ≤ 8) := by
  have hle : p.needs ≤ (match p.vc with | 0 => 2 | 2 => 8 | _ => 16) := Nat.min_le_right _ _
  refine ⟨hle.trans (by split <;> decide), fun h => ?_, fun h => ?_⟩ <;> simpa [h] using hle

/-- An empty input port has room for any packet (R150). -/
theorem Alone.portRoom (h : Alone id p s t) (hat : p.place = .router i) (hne : j ≠ i) (port : Nat) : t.portRoom j port p = true := by
  obtain ⟨hall, hctrl, hrsp⟩ := needs_le p
  unfold State.portRoom
  simp only [h.held hat hne]
  split <;> simp only [decide_eq_true_eq]
  · next hvc => simpa using hctrl hvc
  · next hvc => simpa using hrsp hvc
  · omega
  · omega

theorem Alone.holdsCredit (h : Alone id p s t) (hat : p.place = .router i) : t.holdsCredit i p = true := by
  unfold State.holdsCredit
  split
  · next hj =>
    split at hj
    · exact h.portRoom hat (neighbour_ne hj) _
    · cases hj
  · rfl

theorem Alone.winsOutput (h : Alone id p s t) (hat : p.place = .router i) : t.winsOutput i id p = true := by
  simp [State.winsOutput, h.holdsCredit hat, h.packets]

/-- At a powered router a hop executes the packet's current segment. -/
theorem Alone.hop (h : Alone id p s t) (hat : p.place = .router i) (hon : s.fabricOn (siteDie i) = true) :
    exec (.packetHop id) t = .next ((t.served i id p).routerStep id i p) := by
  rw [execPacketHop_of_router h.pkt hat h.inOrder, h.fabricOn, hon, h.winsOutput hat]
  rfl

theorem Alone.served (h : Alone id p s t) (i : Nat) : Alone id p s (t.served i id p) := ⟨h.packets, h.regs, h.power⟩

theorem Alone.enterRouter (h : Alone id p s t) (op : Nat) (q : Packet) : Alone id q s (t.enterRouter id op q) :=
  ⟨by simp [State.enterRouter, State.setPkt, h.packets, tabPut], h.regs, h.power⟩

theorem Alone.leaveMesh (h : Alone id p s t) (q : Packet) : Alone id q s (t.leaveMesh id q) :=
  ⟨by simp [State.leaveMesh, State.setPkt, State.dropPkt, h.packets, tabPut, tabDel], h.regs, h.power⟩

/-! Runs of hops -/

theorem hop_next (id : Nat) (s : State) : ∃ t, exec (.packetHop id) s = .next t := by
  show ∃ t, execPacketHop id s = .next t
  unfold execPacketHop
  split
  · exact ⟨_, rfl⟩
  split
  · exact ⟨_, rfl⟩
  split
  · split <;> exact ⟨_, rfl⟩
  · split <;> exact ⟨_, rfl⟩
  · exact ⟨_, rfl⟩

theorem hopTimes_succ (h : exec (.packetHop id) s = .next t) (n : Nat) : hopTimes id (n + 1) s = hopTimes id n t := by
  rw [hopTimes, h]

theorem hopTimes_add (id m n : Nat) (s : State) : hopTimes id (m + n) s = hopTimes id n (hopTimes id m s) := by
  induction m generalizing s with
  | zero => rw [Nat.zero_add, hopTimes]
  | succ m ih =>
    obtain ⟨t, ht⟩ := hop_next id s
    rw [Nat.succ_add, hopTimes_succ ht, hopTimes_succ ht, ih]

/-! Straight moves -/

/-- `n` hops in direction `op` lead from one site to another of its die (R141). -/
def Leads (op : Nat) : Nat → Nat → Nat → Prop
  | 0, i, j => i = j
  | n + 1, i, j => ∃ k, neighbour i op = some k ∧ siteDie k = siteDie i ∧ Leads op n k j

theorem Leads.die (h : Leads op n i j) : siteDie j = siteDie i := by
  induction n generalizing i with
  | zero => rw [h]
  | succ n ih =>
    obtain ⟨k, -, hdie, hrest⟩ := h
    rw [ih hrest, hdie]

/-- One hop of a move segment (R144). -/
theorem Alone.moves (h : Alone id p s t) (hat : p.place = .router i) (hon : s.fabricOn (siteDie i) = true) (hcur : p.cur < 8)
    (hseg : seg p.route p.cur = (op, arg)) (hop : 1 ≤ op ∧ op ≤ 4) (hturn : p.left ≠ 0 ∨ turnOk p.vc p.route p.cur op = true)
    (hnext : neighbour i op = some j) : ∃ v, exec (.packetHop id) t = .next v ∧ Alone id (p.hopped j) s v :=
  ⟨_, (h.hop hat hon).trans (congrArg _ (routerStep_of_move hcur hseg hop hturn hnext)), (h.served i).enterRouter op _⟩

/-- A move segment of `n + 1` hops takes the packet to its end, where the next segment is current. -/
theorem Alone.leg (h : Alone id p s t) (hat : p.place = .router i) (hon : s.fabricOn (siteDie i) = true) (hcur : p.cur < 8)
    (hseg : seg p.route p.cur = (op, arg)) (hop : 1 ≤ op ∧ op ≤ 4) (hturn : p.left ≠ 0 ∨ turnOk p.vc p.route p.cur op = true)
    (hgo : p.toGo = n + 1) (hlead : Leads op (n + 1) i j) :
    Alone id { p with place := .router j, left := 0, cur := p.cur + 1 } s (hopTimes id (n + 1) t) := by
  induction n generalizing p t i with
  | zero =>
    obtain ⟨k, hnext, -, rfl⟩ := hlead
    obtain ⟨v, hexec, hv⟩ := h.moves hat hon hcur hseg hop hturn hnext
    rw [hopTimes_succ hexec, hopTimes]
    simpa [Packet.hopped, hgo] using hv
  | succ n ih =>
    obtain ⟨k, hnext, hdie, hrest⟩ := hlead
    obtain ⟨v, hexec, hv⟩ := h.moves hat hon hcur hseg hop hturn hnext
    have hmid : p.hopped k = { p with place := .router k, left := n + 1 } := by simp [Packet.hopped, hgo]
    rw [hmid] at hv
    rw [hopTimes_succ hexec]
    exact ih (p := { p with place := .router k, left := n + 1 }) hv rfl (hdie ▸ hon) hcur hseg (.inl (Nat.succ_ne_zero n)) rfl hrest

end

end Sys2Proof.Machine
end

section
namespace Sys2Proof.Machine

section
variable {s t u : State} {i j k id op arg n m exit : Nat} {p q : Packet} {l : List (Nat × Nat)}

/-! ### Synthesized routes within a die (R148), and where they lead (O26) -/

/-- A move of at most 16 hops is one segment. -/
theorem moveSegs_eq (op : Nat) (h : n ≤ 16) : moveSegs op n = if n = 0 then [] else [(op, n - 1)] := by
  unfold moveSegs
  rw [if_pos h]

/-- Hops between two rows or two columns. -/
def gap (a b : Nat) : Nat := (a - b) + (b - a)

/-- The direction from a column to another, and from a row to another (R148). -/
def colOp (c0 c : Nat) : Nat := if c0 ≤ c then 2 else 4
def rowOp (r0 r : Nat) : Nat := if r0 ≤ r then 1 else 3

theorem colOp_mem (c0 c : Nat) : colOp c0 c = 2 ∨ colOp c0 c = 4 := by
  unfold colOp
  split <;> simp

theorem rowOp_mem (r0 r : Nat) : rowOp r0 r = 1 ∨ rowOp r0 r = 3 := by
  unfold rowOp
  split <;> simp

theorem xyMove_eq (r0 c0 r c : Nat) : xyMove r0 c0 r c = moveSegs (colOp c0 c) (gap c0 c) ++ moveSegs (rowOp r0 r) (gap r0 r) := by
  unfold xyMove colOp rowOp gap
  congr 1
  all_goals
    split
    · next h => simp [Nat.sub_eq_zero_of_le h]
    · next h => simp [Nat.sub_eq_zero_of_le (Nat.le_of_not_le h)]

/-! The map of a die (R25, R141) -/

theorem siteIdx_parts {d r c : Nat} (hr : r < 16) (hc : c < 17) :
    siteDie (siteIdx d r c) = d ∧ siteRow (siteIdx d r c) = r ∧ siteCol (siteIdx d r c) = c := by
  unfold siteDie siteRow siteCol siteIdx
  omega

theorem siteIdx_of_site (i : Nat) : siteIdx (siteDie i) (siteRow i) (siteCol i) = i := by
  unfold siteIdx siteDie siteRow siteCol
  omega

theorem siteRow_lt (i : Nat) : siteRow i < 16 := by unfold siteRow; omega
theorem siteCol_lt (i : Nat) : siteCol i < 17 := Nat.mod_lt _ (by decide)

theorem neighbour_invDir (h : neighbour i op = some j) (hdie : siteDie j = siteDie i) : neighbour j (invDir op) = some i := by
  unfold siteDie at hdie
  obtain ⟨rfl, hin, rfl⟩ | ⟨rfl, hin, rfl⟩ | ⟨rfl, hin, rfl⟩ | ⟨rfl, hin, rfl⟩ := neighbour_cases h <;>
    simp only [siteRow, siteCol] at hin
  · exact if_pos (by unfold siteRow; omega)
  · exact if_pos (by unfold siteCol; omega)
  · exact (if_pos (by unfold siteRow; omega)).trans (congrArg some (by omega))
  · exact (if_pos (by unfold siteCol; omega)).trans (congrArg some (by omega))

theorem Leads.snoc (h : Leads op n i j) (hnext : neighbour j op = some k) (hdie : siteDie k = siteDie j) : Leads op (n + 1) i k := by
  induction n generalizing i with
  | zero =>
    obtain rfl : i = j := h
    exact ⟨k, hnext, hdie, rfl⟩
  | succ n ih =>
    obtain ⟨m, hm, hd, hrest⟩ := h
    exact ⟨m, hm, hd, ih hrest⟩

/-- The opposite direction leads back (R147). -/
theorem Leads.back (h : Leads op n i j) : Leads (invDir op) n j i := by
  induction n generalizing i with
  | zero => exact Eq.symm h
  | succ n ih =>
    obtain ⟨k, hnext, hdie, hrest⟩ := h
    exact (ih hrest).snoc (neighbour_invDir hnext hdie) hdie.symm

theorem leads_east (d : Nat) {r c : Nat} (hr : r < 16) (h : c + n < 17) : Leads 2 n (siteIdx d r c) (siteIdx d r (c + n)) := by
  induction n with
  | zero => rfl
  | succ n ih =>
    obtain ⟨hdie, -, hcol⟩ := siteIdx_parts (d := d) (r := r) (c := c + n) hr (by omega)
    refine (ih (by omega)).snoc ?_ ((siteIdx_parts hr h).1.trans hdie.symm)
    show (if siteCol (siteIdx d r (c + n)) < 16 then some (siteIdx d r (c + n) + 1) else none) = _
    rw [hcol, if_pos (by omega)]
    rfl

theorem leads_north (d : Nat) {r c : Nat} (hc : c < 17) (h : r + n < 16) : Leads 1 n (siteIdx d r c) (siteIdx d (r + n) c) := by
  induction n with
  | zero => rfl
  | succ n ih =>
    obtain ⟨hdie, hrow, -⟩ := siteIdx_parts (d := d) (r := r + n) (c := c) (by omega) hc
    refine (ih (by omega)).snoc ?_ ((siteIdx_parts h hc).1.trans hdie.symm)
    show (if siteRow (siteIdx d (r + n) c) < 15 then some (siteIdx d (r + n) c + 17) else none) = _
    rw [hrow, if_pos (by omega)]
    exact congrArg some (by unfold siteIdx; omega)

theorem leads_columns (d : Nat) {r c0 c : Nat} (hr : r < 16) (h0 : c0 < 17) (h : c < 17) :
    Leads (colOp c0 c) (gap c0 c) (siteIdx d r c0) (siteIdx d r c) := by
  unfold colOp gap
  split
  · next hle => simpa [Nat.sub_eq_zero_of_le hle, Nat.add_sub_cancel' hle] using leads_east (n := c - c0) d hr (by omega : c0 + (c - c0) < 17)
  · next hlt =>
    have hle : c ≤ c0 := by omega
    simpa [invDir, Nat.sub_eq_zero_of_le hle, Nat.add_sub_cancel' hle] using (leads_east (n := c0 - c) d hr (by omega : c + (c0 - c) < 17)).back

theorem leads_rows (d : Nat) {r0 r c : Nat} (hc : c < 17) (h0 : r0 < 16) (h : r < 16) :
    Leads (rowOp r0 r) (gap r0 r) (siteIdx d r0 c) (siteIdx d r c) := by
  unfold rowOp gap
  split
  · next hle => simpa [Nat.sub_eq_zero_of_le hle, Nat.add_sub_cancel' hle] using leads_north (n := r - r0) d hc (by omega : r0 + (r - r0) < 16)
  · next hlt =>
    have hle : r ≤ r0 := by omega
    simpa [invDir, Nat.sub_eq_zero_of_le hle, Nat.add_sub_cancel' hle] using (leads_north (n := r0 - r) d hc (by omega : r + (r0 - r) < 16)).back

/-! Routes of two legs -/

/-- The segments of a leg of `m` hops and then one of `n`. -/
def twoLegs (a m b n : Nat) : List (Nat × Nat) := moveSegs a m ++ moveSegs b n

theorem moveSegs_mem {x : Nat × Nat} (h : n ≤ 16) (hx : x ∈ moveSegs op n) : x.1 = op ∧ x.2 < 16 := by
  rw [moveSegs_eq op h] at hx
  split at hx
  · cases hx
  · obtain rfl := List.mem_singleton.mp hx
    exact ⟨rfl, by dsimp only; omega⟩

theorem moveSegs_length (h : n ≤ 16) : (moveSegs op n).length ≤ 1 := by
  rw [moveSegs_eq op h]
  split <;> simp

theorem moveSegs_reverse (h : n ≤ 16) : (moveSegs op n).reverse.map (fun x => (invDir x.1, x.2)) = moveSegs (invDir op) n := by
  rw [moveSegs_eq op h, moveSegs_eq (invDir op) h]
  split <;> rfl

section
variable {a b : Nat}

/-- A direction is one of the four. -/
def IsDir (op : Nat) : Prop := 1 ≤ op ∧ op ≤ 4

theorem isDir_colOp (c0 c : Nat) : IsDir (colOp c0 c) := by
  obtain h | h := colOp_mem c0 c <;> rw [h, IsDir] <;> decide

theorem isDir_rowOp (r0 r : Nat) : IsDir (rowOp r0 r) := by
  obtain h | h := rowOp_mem r0 r <;> rw [h, IsDir] <;> decide

theorem IsDir.invDir (h : IsDir op) : IsDir (invDir op) := by
  obtain ⟨hlo, hhi⟩ := h
  unfold IsDir
  interval_cases op <;> decide

theorem twoLegs_mem {x : Nat × Nat} (ha : IsDir a) (hb : IsDir b) (hm : m ≤ 16) (hn : n ≤ 16) (hx : x ∈ twoLegs a m b n) : IsDir x.1 ∧ x.2 < 16 := by
  obtain hx | hx := List.mem_append.mp hx
  · obtain ⟨hop, harg⟩ := moveSegs_mem hm hx
    exact ⟨hop ▸ ha, harg⟩
  · obtain ⟨hop, harg⟩ := moveSegs_mem hn hx
    exact ⟨hop ▸ hb, harg⟩

theorem twoLegs_fit (ha : IsDir a) (hb : IsDir b) (hm : m ≤ 16) (hn : n ≤ 16) : SegsFit (twoLegs a m b n) := fun _ hx => by
  obtain ⟨⟨_, hhi⟩, harg⟩ := twoLegs_mem ha hb hm hn hx
  exact ⟨by omega, harg⟩

theorem twoLegs_length (hm : m ≤ 16) (hn : n ≤ 16) : (twoLegs a m b n).length ≤ 2 := by
  have hfirst := moveSegs_length (op := a) hm
  have hsecond := moveSegs_length (op := b) hn
  rw [twoLegs, List.length_append]
  omega

/-- Backwards, the second leg comes first, and each is the other way (R147). -/
theorem twoLegs_reverse (hm : m ≤ 16) (hn : n ≤ 16) :
    (twoLegs a m b n).reverse.map (fun x => (invDir x.1, x.2)) = twoLegs (invDir b) n (invDir a) m := by
  rw [twoLegs, List.reverse_append, List.map_append, moveSegs_reverse hn, moveSegs_reverse hm, twoLegs]

/-- The second leg of a route is one that may follow the first: N or S after E or W, and on RSP the other way round (R144). -/
def SecondLeg (vc b : Nat) : Prop := if vc = 2 then b = 2 ∨ b = 4 else b = 1 ∨ b = 3

theorem turnOk_of_secondLeg {vc route cur : Nat} (h : SecondLeg vc b) : turnOk vc route cur b = true := by
  unfold SecondLeg at h
  unfold turnOk
  split at h <;> obtain rfl | rfl := h <;> simp [*]

theorem turnOk_zero (vc route op : Nat) : turnOk vc route 0 op = true := by
  simp [turnOk]

end

end

end Sys2Proof.Machine
end

section
namespace Sys2Proof.Machine

section
variable {s t : State} {i j k id a b m n exit : Nat} {p : Packet}

/-! ### The whole way of a packet (O26) -/

/-- A leg of no hops is no segment, and any other is one. -/
theorem Alone.legs (h : Alone id p s t) (hat : p.place = .router i) (hon : s.fabricOn (siteDie i) = true) (hleft : p.left = 0) (hcur : p.cur < 8)
    (hdir : IsDir a) (hn : n ≤ 16) (hseg : n ≠ 0 → seg p.route p.cur = (a, n - 1)) (hturn : turnOk p.vc p.route p.cur a = true) (hlead : Leads a n i j) :
    Alone id { p with place := .router j, cur := p.cur + (moveSegs a n).length } s (hopTimes id n t) := by
  rw [moveSegs_eq a hn]
  obtain _ | n := n
  · obtain rfl : i = j := hlead
    rw [hopTimes]
    simpa [← hat] using h
  · have hgo : p.toGo = n + 1 := by simp [Packet.toGo, hleft, hseg]
    simpa [hleft] using h.leg hat hon hcur (hseg (by omega)) hdir (.inr hturn) hgo hlead

/-- A packet on a route of two legs is, after as many hops, at the router that they lead to, its route at an end (R144). -/
theorem Alone.travels (h : Alone id p s t) (hat : p.place = .router i) (hon : s.fabricOn (siteDie i) = true) (hleft : p.left = 0) (hcur : p.cur = 0)
    (ha : IsDir a) (hb : IsDir b) (hm : m ≤ 16) (hn : n ≤ 16) (hroute : p.route = mkRoute (twoLegs a m b n) exit) (hturn : SecondLeg p.vc b)
    (hfirst : Leads a m i k) (hsecond : Leads b n k j) :
    Alone id { p with place := .router j, cur := (twoLegs a m b n).length } s (hopTimes id (m + n) t) := by
  have hfit := twoLegs_fit (a := a) (b := b) (m := m) (n := n) ha hb hm hn
  have hlen := twoLegs_length (a := a) (b := b) (m := m) (n := n) hm hn
  have hseg {c : Nat} (hc : c < 8) : seg p.route c = (twoLegs a m b n).getD c (0, 0) := hroute ▸ seg_mkRoute hfit (by omega) exit hc
  have hone := moveSegs_length (op := a) hm
  have hmid : Alone id { p with place := .router k, cur := (moveSegs a m).length } s (hopTimes id m t) := by
    have hgone := h.legs hat hon hleft (by omega) ha hm (fun hm0 => by simp [hcur, hseg, twoLegs, moveSegs_eq a hm, hm0])
      (by rw [hcur]; exact turnOk_zero _ _ _) hfirst
    simpa [hcur] using hgone
  have hend := hmid.legs rfl (hfirst.die ▸ hon) hleft (by dsimp only; omega) hb hn
    (fun hn0 => by simp [hseg (c := (moveSegs a m).length) (by omega), twoLegs, moveSegs_eq b hn, hn0])
    (turnOk_of_secondLeg hturn) hsecond
  rw [hopTimes_add]
  simpa [twoLegs] using hend

/-- One hop more delivers it at an exit that takes it (R143, R155). -/
theorem Alone.delivered (h : Alone id p s t) (hat : p.place = .router i) (hon : s.fabricOn (siteDie i) = true) (hends : restEnds p.route p.cur = true)
    {pl : Place} (hexit : ∀ u : State, u.regs = s.regs → u.deliver id i p = u.leaveMesh id { p with place := pl }) :
    Alone id { p with place := pl } s (hopTimes id 1 t) := by
  have hserved := h.served i
  rw [hopTimes_succ (h.hop hat hon), hopTimes, routerStep_of_end hends, hexit _ hserved.regs]
  exact hserved.leaveMesh _

/-- A packet on a route of two legs is, after as many hops and one more, delivered where they lead. -/
theorem Alone.arrives (h : Alone id p s t) (hat : p.place = .router i) (hon : s.fabricOn (siteDie i) = true) (hleft : p.left = 0) (hcur : p.cur = 0)
    (ha : IsDir a) (hb : IsDir b) (hm : m ≤ 16) (hn : n ≤ 16) (hroute : p.route = mkRoute (twoLegs a m b n) exit) (hturn : SecondLeg p.vc b)
    (hfirst : Leads a m i k) (hsecond : Leads b n k j) {pl : Place}
    (hexit : ∀ (u : State) cur, u.regs = s.regs → u.deliver id j { p with place := .router j, cur := cur } = u.leaveMesh id { p with place := pl, cur := cur }) :
    ∃ q, Alone id q s (hopTimes id (m + n + 1) t) ∧ q = { p with place := pl, cur := (twoLegs a m b n).length } := by
  have hlen := twoLegs_length (a := a) (b := b) (m := m) (n := n) hm hn
  have hthere := h.travels hat hon hleft hcur ha hb hm hn hroute hturn hfirst hsecond
  have hdie : siteDie j = siteDie i := hsecond.die.trans hfirst.die
  have hends : restEnds p.route (twoLegs a m b n).length = true := by
    rw [restEnds, hroute, seg_mkRoute (twoLegs_fit ha hb hm hn) (by omega) exit (by omega)]
    simp
  refine ⟨_, ?_, rfl⟩
  rw [hopTimes_add]
  exact hthere.delivered rfl (hdie ▸ hon) hends fun u hu => hexit u _ hu

theorem gap_le {x y : Nat} (hx : x ≤ n) (hy : y ≤ n) : gap x y ≤ n := by
  unfold gap
  omega

/-- Within a die the route unit builds a leg along the row and then one along the column (R148). -/
theorem synthRoute_of_same_die {src dst : Nat} (h : siteDie src = siteDie dst) (sel exit : Nat) : synthRoute sel src dst exit =
    mkRoute (twoLegs (colOp (siteCol src) (siteCol dst)) (gap (siteCol src) (siteCol dst)) (rowOp (siteRow src) (siteRow dst)) (gap (siteRow src) (siteRow dst))) exit := by
  rw [synthRoute, if_pos h, xyMove_eq, twoLegs]

/-- The response to a request of a core goes back along the column and then along the row, to the core (R147). -/
theorem reverseRoute_of_twoLegs (ha : IsDir a) (hb : IsDir b) (hm : m ≤ 16) (hn : n ≤ 16) (hroute : p.route = mkRoute (twoLegs a m b n) exit)
    (hkind : p.srcKind = 0) (hclu : p.clu = false) : reverseRoute p = mkRoute (twoLegs (invDir b) n (invDir a) m) 0 := by
  have hlen := twoLegs_length (a := a) (b := b) (m := m) (n := n) hm hn
  have hsegs : segsOf p.route = twoLegs a m b n := hroute ▸ segsOf_mkRoute (twoLegs_fit ha hb hm hn) (by omega)
    (fun x hx => by obtain ⟨⟨hlo, -⟩, -⟩ := twoLegs_mem ha hb hm hn hx; omega) exit
  simp [reverseRoute, hsegs, hkind, hclu, ← twoLegs_reverse hm hn]

/-- The response to a request is alone in a fabric that held no packet (R147). -/
theorem alone_respond (s : State) (p : Packet) (j ty aux : Nat) (d : List Byte) :
    ∃ q, Alone s.nextPkt q s (({ s with packets := [] } : State).respond p j ty aux d) ∧ q.place = .router j ∧ q.route = reverseRoute p ∧
      q.cur = 0 ∧ q.left = 0 ∧ q.vc = 2 ∧ q.ty = ty ∧ q.tag = p.tag ∧ q.data = d :=
  ⟨_, ⟨rfl, rfl, rfl⟩, rfl, rfl, rfl, rfl, rfl, rfl, rfl, rfl⟩

/-- Settles O26: a synthesized route has two legs (`synthRoute_of_same_die`) that lead to the destination (`leads_columns`, `leads_rows`), the reversed
one their opposites that lead back (`reverseRoute_of_twoLegs`, `Leads.back`), and a packet alone travels either to its end (`Alone.arrives`). -/
theorem routeArrives : Obligations.RouteArrives := by
  intro src dst vc sel id s p hsrc hdst hdie hvc hon hpackets hat hroute hcur hleft hpvc hops
  have hcols : gap (siteCol src) (siteCol dst) ≤ 16 := gap_le (Nat.le_of_lt_succ (siteCol_lt src)) (Nat.le_of_lt_succ (siteCol_lt dst))
  have hrows : gap (siteRow src) (siteRow dst) ≤ 16 := gap_le (siteRow_lt src).le (siteRow_lt dst).le
  have halong := leads_columns (siteDie src) (siteRow_lt src) (siteCol_lt src) (siteCol_lt dst)
  have hup := leads_rows (siteDie src) (siteCol_lt dst) (siteRow_lt src) (siteRow_lt dst)
  have hcolDir := isDir_colOp (siteCol src) (siteCol dst)
  have hrowDir := isDir_rowOp (siteRow src) (siteRow dst)
  rw [siteIdx_of_site] at halong
  rw [hdie, siteIdx_of_site, ← hdie] at hup
  rw [synthRoute_of_same_die hdie] at hroute
  refine ⟨?_, fun ty aux d r k hkind hclu hty htakes hr hk => ?_⟩
  · have hsecond : SecondLeg p.vc (rowOp (siteRow src) (siteRow dst)) := by
      rw [SecondLeg, if_neg (hpvc ▸ hvc)]
      exact rowOp_mem _ _
    have hexit : routeExit p.route = 1 := hroute ▸ routeExit_mkRoute (twoLegs_fit hcolDir hrowDir hcols hrows)
      ((twoLegs_length hcols hrows).trans (by decide)) (by decide)
    obtain ⟨q, hq, rfl⟩ := (⟨hpackets, rfl, rfl⟩ : Alone id p s s).arrives hat hon hleft hcur hcolDir hrowDir hcols hrows hroute hsecond halong hup
      (pl := .hal dst) fun u cur _ => deliver_hal hexit
    exact ⟨_, _, congrArg (fun n => hopTimes id (n + 1) s) (Nat.add_comm (gap (siteRow src) (siteRow dst)) _), hq.pkt, rfl⟩
  · subst hr hk
    have hback := reverseRoute_of_twoLegs hcolDir hrowDir hcols hrows hroute hkind hclu
    obtain ⟨q, hq, hqat, hqroute, hqcur, hqleft, hqvc, hqty, hqtag, hqdata⟩ := alone_respond s p dst ty aux d
    rw [hback] at hqroute
    have hexit : routeExit q.route = 0 := hqroute ▸ routeExit_mkRoute (twoLegs_fit hrowDir.invDir hcolDir.invDir hrows hcols)
      ((twoLegs_length hrows hcols).trans (by decide)) (by decide)
    have hsecond : SecondLeg q.vc (invDir (colOp (siteCol src) (siteCol dst))) := by
      rw [SecondLeg, if_pos hqvc]
      obtain h | h := colOp_mem (siteCol src) (siteCol dst) <;> rw [h] <;> decide
    obtain ⟨q', hq', rfl⟩ := hq.arrives hqat (hdie ▸ hon) hqleft hqcur hrowDir.invDir hcolDir.invDir hrows hcols hqroute hsecond hup.back halong.back
      (pl := .core src) fun u cur hu => deliver_core hexit (by rw [State.coreTakes, State.coreSt, State.pgState, State.getF_congr hu]; exact htakes)
        fun h => absurd (hqty.symm.trans h) hty
    exact ⟨_, hq'.pkt, rfl, hqtag, hqdata⟩

end

end Sys2Proof.Machine
end

section
namespace Sys2Proof.Machine

section
variable {s t u : State} {i j n id op arg lane cause : Nat} {p q : Packet}

/-! ### What a router changes (O25) -/

/-- Of packets and arbiters alone something has changed, and of the packets only one: it is now `q`. -/
def OnlyPkt (id : Nat) (q : Packet) (s t : State) : Prop :=
  t.pkt id = some q ∧ (∀ j, j ≠ id → t.pkt j = s.pkt j) ∧ t = { s with packets := t.packets, mesh := t.mesh }

theorem leaveMesh_only (s : State) (id : Nat) (q : Packet) : OnlyPkt id q s (s.leaveMesh id q) :=
  ⟨pkt_leaveMesh_same s id q, fun _ h => pkt_leaveMesh_ne s q h, rfl⟩

theorem enterRouter_only (s : State) (id op : Nat) (q : Packet) : OnlyPkt id q s (s.enterRouter id op q) :=
  ⟨pkt_setPkt_same s id q, fun _ h => pkt_setPkt_ne s q h, rfl⟩

/-- Nothing but registers in `r`, packets and arbiters has changed. -/
def OnlyFabric (r : Nat → Prop) (s t : State) : Prop := t = { s with regs := t.regs, packets := t.packets, mesh := t.mesh } ∧ SameRegs r s t

theorem OnlyFabric.setF {r : Nat → Prop} (h : OnlyFabric r s t) {f : Fld} (v : Nat) (hf : r f.addr) : OnlyFabric r s (t.setF f v) :=
  ⟨by rw [h.1]; rfl, h.2.setF v hf⟩

theorem OnlyFabric.countF {r : Nat → Prop} (h : OnlyFabric r s t) {f : Fld} (n : Nat) (hf : r f.addr) : OnlyFabric r s (t.countF f n) := h.setF _ hf

theorem dropPkt_only {r : Nat → Prop} (s : State) (id : Nat) : OnlyFabric r s (s.dropPkt id) := ⟨rfl, .of_regs rfl⟩

theorem routerDrop_eq (hp : s.pkt id = some p) (i cause : Nat) : s.routerDrop i id cause =
    (((s.dropPkt id).countF (F.HYP_RT_DROP_COUNT i) 1).setF (F.HYP_RT_LASTDROP_SRC i) p.src).setF (F.HYP_RT_LASTDROP_CAUSE i) cause := by
  simp [State.routerDrop, hp]

theorem routerDrop_only (hp : s.pkt id = some p) (i cause : Nat) :
    OnlyFabric (fun a => a = pgHyp i + 0x704 ∨ a = pgHyp i + 0x708) s (s.routerDrop i id cause) := by
  rw [routerDrop_eq hp]
  exact (((dropPkt_only s id).countF (f := F.HYP_RT_DROP_COUNT i) 1 (.inl rfl)).setF (f := F.HYP_RT_LASTDROP_SRC i) p.src (.inr rfl)).setF
    (f := F.HYP_RT_LASTDROP_CAUSE i) cause (.inr rfl)

/-- A dropped packet is gone, counted, and recorded with its source and its cause (R145, R171). -/
theorem routerDrop_drops (hp : s.pkt id = some p) (hcause : cause < 16) : Dropped i id cause p.src s (s.routerDrop i id cause) := by
  obtain ⟨hrest, hregs⟩ := routerDrop_only hp i cause
  refine ⟨?_, fun j hj => ?_, ?_, ?_, ?_, hrest, hregs⟩ <;> rw [routerDrop_eq hp]
  · exact pkt_dropPkt_same s id
  · exact pkt_dropPkt_ne s hj
  · rw [getF_setF_ne _ _ (by simp [F.HYP_RT_DROP_COUNT, F.HYP_RT_LASTDROP_CAUSE]), getF_setF_ne _ _ (by simp [F.HYP_RT_DROP_COUNT, F.HYP_RT_LASTDROP_SRC])]
    exact State.getF_countF_same (s.dropPkt id) (f := F.HYP_RT_DROP_COUNT i) (by decide : 0 + 32 ≤ 32) 1
  · rw [State.getF_setF_apart _ (f := F.HYP_RT_LASTDROP_CAUSE i) (by decide : 16 + 4 ≤ 32) (.inr (.inr (by decide : 0 + 16 ≤ 16)))]
    exact State.getF_setF_same _ (f := F.HYP_RT_LASTDROP_SRC i) (by decide : 0 + 16 ≤ 32) _
  · exact getF_setF (f := F.HYP_RT_LASTDROP_CAUSE i) hcause (by decide : 16 + 4 ≤ 32)

theorem routerAbsorb_only (s : State) (i id : Nat) : OnlyFabric (fun a => a = pgHyp i + 0x70C) s (s.routerAbsorb i id) :=
  (dropPkt_only s id).countF (f := F.HYP_RT_ABSORB_COUNT i) 1 rfl

/-- A packet sunk at its exit is gone and counted (R155, R171). -/
theorem routerAbsorb_sinks (s : State) (i id : Nat) : (s.routerAbsorb i id).pkt id = none ∧
    (s.routerAbsorb i id).getF (F.HYP_RT_ABSORB_COUNT i) = satAdd (s.getF (F.HYP_RT_ABSORB_COUNT i)) 1 (2 ^ (F.HYP_RT_ABSORB_COUNT i).width - 1) :=
  ⟨pkt_dropPkt_same s id, State.getF_countF_same (s.dropPkt id) (f := F.HYP_RT_ABSORB_COUNT i) (by decide : 0 + 32 ≤ 32) 1⟩

/-! Links as tables of states -/

@[simp] theorem linkSt_setLink_same (s : State) (n : Nat) (l : LinkState) : (s.setLink n l).linkSt n = l := by
  simp [State.linkSt, State.setLink]

theorem linkSt_setLink_ne (s : State) (l : LinkState) (h : j ≠ n) : (s.setLink n l).linkSt j = s.linkSt j := by
  simp [State.linkSt, State.setLink, tabGet_tabPut_ne _ _ h]

@[simp] theorem dir_setDir_same (l : LinkState) (toB : Bool) (d : LinkDir) : (l.setDir toB d).dir toB = d := by
  cases toB <;> rfl

@[simp] theorem dir_setDir_other (l : LinkState) (toB : Bool) (d : LinkDir) : (l.setDir toB d).dir (!toB) = l.dir (!toB) := by
  cases toB <;> rfl

/-- A packet that enters a link's gateway waits there behind the others (R146). -/
theorem toLink_waits (s : State) (id n : Nat) (toB : Bool) (lane : Nat) (p : Packet) :
    (s.toLink id n toB lane p).pkt id = some { p with place := .link n toB lane } ∧
    (((s.toLink id n toB lane p).linkSt n).dir toB).waiting = ((s.linkSt n).dir toB).waiting ++ [(id, 0)] ∧
    s.toLink id n toB lane p = { s with links := (s.toLink id n toB lane p).links, packets := (s.toLink id n toB lane p).packets, mesh := (s.toLink id n toB lane p).mesh } :=
  ⟨pkt_leaveMesh_same s id _, by simp [State.toLink], rfl⟩

/-! Exits (R143, R155) -/

theorem deliver_core_away (h : routeExit p.route = 0) (haway : s.coreTakes i = false ∨ (p.ty = 1 ∧ s.partOfSite i ≠ some p.part)) :
    s.deliver id i p = s.routerAbsorb i id := by
  unfold State.deliver
  obtain htakes | ⟨hty, hpart⟩ := haway
  · simp [h, htakes]
  · simp [h, hty, hpart]

theorem deliver_clu (h : routeExit p.route = 2) (hcol : siteCol i = 4 ∨ siteCol i = 12) : s.deliver id i p = s.leaveMesh id { p with place := .clu i } := by
  simp [State.deliver, h, hcol]

theorem deliver_lacking (h : (routeExit p.route = 2 ∧ siteCol i ≠ 4 ∧ siteCol i ≠ 12) ∨ routeExit p.route = 3) : s.deliver id i p = s.routerDrop i id 7 := by
  obtain ⟨h, h4, h12⟩ | h := h
  · simp [State.deliver, h, h4, h12]
  · simp [State.deliver, h]

theorem deliver_reserved (h : 4 ≤ routeExit p.route) : s.deliver id i p = s.routerDrop i id 6 := by
  unfold State.deliver
  split
  case h_5 => rfl
  all_goals omega

/-! Segments that a router refuses, and LINK segments (R144, R145) -/

theorem routerStep_of_badTurn (hcur : p.cur < 8) (hseg : seg p.route p.cur = (op, arg)) (hop : 1 ≤ op ∧ op ≤ 4)
    (hleft : p.left = 0) (hturn : turnOk p.vc p.route p.cur op = false) : s.routerStep id i p = s.routerDrop i id 4 := by
  unfold State.routerStep
  rw [restEnds_eq_false hcur hseg (by omega)]
  simp [hseg, hop, hleft, hturn]

theorem routerStep_of_edge (hcur : p.cur < 8) (hseg : seg p.route p.cur = (op, arg)) (hop : 1 ≤ op ∧ op ≤ 4)
    (hturn : p.left ≠ 0 ∨ turnOk p.vc p.route p.cur op = true) (hedge : neighbour i op = none) : s.routerStep id i p = s.routerDrop i id 1 := by
  have hgo : (decide (p.left = 0) && !turnOk p.vc p.route p.cur op) = false := by
    obtain h | h := hturn <;> simp [h]
  unfold State.routerStep
  rw [restEnds_eq_false hcur hseg (by omega)]
  simp [hseg, hop, hgo, hedge]

theorem routerStep_of_reserved (hcur : p.cur < 8) (hseg : seg p.route p.cur = (op, arg)) (hop : 6 ≤ op) : s.routerStep id i p = s.routerDrop i id 6 := by
  unfold State.routerStep
  rw [restEnds_eq_false hcur hseg (by omega)]
  simp only [hseg, Bool.false_eq_true, if_false, if_neg (by omega : ¬ (1 ≤ op ∧ op ≤ 4)), if_neg (by omega : op ≠ 5)]

/-- A LINK segment at a router of the port's strip, whose link takes packets (R145): the packet goes into the gateway, out at P8, or is dropped. -/
def State.linkStep (s : State) (id i n arg lane : Nat) (p : Packet) : State :=
  if arg ≤ 5 && p.xed then s.routerDrop i id 5
  else if 6 ≤ arg && !(restEnds p.route (p.cur + 1) && routeExit p.route == 3) then s.routerDrop i id 8
  else if 20 ≤ n then s.leaveMesh id { p with place := .ext n, cur := p.cur + 1, left := 0 }
  else s.toLink id n (decide ((linkEnds n).1 = siteDie i)) lane { p with cur := p.cur + 1, left := 0 }

theorem linkStep_crossed (harg : arg ≤ 5) (hcrossed : p.xed = true) : s.linkStep id i n arg lane p = s.routerDrop i id 5 := by
  simp [State.linkStep, harg, hcrossed]

theorem linkStep_unended (harg : 6 ≤ arg) (h : restEnds p.route (p.cur + 1) = false ∨ routeExit p.route ≠ 3) :
    s.linkStep id i n arg lane p = s.routerDrop i id 8 := by
  have hlow : ¬ arg ≤ 5 := by omega
  obtain h | h := h <;> simp [State.linkStep, harg, hlow, h]

/-- A packet that R145 lets into the link's gateway, or out at P8. -/
theorem linkStep_enters (h : (arg ≤ 5 ∧ p.xed = false) ∨ (6 ≤ arg ∧ restEnds p.route (p.cur + 1) = true ∧ routeExit p.route = 3)) :
    s.linkStep id i n arg lane p =
      if 20 ≤ n then s.leaveMesh id { p with place := .ext n, cur := p.cur + 1, left := 0 }
      else s.toLink id n (decide ((linkEnds n).1 = siteDie i)) lane { p with cur := p.cur + 1, left := 0 } := by
  unfold State.linkStep
  obtain ⟨harg, hlocal⟩ | ⟨harg, hends, hexit⟩ := h
  · have hhigh : ¬ 6 ≤ arg := by omega
    simp [hlocal, hhigh]
  · have hlow : ¬ arg ≤ 5 := by omega
    simp [hlow, hends, hexit]

theorem routerStep_of_link (hcur : p.cur < 8) (hseg : seg p.route p.cur = (5, arg)) : s.routerStep id i p =
    if 8 < arg then s.routerDrop i id 6
    else match laneOf arg (siteRow i) (siteCol i) with
      | none => s.routerDrop i id 2
      | some lane => if !s.linkTakes (linkOf (siteDie i) arg) then s.routerDrop i id 3 else s.linkStep id i (linkOf (siteDie i) arg) arg lane p := by
  unfold State.routerStep
  rw [restEnds_eq_false hcur hseg (by decide)]
  simp only [hseg]
  rfl

end

end Sys2Proof.Machine
end

section
namespace Sys2Proof.Machine

section
variable {s t : State} {i j n id cause : Nat} {p q : Packet}

/-! ### Arbitration at an output (R151) -/

/-- The place of a packet's VC in the order that an output serves: CTRL, RSP, then REQ and BULK alternately. -/
def State.arbClass (s : State) (i : Nat) (p : Packet) : Nat :=
  if p.vc = 0 then 0 else if p.vc = 2 then 1
  else if (p.vc == 3) == ((tabGet s.mesh.last (64 * i + p.output)).getD (0, true)).2 then 3 else 2

/-- The VC counts first, then the lane, then the turn of the input port. -/
theorem arbRank_eq (s : State) (i id : Nat) (p : Packet) : ∃ r < 8, s.arbRank i id p = (2 * s.arbClass i p + b2n (!p.xed)) * 8 + r :=
  ⟨_, Nat.mod_lt _ (by decide), rfl⟩

theorem b2n_le (b : Bool) : b2n b ≤ 1 := by
  cases b <;> decide

theorem arbRank_lt_of_class (h : s.arbClass i p < s.arbClass i q) : s.arbRank i id p < s.arbRank i j q := by
  obtain ⟨r, hr, hp⟩ := arbRank_eq s i id p
  obtain ⟨r', -, hq⟩ := arbRank_eq s i j q
  have := b2n_le (!p.xed)
  omega

theorem arbRank_lt_of_lane (h : s.arbClass i p = s.arbClass i q) (hp : p.xed = true) (hq : q.xed = false) : s.arbRank i id p < s.arbRank i j q := by
  obtain ⟨r, hr, hrp⟩ := arbRank_eq s i id p
  obtain ⟨r', -, hrq⟩ := arbRank_eq s i j q
  rw [hrp, hrq, h, hp, hq]
  simp only [b2n, Bool.not_true, Bool.not_false, Bool.false_eq_true, if_false, if_true]
  omega

theorem arbClass_congr (hvc : q.vc = p.vc) (hout : q.output = p.output) : s.arbClass i q = s.arbClass i p := by
  rw [State.arbClass, hvc, hout, State.arbClass]

theorem arbClass_of_ctrl (h : p.vc = 0) : s.arbClass i p = 0 := if_pos h

theorem arbClass_of_rsp (h : p.vc = 2) : s.arbClass i p = 1 := by simp [State.arbClass, h]

theorem arbClass_pos (h : p.vc ≠ 0) : 0 < s.arbClass i p := by
  unfold State.arbClass
  rw [if_neg h]
  split
  · decide
  · split <;> decide

theorem arbClass_of_rest (h0 : p.vc ≠ 0) (h2 : p.vc ≠ 2) : 1 < s.arbClass i p := by
  unfold State.arbClass
  rw [if_neg h0, if_neg h2]
  split <;> decide

/-- A packet does not win against one that holds a credit for the same output and stands before it. -/
theorem winsOutput_of_later (hp : s.pkt id = some p) (hat : p.place = .router i) (hord : s.inOrder id p = true) (hne : j ≠ id)
    (hout : q.output = p.output) (hcredit : s.holdsCredit i p = true) (hrank : s.arbRank i id p < s.arbRank i j q) : s.winsOutput i j q = false := by
  have hother : (id == j) = false := by simpa using hne.symm
  have hlater : ¬ s.arbRank i j q < s.arbRank i id p := by omega
  have hunequal : (s.arbRank i j q == s.arbRank i id p) = false := by simp; omega
  refine Bool.and_eq_false_imp.mpr fun _ => List.all_eq_false.mpr ⟨(id, p), mem_of_tabGet hp, ?_⟩
  simp [hother, hat, hout, hord, hcredit, hlater, hunequal]

/-! ### One hop of a packet at a router (O25) -/

/-- Which packet the output served last is not seen by what the router does next. -/
theorem linkTakes_served (s : State) (i id : Nat) (p : Packet) (n : Nat) : (s.served i id p).linkTakes n = s.linkTakes n := rfl

theorem execPacketHop_of_loser (hp : s.pkt id = some p) (hat : p.place = .router i) (hord : s.inOrder id p = true)
    (hlose : s.winsOutput i id p = false) : exec (.packetHop id) s = .next s := by
  rw [execPacketHop_of_router hp hat hord, hlose, Bool.and_false]
  rfl

theorem execPacketHop_of_winner (hp : s.pkt id = some p) (hat : p.place = .router i) (hord : s.inOrder id p = true)
    (hon : s.fabricOn (siteDie i) = true) (hwin : s.winsOutput i id p = true) : exec (.packetHop id) s = .next ((s.served i id p).routerStep id i p) := by
  rw [execPacketHop_of_router hp hat hord, hon, hwin]
  rfl

/-- Settles O25: the arbiter's order is that of `State.arbRank`, and each segment's outcome has a rule of its own: `deliver_core` to `deliver_reserved`
for the exits, `routerStep_of_move`, `routerStep_of_badTurn` and `routerStep_of_edge` for the moves, `routerStep_of_link` for LINK. -/
theorem routerHop : Obligations.RouterHop := by
  intro id i p s hp hat hord hon op arg out Drops At
  have hseg : seg p.route p.cur = (op, arg) := rfl
  refine ⟨fun hlose => execPacketHop_of_loser hp hat hord hlose, fun j q hne hq hqat hout hcredit => ?_, fun hwin => ?_⟩
  · have hlater (hrank : s.arbRank i id p < s.arbRank i j q) : s.winsOutput i j q = false := winsOutput_of_later hp hat hord hne hout hcredit hrank
    refine ⟨hlater, fun hctrl hother => hlater (arbRank_lt_of_class ?_), fun hrsp h0 h2 => hlater (arbRank_lt_of_class ?_),
      fun hvc hcrossed hlocal => hlater (arbRank_lt_of_lane (arbClass_congr hvc hout.symm) hcrossed hlocal)⟩
    · rw [arbClass_of_ctrl hctrl]
      exact arbClass_pos hother
    · rw [arbClass_of_rsp hrsp]
      exact arbClass_of_rest h0 h2
  have hexec : out = .next ((s.served i id p).routerStep id i p) := execPacketHop_of_winner hp hat hord hon hwin
  have hdrop {cause : Nat} (hcause : cause < 16) (h : (s.served i id p).routerStep id i p = (s.served i id p).routerDrop i id cause) : Drops cause :=
    ⟨_, hexec.trans (congrArg _ h), routerDrop_drops (s := s.served i id p) hp hcause⟩
  have hleave {q : Packet} (h : (s.served i id p).routerStep id i p = (s.served i id p).leaveMesh id q) : At q :=
    ⟨_, hexec.trans (congrArg _ h), leaveMesh_only (s.served i id p) id q⟩
  refine ⟨fun hend => ?_, fun hcur hlo hhi => ⟨fun hleft hturn => ?_, fun hturn => ⟨fun hedge => ?_, fun j hnext => ?_⟩⟩, fun hcur hop n hn => ?_, fun hcur hop => ?_⟩
  · have hstep := routerStep_of_end (s := s.served i id p) (id := id) (i := i) (restEnds_eq_true hend)
    refine ⟨fun hexit htakes hpart => hleave (hstep.trans (deliver_core hexit htakes hpart)), fun hexit haway => ?_,
      fun hexit => hleave (hstep.trans (deliver_hal hexit)), fun hexit hcol => hleave (hstep.trans (deliver_clu hexit hcol)),
      fun hexit h4 h12 => hdrop (by decide) (hstep.trans (deliver_lacking (.inl ⟨hexit, h4, h12⟩))),
      fun hexit => hdrop (by decide) (hstep.trans (deliver_lacking (.inr hexit))), fun hexit => hdrop (by decide) (hstep.trans (deliver_reserved hexit))⟩
    obtain ⟨hgone, hcount⟩ := routerAbsorb_sinks (s.served i id p) i id
    obtain ⟨hrest, hregs⟩ := routerAbsorb_only (s.served i id p) i id
    exact ⟨_, hexec.trans (congrArg _ (hstep.trans (deliver_core_away hexit haway))), hgone, hcount, hregs, hrest⟩
  · exact hdrop (by decide) (routerStep_of_badTurn hcur hseg ⟨hlo, hhi⟩ hleft hturn)
  · exact hdrop (by decide) (routerStep_of_edge hcur hseg ⟨hlo, hhi⟩ hturn hedge)
  · have hmove : At (p.hopped j) := ⟨_, hexec.trans (congrArg _ (routerStep_of_move hcur hseg ⟨hlo, hhi⟩ hturn hnext)), enterRouter_only (s.served i id p) id op _⟩
    have hgo : p.toGo = if p.left = 0 then arg + 1 else p.left := rfl
    refine ⟨fun h => ?_, fun h => ?_, fun hleft harg => ?_⟩
    · have hlast : p.toGo = 1 := by rw [hgo]; split <;> omega
      rwa [Packet.hopped, hlast] at hmove
    · have hmore : p.toGo = p.left := hgo.trans (if_neg (by omega))
      rwa [Packet.hopped, hmore, if_neg (by omega : p.left - 1 ≠ 0)] at hmove
    · have hfirst : p.toGo = arg + 1 := hgo.trans (if_pos hleft)
      rwa [Packet.hopped, hfirst, Nat.add_sub_cancel, if_neg (by omega : arg ≠ 0)] at hmove
  · have hstep := routerStep_of_link (s := s.served i id p) (id := id) (i := i) hcur (hseg.trans (congrArg (·, arg) hop))
    refine ⟨fun harg => hdrop (by decide) (hstep.trans (if_pos harg)), fun harg hlane => ?_, fun harg lane hlane => ?_⟩
    · exact hdrop (by decide) (by rw [hstep, if_neg (by omega), hlane])
    rw [if_neg (by omega), hlane, linkTakes_served, ← hn] at hstep
    refine ⟨fun hdown => hdrop (by decide) (by simp [hstep, hdown]), fun hup harg hcrossed => ?_, fun hup harg hmore => ?_, fun hup hmay => ?_⟩ <;>
      simp only [hup, Bool.not_true, Bool.false_eq_true, if_false] at hstep
    · exact hdrop (by decide) (hstep.trans (linkStep_crossed harg hcrossed))
    · exact hdrop (by decide) (hstep.trans (linkStep_unended harg hmore))
    rw [linkStep_enters hmay] at hstep
    refine ⟨fun hout => hleave (hstep.trans (if_pos hout)), fun hin => ⟨_, hexec.trans (congrArg _ (hstep.trans (if_neg (by omega)))), fun toB htoB => ?_⟩⟩
    rw [htoB]
    exact toLink_waits (s.served i id p) id n _ lane _
  · exact hdrop (by decide) (routerStep_of_reserved hcur hseg hop)

end

end Sys2Proof.Machine
end

section
namespace Sys2Proof.Machine

section
variable {s t u : State} {n m st cause : Nat} {l : LinkState}

/-! ### Links: their pages and what they hold beside them (R160, R168) -/

/-- The registers that a link's own events change: those of its page and of the moonlet page. -/
def linkReg (n a : Nat) : Prop := onPage (pgLnk n) a ∨ onPage pgMnl a

theorem linkReg_own {k : Nat} (h : k < 0x1000) : linkReg n (pgLnk n + k) := .inl (by unfold onPage pgLnk; omega)

theorem linkReg_mnl {k : Nat} (h : k < 0x1000) : linkReg n (pgMnl + k) := .inr (by unfold onPage pgMnl; omega)

theorem OnlyLink.refl : OnlyLink n s s := ⟨rfl, .refl, fun _ _ => rfl⟩

theorem OnlyLink.trans (h : OnlyLink n s t) (k : OnlyLink n t u) : OnlyLink n s u :=
  ⟨by rw [k.1, h.1], h.2.1.trans k.2.1, fun m hm => (k.2.2 m hm).trans (h.2.2 m hm)⟩

theorem OnlyLink.now (h : OnlyLink n s t) : t.now = s.now := by rw [h.1]

theorem OnlyLink.of_regs (h : OnlyRegs (linkReg n) s t) : OnlyLink n s t :=
  ⟨by rw [h.1], h.2, fun m _ => by rw [State.linkSt, h.1, State.linkSt]⟩

theorem OnlyLink.setF (h : OnlyLink n s t) {f : Fld} (v : Nat) (hf : linkReg n f.addr) : OnlyLink n s (t.setF f v) :=
  h.trans (.of_regs (OnlyRegs.refl.setF v hf))

theorem OnlyLink.countF (h : OnlyLink n s t) {f : Fld} (v : Nat) (hf : linkReg n f.addr) : OnlyLink n s (t.countF f v) := h.setF _ hf

theorem OnlyLink.setLink (h : OnlyLink n s t) (l : LinkState) : OnlyLink n s (t.setLink n l) :=
  ⟨by rw [h.1]; rfl, h.2.1, fun m hm => (linkSt_setLink_ne t l hm).trans (h.2.2 m hm)⟩

@[simp] theorem linkSt_countF (s : State) (f : Fld) (v n : Nat) : (s.countF f v).linkSt n = s.linkSt n := rfl
@[simp] theorem linkSt_advanceTo (s : State) (x n : Nat) : (s.advanceTo x).linkSt n = s.linkSt n := rfl
@[simp] theorem getF_setLink (s : State) (n : Nat) (l : LinkState) (f : Fld) : (s.setLink n l).getF f = s.getF f := rfl

/-! Entry to a state of R160 -/

/-- What a link holds once it has entered a state: a measurement begins at entry to ACTIVE (R169). -/
def LinkState.entered (l : LinkState) (st now : Nat) : LinkState :=
  { l with since := now, probe := if st = linkActive then some ⟨0, []⟩ else l.probe, echo := if st = linkActive then [] else l.echo }

/-- The moonlet page shows which of its links are ACTIVE (R170). -/
theorem toLnk_cases (s : State) (n st : Nat) : ∃ w : State, w = (s.setPgState (pgLnk n) st).setLink n ((s.linkSt n).entered st s.now) ∧
    (s.toLnk n st = w ∨ ∃ v, s.toLnk n st = w.setF F.MNL_STATUS_ACTIVE v) := by
  refine ⟨_, rfl, ?_⟩
  unfold State.toLnk
  dsimp only
  split
  · exact .inr ⟨_, rfl⟩
  · exact .inl rfl

theorem toLnk_only (s : State) (n st : Nat) : OnlyLink n s (s.toLnk n st) := by
  obtain ⟨w, hw, h⟩ := toLnk_cases s n st
  have hset : OnlyLink n s w := hw ▸ (OnlyLink.refl.setF (f := F.PG_STATE_STATE (pgLnk n)) st (linkReg_own (by decide))).setLink _
  obtain h | ⟨v, h⟩ := h <;> rw [h]
  · exact hset
  · exact hset.setF v (linkReg_mnl (k := 0x100) (by decide))

theorem linkSt_toLnk (s : State) (n st : Nat) : (s.toLnk n st).linkSt n = (s.linkSt n).entered st s.now := by
  obtain ⟨w, rfl, h | ⟨v, h⟩⟩ := toLnk_cases s n st <;> rw [h]
  · exact linkSt_setLink_same _ n _
  · exact linkSt_setLink_same _ n _

/-- Of the registers it sets the link's PG_STATE and, for a moonlet link, MNL_STATUS. -/
theorem getF_toLnk (s : State) {n : Nat} (st : Nat) {f : Fld} (hst : f.addr ≠ pgLnk n + 0xC) (hmnl : f.addr ≠ pgMnl + 0x100) :
    (s.toLnk n st).getF f = s.getF f := by
  obtain ⟨w, rfl, h | ⟨v, h⟩⟩ := toLnk_cases s n st <;> rw [h]
  · exact getF_setF_ne s st hst
  · exact (getF_setF_ne _ v hmnl).trans (getF_setF_ne s st hst)

theorem lnk_toLnk (s : State) (hn : n < 24) (hst : st < 16) : (s.toLnk n st).lnk n = st := by
  have hset : (s.setPgState (pgLnk n) st).lnk n = st := getF_setF (f := F.PG_STATE_STATE (pgLnk n)) hst (by decide : 0 + 4 ≤ 32)
  obtain ⟨w, rfl, h | ⟨v, h⟩⟩ := toLnk_cases s n st <;> rw [h]
  · exact hset
  · have hapart : (F.PG_STATE_STATE (pgLnk n)).addr ≠ F.MNL_STATUS_ACTIVE.addr := by simp [F.PG_STATE_STATE, F.MNL_STATUS_ACTIVE, pgLnk]; omega
    exact (getF_setF_ne _ v hapart).trans hset

/-- A link that enters a state is in it from now on, and nothing but the link changes. -/
theorem toLnk_goes (h : OnlyLink n s t) (hn : n < 24) (hst : st < 16) : LinkGoes n st s (t.toLnk n st) :=
  ⟨lnk_toLnk t hn hst, by rw [linkSt_toLnk]; exact h.now, h.trans (toLnk_only t n st)⟩

theorem LinkGoes.setLink (h : LinkGoes n st s t) (l : LinkState) (hl : l.since = (t.linkSt n).since) : LinkGoes n st s (t.setLink n l) := by
  obtain ⟨hst, hsince, honly⟩ := h
  exact ⟨hst, by rw [linkSt_setLink_same, hl, hsince], honly.setLink l⟩

/-! Packets sunk with their link (R162) -/

theorem satAdd_satAdd (a b c top : Nat) : satAdd (satAdd a b top) c top = satAdd a (b + c) top := by
  unfold satAdd
  omega

/-- Counts one after another are one count of their sum. -/
theorem foldl_countF {α : Type} {f : Fld} (hf : f.fits) (g : α → Nat) (l : List α) (s : State) :
    (l.foldl (fun s e => s.countF f (g e)) s).getF f = satAdd (s.getF f) ((l.map g).sum) (2 ^ f.width - 1) ∧
    OnlyRegs (fun a => a = f.addr) s (l.foldl (fun s e => s.countF f (g e)) s) := by
  induction l generalizing s with
  | nil =>
    have := s.getF_lt f
    exact ⟨by simp [satAdd]; omega, .refl⟩
  | cons e l ih =>
    obtain ⟨hcount, honly, hregs⟩ := ih (s.countF f (g e))
    refine ⟨?_, by rw [List.foldl_cons, honly]; rfl, (SameRegs.countF (p := fun a => a = f.addr) .refl _ rfl).trans hregs⟩
    rw [List.foldl_cons, hcount, State.getF_countF_same s hf, satAdd_satAdd, List.map_cons, List.sum_cons]

/-- The flits of the packets that a link holds, counted as lost. -/
def State.lostCounted (s : State) (n : Nat) : State := (s.packets.filter (onLink n)).foldl (fun s e => s.countF (F.LNK_LOST_COUNT n) (linkFlits n e.2)) s

theorem lostCounted_count (s : State) (n : Nat) : (s.lostCounted n).getF (F.LNK_LOST_COUNT n) =
    satAdd (s.getF (F.LNK_LOST_COUNT n)) ((s.packets.filter (onLink n)).map (fun e => linkFlits n e.2)).sum (2 ^ (F.LNK_LOST_COUNT n).width - 1) :=
  (foldl_countF (f := F.LNK_LOST_COUNT n) (by decide : 0 + 32 ≤ 32) _ _ s).1

theorem lostCounted_regs (s : State) (n : Nat) : OnlyRegs (fun a => a = (F.LNK_LOST_COUNT n).addr) s (s.lostCounted n) := by
  obtain ⟨-, hregs⟩ := foldl_countF (f := F.LNK_LOST_COUNT n) (by decide : 0 + 32 ≤ 32) (fun e => linkFlits n e.2) (s.packets.filter (onLink n)) s
  exact hregs

/-- A link at rest but for the state that it is in. -/
def LinkState.emptied (l : LinkState) : LinkState := { l with toB := LinkDir.fresh, toA := LinkDir.fresh, probe := none, echo := [], asking := false }

/-- The state whose packets are those that link `n` does not hold. -/
def State.withoutLink (s : State) (n : Nat) : State := { s with packets := s.packets.filter (fun e => !onLink n e) }

/-- The link's packets, those that `held` finds, are counted, and those that `keep` finds stay. -/
def State.sinkBy (s : State) (n : Nat) (held keep : Nat × Packet → Bool) : State :=
  let s1 := (s.packets.filter held).foldl (fun s e => s.countF (F.LNK_LOST_COUNT n) (linkFlits n e.2)) s
  ({ s1 with packets := s1.packets.filter keep } : State).setLink n (s1.linkSt n).emptied

theorem sinkLink_eq (s : State) (n : Nat) : s.sinkLink n = s.sinkBy n (onLink n) (fun e => !onLink n e) := by
  have hkeep : (fun e : Nat × Packet => match e.2.place with | .link m _ _ => m != n | _ => true) = fun e => !onLink n e := by
    funext e
    simp only [onLink]
    cases e.2.place <;> rfl
  exact (rfl : s.sinkLink n = s.sinkBy n (onLink n) (fun e => match e.2.place with | .link m _ _ => m != n | _ => true)).trans
    (congrArg (s.sinkBy n (onLink n)) hkeep)

theorem sinkLink_only (s : State) (n : Nat) : OnlyLink n (s.withoutLink n) (s.sinkLink n) := by
  obtain ⟨honly, hregs⟩ := lostCounted_regs s n
  have hcounted : OnlyRegs (linkReg n) (s.withoutLink n) ((s.lostCounted n).withoutLink n) :=
    ⟨by rw [State.withoutLink, honly]; rfl, fun a ha => hregs a (by rintro rfl; exact ha (linkReg_own (by decide)))⟩
  rw [sinkLink_eq]
  exact (OnlyLink.of_regs hcounted).setLink _

theorem sinkLink_lost (s : State) (n : Nat) : (s.sinkLink n).getF (F.LNK_LOST_COUNT n) =
    satAdd (s.getF (F.LNK_LOST_COUNT n)) ((s.packets.filter (onLink n)).map (fun e => linkFlits n e.2)).sum (2 ^ (F.LNK_LOST_COUNT n).width - 1) := by
  rw [sinkLink_eq]
  exact lostCounted_count s n

theorem linkFail_only (s : State) (n cause : Nat) : OnlyLink n (s.withoutLink n) (s.linkFail n cause) :=
  ((sinkLink_only s n).setF (f := F.LNK_CAUSE_CAUSE n) cause (linkReg_own (k := 0x108) (by decide))).trans (toLnk_only _ n lnkFailed)

/-- A link that fails for a cause is FAILED with it, its packets gone and counted (R160, R162). -/
theorem linkFail_fails (s : State) (hn : n < 24) (hcause : cause < 16) : LinkFails n cause s (s.linkFail n cause) := by
  have honly := linkFail_only s n cause
  have hpackets : (s.linkFail n cause).packets = (s.withoutLink n).packets := by rw [honly.1]
  refine ⟨lnk_toLnk _ hn (by decide), ?_, hpackets, ?_, hpackets ▸ honly⟩
  · rw [State.linkFail, getF_toLnk _ _ (by simp [F.LNK_CAUSE_CAUSE, pgLnk]) (by simp [F.LNK_CAUSE_CAUSE, pgMnl]; omega)]
    exact getF_setF (f := F.LNK_CAUSE_CAUSE n) hcause (by decide : 0 + 4 ≤ 32)
  · rw [State.linkFail, getF_toLnk _ _ (by simp [F.LNK_LOST_COUNT, pgLnk]) (by simp [F.LNK_LOST_COUNT, pgMnl]; omega),
      getF_setF_ne _ _ (by simp [F.LNK_LOST_COUNT, F.LNK_CAUSE_CAUSE])]
    exact sinkLink_lost s n

/-! The moonlet's capability record (R164, R170) -/

/-- A table of fields set one by one reads what was set. -/
theorem getF_foldl_setF {fld : Nat → Fld} {v : Nat → Nat} (hfits : ∀ k, (fld k).fits) (hne : ∀ k j, k ≠ j → (fld k).addr ≠ (fld j).addr)
    (s : State) {k m : Nat} (hk : k < m) :
    ((List.range m).foldl (fun s i => s.setF (fld i) (v i)) s).getF (fld k) = v k % 2 ^ (fld k).width := by
  induction m with
  | zero => omega
  | succ m ih =>
    rw [List.range_succ, List.foldl_append, List.foldl_cons, List.foldl_nil]
    obtain hlt | rfl := Nat.lt_succ_iff_lt_or_eq.mp hk
    · rw [getF_setF_ne _ _ (hne k m (by omega)), ih hlt]
    · exact State.getF_setF_same _ (hfits k) _

/-- The record is kept in MNL_CAP. -/
def State.capTaken (s : State) (r : List Nat) : State := (List.range 4).foldl (fun s i => s.setF (F.MNL_CAP i) (recWord r i)) s

theorem capTaken_only (s : State) (r : List Nat) : OnlyRegs (fun a => pgMnl + 0x110 ≤ a ∧ a < pgMnl + 0x120) s (s.capTaken r) :=
  List.foldlRecOn (motive := fun t => OnlyRegs (fun a => pgMnl + 0x110 ≤ a ∧ a < pgMnl + 0x120) s t) _ _ .refl fun t ht k hk =>
    ht.setF (f := F.MNL_CAP k) _ (by have := List.mem_range.mp hk; simp only [F.MNL_CAP, pgMnl]; omega)

theorem capTaken_cap (s : State) (r : List Nat) {k : Nat} (hk : k < 4) : (s.capTaken r).getF (F.MNL_CAP k) = recWord r k % 2 ^ 32 :=
  getF_foldl_setF (fld := F.MNL_CAP) (fun _ => (by decide : 0 + 32 ≤ 32)) (fun k j h => by simp only [F.MNL_CAP]; omega) s hk

/-! LNK pages: PG_CTRL.ENABLE (R160, R400) -/

/-- The fields of PG_CTRL (R401). -/
def ctrlFields : List RField :=
  [⟨0, 1, .rw, .val 0, none⟩, ⟨1, 1, .rw, .val 0, none⟩, ⟨2, 1, .w1s, .val 0, none⟩, ⟨3, 1, .rw, .fuse, none⟩, ⟨8, 4, .rw, .val 0, none⟩, ⟨12, 1, .rw, .val 0, none⟩]

theorem regAt_linkCtrl (hn : n < 24) : ∃ d, regAt (pgLnk n + 0x8) = some (.link, n, d) ∧ d.fields = ctrlFields := by
  have hpage : (pgLnk n + 0x8) / 0x1000 = 0xE00 + n := by unfold pgLnk; omega
  have hoff : (pgLnk n + 0x8) % 0x1000 = 0x8 := by unfold pgLnk; omega
  have hword : (pgLnk n + 0x8) % 4 = 0 := by unfold pgLnk; omega
  have hkind : ∀ m, m < 24 → pageKind (0xE00 + m) = some (.link, m) := by decide
  have hfind : findReg (regsOf .link) 0x8 = some (⟨0x8, 0, 1, ctrlFields⟩, 0) := rfl
  exact ⟨_, by simp only [regAt, hword, hpage, hoff, hkind n hn, hfind]; rfl, rfl⟩

/-- A write at once of a register without write-once fields sets its word alone (R11). -/
theorem store_eq_setWord {a k mask : Nat} {kind : PageKind} {d : RegDesc} (s : State) (v : Word) (h : regAt a = some (kind, k, d))
    (honce : d.fields.any (fun f => decide (f.acc = .rw1) && fieldIn mask f) = false) :
    s.store a mask v true = s.setWord a (BitVec.ofNat 32 (writtenWord s a mask v true d.fields (s.word a).toNat)) := by
  unfold State.store
  simp only [h, Bool.true_or, honce, Bool.false_and, Bool.false_eq_true, if_false, if_true]

theorem store_enable_only (hn : n < 24) (s : State) (v : Word) : OnlyRegs (fun a => a = pgLnk n + 0x8) s (s.store (pgLnk n + 0x8) 1 v true) := by
  obtain ⟨d, hreg, hfields⟩ := regAt_linkCtrl hn
  rw [store_eq_setWord s v hreg (by rw [hfields]; decide)]
  exact OnlyRegs.refl.setWord _ rfl

/-- Bits below every field that is written are as before. -/
theorem bits_writtenWord_below (s : State) (a mask : Nat) (v : Word) (once : Bool) {lsb width : Nat} {l : List RField}
    (h : ∀ f ∈ l, lsb + width ≤ f.lsb) (w : Nat) : bits (writtenWord s a mask v once l w) lsb width = bits w lsb width := by
  induction l generalizing w with
  | nil => rfl
  | cons f l ih =>
    rw [writtenWord]
    exact (ih (fun g hg => h g (List.mem_cons_of_mem f hg)) _).trans (bits_setBits_below _ _ _ _ _ _ (h f List.mem_cons_self))

theorem fieldWritten_bit0 (r : RVal) (n cur : Nat) : fieldWritten 1 ⟨0, 1, .rw, r, none⟩ n cur = n % 2 := by
  have hmask : bits 1 0 1 = 1 := by decide
  have hn : bits n 0 1 = n % 2 := rfl
  have hnone : Nat.land cur 0 = 0 := Nat.and_zero cur
  have hall : Nat.land (n % 2) 1 = n % 2 := (Nat.and_one_is_mod (n % 2)).trans (Nat.mod_mod n 2)
  simp only [fieldWritten, hmask, hn, Nat.reducePow, Nat.reduceSub, hnone, hall]
  exact Nat.zero_or _

/-- A write of ENABLE leaves what was written there (R11). -/
theorem store_enable_reads (hn : n < 24) (s : State) (v : Word) : (s.store (pgLnk n + 0x8) 1 v true).getF ⟨pgLnk n + 0x8, 0, 1⟩ = v.toNat % 2 := by
  obtain ⟨d, hreg, hfields⟩ := regAt_linkCtrl hn
  have hlow (x : Nat) : bits (BitVec.ofNat 32 x).toNat 0 1 = bits x 0 1 := by
    simp only [bits, BitVec.toNat_ofNat, Nat.shiftRight_zero]
    omega
  rw [store_eq_setWord s v hreg (by rw [hfields]; decide), State.getF, State.word_setWord_same, hlow, hfields, ctrlFields, writtenWord,
    bits_writtenWord_below _ _ _ _ _ (by decide)]
  dsimp only
  rw [fieldWritten_bit0, bits_setBits_same, fieldLegal, if_pos rfl]
  exact Nat.mod_mod _ 2

end

end Sys2Proof.Machine
end

section
namespace Sys2Proof.Machine

section
variable {s t u : State} {n m d cause : Nat}

/-! ### Failures of links (O23) -/

/-- A failure is one whether or not other registers of the moonlet page were written before it. -/
theorem LinkFails.of_mnl (hu : OnlyRegs (fun a => pgMnl + 0x110 ≤ a ∧ a < pgMnl + 0x120) s u) (h : LinkFails n cause u t) (hn : n < 24) :
    LinkFails n cause s t := by
  obtain ⟨honly, hsame⟩ := hu
  obtain ⟨hst, hcause, hpackets, hlost, hrest⟩ := h
  have hcount : u.getF (F.LNK_LOST_COUNT n) = s.getF (F.LNK_LOST_COUNT n) :=
    SameRegs.getF hsame (by simp only [F.LNK_LOST_COUNT, pgMnl]; omega)
  have hkept : u.packets = s.packets := by rw [honly]
  have hregs : OnlyRegs (linkReg n) { s with packets := t.packets } { u with packets := t.packets } :=
    ⟨by rw [honly], fun a ha => hsame a fun hin => ha (.inr (by unfold onPage pgMnl at *; omega))⟩
  rw [hkept] at hpackets hlost
  rw [hcount] at hlost
  exact ⟨hst, hcause, hpackets, hlost, (OnlyLink.of_regs hregs).trans hrest⟩

/-! Both I/O links of a die that takes no identity (R159) -/

/-- The link is FAILED with cause WIRING. -/
def Miswired (n : Nat) (t : State) : Prop := t.lnk n = lnkFailed ∧ t.getF (F.LNK_CAUSE_CAUSE n) = 3

theorem linkFail_miswired (s : State) (hn : n < 24) : Miswired n (s.linkFail n 3) := by
  obtain ⟨hst, hcause, -, -, -⟩ := linkFail_fails (cause := 3) s hn (by decide)
  exact ⟨hst, hcause⟩

/-- A failure of another link leaves it so. -/
theorem Miswired.linkFail_other (h : Miswired m s) (hm : m < 24) (hne : m ≠ n) (cause : Nat) : Miswired m (s.linkFail n cause) := by
  have hregs := (linkFail_only s n cause).2.1
  have hoff {k : Nat} (hk : k < 0x1000) : ¬ linkReg n (pgLnk m + k) := by
    unfold linkReg onPage pgLnk pgMnl
    omega
  obtain ⟨hst, hcause⟩ := h
  exact ⟨(hregs.getF (f := F.PG_STATE_STATE (pgLnk m)) (hoff (k := 0xC) (by decide))).trans hst,
    (hregs.getF (f := F.LNK_CAUSE_CAUSE m) (hoff (k := 0x108) (by decide))).trans hcause⟩

/-- What becomes of link `n` when die `d` takes no identity. -/
def State.unwire (s : State) (d n : Nat) : State :=
  if n = 12 + 2 * d ∨ n = 13 + 2 * d then s.linkFail n 3
  else if s.lnk n = lnkFailed then s
  else (s.takeFree.2).linkFail n (Config.freeValue s.takeFree.1)

theorem identFail_of_off (h : s.power.fabOn.contains d = false) :
    s.identFail d = ((List.range 24).filter (fun n => (linkEnds n).1 == d || (linkEnds n).2 == d)).foldl (fun s n => s.unwire d n) s := by
  unfold State.identFail
  rw [h]
  rfl

theorem Miswired.unwire (h : Miswired m s) (hm : m < 24) (hio : m = 12 + 2 * d ∨ m = 13 + 2 * d) : Miswired m (s.unwire d n) := by
  by_cases hsame : n = m
  · subst hsame
    rw [State.unwire, if_pos hio]
    exact linkFail_miswired s hm
  · unfold State.unwire
    split
    · exact h.linkFail_other hm (Ne.symm hsame) 3
    split
    · exact h
    · exact Miswired.linkFail_other (s := s.takeFree.2) h hm (Ne.symm hsame) _

/-- What one step of a run brings about and every other keeps holds after it. -/
theorem foldl_of_step {α : Type} {P : State → Prop} {f : State → α → State} {l : List α} {x : α} (hx : x ∈ l)
    (hmake : ∀ t, P (f t x)) (hkeep : ∀ t y, P t → P (f t y)) (s : State) : P (l.foldl f s) := by
  obtain ⟨before, after, rfl⟩ := List.append_of_mem hx
  rw [List.foldl_append, List.foldl_cons]
  exact List.foldlRecOn after f (hmake _) fun t ht y _ => hkeep t y ht

theorem identFail_wires (hd : d < 4) (hoff : s.power.fabOn.contains d = false) (hio : m = 12 + 2 * d ∨ m = 13 + 2 * d) : Miswired m (s.identFail d) := by
  have hm : m < 24 := by omega
  have hend : (linkEnds m).1 = d := by
    have hall : ∀ d, d < 4 → (linkEnds (12 + 2 * d)).1 = d ∧ (linkEnds (13 + 2 * d)).1 = d := by decide
    obtain rfl | rfl := hio
    · exact (hall d hd).1
    · exact (hall d hd).2
  rw [identFail_of_off hoff]
  refine foldl_of_step (x := m) (by simp [hm, hend]) (fun t => ?_) (fun t y h => h.unwire hm hio) s
  rw [State.unwire, if_pos hio]
  exact linkFail_miswired t hm

theorem identFail_both (hd : d < 4) (hoff : s.power.fabOn.contains d = false) :
    (s.identFail d).lnk (12 + 2 * d) = lnkFailed ∧ (s.identFail d).lnk (13 + 2 * d) = lnkFailed ∧
    (s.identFail d).getF (F.LNK_CAUSE_CAUSE (12 + 2 * d)) = 3 ∧ (s.identFail d).getF (F.LNK_CAUSE_CAUSE (13 + 2 * d)) = 3 := by
  obtain ⟨hfirst, hcause⟩ := identFail_wires hd hoff (.inl rfl)
  obtain ⟨hsecond, hcause'⟩ := identFail_wires hd hoff (.inr rfl)
  exact ⟨hfirst, hsecond, hcause, hcause'⟩

/-! The commands -/

theorem execSbTimeout_of (hst : s.lnk n = lnkSbInit) : exec (.sbTimeout n) s = .next ((s.advanceTo ((s.linkSt n).since + 800000)).linkFail n 1) := by
  show execSbTimeout n s = _
  rw [execSbTimeout, if_pos hst]

theorem execParamTimeout_of (hst : s.lnk n = lnkParam) : exec (.paramTimeout n) s = .next ((s.advanceTo ((s.linkSt n).since + 1000000)).linkFail n 4) := by
  show execParamTimeout n s = _
  rw [execParamTimeout, if_pos hst]

theorem execRetrainTimeout_of (hst : s.lnk n = lnkRetrain) :
    exec (.retrainTimeout n) s = .next ((s.advanceTo ((s.linkSt n).since + 200000)).linkFail n 2) := by
  show execRetrainTimeout n s = _
  rw [execRetrainTimeout, if_pos hst]

theorem nextTry_last {noX32 x32 : Bool} (h : x32 = true ∨ noX32 = true) : nextTry noX32 x32 0 = none := by
  obtain h | h := h <;> simp [nextTry, h]

/-- The third failed attempt at the last width and rate ends MB_TRAIN (R160). -/
theorem execMbTrainTimeout_last (hst : s.lnk n = lnkMbTrain) (htried : 2 ≤ (s.linkSt n).attempts) (hrate : (s.linkSt n).tryRate = 0)
    (hwidth : (s.linkSt n).tryX32 = true ∨ (s.linkSt n).noX32 = true) :
    exec (.mbTrainTimeout n) s = .next ((s.advanceTo ((s.linkSt n).since + 2000000)).linkFail n 2) := by
  show execMbTrainTimeout n s = _
  have hattempts : ¬ (s.linkSt n).attempts + 1 < 3 := by omega
  rw [execMbTrainTimeout, if_pos hst]
  have hl := linkSt_advanceTo s ((s.linkSt n).since + 2000000) n
  generalize s.advanceTo ((s.linkSt n).since + 2000000) = u at hl ⊢
  simp only [hl, hrate, nextTry_last hwidth, if_neg hattempts]

/-- An IDENT from another die than the expected one fails the link (R159). -/
theorem execIdent_stranger {io a b : Nat} (hst : s.lnk n = lnkParam) (hn : n < 12)
    (h : a ≠ Nat.xor (s.dieIdent (linkEnds n).1) (Nat.xor (linkEnds n).1 (linkEnds n).2) ∨
      b ≠ Nat.xor (s.dieIdent (linkEnds n).2) (Nat.xor (linkEnds n).1 (linkEnds n).2)) : exec (.ident n io a b) s = .next (s.linkFail n 3) := by
  show execIdent n io a b s = _
  have hlow : ¬ 20 ≤ n := by omega
  have hdiffer : ¬ (a = Nat.xor (s.dieIdent (linkEnds n).1) (Nat.xor (linkEnds n).1 (linkEnds n).2) ∧
      b = Nat.xor (s.dieIdent (linkEnds n).2) (Nat.xor (linkEnds n).1 (linkEnds n).2)) := fun ⟨ha, hb⟩ => h.elim (· ha) (· hb)
  simp only [execIdent, hlow, decide_false, hst, bne_self_eq_false, Bool.or_self, Bool.false_eq_true, if_false, hn, if_true, if_neg hdiffer]

/-- The state with the port number that an I/O die has sent a die (R159). -/
def State.heard (s : State) (d io x : Nat) : State := { s with power := { s.power with idents := tabPut s.power.idents (2 * d + io) x } }

/-- On an I/O link the die takes the number that it hears, the first or the same as the other I/O die's (R159). -/
theorem execIdent_io_agrees {k : Nat} (hst : s.lnk n = lnkParam) (hlo : 12 ≤ n) (hhi : n < 20) (io seen : Nat)
    (hother : ∀ x, s.ioAnswer (linkEnds n).1 (5 - (linkEnds n).2) = some x → x = k) :
    exec (.ident n io k seen) s = .next ((s.heard (linkEnds n).1 ((linkEnds n).2 - 4) (2 * k + io % 2)).linkUp n) := by
  have hlow : ¬ 20 ≤ n := by omega
  have hhigh : ¬ n < 12 := by omega
  show execIdent n io k seen s = _
  simp only [execIdent, hlow, decide_false, hst, bne_self_eq_false, Bool.or_self, Bool.false_eq_true, if_false, hhigh, State.heard]
  cases hx : s.ioAnswer (linkEnds n).1 (5 - (linkEnds n).2) with
  | none => rfl
  | some x => exact if_pos (hother x hx)

/-- Where the other I/O die has given it another number, it takes no identity. -/
theorem execIdent_io_differs {k k' : Nat} (hst : s.lnk n = lnkParam) (hlo : 12 ≤ n) (hhi : n < 20) (io seen : Nat)
    (hother : s.ioAnswer (linkEnds n).1 (5 - (linkEnds n).2) = some k') (hdiffer : k' ≠ k) :
    exec (.ident n io k seen) s = .next ((s.heard (linkEnds n).1 ((linkEnds n).2 - 4) (2 * k + io % 2)).identFail (linkEnds n).1) := by
  have hlow : ¬ 20 ≤ n := by omega
  have hhigh : ¬ n < 12 := by omega
  show execIdent n io k seen s = _
  simp only [execIdent, hlow, decide_false, hst, bne_self_eq_false, Bool.or_self, Bool.false_eq_true, if_false, hhigh, State.heard, hother, if_neg hdiffer]

theorem execCapabilityRecord_of_param {r : List Nat} (hst : s.lnk n = lnkParam) (hn : 20 ≤ n) (hbad : r.getD 4 0 ≠ 1 ∨ r.getD 10 0 + 256 * r.getD 11 0 < 8) :
    exec (.capabilityRecord n r) s = .next ((s.capTaken r).linkFail n 4) := by
  show execCapabilityRecord n r s = _
  simp only [execCapabilityRecord, hn, decide_true, hst, beq_self_eq_true, Bool.and_self, if_true, if_pos hbad]
  rfl

theorem execIdentityTimeout_of_none (hd : d < 4) (h0 : s.ioAnswer d 0 = none) (h1 : s.ioAnswer d 1 = none) (hl0 : s.lnk (12 + 2 * d) ≠ linkActive)
    (hl1 : s.lnk (13 + 2 * d) ≠ linkActive) : exec (.identityTimeout d) s =
    .next ((s.advanceTo (max (s.linkSt (12 + 2 * d)).since (s.linkSt (13 + 2 * d)).since + 5000000)).identFail d) := by
  have hlow : ¬ 3 < d := by omega
  show execIdentityTimeout d s = _
  simp [execIdentityTimeout, hlow, h0, h1, hl0, hl1]

/-- Time passing leaves a die's failure to take an identity as it is. -/
theorem identFail_advanceTo_both (x : Nat) (hd : d < 4) (hoff : s.power.fabOn.contains d = false) :
    ((s.advanceTo x).identFail d).lnk (12 + 2 * d) = lnkFailed ∧ ((s.advanceTo x).identFail d).lnk (13 + 2 * d) = lnkFailed ∧
    ((s.advanceTo x).identFail d).getF (F.LNK_CAUSE_CAUSE (12 + 2 * d)) = 3 ∧ ((s.advanceTo x).identFail d).getF (F.LNK_CAUSE_CAUSE (13 + 2 * d)) = 3 :=
  identFail_both (s := s.advanceTo x) hd hoff

/-- A disabled link is OFF, its packets gone (R160). -/
theorem linkDisable_offs {who : Requester} {v : Word} (hn : n < 24) (hadm : Admitted s u who (pgLnk n + 0x8) 1 v) (hv : v.toNat % 2 = 0) :
    ∃ t, exec (.linkDisable who n v) s = .next t ∧ t.lnk n = lnkOff ∧ t.packets = u.packets.filter (fun e => !onLink n e) ∧
      OnlyLink n { u with packets := t.packets } t := by
  obtain ⟨mask, hmask, hneed⟩ := hadm
  have hzero : ¬ v.toNat % 2 = 1 := by omega
  obtain ⟨honly, hregs⟩ := store_enable_only hn u v
  have hstored : OnlyRegs (linkReg n) (u.withoutLink n) ((u.store (pgLnk n + 0x8) 1 v true).withoutLink n) :=
    ⟨by rw [State.withoutLink, honly]; rfl, hregs.weaken fun a ha => ha ▸ linkReg_own (by decide)⟩
  have hrest : OnlyLink n (u.withoutLink n) (((u.store (pgLnk n + 0x8) 1 v true).sinkLink n).toLnk n lnkOff) :=
    (OnlyLink.of_regs hstored).trans ((sinkLink_only _ n).trans (toLnk_only _ n lnkOff))
  have hpackets : (((u.store (pgLnk n + 0x8) 1 v true).sinkLink n).toLnk n lnkOff).packets = (u.withoutLink n).packets := by rw [hrest.1]
  have hexec : exec (.linkDisable who n v) s = .next (((u.store (pgLnk n + 0x8) 1 v true).sinkLink n).toLnk n lnkOff) := by
    show execLinkDisable who n v s = _
    rw [execLinkDisable, trigger_admitted _ hmask hneed, if_neg hzero]
  exact ⟨_, hexec, lnk_toLnk _ hn (by decide), hpackets, hpackets ▸ hrest⟩

/-- Settles O23: each limit and each wrong peer ends in `State.linkFail` (`linkFail_fails`), a die without identity in `State.identFail`
(`identFail_both`), and LINK_DISABLE is `linkDisable_offs`. -/
theorem linkFailure : Obligations.LinkFailure := by
  intro n s hn l ea eb Fails Wiring
  have hfails (u : State) {cause : Nat} (hcause : cause < 16) : LinkFails n cause u (u.linkFail n cause) := linkFail_fails u hn hcause
  refine ⟨fun hst => ⟨_, execSbTimeout_of hst, hfails _ (by decide)⟩,
    fun hst htried hrate hwidth => ⟨_, execMbTrainTimeout_last hst htried hrate hwidth, hfails _ (by decide)⟩,
    fun hst => ⟨_, execParamTimeout_of hst, hfails _ (by decide)⟩,
    fun hst => ⟨_, execRetrainTimeout_of hst, hfails _ (by decide)⟩,
    fun hst hlow io a b h => ⟨_, execIdent_stranger hst hlow h, hfails s (by decide)⟩,
    fun hst hmnl r hbad => ⟨_, execCapabilityRecord_of_param hst hmnl hbad, LinkFails.of_mnl (capTaken_only s r) (hfails _ (by decide)) hn⟩,
    fun d hd h0 h1 hl0 hl1 hoff => ⟨_, execIdentityTimeout_of_none hd h0 h1 hl0 hl1, identFail_advanceTo_both _ hd hoff⟩,
    fun hst hlo hhi io k k' seen hother hdiffer hoff => ?_, fun who v u hadm hv => linkDisable_offs hn hadm hv⟩
  have hexec := execIdent_io_differs hst hlo hhi io seen hother hdiffer
  have hdie : ∀ n, n < 24 → (linkEnds n).1 < 4 := by decide
  exact ⟨_, hexec, identFail_both (hdie n hn) hoff⟩

end

end Sys2Proof.Machine
end

section
namespace Sys2Proof.Machine

section
variable {s t u : State} {n m d : Nat}

/-! ### Training of a link (O22) -/

/-- The link is ACTIVE from now on and measures its delay (R160, R169). -/
def Rises (n : Nat) (s t : State) : Prop := LinkGoes n linkActive s t ∧ (t.linkSt n).probe = some ⟨0, []⟩

theorem toLnk_rises (h : OnlyLink n s t) (hn : n < 24) : Rises n s (t.toLnk n linkActive) :=
  ⟨toLnk_goes h hn (by decide), by rw [linkSt_toLnk]; rfl⟩

theorem linkUp_rises (h : OnlyLink n s t) (hn : n < 24) : Rises n s (t.linkUp n) := toLnk_rises (h.setLink _) hn

/-- A link's change of state leaves the other registers of its page. -/
theorem getF_toLnk_own (s : State) (hn : n < 24) (st : Nat) {k : Nat} (hk : k < 0x1000) (hne : k ≠ 0xC) {f : Fld} (hf : f.addr = pgLnk n + k) :
    (s.toLnk n st).getF f = s.getF f :=
  getF_toLnk s st (fun h => hne (Nat.add_left_cancel (hf.symm.trans h))) (by rw [hf]; unfold pgLnk pgMnl; omega)

/-! OFF to PARAM (R160, R168) -/

/-- Whether an end of a link is powered does not rest on the link's own PG_CTRL. -/
theorem endPowered_of_ctrl (h : OnlyRegs (fun a => a = pgLnk n + 0x8) s t) (hn : n < 24) (e : Nat) : t.endPowered e = s.endPowered e := by
  obtain ⟨honly, hregs⟩ := h
  have hpower : t.power = s.power := by rw [honly]
  have hpresent : t.on F.MNL_STATUS_PRESENT = s.on F.MNL_STATUS_PRESENT := hregs.on (by simp only [F.MNL_STATUS_PRESENT, pgLnk]; omega)
  unfold State.endPowered
  rw [hpower, hpresent]

/-- With ENABLE 1 an OFF link with both ends powered leaves for SB_INIT. -/
theorem linkWake_of_off (hoff : s.lnk n = lnkOff) (hon : s.on ⟨pgLnk n + 0x8, 0, 1⟩ = true) (ha : s.endPowered (linkEnds n).1 = true)
    (hb : s.endPowered (linkEnds n).2 = true) : s.linkWake n = (s.setF (F.LNK_CAUSE_CAUSE n) 0).toLnk n lnkSbInit := by
  simp only [State.linkWake, hoff, hon, ha, hb, decide_true, Bool.and_self, if_true]

theorem linkEnable_starts {who : Requester} {v : Word} (hn : n < 24) (hadm : Admitted s u who (pgLnk n + 0x8) 1 v) (hv : v.toNat % 2 = 1)
    (hoff : u.lnk n = lnkOff) (ha : u.endPowered (linkEnds n).1 = true) (hb : u.endPowered (linkEnds n).2 = true) :
    ∃ t, exec (.linkEnable who n v) s = .next t ∧ LinkGoes n lnkSbInit u t ∧ t.getF (F.LNK_CAUSE_CAUSE n) = 0 := by
  obtain ⟨mask, hmask, hneed⟩ := hadm
  have hreads := store_enable_reads hn u v
  have honly := store_enable_only hn u v
  have hexec : exec (.linkEnable who n v) s = .next ((u.store (pgLnk n + 0x8) 1 v true).linkWake n) := by
    show execLinkEnable who n v s = _
    rw [execLinkEnable, trigger_admitted _ hmask hneed]
  generalize u.store (pgLnk n + 0x8) 1 v true = w at hreads honly hexec
  have hlnk : w.lnk n = lnkOff := (honly.2.getF (f := F.PG_STATE_STATE (pgLnk n)) (by simp [F.PG_STATE_STATE])).trans hoff
  have hon : w.on ⟨pgLnk n + 0x8, 0, 1⟩ = true := by rw [State.on, hreads, hv]; rfl
  have hlink : OnlyLink n u w := .of_regs ⟨honly.1, honly.2.weaken fun a h => h ▸ linkReg_own (by decide)⟩
  rw [linkWake_of_off hlnk hon ((endPowered_of_ctrl honly hn _).trans ha) ((endPowered_of_ctrl honly hn _).trans hb)] at hexec
  refine ⟨_, hexec, toLnk_goes (hlink.setF (f := F.LNK_CAUSE_CAUSE n) 0 (linkReg_own (k := 0x108) (by decide))) hn (by decide), ?_⟩
  rw [getF_toLnk_own (k := 0x108) _ hn _ (by decide) (by decide) rfl]
  exact getF_setF (f := F.LNK_CAUSE_CAUSE n) (by decide : 0 < 2 ^ 4) (by decide : 0 + 4 ≤ 32)

/-- Training begins at the rate of LNK_CFG and takes what LNK_CFG says (R168). -/
theorem startTraining_takes (s : State) (hn : n < 24) : ∃ l : LinkState, s.startTraining n = (s.toLnk n lnkMbTrain).setLink n l ∧
    l.since = ((s.toLnk n lnkMbTrain).linkSt n).since ∧ l.attempts = 0 ∧ l.tryX32 = false ∧ l.tryRate = s.getF (F.LNK_CFG_MAX_RATE n) ∧
    l.replayLimit = s.getF (F.LNK_CFG_REPLAY_LIMIT n) ∧ l.noX32 = s.on (F.LNK_CFG_NO_X32 n) := by
  have hcfg {f : Fld} (hf : f.addr = pgLnk n + 0x100) : bits ((s.toLnk n lnkMbTrain).word (pgLnk n + 0x100)).toNat f.lsb f.width = s.getF f := by
    rw [← getF_toLnk_own s hn lnkMbTrain (by decide) (by decide) hf, State.getF, hf]
  refine ⟨_, rfl, rfl, rfl, rfl, hcfg (f := F.LNK_CFG_MAX_RATE n) rfl, hcfg (f := F.LNK_CFG_REPLAY_LIMIT n) rfl, ?_⟩
  exact congrArg (· == 1) (hcfg (f := F.LNK_CFG_NO_X32 n) rfl)

theorem sidebandUp_trains (hn : n < 24) (hst : s.lnk n = lnkSbInit) : ∃ t, exec (.sidebandUp n) s = .next t ∧ LinkGoes n lnkMbTrain s t ∧
    (t.linkSt n).attempts = 0 ∧ (t.linkSt n).tryX32 = false ∧ (t.linkSt n).tryRate = s.getF (F.LNK_CFG_MAX_RATE n) ∧
    (t.linkSt n).replayLimit = s.getF (F.LNK_CFG_REPLAY_LIMIT n) ∧ (t.linkSt n).noX32 = s.on (F.LNK_CFG_NO_X32 n) := by
  obtain ⟨l, ht, hsince, htakes⟩ := startTraining_takes s hn
  have hexec : exec (.sidebandUp n) s = .next (s.startTraining n) := by
    show execSidebandUp n s = _
    rw [execSidebandUp, if_pos hst]
  rw [ht] at hexec
  exact ⟨_, hexec, (toLnk_goes .refl hn (by decide)).setLink l hsince, by rw [linkSt_setLink_same]; exact htakes⟩

/-- A field set leaves the other bits of its word. -/
theorem getF_setF_other_bits (s : State) (a v : Nat) {lsb width lsb' width' : Nat} (hfits : lsb + width ≤ 32) (h : lsb + width ≤ lsb' ∨ lsb' + width' ≤ lsb) :
    (s.setF ⟨a, lsb, width⟩ v).getF ⟨a, lsb', width'⟩ = s.getF ⟨a, lsb', width'⟩ :=
  State.getF_setF_apart s (f := ⟨a, lsb, width⟩) hfits (.inr h) v

theorem getF_setF_bits (s : State) (a v : Nat) {lsb width : Nat} (hfits : lsb + width ≤ 32) : (s.setF ⟨a, lsb, width⟩ v).getF ⟨a, lsb, width⟩ = v % 2 ^ width :=
  State.getF_setF_same s (f := ⟨a, lsb, width⟩) hfits v

/-- The port of the far end as LNK_STATUS shows it (R168). -/
def farPort (n : Nat) : Nat :=
  if (linkEnds n).2 < 4 then portOf n (linkEnds n).2 else if (linkEnds n).2 < 6 then (n - 12) / 2 else 0

/-- LNK_STATUS as a trained mainband shows it (R168). -/
def State.mainbandShown (s : State) (n : Nat) (fromRecord : Bool) (repaired : Nat) : State :=
  (((((s.setF (F.LNK_STATUS_RATE n) (s.linkSt n).tryRate).setF (F.LNK_STATUS_X32 n) (b2n (s.linkSt n).tryX32)).setF (F.LNK_STATUS_FROM_RECORD n)
    (b2n fromRecord)).setF (F.LNK_STATUS_PORT_A n) (portOf n (linkEnds n).1)).setF (F.LNK_STATUS_PORT_B n) (farPort n)).setF (F.LNK_STATUS_REPAIRED n) repaired

theorem mainbandShown_only (s : State) (n : Nat) (r : Bool) (repaired : Nat) : OnlyLink n s (s.mainbandShown n r repaired) := by
  have hown {f : Fld} (hf : f.addr = pgLnk n + 0x104) : linkReg n f.addr := hf ▸ linkReg_own (by decide)
  exact (((((OnlyLink.refl.setF (f := F.LNK_STATUS_RATE n) _ (hown rfl)).setF (f := F.LNK_STATUS_X32 n) _ (hown rfl)).setF
    (f := F.LNK_STATUS_FROM_RECORD n) _ (hown rfl)).setF (f := F.LNK_STATUS_PORT_A n) _ (hown rfl)).setF (f := F.LNK_STATUS_PORT_B n) _
    (hown rfl)).setF (f := F.LNK_STATUS_REPAIRED n) _ (hown rfl)

theorem b2n_mod_two (b : Bool) : b2n b % 2 = b2n b := by cases b <;> rfl

theorem mainbandShown_fields (s : State) (n : Nat) (r : Bool) (repaired : Nat) :
    (s.mainbandShown n r repaired).getF (F.LNK_STATUS_RATE n) = (s.linkSt n).tryRate % 4 ∧
    (s.mainbandShown n r repaired).getF (F.LNK_STATUS_X32 n) = b2n (s.linkSt n).tryX32 ∧
    (s.mainbandShown n r repaired).getF (F.LNK_STATUS_REPAIRED n) = repaired % 256 := by
  refine ⟨?_, ?_, ?_⟩ <;>
  simp (disch := decide) only [State.mainbandShown, F.LNK_STATUS_RATE, F.LNK_STATUS_X32, F.LNK_STATUS_FROM_RECORD, F.LNK_STATUS_PORT_A, F.LNK_STATUS_PORT_B,
    F.LNK_STATUS_REPAIRED, getF_setF_other_bits, getF_setF_bits, Nat.reducePow, pow_one, b2n_mod_two]

/-- The link as it leaves MB_TRAIN: the ends have still to hear each other. -/
def State.trained (s : State) (n : Nat) : State := (s.setLink n { s.linkSt n with identDone := false }).toLnk n lnkParam

theorem execMainbandTrained_of (hst : s.lnk n = lnkMbTrain) (fr : Bool) (rep : Nat) : execMainbandTrained n fr rep s =
    .next ((s.mainbandShown n (fr && (s.linkSt n).useRecord && s.on F.G_QS_STATUS_USED) rep).trained n) := by
  rw [execMainbandTrained, if_pos hst]
  rfl

theorem exec_mainbandTrained (n : Nat) (fr : Bool) (rep : Nat) (s : State) : exec (.mainbandTrained n fr rep) s = execMainbandTrained n fr rep s := rfl

theorem mainbandTrained_shows (hn : n < 24) (hst : s.lnk n = lnkMbTrain) (fr : Bool) (rep : Nat) :
    ∃ t, exec (.mainbandTrained n fr rep) s = .next t ∧ LinkGoes n lnkParam s t ∧ t.getF (F.LNK_STATUS_RATE n) = (s.linkSt n).tryRate % 4 ∧
      t.getF (F.LNK_STATUS_X32 n) = b2n (s.linkSt n).tryX32 ∧ t.getF (F.LNK_STATUS_REPAIRED n) = rep % 256 := by
  have hexec := (exec_mainbandTrained n fr rep s).trans (execMainbandTrained_of hst fr rep)
  have honly := mainbandShown_only s n (fr && (s.linkSt n).useRecord && s.on F.G_QS_STATUS_USED) rep
  obtain ⟨hrate, hwidth, hrepaired⟩ := mainbandShown_fields s n (fr && (s.linkSt n).useRecord && s.on F.G_QS_STATUS_USED) rep
  generalize s.mainbandShown n (fr && (s.linkSt n).useRecord && s.on F.G_QS_STATUS_USED) rep = shown at *
  have hkept {f : Fld} (hf : f.addr = pgLnk n + 0x104) {l : LinkState} : ((shown.setLink n l).toLnk n lnkParam).getF f = shown.getF f :=
    (getF_toLnk_own _ hn _ (by decide) (by decide) hf).trans (getF_setLink ..)
  exact ⟨_, hexec, toLnk_goes (honly.setLink _) hn (by decide), (hkept rfl).trans hrate, (hkept rfl).trans hwidth, (hkept rfl).trans hrepaired⟩

/-! Attempts (R160) -/

theorem execMbTrainTimeout_again (hst : s.lnk n = lnkMbTrain) (h : (s.linkSt n).attempts + 1 < 3) :
    exec (.mbTrainTimeout n) s = .next ((s.advanceTo ((s.linkSt n).since + 2000000)).setLink n
      { s.linkSt n with attempts := (s.linkSt n).attempts + 1, since := (s.advanceTo ((s.linkSt n).since + 2000000)).now }) := by
  have hl := linkSt_advanceTo s ((s.linkSt n).since + 2000000) n
  show execMbTrainTimeout n s = _
  rw [execMbTrainTimeout, if_pos hst]
  generalize s.advanceTo ((s.linkSt n).since + 2000000) = u at hl ⊢
  simp only [hl, if_pos h]

theorem execMbTrainTimeout_slower {x : Bool} {r : Nat} (hst : s.lnk n = lnkMbTrain) (h : 3 ≤ (s.linkSt n).attempts + 1)
    (hnext : nextTry (s.linkSt n).noX32 (s.linkSt n).tryX32 (s.linkSt n).tryRate = some (x, r)) :
    exec (.mbTrainTimeout n) s = .next ((s.advanceTo ((s.linkSt n).since + 2000000)).setLink n
      { s.linkSt n with attempts := 0, since := (s.advanceTo ((s.linkSt n).since + 2000000)).now, tryX32 := x, tryRate := r }) := by
  have hl := linkSt_advanceTo s ((s.linkSt n).since + 2000000) n
  have hthird : ¬ (s.linkSt n).attempts + 1 < 3 := by omega
  show execMbTrainTimeout n s = _
  rw [execMbTrainTimeout, if_pos hst]
  generalize s.advanceTo ((s.linkSt n).since + 2000000) = u at hl ⊢
  simp only [hl, hnext, if_neg hthird]

theorem nextTry_narrow {noX32 x32 : Bool} (hx : x32 = false) (hno : noX32 = false) (r : Nat) : nextTry noX32 x32 r = some (true, r) := by
  subst hx hno
  rfl

theorem nextTry_slower {noX32 x32 : Bool} (h : x32 = true ∨ noX32 = true) (r : Nat) : nextTry noX32 x32 (r + 1) = some (x32, r) := by
  obtain h | h := h <;> simp [nextTry, h]

/-! PARAM to ACTIVE (R159, R164) -/

theorem execIdent_agrees (hst : s.lnk n = lnkParam) (hn : n < 12) (io : Nat) :
    exec (.ident n io (Nat.xor (s.dieIdent (linkEnds n).1) (Nat.xor (linkEnds n).1 (linkEnds n).2))
      (Nat.xor (s.dieIdent (linkEnds n).2) (Nat.xor (linkEnds n).1 (linkEnds n).2))) s = .next (s.linkUp n) := by
  have hlow : ¬ 20 ≤ n := by omega
  show execIdent n io _ _ s = _
  simp only [execIdent, hlow, decide_false, hst, bne_self_eq_false, Bool.or_self, Bool.false_eq_true, if_false, hn, if_true, and_self]

theorem ioAnswer_heard_same (s : State) (d e k io : Nat) : (s.heard d e (2 * k + io % 2)).ioAnswer d e = some k := by
  have hhalf : (2 * k + io % 2) / 2 = k := by omega
  simp only [State.ioAnswer, State.heard, tabGet_tabPut_same, Option.map_some, hhalf]

theorem ioAnswer_heard_ne (s : State) (d x : Nat) {e f : Nat} (h : f ≠ e) : (s.heard d e x).ioAnswer d f = s.ioAnswer d f := by
  simp only [State.ioAnswer, State.heard]
  rw [tabGet_tabPut_ne _ _ (by omega)]

/-- A die whose one I/O port has answered a number, and whose other one no other, has that number for its identity. -/
theorem dieIdent_of_answer {k e : Nat} (he : e < 2) (h : s.ioAnswer d e = some k) (hother : ∀ x, s.ioAnswer d (1 - e) = some x → x = k) : s.dieIdent d = k := by
  have hcase : e = 0 ∨ e = 1 := by omega
  unfold State.dieIdent
  obtain rfl | rfl := hcase
  · rw [h]
    rfl
  · cases hzero : s.ioAnswer d 0 with
    | none =>
      rw [h]
      rfl
    | some x => exact hother x hzero

theorem linkUp_power (s : State) (n : Nat) : (s.linkUp n).power = s.power := by
  rw [State.linkUp, (toLnk_only _ n linkActive).1]
  rfl

theorem ident_io_rises {k : Nat} (hn : n < 24) (hst : s.lnk n = lnkParam) (hlo : 12 ≤ n) (hhi : n < 20) (io seen : Nat)
    (hother : ∀ x, s.ioAnswer (linkEnds n).1 (5 - (linkEnds n).2) = some x → x = k) :
    ∃ t, exec (.ident n io k seen) s = .next t ∧ Rises n { s with power := t.power } t ∧ t.power = { s.power with idents := t.power.idents } ∧
      t.ioAnswer (linkEnds n).1 ((linkEnds n).2 - 4) = some k ∧ t.dieIdent (linkEnds n).1 = k := by
  have hends : ∀ n, n < 24 → 12 ≤ n → n < 20 → 4 ≤ (linkEnds n).2 ∧ (linkEnds n).2 < 6 := by decide
  obtain ⟨hfour, hsix⟩ := hends n hn hlo hhi
  have hexec := execIdent_io_agrees hst hlo hhi io seen hother
  have hsame := ioAnswer_heard_same s (linkEnds n).1 ((linkEnds n).2 - 4) k io
  have hkept := ioAnswer_heard_ne s (linkEnds n).1 (2 * k + io % 2) (e := (linkEnds n).2 - 4) (f := 5 - (linkEnds n).2) (by omega)
  generalize hw : s.heard (linkEnds n).1 ((linkEnds n).2 - 4) (2 * k + io % 2) = w at hexec hsame hkept
  have hpower := linkUp_power w n
  have hanswer (e : Nat) : (w.linkUp n).ioAnswer (linkEnds n).1 e = w.ioAnswer (linkEnds n).1 e := by rw [State.ioAnswer, hpower, State.ioAnswer]
  have hmine := (hanswer _).trans hsame
  refine ⟨_, hexec, ?_, by rw [hpower, ← hw]; rfl, hmine, dieIdent_of_answer (by omega) hmine fun x hx => ?_⟩
  · rw [hpower, (by rw [← hw]; rfl : ({ s with power := w.power } : State) = w)]
    exact linkUp_rises .refl hn
  · have hindex : 1 - ((linkEnds n).2 - 4) = 5 - (linkEnds n).2 := by omega
    rw [hindex, hanswer, hkept] at hx
    exact hother x hx

/-- The credits that a capability record gives a moonlet link (R163, R164). -/
def recordCredits (r : List Nat) : List Nat := (List.range 4).map (fun k => r.getD (6 + 2 * k) 0 + 256 * r.getD (7 + 2 * k) 0) ++ [0, 0, 0, 0]

theorem recordCredits_getD (r : List Nat) {k : Nat} (hk : k < 4) :
    (recordCredits r).getD k 0 = r.getD (6 + 2 * k) 0 + 256 * r.getD (7 + 2 * k) 0 := by
  obtain rfl | rfl | rfl | rfl : k = 0 ∨ k = 1 ∨ k = 2 ∨ k = 3 := by omega
  all_goals rfl

/-- Bytes to be sent to the moonlet of link `n` (R164). -/
def State.mtSent (s : State) (n : Nat) (bytes : List Byte) : State := { s with mtOut := s.mtOut ++ [⟨n, 0, 0, 0, bytes⟩] }

/-- Registers of the moonlet page and the bytes sent are all that has changed. -/
theorem mtSent_only {c : State} (h : OnlyRegs (fun a => pgMnl + 0x110 ≤ a ∧ a < pgMnl + 0x120) s c) (n : Nat) (bytes : List Byte) :
    OnlyLink n { s with mtOut := (c.mtSent n bytes).mtOut } (c.mtSent n bytes) := by
  obtain ⟨hrest, hregs⟩ := h
  exact .of_regs ⟨by rw [hrest]; rfl, fun a ha => hregs a fun hin => ha (.inr (by unfold onPage pgMnl at *; omega))⟩

theorem mtOut_mtSent {p : Nat → Prop} {c : State} (h : OnlyRegs p s c) (n : Nat) (bytes : List Byte) :
    (c.mtSent n bytes).mtOut = s.mtOut ++ [⟨n, 0, 0, 0, bytes⟩] := by
  show c.mtOut ++ _ = _
  rw [h.1]

@[simp] theorem getF_mtSent (s : State) (n : Nat) (bytes : List Byte) (f : Fld) : (s.mtSent n bytes).getF f = s.getF f := rfl

/-- The state's `toB` side has been given credits. -/
def LinkState.credited (l : LinkState) (c : List Nat) : LinkState := { l with toB := { l.toB with credits := c } }

theorem linkUp_cap (s : State) (hn : n < 24) (k : Nat) : (s.linkUp n).getF (F.MNL_CAP k) = s.getF (F.MNL_CAP k) :=
  (getF_toLnk _ _ (by simp only [F.MNL_CAP, pgLnk]; omega) (by simp only [F.MNL_CAP, pgMnl]; omega)).trans (getF_setLink ..)

theorem execCapabilityRecord_good {r : List Nat} (hst : s.lnk n = lnkParam) (hn : 20 ≤ n) (hver : r.getD 4 0 = 1) (hrsp : 8 ≤ r.getD 10 0 + 256 * r.getD 11 0) :
    execCapabilityRecord n r s = .next ((((s.capTaken r).mtSent n (toBytes ownRecord)).linkUp n).setLink n
      (((((s.capTaken r).mtSent n (toBytes ownRecord)).linkUp n).linkSt n).credited (recordCredits r))) := by
  have hgood : ¬ (r.getD 4 0 ≠ 1 ∨ r.getD 10 0 + 256 * r.getD 11 0 < 8) := by omega
  rw [execCapabilityRecord, if_pos (by simp [hn, hst])]
  exact if_neg hgood

theorem exec_capabilityRecord (n : Nat) (r : List Nat) (s : State) : exec (.capabilityRecord n r) s = execCapabilityRecord n r s := rfl

theorem capabilityRecord_rises {r : List Nat} (hn : n < 24) (hst : s.lnk n = lnkParam) (hmnl : 20 ≤ n) (hver : r.getD 4 0 = 1)
    (hrsp : 8 ≤ r.getD 10 0 + 256 * r.getD 11 0) :
    ∃ t, exec (.capabilityRecord n r) s = .next t ∧ (∀ k < 4, t.getF (F.MNL_CAP k) = recWord r k % 2 ^ 32 ∧
        (t.linkSt n).toB.credits.getD k 0 = r.getD (6 + 2 * k) 0 + 256 * r.getD (7 + 2 * k) 0) ∧
      t.mtOut = s.mtOut ++ [⟨n, 0, 0, 0, toBytes ownRecord⟩] ∧ Rises n { s with mtOut := t.mtOut } t := by
  have hexec := (exec_capabilityRecord n r s).trans (execCapabilityRecord_good hst hmnl hver hrsp)
  have hcap {k : Nat} (hk : k < 4) := capTaken_cap s r hk
  have honly := capTaken_only s r
  generalize s.capTaken r = c at hexec hcap honly
  generalize toBytes ownRecord = bytes at hexec ⊢
  have hlink := mtSent_only honly n bytes
  have hout := mtOut_mtSent honly n bytes
  have hread (k : Nat) := getF_mtSent c n bytes (F.MNL_CAP k)
  generalize c.mtSent n bytes = w at hexec hlink hout hread
  have hmt : (w.linkUp n).mtOut = w.mtOut := by
    rw [State.linkUp, (toLnk_only _ n linkActive).1]
    rfl
  obtain ⟨hgoes, hprobe⟩ := linkUp_rises hlink hn
  have hkept (k : Nat) : (w.linkUp n).getF (F.MNL_CAP k) = w.getF (F.MNL_CAP k) := linkUp_cap w hn k
  generalize w.linkUp n = x at hexec hmt hgoes hprobe hkept
  refine ⟨_, hexec, fun k hk => ⟨((hkept k).trans (hread k)).trans (hcap hk), ?_⟩, hmt.trans hout, ?_, ?_⟩
  · rw [linkSt_setLink_same]
    exact recordCredits_getD r hk
  · rw [← hmt] at hgoes
    exact hgoes.setLink _ rfl
  · rw [linkSt_setLink_same]
    exact hprobe

/-! RETRAIN and back (R160, R168) -/

/-- A link that enters RETRAIN counts it and asks its peer to. -/
theorem enterRetrain_goes (hn : n < 24) (hst : s.lnk n = linkActive) : LinkGoes n lnkRetrain s (s.enterRetrain n) ∧ ((s.enterRetrain n).linkSt n).asking = true ∧
    (s.enterRetrain n).getF (F.LNK_RETRAINS_COUNT n) = satAdd (s.getF (F.LNK_RETRAINS_COUNT n)) 1 (2 ^ (F.LNK_RETRAINS_COUNT n).width - 1) := by
  have honly : OnlyLink n s (s.countF (F.LNK_RETRAINS_COUNT n) 1) := OnlyLink.refl.countF (f := F.LNK_RETRAINS_COUNT n) 1 (linkReg_own (k := 0x118) (by decide))
  have hcount : (s.countF (F.LNK_RETRAINS_COUNT n) 1).getF (F.LNK_RETRAINS_COUNT n) = _ := getF_countF (f := F.LNK_RETRAINS_COUNT n) (by decide : 0 + 32 ≤ 32)
  unfold State.enterRetrain
  rw [if_pos hst]
  generalize s.countF (F.LNK_RETRAINS_COUNT n) 1 = w at honly hcount
  refine ⟨(toLnk_goes honly hn (by decide)).setLink _ rfl, by rw [linkSt_setLink_same], ?_⟩
  rw [getF_setLink, getF_toLnk_own (k := 0x118) _ hn _ (by decide) (by decide) rfl]
  exact hcount

theorem execRetrain_admitted {who : Requester} {v : Word} (hadm : Admitted s u who (pgLnk n + 0x10C) 1 v) (hv : v.toNat % 2 = 1) :
    exec (.retrain who n v) s = .next (u.enterRetrain n) := by
  obtain ⟨mask, hmask, hneed⟩ := hadm
  have htrigger := trigger_admitted (fun s => if v.toNat % 2 = 1 then s.enterRetrain n else s) hmask hneed
  show execRetrain who n v s = _
  exact htrigger.trans (congrArg Host.Outcome.next (if_pos hv))

theorem execProbe_admitted {who : Requester} {v : Word} (hadm : Admitted s u who (pgLnk n + 0x10C) 2 v) (hv : bit v.toNat 1 = true) (hst : u.lnk n = linkActive) :
    exec (.probe who n v) s = .next (u.setLink n { u.linkSt n with probe := some ⟨0, []⟩ }) := by
  obtain ⟨mask, hmask, hneed⟩ := hadm
  have hguard : (bit v.toNat 1 && u.lnk n == linkActive) = true := by simp [hv, hst]
  have htrigger := trigger_admitted (fun s => if bit v.toNat 1 && s.lnk n == linkActive then s.setLink n { s.linkSt n with probe := some ⟨0, []⟩ } else s) hmask hneed
  show execProbe who n v s = _
  exact htrigger.trans (congrArg Host.Outcome.next (if_pos hguard))

theorem execRetrainComplete_rises (hn : n < 24) (hst : s.lnk n = lnkRetrain) : ∃ t, exec (.retrainComplete n) s = .next t ∧ Rises n s t :=
  ⟨_, if_pos hst, toLnk_rises (OnlyLink.refl.setLink _) hn⟩

/-! The measured delay (R169) -/

theorem le_of_mem_insertUp {x y top : Nat} {l : List Nat} (hx : x ≤ top) (hl : ∀ z ∈ l, z ≤ top) (h : y ∈ insertUp x l) : y ≤ top := by
  induction l with
  | nil => exact (List.mem_singleton.mp h).trans_le hx
  | cons z l ih =>
    have htail : ∀ w ∈ l, w ≤ top := fun w hw => hl w (List.mem_cons_of_mem z hw)
    unfold insertUp at h
    split at h
    · obtain rfl | hmem := List.mem_cons.mp h
      · exact hx
      · exact hl y hmem
    · obtain rfl | hmem := List.mem_cons.mp h
      · exact hl y List.mem_cons_self
      · exact ih htail hmem

/-- A quantile of values is not above what bounds them all. -/
theorem quantile_le {l : List Nat} {top : Nat} (h : ∀ x ∈ l, x ≤ top) (k : Nat) : quantile l k ≤ top := by
  have hall : ∀ y ∈ l.foldr insertUp [], y ≤ top := by
    induction l with
    | nil => simp
    | cons x l ih =>
      exact fun y hy => le_of_mem_insertUp (h x List.mem_cons_self) (ih fun z hz => h z (List.mem_cons_of_mem x hz)) hy
  unfold quantile
  rw [List.getD_eq_getElem?_getD]
  cases hi : (l.foldr insertUp [])[(l.length * k + 9999) / 10000 - 1]? with
  | none => exact Nat.zero_le top
  | some y => exact hall y (List.mem_of_getElem? hi)

/-- LNK_DLY as it shows four numbers. -/
def State.delayShown (s : State) (n a b c d : Nat) : State :=
  (((s.setF (F.LNK_DLY_P50 n) a).setF (F.LNK_DLY_P99 n) b).setF (F.LNK_DLY_P9999 n) c).setF (F.LNK_DLY_MAX n) d

theorem delayShown_only (s : State) (n a b c d : Nat) : OnlyLink n s (s.delayShown n a b c d) := by
  have hown {f : Fld} (hf : f.addr = pgLnk n + 0x11C) : linkReg n f.addr := hf ▸ linkReg_own (by decide)
  exact (((OnlyLink.refl.setF (f := F.LNK_DLY_P50 n) _ (hown rfl)).setF (f := F.LNK_DLY_P99 n) _ (hown rfl)).setF (f := F.LNK_DLY_P9999 n) _
    (hown rfl)).setF (f := F.LNK_DLY_MAX n) _ (hown rfl)

theorem delayShown_fields (s : State) (n : Nat) {a b c d : Nat} (ha : a ≤ 255) (hb : b ≤ 255) (hc : c ≤ 255) (hd : d ≤ 255) :
    (s.delayShown n a b c d).getF (F.LNK_DLY_P50 n) = a ∧ (s.delayShown n a b c d).getF (F.LNK_DLY_P99 n) = b ∧
    (s.delayShown n a b c d).getF (F.LNK_DLY_P9999 n) = c ∧ (s.delayShown n a b c d).getF (F.LNK_DLY_MAX n) = d := by
  have hbyte {v : Nat} (h : v ≤ 255) : v % 256 = v := by omega
  refine ⟨?_, ?_, ?_, ?_⟩ <;>
  simp (disch := decide) only [State.delayShown, F.LNK_DLY_P50, F.LNK_DLY_P99, F.LNK_DLY_P9999, F.LNK_DLY_MAX, getF_setF_other_bits, getF_setF_bits,
    Nat.reducePow, hbyte ha, hbyte hb, hbyte hc, hbyte hd]

theorem execLinkDelayMeasured_of {p : Probe} (hst : s.lnk n = linkActive) (hprobe : (s.linkSt n).probe = some p) (hlen : 1024 ≤ p.trips.length)
    {d : List Nat} (hd : d = p.trips.map (fun x => min 255 (halfTrip (s.getF (F.LNK_STATUS_RATE n)) x))) :
    exec (.linkDelayMeasured n) s = .next ((s.setLink n { s.linkSt n with probe := none }).delayShown n (quantile d 5000) (quantile d 9900) (quantile d 9999) (quantile d 10000)) := by
  subst hd
  show execLinkDelayMeasured n s = _
  simp only [execLinkDelayMeasured, hprobe, hst, beq_self_eq_true, hlen, decide_true, Bool.and_self, if_true]
  rfl

theorem linkDelayMeasured_shows {p : Probe} (hst : s.lnk n = linkActive) (hprobe : (s.linkSt n).probe = some p) (hlen : 1024 ≤ p.trips.length)
    {d : List Nat} (hd : d = p.trips.map (fun x => min 255 (halfTrip (s.getF (F.LNK_STATUS_RATE n)) x))) :
    ∃ t, exec (.linkDelayMeasured n) s = .next t ∧ t.getF (F.LNK_DLY_P50 n) = quantile d 5000 ∧ t.getF (F.LNK_DLY_P99 n) = quantile d 9900 ∧
      t.getF (F.LNK_DLY_P9999 n) = quantile d 9999 ∧ t.getF (F.LNK_DLY_MAX n) = quantile d 10000 ∧ t.linkSt n = { s.linkSt n with probe := none } ∧ OnlyLink n s t := by
  have hbyte (k : Nat) : quantile d k ≤ 255 := quantile_le (by subst hd; simp only [List.mem_map]; rintro _ ⟨x, -, rfl⟩; exact Nat.min_le_left _ _) k
  have hexec := execLinkDelayMeasured_of hst hprobe hlen hd
  have honly : OnlyLink n s (s.setLink n { s.linkSt n with probe := none }) := OnlyLink.refl.setLink _
  have hsame := linkSt_setLink_same s n { s.linkSt n with probe := none }
  generalize s.setLink n { s.linkSt n with probe := none } = w at hexec honly hsame
  obtain ⟨h50, h99, h9999, hmax⟩ := delayShown_fields w n (hbyte 5000) (hbyte 9900) (hbyte 9999) (hbyte 10000)
  have hlink : (w.delayShown n (quantile d 5000) (quantile d 9900) (quantile d 9999) (quantile d 10000)).linkSt n = w.linkSt n := rfl
  exact ⟨_, hexec, h50, h99, h9999, hmax, hlink.trans hsame, honly.trans (delayShown_only w n _ _ _ _)⟩

/-- Settles O22: one lemma per event of R160, each a use of `toLnk_goes`, for entries to ACTIVE of `linkUp_rises`. -/
theorem linkTraining : Obligations.LinkTraining := by
  intro n s hn l ea eb Active
  refine ⟨fun who v u hadm hv hoff ha hb => linkEnable_starts hn hadm hv hoff ha hb, fun hst => sidebandUp_trains hn hst,
    fun hst fr rep => mainbandTrained_shows hn hst fr rep, fun hst h => execMbTrainTimeout_again hst h, fun hst h => ⟨?_, ?_⟩,
    fun hst hlow io => ⟨_, execIdent_agrees hst hlow io, linkUp_rises .refl hn⟩, fun hst hlo hhi io k seen hother => ident_io_rises hn hst hlo hhi io seen hother,
    fun hst hmnl r hver hrsp => capabilityRecord_rises hn hst hmnl hver hrsp, fun hst => ⟨?_, ?_, ?_, ?_⟩, fun hst => execRetrainComplete_rises hn hst⟩
  · exact fun hx hno => execMbTrainTimeout_slower hst h (nextTry_narrow hx hno _)
  · intro r hwidth hrate
    have hnext := nextTry_slower (noX32 := l.noX32) hwidth r
    rw [← hrate] at hnext
    exact execMbTrainTimeout_slower hst h hnext
  · exact ⟨_, rfl, enterRetrain_goes hn hst⟩
  · exact fun who v u hadm hv hu => ⟨_, execRetrain_admitted hadm hv, enterRetrain_goes hn hu⟩
  · exact fun who v u hadm hv hu => execProbe_admitted hadm hv hu
  · exact fun p hprobe hlen => linkDelayMeasured_shows hst hprobe hlen rfl

end

end Sys2Proof.Machine
end

section
namespace Sys2Proof.Machine

section
variable {s t u : State} {n m : Nat} {toB : Bool} {l : LinkState} {d : LinkDir} {f : Frame} {rest : List Frame}

/-! ### Frames (O24) -/

/-! A frame as sent has a good CRC (R161) -/

theorem crcStep_lt {c x : Nat} (hx : x < 2 ^ 32) (top : Bool) : (if top then Nat.xor (c * 2 % 2 ^ 32) x else c * 2 % 2 ^ 32) < 2 ^ 32 := by
  have hshift : c * 2 % 2 ^ 32 < 2 ^ 32 := Nat.mod_lt _ (by decide)
  cases top
  · exact hshift
  · exact Nat.xor_lt_two_pow hshift hx

theorem crcByte_lt {c : Nat} (hc : c < 2 ^ 32) (b : Nat) : crcByte c b < 2 ^ 32 :=
  List.foldlRecOn (motive := fun c => c < 2 ^ 32) _ _ hc fun _ _ _ _ => crcStep_lt (by decide) _

theorem crc32_lt (l : List Nat) : crc32 l < 2 ^ 32 :=
  List.foldlRecOn (motive := fun c => c < 2 ^ 32) _ _ (by decide) fun _ h b _ => crcByte_lt h b

theorem length_padTo (n : Nat) (l : List Nat) : (padTo n l).length = n := by
  simp only [padTo, List.length_append, List.length_take, List.length_replicate]
  omega

/-- Parts of one length, one for each index, have together so many times that length. -/
theorem length_flatMap_range {g : Nat → List Nat} {c : Nat} (h : ∀ k, (g k).length = c) (m : Nat) : ((List.range m).flatMap g).length = m * c := by
  simp only [List.length_flatMap, h, List.map_const', List.length_range, List.sum_replicate, smul_eq_mul]

theorem length_body (f : Frame) : f.body.length = 508 := by
  unfold Frame.body
  simp only [List.length_append, length_leBytes, List.length_map, List.length_range, List.length_replicate, List.length_cons, List.length_nil]
  rw [length_flatMap_range (c := 64)]
  intro k
  split
  · exact length_padTo 64 _
  · exact List.length_replicate

theorem badCrc_nil (f : Frame) : f.badCrc [] = false := by
  have hlen := length_body f
  have hcrc : crc32 f.body % 256 ^ 4 = crc32 f.body := Nat.mod_eq_of_lt (crc32_lt f.body)
  show (leNat ((f.body ++ leBytes 4 (crc32 f.body)).drop 508) != crc32 ((f.body ++ leBytes 4 (crc32 f.body)).take 508)) = false
  rw [List.drop_left' hlen, List.take_left' hlen, leNat_leBytes, hcrc, bne_self_eq_false]

/-! What the steps of a frame leave -/

/-- Nothing but what link `n` holds beside its page has changed. -/
def OnlyHeld (n : Nat) (s t : State) : Prop := t = { s with links := t.links } ∧ ∀ m, m ≠ n → t.linkSt m = s.linkSt m

theorem OnlyHeld.refl : OnlyHeld n s s := ⟨rfl, fun _ _ => rfl⟩
theorem OnlyHeld.trans (h : OnlyHeld n s t) (k : OnlyHeld n t u) : OnlyHeld n s u := ⟨by rw [k.1, h.1], fun m hm => (k.2 m hm).trans (h.2 m hm)⟩
theorem OnlyHeld.setLink (h : OnlyHeld n s t) (l : LinkState) : OnlyHeld n s (t.setLink n l) :=
  h.trans ⟨rfl, fun _ hm => linkSt_setLink_ne t l hm⟩
theorem OnlyHeld.regs (h : OnlyHeld n s t) : t.regs = s.regs := by rw [h.1]
theorem OnlyHeld.packets (h : OnlyHeld n s t) : t.packets = s.packets := by rw [h.1]
theorem OnlyHeld.link (h : OnlyHeld n s t) : OnlyLink n s t := by
  obtain ⟨honly, hrest⟩ := h
  exact ⟨by rw [honly], .of_regs (by rw [honly]), hrest⟩

/-- Both directions of a link and what it took from LNK_CFG are as before. -/
def LinkState.SameDirs (l k : LinkState) : Prop := k.toB = l.toB ∧ k.toA = l.toA ∧ k.cfg = l.cfg

theorem LinkState.SameDirs.dir {k : LinkState} (h : l.SameDirs k) (b : Bool) : k.dir b = l.dir b := by
  obtain ⟨hB, hA, -⟩ := h
  cases b
  · exact hA
  · exact hB

theorem LinkState.SameDirs.replayLimit {k : LinkState} (h : l.SameDirs k) : k.replayLimit = l.replayLimit := by
  rw [LinkState.replayLimit, h.2.2, LinkState.replayLimit]

theorem setDir_setDir (l : LinkState) (b : Bool) (d e : LinkDir) : (l.setDir b d).setDir b e = l.setDir b e := by cases b <;> rfl

theorem dir_setDir_not (l : LinkState) (b : Bool) (d : LinkDir) : (l.setDir (!b) d).dir b = l.dir b := by cases b <;> rfl

theorem replayLimit_setDir (l : LinkState) (b : Bool) (d : LinkDir) : (l.setDir b d).replayLimit = l.replayLimit := by cases b <;> rfl

theorem linkSt_countF_setLink (s : State) (n : Nat) (l : LinkState) (f : Fld) (v : Nat) : ((s.setLink n l).countF f v).linkSt n = l := linkSt_setLink_same s n l

/-! Sending (R161, R162) -/

theorem length_fillSlots_le (pk : Nat → Option Packet) (n k : Nat) (w : List (Nat × Nat)) (cr stop : List Nat) : (fillSlots pk n k w cr stop).1.length ≤ k := by
  induction k generalizing w cr stop with
  | zero => exact Nat.le_refl 0
  | succ k ih =>
    cases w with
    | nil => exact Nat.zero_le _
    | cons e w =>
      rw [fillSlots]
      cases pk e.1 with
      | none => exact (ih w cr stop).trans (Nat.le_succ k)
      | some p =>
        dsimp only
        split
        · exact (ih w cr _).trans (Nat.le_succ k)
        split
        · exact Nat.succ_le_succ (ih w _ stop)
        · exact Nat.succ_le_succ (ih _ _ stop)

theorem control_sameDirs (l : LinkState) (toB : Bool) (stamp : Nat) : l.SameDirs (l.control toB stamp).2 := by
  unfold LinkState.control
  split
  · split
    · split <;> exact ⟨rfl, rfl, rfl⟩
    · exact ⟨rfl, rfl, rfl⟩
  · split <;> exact ⟨rfl, rfl, rfl⟩

/-- What a sender's slots carry in its next frame, what waits after it, and the credits left. -/
def State.slotsDue (s : State) (n : Nat) (d : LinkDir) : List Slot × List (Nat × Nat) × List Nat :=
  fillSlots s.pkt n 7 d.waiting d.credits (if s.bulkHeld n d.seq then [3, 7] else [])

/-- The next frame of a direction (R161). -/
def State.frameDue (s : State) (n : Nat) (toB : Bool) (stamp : Nat) : Frame :=
  ⟨((s.linkSt n).dir toB).seq, (s.slotsDue n ((s.linkSt n).dir toB)).1, (((s.linkSt n).control toB stamp).2.dir (!toB)).good,
    (((s.linkSt n).control toB stamp).2.dir (!toB)).bad, (((s.linkSt n).control toB stamp).2.dir (!toB)).freed, ((s.linkSt n).control toB stamp).1⟩

/-- A direction that has sent a new frame. -/
def LinkDir.sent (d : LinkDir) (r : List Slot × List (Nat × Nat) × List Nat) (f : Frame) : LinkDir :=
  { d with waiting := r.2.1, credits := r.2.2, again := none, seq := (d.seq + 1) % 4096, replay := d.replay ++ [f], wire := d.wire ++ [f] }

/-- A direction whose receiver has told what it owes. -/
def LinkDir.told (d : LinkDir) : LinkDir := { d with freed := [0, 0, 0, 0, 0, 0, 0, 0], bad := false }

theorem execFrameSend_new (stamp : Nat) (hst : s.lnk n = linkActive) (hd : (s.linkSt n).dir toB = d) (hagain : d.again = none) (hroom : d.replay.length < 64) :
    execFrameSend n toB stamp s = .next ((s.setLink n ((((s.linkSt n).control toB stamp).2.setDir toB (d.sent (s.slotsDue n d) (s.frameDue n toB stamp))).setDir (!toB)
      (((s.linkSt n).control toB stamp).2.dir (!toB)).told)).countF (if toB then F.LNK_FLITS_AB_COUNT n else F.LNK_FLITS_BA_COUNT n) (s.slotsDue n d).1.length) := by
  subst hd
  have hretrain : ¬ (s.lnk n = lnkRetrain && (s.linkSt n).asking) = true := by simp [hst, linkActive, lnkRetrain]
  have hlen : ¬ 64 ≤ ((s.linkSt n).dir toB).replay.length := by omega
  rw [execFrameSend, if_neg hretrain, if_neg (not_not_intro hst : ¬ s.lnk n ≠ linkActive)]
  dsimp only
  rw [hagain]
  exact if_neg hlen

theorem execFrameSend_full (stamp : Nat) (hst : s.lnk n = linkActive) (hagain : ((s.linkSt n).dir toB).again = none)
    (hfull : 64 ≤ ((s.linkSt n).dir toB).replay.length) : execFrameSend n toB stamp s = .next s := by
  have hretrain : ¬ (s.lnk n = lnkRetrain && (s.linkSt n).asking) = true := by simp [hst, linkActive, lnkRetrain]
  rw [execFrameSend, if_neg hretrain, if_neg (not_not_intro hst : ¬ s.lnk n ≠ linkActive)]
  dsimp only
  rw [hagain]
  exact if_pos hfull

theorem execFrameSend_again (stamp : Nat) {i : Nat} (hst : s.lnk n = linkActive) (hd : (s.linkSt n).dir toB = d) (hagain : d.again = some i)
    (hi : d.replay[i]? = some f) : execFrameSend n toB stamp s = .next (s.setLink n ((s.linkSt n).setDir toB
      { d with wire := d.wire ++ [f], again := if i + 1 < d.replay.length then some (i + 1) else none })) := by
  subst hd
  have hretrain : ¬ (s.lnk n = lnkRetrain && (s.linkSt n).asking) = true := by simp [hst, linkActive, lnkRetrain]
  rw [execFrameSend, if_neg hretrain, if_neg (not_not_intro hst : ¬ s.lnk n ≠ linkActive)]
  dsimp only
  rw [hagain]
  dsimp only
  rw [hi]

theorem frameSend_sends (toB : Bool) (stamp : Nat) (hst : s.lnk n = linkActive) (hd : (s.linkSt n).dir toB = d) (hagain : d.again = none) (hroom : d.replay.length < 64) :
    ∃ t f, execFrameSend n toB stamp s = .next t ∧ f.seq = d.seq ∧ f.slots.length ≤ 7 ∧ f.ack = ((s.linkSt n).dir (!toB)).good ∧
      f.nak = ((s.linkSt n).dir (!toB)).bad ∧ f.cred = ((s.linkSt n).dir (!toB)).freed ∧ f.lctl = ((s.linkSt n).control toB stamp).1 ∧
      ((t.linkSt n).dir toB).wire = d.wire ++ [f] ∧ ((t.linkSt n).dir toB).replay = d.replay ++ [f] ∧ ((t.linkSt n).dir toB).seq = (d.seq + 1) % 4096 ∧ OnlyLink n s t := by
  have hback := (control_sameDirs (s.linkSt n) toB stamp).dir (!toB)
  have hflits : linkReg n (if toB then F.LNK_FLITS_AB_COUNT n else F.LNK_FLITS_BA_COUNT n).addr := by
    cases toB
    · exact linkReg_own (k := 0x124) (by decide)
    · exact linkReg_own (k := 0x120) (by decide)
  refine ⟨_, s.frameDue n toB stamp, execFrameSend_new stamp hst hd hagain hroom, congrArg LinkDir.seq hd, length_fillSlots_le _ _ _ _ _ _,
    congrArg LinkDir.good hback, congrArg LinkDir.bad hback, congrArg LinkDir.freed hback, rfl, ?_, ?_, ?_, (OnlyLink.refl.setLink _).countF _ hflits⟩
  all_goals rw [linkSt_countF_setLink, dir_setDir_not, dir_setDir_same]; rfl

/-! Receiving (R162, R163) -/

/-- The oldest frame on the mainband is gone from it. -/
def State.frameOff (s : State) (n : Nat) (toB : Bool) (rest : List Frame) : State :=
  s.setLink n ((s.linkSt n).setDir toB { (s.linkSt n).dir toB with wire := rest })

/-- A frame in sequence has been received. -/
def State.frameTaken (s : State) (n : Nat) (toB : Bool) (f : Frame) (rest : List Frame) : State :=
  (s.frameOff n toB rest).setLink n (((s.frameOff n toB rest).linkSt n).setDir toB { ((s.frameOff n toB rest).linkSt n).dir toB with good := f.seq, bad := false })

theorem linkSt_frameOff (s : State) (n : Nat) (toB : Bool) (rest : List Frame) :
    (s.frameOff n toB rest).linkSt n = (s.linkSt n).setDir toB { (s.linkSt n).dir toB with wire := rest } := linkSt_setLink_same s n _

theorem linkSt_frameTaken (s : State) (n : Nat) (toB : Bool) (f : Frame) (rest : List Frame) :
    (s.frameTaken n toB f rest).linkSt n = (s.linkSt n).setDir toB { (s.linkSt n).dir toB with wire := rest, good := f.seq, bad := false } := by
  rw [State.frameTaken, linkSt_setLink_same, linkSt_frameOff, setDir_setDir, dir_setDir_same]

theorem frameTaken_held (s : State) (n : Nat) (toB : Bool) (f : Frame) (rest : List Frame) : OnlyHeld n s (s.frameTaken n toB f rest) :=
  (OnlyHeld.refl.setLink _).setLink _

theorem execFrameReceive_bad {flips : List Nat} (stamp : Nat) (hst : s.lnk n = linkActive) (hwire : ((s.linkSt n).dir toB).wire = f :: rest)
    (hcrc : f.badCrc flips = true) : execFrameReceive n toB flips stamp s = .next (((s.frameOff n toB rest).setLink n
      (((s.frameOff n toB rest).linkSt n).setDir toB { ((s.frameOff n toB rest).linkSt n).dir toB with bad := true })).countF (F.LNK_CRC_ERR_COUNT n) 1) := by
  rw [execFrameReceive, if_neg (not_not_intro hst : ¬ s.lnk n ≠ linkActive)]
  dsimp only
  rw [hwire]
  exact if_pos hcrc

theorem execFrameReceive_stray {flips : List Nat} (stamp : Nat) (hst : s.lnk n = linkActive) (hwire : ((s.linkSt n).dir toB).wire = f :: rest)
    (hcrc : f.badCrc flips = false) (hseq : f.seq ≠ (((s.linkSt n).dir toB).good + 1) % 4096) :
    execFrameReceive n toB flips stamp s = .next (s.frameOff n toB rest) := by
  rw [execFrameReceive, if_neg (not_not_intro hst : ¬ s.lnk n ≠ linkActive)]
  dsimp only
  rw [hwire]
  exact (if_neg (by simp [hcrc])).trans (if_pos hseq)

theorem execFrameReceive_next {flips : List Nat} (stamp : Nat) (hst : s.lnk n = linkActive) (hwire : ((s.linkSt n).dir toB).wire = f :: rest)
    (hcrc : f.badCrc flips = false) (hseq : f.seq = (((s.linkSt n).dir toB).good + 1) % 4096) : execFrameReceive n toB flips stamp s =
      .next ((((s.frameTaken n toB f rest).takeSlots n toB f.slots).takeControl n toB stamp f).takeAck n (!toB) f) := by
  rw [execFrameReceive, if_neg (not_not_intro hst : ¬ s.lnk n ≠ linkActive)]
  dsimp only
  rw [hwire]
  exact (if_neg (by simp [hcrc])).trans (if_neg (not_not_intro hseq))

theorem frameReceive_bad {flips : List Nat} (stamp : Nat) (hst : s.lnk n = linkActive) (hd : (s.linkSt n).dir toB = d) (hwire : d.wire = f :: rest) (hcrc : f.badCrc flips = true) :
    ∃ t, execFrameReceive n toB flips stamp s = .next t ∧ t.linkSt n = (s.linkSt n).setDir toB { d with wire := rest, bad := true } ∧
      t.getF (F.LNK_CRC_ERR_COUNT n) = satAdd (s.getF (F.LNK_CRC_ERR_COUNT n)) 1 (2 ^ (F.LNK_CRC_ERR_COUNT n).width - 1) ∧
      OnlyLink n s t ∧ SameRegs (fun a => a = pgLnk n + 0x110) s t := by
  subst hd
  have hexec := execFrameReceive_bad stamp hst hwire hcrc
  have hl : (s.frameOff n toB rest).linkSt n = _ := linkSt_frameOff s n toB rest
  rw [hl, setDir_setDir, dir_setDir_same] at hexec
  have hheld : OnlyHeld n s (s.frameOff n toB rest) := OnlyHeld.refl.setLink _
  generalize s.frameOff n toB rest = w at hexec hheld
  have hset := hheld.setLink ((s.linkSt n).setDir toB { (s.linkSt n).dir toB with wire := rest, bad := true })
  have hlink := linkSt_setLink_same w n ((s.linkSt n).setDir toB { (s.linkSt n).dir toB with wire := rest, bad := true })
  generalize w.setLink n ((s.linkSt n).setDir toB { (s.linkSt n).dir toB with wire := rest, bad := true }) = x at hexec hset hlink
  have hcount : (x.countF (F.LNK_CRC_ERR_COUNT n) 1).getF (F.LNK_CRC_ERR_COUNT n) = _ := getF_countF (f := F.LNK_CRC_ERR_COUNT n) (by decide : 0 + 32 ≤ 32)
  rw [State.getF_congr hset.regs] at hcount
  exact ⟨_, hexec, (linkSt_countF ..).trans hlink, hcount, hset.link.countF (f := F.LNK_CRC_ERR_COUNT n) 1 (linkReg_own (k := 0x110) (by decide)),
    (SameRegs.of_regs hset.regs).countF (f := F.LNK_CRC_ERR_COUNT n) 1 rfl⟩

/-! Acknowledgement and link control of a good frame -/

theorem takeControl_held (s : State) (n : Nat) (toB : Bool) (stamp : Nat) (f : Frame) :
    OnlyHeld n s (s.takeControl n toB stamp f) ∧ (s.linkSt n).SameDirs ((s.takeControl n toB stamp f).linkSt n) := by
  have hset {k : LinkState} (h : (s.linkSt n).SameDirs k) : OnlyHeld n s (s.setLink n k) ∧ (s.linkSt n).SameDirs ((s.setLink n k).linkSt n) :=
    ⟨OnlyHeld.refl.setLink k, by rw [linkSt_setLink_same]; exact h⟩
  have hstay : OnlyHeld n s s ∧ (s.linkSt n).SameDirs (s.linkSt n) := ⟨.refl, rfl, rfl, rfl⟩
  unfold State.takeControl
  dsimp only
  split
  · exact hset ⟨rfl, rfl, rfl⟩
  split
  · split
    · exact hset ⟨rfl, rfl, rfl⟩
    · exact hstay
  · exact hstay

/-- An acknowledgement without NAK changes the sender of its direction alone. -/
theorem takeAck_of_ack (s : State) (n : Nat) (b : Bool) (hnak : f.nak = false) : ∃ d, s.takeAck n b f = s.setLink n ((s.linkSt n).setDir b d) := by
  have hquiet : ¬ (f.nak && !(dropAcked f.ack ((s.linkSt n).dir b).replay).isEmpty) = true := by simp [hnak]
  exact ⟨_, if_neg hquiet⟩

/-- A sender as a received frame leaves it: frames acknowledged are gone, and credits have come. -/
def LinkDir.acked (d : LinkDir) (f : Frame) : LinkDir :=
  { d with replay := dropAcked f.ack d.replay, credits := (d.credits.zip f.cred).map (fun x => x.1 + x.2) }

/-- Replays of the oldest frame so far. -/
def LinkDir.triesAt (d : LinkDir) (f : Frame) : Nat := if (dropAcked f.ack d.replay).length = d.replay.length then d.tries else 0

/-- A NAK that finds frames to replay starts the replay, or at the limit RETRAIN (R162). -/
theorem takeAck_of_nak (s : State) (n : Nat) (b : Bool) (hnak : f.nak = true) (hleft : dropAcked f.ack ((s.linkSt n).dir b).replay ≠ []) :
    s.takeAck n b f = if (s.linkSt n).replayLimit ≤ ((s.linkSt n).dir b).triesAt f then (s.setLink n ((s.linkSt n).setDir b (((s.linkSt n).dir b).acked f))).enterRetrain n
      else (s.setLink n ((s.linkSt n).setDir b { ((s.linkSt n).dir b).acked f with again := some 0, tries := ((s.linkSt n).dir b).triesAt f + 1 })).countF (F.LNK_REPLAYS_COUNT n) 1 := by
  have hreplay : (f.nak && !(dropAcked f.ack ((s.linkSt n).dir b).replay).isEmpty) = true := by simp [hnak, hleft]
  have htries : (if (dropAcked f.ack ((s.linkSt n).dir b).replay).length ≠ ((s.linkSt n).dir b).replay.length then 0 else ((s.linkSt n).dir b).tries) =
      ((s.linkSt n).dir b).triesAt f := ite_not ..
  rw [← htries]
  exact if_pos hreplay

/-! A packet that leaves the link (R142, R146) -/

/-- The packet at the router of the far die that its strip and lane lead to. -/
def Packet.landed (p : Packet) (n e lane : Nat) : Packet :=
  { p with place := .router (siteIdx e (stripAt (portOf n e) lane).1 (stripAt (portOf n e) lane).2), xed := p.xed || decide (n < 12) }

theorem leaveLink_of_compute {id e lane : Nat} {p : Packet} {b : Bool} (hp : s.pkt id = some p) (hplace : p.place = .link m b lane)
    (he : (if toB then (linkEnds n).2 else (linkEnds n).1) = e) (hlt : e < 4) : s.leaveLink n toB id = s.setPkt id (p.landed n e lane) := by
  subst he
  unfold State.leaveLink
  rw [hp]
  dsimp only
  rw [hplace]
  exact if_pos hlt

/-- The one slot of a frame that ends a packet lets it leave the link. -/
theorem takeSlots_single {x : Slot} {p : Packet} (hp : s.pkt x.pkt = some p) (hlast : linkFlits n p ≤ (tabGet ((s.linkSt n).dir toB).got x.pkt).getD 0 + 1) :
    ∃ got freed, s.takeSlots n toB [x] = (s.setLink n ((s.linkSt n).setDir toB { (s.linkSt n).dir toB with got := got, freed := freed })).leaveLink n toB x.pkt := by
  have hdone : ¬ (tabGet ((s.linkSt n).dir toB).got x.pkt).getD 0 + 1 < linkFlits n p := by omega
  refine ⟨tabDel ((s.linkSt n).dir toB).got x.pkt, bump ((s.linkSt n).dir toB).freed (linkClass n p) (· + linkFlits n p), ?_⟩
  rw [State.takeSlots]
  dsimp only
  rw [hp]
  exact if_neg hdone

theorem setPkt_only (s : State) (id : Nat) (p : Packet) : s.setPkt id p = { s with packets := (s.setPkt id p).packets } := rfl

/-- The next frame in sequence, whose one slot ends a packet bound for a compute die. -/
theorem frameReceive_lands {flips : List Nat} {x : Slot} {lane e : Nat} {p : Packet} {b : Bool} (stamp : Nat) (hst : s.lnk n = linkActive)
    (hd : (s.linkSt n).dir toB = d) (hwire : d.wire = f :: rest) (hcrc : f.badCrc flips = false) (hseq : f.seq = (d.good + 1) % 4096) (hnak : f.nak = false)
    (hslots : f.slots = [x]) (hp : s.pkt x.pkt = some p) (hplace : p.place = .link m b lane) (hlast : linkFlits n p ≤ (tabGet d.got x.pkt).getD 0 + 1)
    (he : (if toB then (linkEnds n).2 else (linkEnds n).1) = e) (hlt : e < 4) :
    ∃ t, execFrameReceive n toB flips stamp s = .next t ∧ ((t.linkSt n).dir toB).good = f.seq ∧ ((t.linkSt n).dir toB).wire = rest ∧
      t.pkt x.pkt = some (p.landed n e lane) ∧ t.regs = s.regs ∧ t = { s with links := t.links, packets := t.packets } ∧ ∀ j, j ≠ x.pkt → t.pkt j = s.pkt j := by
  subst hd
  have hexec := execFrameReceive_next stamp hst hwire hcrc hseq
  have hheld := frameTaken_held s n toB f rest
  have hl := linkSt_frameTaken s n toB f rest
  generalize s.frameTaken n toB f rest = w at hexec hheld hl
  have hpkt (j : Nat) : w.pkt j = s.pkt j := by rw [State.pkt, hheld.packets, State.pkt]
  have hgot : ((w.linkSt n).dir toB).got = ((s.linkSt n).dir toB).got := by rw [hl, dir_setDir_same]
  obtain ⟨got, freed, hslot⟩ := takeSlots_single (toB := toB) ((hpkt _).trans hp) (by rw [hgot]; exact hlast)
  rw [hl, setDir_setDir, dir_setDir_same] at hslot
  rw [hslots, hslot] at hexec
  have hheld' := hheld.setLink ((s.linkSt n).setDir toB { (s.linkSt n).dir toB with wire := rest, good := f.seq, bad := false, got := got, freed := freed })
  have hl' := linkSt_setLink_same w n ((s.linkSt n).setDir toB { (s.linkSt n).dir toB with wire := rest, good := f.seq, bad := false, got := got, freed := freed })
  generalize w.setLink n ((s.linkSt n).setDir toB { (s.linkSt n).dir toB with wire := rest, good := f.seq, bad := false, got := got, freed := freed }) = v
    at hexec hheld' hl'
  have hpkt' (j : Nat) : v.pkt j = s.pkt j := by rw [State.pkt, hheld'.packets, State.pkt]
  rw [leaveLink_of_compute ((hpkt' _).trans hp) hplace he hlt] at hexec
  obtain ⟨hcontrol, hdirs⟩ := takeControl_held (v.setPkt x.pkt (p.landed n e lane)) n toB stamp f
  generalize (v.setPkt x.pkt (p.landed n e lane)).takeControl n toB stamp f = c at hexec hcontrol hdirs
  obtain ⟨back, hack⟩ := takeAck_of_ack c n (!toB) hnak
  rw [hack] at hexec
  have hdir : (c.linkSt n).dir toB = (v.linkSt n).dir toB := hdirs.dir toB
  have hset := hcontrol.setLink ((c.linkSt n).setDir (!toB) back)
  have hmine : ((c.setLink n ((c.linkSt n).setDir (!toB) back)).linkSt n).dir toB = (v.linkSt n).dir toB := by
    rw [linkSt_setLink_same, dir_setDir_not, hdir]
  rw [hl', dir_setDir_same] at hmine
  generalize c.setLink n ((c.linkSt n).setDir (!toB) back) = t at hexec hset hmine
  have hpackets (j : Nat) : t.pkt j = (v.setPkt x.pkt (p.landed n e lane)).pkt j := by rw [State.pkt, hset.packets, State.pkt]
  refine ⟨t, hexec, by rw [hmine], by rw [hmine], by rw [hpackets, pkt_setPkt_same], hset.regs.trans hheld'.regs, ?_, fun j hj => ?_⟩
  · rw [hset.1, setPkt_only, hheld'.1]
  · rw [hpackets, pkt_setPkt_ne _ _ hj, hpkt']

/-! A NAK (R162) -/

/-- A link that enters RETRAIN keeps both directions as they are. -/
theorem enterRetrain_dir (hst : s.lnk n = linkActive) (b : Bool) : ((s.enterRetrain n).linkSt n).dir b = (s.linkSt n).dir b := by
  unfold State.enterRetrain
  rw [if_pos hst]
  dsimp only
  rw [linkSt_setLink_same, linkSt_toLnk, linkSt_countF]
  cases b <;> rfl

/-- A NAK after which frames are left: the replay of the oldest, or RETRAIN. -/
theorem takeAck_naks (hn : n < 24) (hst : s.lnk n = linkActive) {b : Bool} (hd : (s.linkSt n).dir b = d) (hnak : f.nak = true) (hleft : dropAcked f.ack d.replay ≠ []) :
    ((((s.takeAck n b f).linkSt n).dir b).replay = dropAcked f.ack d.replay ∧ OnlyLink n s (s.takeAck n b f)) ∧
    (d.triesAt f < (s.linkSt n).replayLimit → (((s.takeAck n b f).linkSt n).dir b).again = some 0 ∧ (((s.takeAck n b f).linkSt n).dir b).tries = d.triesAt f + 1 ∧
      (s.takeAck n b f).getF (F.LNK_REPLAYS_COUNT n) = satAdd (s.getF (F.LNK_REPLAYS_COUNT n)) 1 (2 ^ (F.LNK_REPLAYS_COUNT n).width - 1) ∧ (s.takeAck n b f).lnk n = linkActive) ∧
    ((s.linkSt n).replayLimit ≤ d.triesAt f → (s.takeAck n b f).lnk n = lnkRetrain ∧
      (s.takeAck n b f).getF (F.LNK_RETRAINS_COUNT n) = satAdd (s.getF (F.LNK_RETRAINS_COUNT n)) 1 (2 ^ (F.LNK_RETRAINS_COUNT n).width - 1)) := by
  subst hd
  rw [takeAck_of_nak s n b hnak hleft]
  split
  · rename_i hlimit
    have hheld := (OnlyHeld.refl (n := n) (s := s)).setLink ((s.linkSt n).setDir b (((s.linkSt n).dir b).acked f))
    have hl := linkSt_setLink_same s n ((s.linkSt n).setDir b (((s.linkSt n).dir b).acked f))
    generalize s.setLink n ((s.linkSt n).setDir b (((s.linkSt n).dir b).acked f)) = w at hheld hl
    have hactive : w.lnk n = linkActive := (State.getF_congr hheld.regs _).trans hst
    obtain ⟨⟨hretrain, -, honly⟩, -, hcount⟩ := enterRetrain_goes hn hactive
    rw [State.getF_congr hheld.regs] at hcount
    refine ⟨⟨?_, hheld.link.trans honly⟩, fun h => absurd hlimit (by omega), fun _ => ⟨hretrain, hcount⟩⟩
    rw [enterRetrain_dir hactive, hl, dir_setDir_same]
    rfl
  · rename_i hlimit
    have hcount : ∀ w : State, (w.countF (F.LNK_REPLAYS_COUNT n) 1).getF (F.LNK_REPLAYS_COUNT n) = _ := fun w => getF_countF (f := F.LNK_REPLAYS_COUNT n) (by decide : 0 + 32 ≤ 32)
    refine ⟨⟨?_, (OnlyLink.refl.setLink _).countF _ (linkReg_own (k := 0x114) (by decide))⟩, fun _ => ⟨?_, ?_, hcount _, ?_⟩, fun h => absurd h hlimit⟩
    · rw [linkSt_countF_setLink, dir_setDir_same]
      rfl
    · rw [linkSt_countF_setLink, dir_setDir_same]
    · rw [linkSt_countF_setLink, dir_setDir_same]
    · exact (getF_countF_ne _ 1 (by simp [F.PG_STATE_STATE, F.LNK_REPLAYS_COUNT, pgLnk])).trans hst

theorem frameReceive_naks {flips : List Nat} (stamp : Nat) (hn : n < 24) (hst : s.lnk n = linkActive) (hd : (s.linkSt n).dir toB = d) (hwire : d.wire = f :: rest)
    (hcrc : f.badCrc flips = false) (hseq : f.seq = (d.good + 1) % 4096) (hnak : f.nak = true) (hslots : f.slots = []) {back : LinkDir}
    (hback : (s.linkSt n).dir (!toB) = back) (hleft : dropAcked f.ack back.replay ≠ []) :
    ∃ t, execFrameReceive n toB flips stamp s = .next t ∧ ((t.linkSt n).dir (!toB)).replay = dropAcked f.ack back.replay ∧ OnlyLink n s t ∧
      (back.triesAt f < (s.linkSt n).replayLimit → ((t.linkSt n).dir (!toB)).again = some 0 ∧ ((t.linkSt n).dir (!toB)).tries = back.triesAt f + 1 ∧
        t.getF (F.LNK_REPLAYS_COUNT n) = satAdd (s.getF (F.LNK_REPLAYS_COUNT n)) 1 (2 ^ (F.LNK_REPLAYS_COUNT n).width - 1) ∧ t.lnk n = linkActive) ∧
      ((s.linkSt n).replayLimit ≤ back.triesAt f → t.lnk n = lnkRetrain ∧
        t.getF (F.LNK_RETRAINS_COUNT n) = satAdd (s.getF (F.LNK_RETRAINS_COUNT n)) 1 (2 ^ (F.LNK_RETRAINS_COUNT n).width - 1)) := by
  subst hd
  have hexec := execFrameReceive_next stamp hst hwire hcrc hseq
  have htaken := frameTaken_held s n toB f rest
  have hl := linkSt_frameTaken s n toB f rest
  rw [hslots, State.takeSlots] at hexec
  generalize s.frameTaken n toB f rest = w at hexec htaken hl
  obtain ⟨hcontrol, hdirs⟩ := takeControl_held w n toB stamp f
  generalize w.takeControl n toB stamp f = c at hexec hcontrol hdirs
  have hheld := htaken.trans hcontrol
  have hactive : c.lnk n = linkActive := (State.getF_congr hheld.regs _).trans hst
  have hdir : (c.linkSt n).dir (!toB) = back := by rw [hdirs.dir, hl, dir_setDir_other, hback]
  have hlimit : (c.linkSt n).replayLimit = (s.linkSt n).replayLimit := by rw [hdirs.replayLimit, hl, replayLimit_setDir]
  obtain ⟨⟨hreplay, honly⟩, hagain, hretrain⟩ := takeAck_naks hn hactive hdir hnak hleft
  rw [hlimit, State.getF_congr hheld.regs] at hagain hretrain
  exact ⟨_, hexec, hreplay, hheld.link.trans honly, hagain, hretrain⟩

theorem exec_frameSend (n : Nat) (toB : Bool) (stamp : Nat) (s : State) : exec (.frameSend n toB stamp) s = execFrameSend n toB stamp s := rfl

theorem exec_frameReceive (n : Nat) (toB : Bool) (flips : List Nat) (stamp : Nat) (s : State) :
    exec (.frameReceive n toB flips stamp) s = execFrameReceive n toB flips stamp s := rfl

/-- Settles O24: the sender's cases are `frameSend_sends`, `execFrameSend_full` and `execFrameSend_again`, the receiver's `frameReceive_bad`,
`execFrameReceive_stray`, `frameReceive_lands` and `frameReceive_naks`. -/
theorem linkFrames : Obligations.LinkFrames := by
  refine ⟨badCrc_nil, fun n toB stamp s hn hst => ?_⟩
  intro l d back sat
  simp only [exec_frameSend, exec_frameReceive]
  refine ⟨fun hagain hroom => frameSend_sends toB stamp hst rfl hagain hroom, fun hagain hfull => execFrameSend_full stamp hst hagain hfull,
    fun i f hagain hi => execFrameSend_again stamp hst rfl hagain hi, fun f rest flips hwire => ⟨fun hcrc => frameReceive_bad stamp hst rfl hwire hcrc,
      fun hcrc hseq => execFrameReceive_stray stamp hst hwire hcrc hseq, ?_, ?_⟩⟩
  · exact fun hcrc hseq hnak x lane p hslots hp hplace hlast he => frameReceive_lands stamp hst rfl hwire hcrc hseq hnak hslots hp hplace hlast rfl he
  · exact fun hcrc hseq hnak hslots hleft => frameReceive_naks stamp hn hst rfl hwire hcrc hseq hnak hslots rfl hleft

end

end Sys2Proof.Machine
end

section
namespace Sys2Proof.Machine

section
variable {s t u : State} {i k id : Nat} {w : Word64}

/-! ### Packets that carry tally additions (O27) -/

/-- An addition that its tally can hold is made, and nothing else changes (R117). -/
theorem tallyAdd_of_room {n : Nat} (h : s.getF (tallyFld i k) + n ≤ 0xFFFF) : s.tallyAdd i k n = s.setF (tallyFld i k) (s.getF (tallyFld i k) + n) := if_pos h

/-- Past the maximum the tally holds there and the core faults. -/
theorem tallyAdd_of_over {n : Nat} (h : 0xFFFF < s.getF (tallyFld i k) + n) : s.tallyAdd i k n = (s.setF (tallyFld i k) 0xFFFF).progFault i causeTally k :=
  if_neg (by omega)

/-- A count is added to a tally of a core, with the fault that an overflow raises (R117). -/
def Tallied (i k n : Nat) (s t : State) : Prop :=
  (s.getF (tallyFld i k) + n ≤ 0xFFFF → t.getF (tallyFld i k) = s.getF (tallyFld i k) + n ∧ (t.core i).fault = (s.core i).fault) ∧
  (0xFFFF < s.getF (tallyFld i k) + n → t.getF (tallyFld i k) = 0xFFFF ∧ ((s.core i).fault = none → s.canFault i = true →
    (t.core i).fault = some ⟨causeTally, s.getF (F.CORE_PC_PC i), s.getF (F.CORE_PROG_K_K i), k⟩))

theorem tallyAdd_tallied (s : State) (i : Nat) (hk : k < 64) (n : Nat) : Tallied i k n s (s.tallyAdd i k n) := by
  have hread {v : Nat} (hv : v ≤ 0xFFFF) : (s.setF (tallyFld i k) v).getF (tallyFld i k) = v :=
    getF_setF (by rw [tallyFld_width]; omega) (tallyFld_fits i k)
  refine ⟨fun h => ?_, fun h => ⟨?_, fun hnone hcan => ?_⟩⟩
  · rw [tallyAdd_of_room h]
    exact ⟨hread h, rfl⟩
  · rw [tallyAdd_of_over h, State.getF_congr (progFault_regs _ i causeTally k)]
    exact hread (Nat.le_refl _)
  · have hkeep {f : Fld} (hf : f.addr < pgCore i + 0x180) : (s.setF (tallyFld i k) 0xFFFF).getF f = s.getF f := getF_setF_tally hk s _ (.inl hf)
    have hst : (s.setF (tallyFld i k) 0xFFFF).coreSt i = s.coreSt i := hkeep (f := F.PG_STATE_STATE (pgCore i)) (by simp [F.PG_STATE_STATE])
    have hcan' : (s.setF (tallyFld i k) 0xFFFF).canFault i = true := by rwa [State.canFault, hst]
    rw [tallyAdd_of_over h, progFault_of_can hcan' hnone, State.core_setCore_same, hkeep (by simp [F.CORE_PC_PC, pgCore]),
      hkeep (by simp [F.CORE_PROG_K_K, pgCore])]

theorem tallyAdd_changes (s : State) (i k n : Nat) : OnlyCore i (tallyReg i k) s (s.tallyAdd i k n) := by
  have hset (v : Nat) : OnlyCore i (tallyReg i k) s (s.setF (tallyFld i k) v) := OnlyCore.refl.setF v rfl
  unfold State.tallyAdd
  dsimp only
  split
  · exact hset _
  · exact (hset _).trans (progFault_only _ i causeTally k)

/-! SYSIG (R119, R147, R172) -/

theorem exec_sysig (i : Nat) (w : Word64) (s : State) : exec (.sysig i w) s =
    issue s i w 4 (wOp w == 2) (onlyBits w 56 [(50, 6), (42, 8), (0, 16)]) causeSy
      (fun s => (s.signal i (bits w.toNat 42 8) (bits w.toNat 50 6) (bits w.toNat 0 16)).nextPc i) := rfl

/-- The route of an entry of a site's route table (R147). -/
def State.routeOf (s : State) (i e : Nat) : Nat := s.getF (F.HYP_RTAB_LO_ROUTE i e) + 2 ^ 32 * s.getF (F.HYP_RTAB_HI_ROUTE i e)

/-- The packet that carries a count to a tally (R149). -/
def State.tallyPacket (s : State) (i route tally count : Nat) : Packet :=
  ⟨.gate i, route, 0, 0, false, 0, 0, false, siteNum i, 0x01, s.partNum i, false, 0, 0, 0, tally + 2 ^ 16 * count, [], 0⟩

/-- A packet dropped before it is sent (R147, R171). -/
def State.signalDropped (s : State) (i : Nat) : State :=
  ((s.countF (F.HYP_RT_DROP_COUNT i) 1).setF (F.HYP_RT_LASTDROP_SRC i) (siteNum i)).setF (F.HYP_RT_LASTDROP_CAUSE i) 7

theorem signal_own (s : State) (i tally count : Nat) : s.signal i 0 tally count = s.tallyAdd i tally count := if_pos rfl

theorem signal_core {e : Nat} (he : e ≠ 0) (hexit : routeExit (s.routeOf i e) = 0) (tally count : Nat) :
    s.signal i e tally count = s.inject (s.tallyPacket i (s.routeOf i e) tally count) :=
  (if_neg he).trans (if_neg (not_not_intro hexit))

theorem signal_elsewhere {e : Nat} (he : e ≠ 0) (hexit : routeExit (s.routeOf i e) ≠ 0) (tally count : Nat) :
    s.signal i e tally count = s.signalDropped i :=
  (if_neg he).trans (if_pos hexit)

theorem signalDropped_only (s : State) (i : Nat) : OnlyRegs (fun a => a = pgHyp i + 0x704 ∨ a = pgHyp i + 0x708) s (s.signalDropped i) :=
  ((OnlyRegs.refl.countF (f := F.HYP_RT_DROP_COUNT i) 1 (.inl rfl)).setF (f := F.HYP_RT_LASTDROP_SRC i) (siteNum i) (.inr rfl)).setF
    (f := F.HYP_RT_LASTDROP_CAUSE i) 7 (.inr rfl)

theorem signalDropped_counts (s : State) (i : Nat) : (s.signalDropped i).getF (F.HYP_RT_LASTDROP_CAUSE i) = 7 ∧
    (s.signalDropped i).getF (F.HYP_RT_DROP_COUNT i) = satAdd (s.getF (F.HYP_RT_DROP_COUNT i)) 1 (2 ^ (F.HYP_RT_DROP_COUNT i).width - 1) := by
  refine ⟨getF_setF (f := F.HYP_RT_LASTDROP_CAUSE i) (by decide : 7 < 2 ^ 4) (by decide : 16 + 4 ≤ 32), ?_⟩
  rw [State.signalDropped, getF_setF_ne _ _ (by simp [F.HYP_RT_DROP_COUNT, F.HYP_RT_LASTDROP_CAUSE]), getF_setF_ne _ _ (by simp [F.HYP_RT_DROP_COUNT, F.HYP_RT_LASTDROP_SRC])]
  exact getF_countF (f := F.HYP_RT_DROP_COUNT i) (by decide : 0 + 32 ≤ 32)

/-- What leaves the program counter and the program alone lets the program go on by one. -/
theorem nextPc_goes (hroom : s.getF (F.CORE_PC_PC i) + 1 < (s.core i).prog.length) (hpc : u.getF (F.CORE_PC_PC i) = s.getF (F.CORE_PC_PC i))
    (hprog : (u.core i).prog = (s.core i).prog) : u.nextPc i = u.setF (F.CORE_PC_PC i) (u.getF (F.CORE_PC_PC i) + 1) ∧ PcNext i s (u.nextPc i) := by
  have hnext := nextPc_of_room (s := u) (i := i) (by rw [hpc, hprog]; exact hroom)
  exact ⟨hnext, by rw [hnext]; exact pcNext_setF hpc⟩

theorem sysig_own {n : Nat} (hroom : s.getF (F.CORE_PC_PC i) + 1 < (s.core i).prog.length) (hk : k < 64) (h : s.getF (tallyFld i k) + n ≤ 0xFFFF) :
    Tallied i k n s ((s.tallyAdd i k n).nextPc i) ∧ PcNext i s ((s.tallyAdd i k n).nextPc i) ∧
    OnlyRegs (fun a => pcReg i a ∨ tallyReg i k a) s ((s.tallyAdd i k n).nextPc i) := by
  obtain ⟨hadd, -⟩ := tallyAdd_tallied s i hk n
  obtain ⟨hsum, hfault⟩ := hadd h
  have hset := tallyAdd_of_room h
  rw [hset] at hsum hfault ⊢
  have hpc : (s.setF (tallyFld i k) (s.getF (tallyFld i k) + n)).getF (F.CORE_PC_PC i) = s.getF (F.CORE_PC_PC i) :=
    getF_setF_tally hk s _ (.inl (by simp [F.CORE_PC_PC, pgCore]))
  have hregs : OnlyRegs (fun a => pcReg i a ∨ tallyReg i k a) s (s.setF (tallyFld i k) (s.getF (tallyFld i k) + n)) := OnlyRegs.refl.setF _ (.inr rfl)
  obtain ⟨hnext, hgoes⟩ := nextPc_goes (u := s.setF (tallyFld i k) (s.getF (tallyFld i k) + n)) hroom hpc rfl
  rw [hnext] at hgoes ⊢
  have hkept : (F.CORE_PC_PC i).addr ≠ (tallyFld i k).addr := by rw [tallyFld_addr]; simp only [F.CORE_PC_PC, pgCore]; omega
  exact ⟨⟨fun _ => ⟨(getF_setF_ne _ _ hkept.symm).trans hsum, hfault⟩, fun hover => absurd h (by omega)⟩, hgoes, hregs.setF (f := F.CORE_PC_PC i) _ (.inl rfl)⟩

theorem aux_fields {n : Nat} (hk : k < 64) (hn : n < 2 ^ 16) : bits (k + 2 ^ 16 * n) 0 6 = k ∧ bits (k + 2 ^ 16 * n) 16 16 = n := by
  simp only [bits, Nat.shiftRight_eq_div_pow]
  omega

theorem sysig_sends (hroom : s.getF (F.CORE_PC_PC i) + 1 < (s.core i).prog.length) (q : Packet) :
    PcNext i s ((s.inject q).nextPc i) ∧ ((s.inject q).nextPc i).pkt s.nextPkt = some q ∧ (∀ j, j ≠ s.nextPkt → ((s.inject q).nextPc i).pkt j = s.pkt j) ∧
    SameRegs (pcReg i) s ((s.inject q).nextPc i) ∧
    (s.inject q).nextPc i = { s with regs := ((s.inject q).nextPc i).regs, packets := ((s.inject q).nextPc i).packets, nextPkt := s.nextPkt + 1 } := by
  obtain ⟨hnext, hgoes⟩ := nextPc_goes (u := s.inject q) hroom rfl rfl
  have hregs : SameRegs (pcReg i) s (s.inject q) := .of_regs rfl
  rw [hnext] at hgoes ⊢
  exact ⟨hgoes, tabGet_tabPut_same _ _ _, fun j hj => tabGet_tabPut_ne _ _ hj, hregs.setF (f := F.CORE_PC_PC i) _ rfl, rfl⟩

theorem sysig_drops (hroom : s.getF (F.CORE_PC_PC i) + 1 < (s.core i).prog.length) :
    PcNext i s ((s.signalDropped i).nextPc i) ∧ ((s.signalDropped i).nextPc i).getF (F.HYP_RT_LASTDROP_CAUSE i) = 7 ∧
    ((s.signalDropped i).nextPc i).getF (F.HYP_RT_DROP_COUNT i) = satAdd (s.getF (F.HYP_RT_DROP_COUNT i)) 1 (2 ^ (F.HYP_RT_DROP_COUNT i).width - 1) ∧
    OnlyRegs (fun a => pcReg i a ∨ a = pgHyp i + 0x704 ∨ a = pgHyp i + 0x708) s ((s.signalDropped i).nextPc i) := by
  obtain ⟨honly, hregs⟩ := signalDropped_only s i
  obtain ⟨hcause, hcount⟩ := signalDropped_counts s i
  have hpc : (s.signalDropped i).getF (F.CORE_PC_PC i) = s.getF (F.CORE_PC_PC i) := hregs.getF (by simp only [F.CORE_PC_PC, pgHyp]; omega)
  have hprog : (s.signalDropped i).core i = s.core i := by rw [State.core, honly, State.core]
  have hall : OnlyRegs (fun a => pcReg i a ∨ a = pgHyp i + 0x704 ∨ a = pgHyp i + 0x708) s (s.signalDropped i) := ⟨honly, hregs.weaken fun _ => .inr⟩
  obtain ⟨hnext, hgoes⟩ := nextPc_goes hroom hpc (by rw [hprog])
  rw [hnext] at hgoes ⊢
  refine ⟨hgoes, (getF_setF_ne _ _ ?_).trans hcause, (getF_setF_ne _ _ ?_).trans hcount, hall.setF (f := F.CORE_PC_PC i) _ (.inl rfl)⟩
  · simp only [F.CORE_PC_PC, F.HYP_RT_LASTDROP_CAUSE]
    omega
  · simp only [F.CORE_PC_PC, F.HYP_RT_DROP_COUNT]
    omega

/-! The egress gate, and the core that the packet reaches (R155, R117) -/

theorem execPacketHop_of_gate {p : Packet} (hp : s.pkt id = some p) (hplace : p.place = .gate i) (hst : s.coreSt i ≠ coreEclipsed) (horder : s.inOrder id p = true) :
    execPacketHop id s = .next (s.setPkt id { p with place := .router i }) := by
  simp only [execPacketHop, hp, horder, Bool.not_true, Bool.false_eq_true, if_false, hplace, if_neg hst]

theorem execTallyAdd_of_core {p : Packet} (hp : s.pkt id = some p) (hplace : p.place = .core i) (hty : p.ty = 1) (horder : s.inOrder id p = true) :
    execTallyAdd id s = .next ((s.dropPkt id).tallyAdd i (bits p.aux 0 6) (bits p.aux 16 16)) := by
  simp only [execTallyAdd, hp, hplace, hty, horder, decide_true, Bool.and_self, if_true]

theorem tallyAdd_arrives (hk : k < 64) {n : Nat} (ht : (s.dropPkt id).tallyAdd i k n = t) : t.pkt id = none ∧ Tallied i k n s t ∧
    SameRegs (tallyReg i k) s t ∧ t = { s with regs := t.regs, cores := t.cores, packets := t.packets, mesh := t.mesh } := by
  obtain ⟨honly, hregs, -⟩ := tallyAdd_changes (s.dropPkt id) i k n
  have htallied : Tallied i k n s ((s.dropPkt id).tallyAdd i k n) := tallyAdd_tallied (s.dropPkt id) i hk n
  rw [ht] at honly hregs htallied
  refine ⟨?_, htallied, hregs, by rw [honly]; rfl⟩
  rw [State.pkt, honly]
  exact pkt_dropPkt_same s id

/-- Settles O27: SYSIG by its table entry (`sysig_own`, `sysig_sends`, `sysig_drops`), the gate, and the core (`tallyAdd_arrives`). -/
theorem tallyPackets : Obligations.TallyPackets := by
  intro i id w s e k n route Adds
  have hk : k < 64 := bits_lt _ _ _
  have hn : n < 2 ^ 16 := bits_lt _ _ _
  refine ⟨fun hissue hop hlegal => ?_, fun p hp hplace hst horder => execPacketHop_of_gate hp hplace hst horder,
    fun p hp hplace hty horder => ⟨_, execTallyAdd_of_core hp hplace hty horder, tallyAdd_arrives (bits_lt _ _ _) rfl⟩⟩
  obtain ⟨hok, hroom⟩ := hissue
  have hexec : exec (.sysig i w) s = .next ((s.signal i e k n).nextPc i) := exec_of_legal (exec_sysig i w s) hok hop hlegal
  refine ⟨fun he hsum => ?_, fun he hexit => ?_, fun he hexit => ?_⟩
  · rw [he, signal_own] at hexec
    exact ⟨_, hexec, sysig_own hroom hk hsum⟩
  · rw [signal_core he hexit] at hexec
    obtain ⟨hgoes, hpkt, hothers, hregs, honly⟩ := sysig_sends hroom (s.tallyPacket i (s.routeOf i e) k n)
    obtain ⟨htally, hcount⟩ := aux_fields hk hn
    exact ⟨_, _, hexec, hgoes, hpkt, rfl, rfl, rfl, rfl, rfl, rfl, htally, hcount, rfl, hothers, hregs, honly⟩
  · rw [signal_elsewhere he hexit] at hexec
    exact ⟨_, hexec, sysig_drops hroom⟩

end

end Sys2Proof.Machine
end

section
namespace Sys2Proof.Machine

section
variable {s t u : State} {die win tag len addr mask ty status bytes i : Nat} {d : List Byte}

/-! ### Messages of the moonlet (O28) -/

/-! A message that has come over the link is counted on the link's page alone (R168) -/

theorem mnlHeard_only (s : State) (die bytes : Nat) : OnlyRegs (fun a => a = pgLnk (20 + die) + 0x124) s (s.mnlHeard die bytes) :=
  OnlyRegs.refl.countF (f := F.LNK_FLITS_BA_COUNT (20 + die)) _ rfl

/-- The pages of the partitions and of the moonlet lie above those of the links. -/
theorem getF_mnlHeard (s : State) (hdie : die < 4) (bytes : Nat) {f : Fld} (hf : 0xE20000 ≤ f.addr) : (s.mnlHeard die bytes).getF f = s.getF f :=
  (mnlHeard_only s die bytes).2.getF (by unfold pgLnk; omega)

theorem part_mnlHeard (s : State) (hdie : die < 4) (bytes win : Nat) :
    (s.mnlHeard die bytes).getF (F.MNL_WIN_CTRL_PART win) = s.getF (F.MNL_WIN_CTRL_PART win) :=
  getF_mnlHeard s hdie bytes (by simp only [F.MNL_WIN_CTRL_PART]; omega)

theorem winOpen_mnlHeard (s : State) (hdie : die < 4) (bytes win : Nat) : (s.mnlHeard die bytes).winOpen win = s.winOpen win := by
  have hen : (s.mnlHeard die bytes).getF (F.MNL_WIN_CTRL_EN win) = s.getF (F.MNL_WIN_CTRL_EN win) :=
    getF_mnlHeard s hdie bytes (by simp only [F.MNL_WIN_CTRL_EN]; omega)
  have hgrant (p : Nat) : (s.mnlHeard die bytes).getF (F.PRT_GRANT_MNL p) = s.getF (F.PRT_GRANT_MNL p) :=
    getF_mnlHeard s hdie bytes (by simp only [F.PRT_GRANT_MNL]; omega)
  simp only [State.winOpen, State.on, hen, part_mnlHeard s hdie, hgrant]

theorem mnlCheck_mnlHeard (s : State) (hdie : die < 4) (bytes ty win len addr : Nat) (d : List Byte) :
    (s.mnlHeard die bytes).mnlCheck ty win len addr d = s.mnlCheck ty win len addr d := by
  have hsize : (s.mnlHeard die bytes).getF (F.MNL_WIN_SIZE_SIZE win) = s.getF (F.MNL_WIN_SIZE_SIZE win) :=
    getF_mnlHeard s hdie bytes (by simp only [F.MNL_WIN_SIZE_SIZE]; omega)
  simp only [State.mnlCheck, winOpen_mnlHeard s hdie, hsize]

theorem partOfSite_mnlHeard (s : State) (hdie : die < 4) (bytes i : Nat) : (s.mnlHeard die bytes).partOfSite i = s.partOfSite i := by
  have hlo (p : Nat) : (s.mnlHeard die bytes).getF (F.PRT_ROWS_LO_ROWS p) = s.getF (F.PRT_ROWS_LO_ROWS p) :=
    getF_mnlHeard s hdie bytes (by simp only [F.PRT_ROWS_LO_ROWS]; omega)
  have hhi (p : Nat) : (s.mnlHeard die bytes).getF (F.PRT_ROWS_HI_ROWS p) = s.getF (F.PRT_ROWS_HI_ROWS p) :=
    getF_mnlHeard s hdie bytes (by simp only [F.PRT_ROWS_HI_ROWS]; omega)
  simp only [State.partOfSite, State.partOfRow, hlo, hhi]

/-! Refusals (R166, R170) -/

theorem mnlErr_only (s : State) (die ty win status : Nat) : OnlyRegs (onPage pgMnl) s (s.mnlErr die ty win status) := by
  have hcount : onPage pgMnl F.MNL_ERR_COUNT.addr := rfl
  have hlast : onPage pgMnl F.MNL_LASTERR_TYPE.addr := rfl
  exact ((((OnlyRegs.refl.countF 1 hcount).setF ty hlast).setF (f := F.MNL_LASTERR_WIN) (win % 16) hlast).setF (f := F.MNL_LASTERR_STATUS) status hlast).setF
    (f := F.MNL_LASTERR_DIE) die hlast

theorem mnlErr_fields (s : State) (hdie : die < 4) (hty : ty < 2 ^ 8) (hstatus : status < 16) (win : Nat) :
    (s.mnlErr die ty win status).getF F.MNL_ERR_COUNT = satAdd (s.getF F.MNL_ERR_COUNT) 1 (2 ^ F.MNL_ERR_COUNT.width - 1) ∧
    (s.mnlErr die ty win status).getF F.MNL_LASTERR_TYPE = ty ∧ (s.mnlErr die ty win status).getF F.MNL_LASTERR_WIN = win % 16 ∧
    (s.mnlErr die ty win status).getF F.MNL_LASTERR_STATUS = status ∧ (s.mnlErr die ty win status).getF F.MNL_LASTERR_DIE = die := by
  have hwin : win % 16 % 2 ^ 4 = win % 16 := Nat.mod_mod win 16
  refine ⟨?_, ?_, ?_, ?_, ?_⟩
  · unfold State.mnlErr
    iterate 4 rw [getF_setF_ne _ _ (by decide)]
    exact getF_countF (f := F.MNL_ERR_COUNT) (by decide : 0 + 32 ≤ 32)
  all_goals
    simp (disch := decide) only [State.mnlErr, F.MNL_LASTERR_TYPE, F.MNL_LASTERR_WIN, F.MNL_LASTERR_STATUS, F.MNL_LASTERR_DIE, getF_setF_other_bits,
      getF_setF_bits, hwin, Nat.mod_eq_of_lt hty, Nat.mod_eq_of_lt (show status < 2 ^ 4 from hstatus), Nat.mod_eq_of_lt (show die < 2 ^ 2 from hdie)]

/-- A message heard and refused. -/
def State.mnlTurned (s : State) (die bytes ty win status : Nat) : State := (s.mnlHeard die bytes).mnlErr die ty win status

theorem mnlTurned_only (s : State) (die bytes ty win status : Nat) :
    OnlyRegs (fun a => onPage pgMnl a ∨ onPage (pgLnk (20 + die)) a) s (s.mnlTurned die bytes ty win status) := by
  obtain ⟨hheard, hcount⟩ := mnlHeard_only s die bytes
  obtain ⟨herr, hregs⟩ := mnlErr_only (s.mnlHeard die bytes) die ty win status
  exact ⟨by rw [State.mnlTurned, herr, hheard], (hcount.weaken fun a ha => .inr (by unfold onPage pgLnk at *; omega)).trans (hregs.weaken fun _ => .inl)⟩

theorem mnlTurned_refused (s : State) (hdie : die < 4) (hty : ty < 2 ^ 8) (hstatus : status < 16) (bytes win : Nat) :
    MnlRefused die ty win status s (s.mnlTurned die bytes ty win status) := by
  obtain ⟨hcount, hfields⟩ := mnlErr_fields (s.mnlHeard die bytes) hdie hty hstatus win
  obtain ⟨htype, hwin, hst, hd⟩ := hfields
  rw [getF_mnlHeard s hdie bytes (by decide)] at hcount
  exact ⟨hcount, htype, hwin, hst, hd, (mnlTurned_only s die bytes ty win status).2⟩

/-- What reads the same registers is as refused. -/
theorem MnlRefused.of_regs (h : MnlRefused die ty win status s t) (hregs : u.regs = t.regs) : MnlRefused die ty win status s u := by
  obtain ⟨hcount, htype, hwin, hst, hd, hsame⟩ := h
  have hread (f : Fld) : u.getF f = t.getF f := State.getF_congr hregs f
  exact ⟨(hread _).trans hcount, (hread _).trans htype, (hread _).trans hwin, (hread _).trans hst, (hread _).trans hd, hsame.trans (.of_regs hregs)⟩

/-- The answer without data waits at the link, and the rest is as before. -/
theorem mtSend_answers {p : Nat → Prop} (h : OnlyRegs p s u) (die ty tag status : Nat) :
    MnlAnswered die ty tag status s (u.mtSend ⟨20 + die, ty, tag, status, []⟩) := by
  obtain ⟨honly, -⟩ := h
  have hnext : u.nextPkt = s.nextPkt := by rw [honly]
  have hpkt (j : Nat) : u.pkt j = s.pkt j := by rw [honly]; rfl
  have hlink (m : Nat) : u.linkSt m = s.linkSt m := by rw [honly]; rfl
  let q : Packet := ⟨.link (20 + die) true 0, 0, 0, 0, false, 2, 3, false, 0, ty, 0, false, tag, 0, 0, status, [], 0⟩
  have hsend : u.mtSend ⟨20 + die, ty, tag, status, []⟩ = (u.inject q).toLink u.nextPkt (20 + die) true 0 q := rfl
  obtain ⟨hwaits, hqueue, hrest⟩ := toLink_waits (u.inject q) u.nextPkt (20 + die) true 0 q
  rw [hsend]
  refine ⟨?_, ⟨q, by rw [← hnext]; exact hwaits, rfl, rfl, rfl, rfl, rfl, rfl⟩, fun j hj => ?_, ?_, fun m hm => ?_⟩
  · rw [hrest, State.inject, honly]
  · have hinject : (u.inject q).pkt j = u.pkt j := tabGet_tabPut_ne _ _ (hnext ▸ hj)
    exact ((pkt_leaveMesh_ne _ _ (hnext ▸ hj)).trans hinject).trans (hpkt j)
  · rw [← hlink, ← hnext]
    exact hqueue
  · rw [← hlink]
    exact linkSt_setLink_ne _ _ hm

/-! MRD, MWR and MWRB (R165, R166) -/

theorem mnlCheck_lt (s : State) (ty win len addr : Nat) (d : List Byte) : s.mnlCheck ty win len addr d < 16 := by
  unfold State.mnlCheck
  dsimp only
  split
  · decide
  split
  · decide
  split <;> decide

theorem mnlAccess_refuses (hcheck : s.mnlCheck ty win len addr d ≠ 0) : s.mnlAccess die ty win tag len addr d mask =
    (s.mnlErr die ty win (s.mnlCheck ty win len addr d)).mtSend ⟨20 + die, if ty = 1 then 0x81 else 0x82, tag, s.mnlCheck ty win len addr d, []⟩ := if_pos hcheck

theorem mnlAccess_goes (hcheck : s.mnlCheck ty win len addr d = 0) : s.mnlAccess die ty win tag len addr d mask =
    (s.startJob (.moonlet (20 + die) ty win tag) (130 + die)
      (if s.pgState (pgPrt (s.getF (F.MNL_WIN_CTRL_PART win))) = prtReset then none else some (s.getF (F.MNL_WIN_CTRL_PART win))) (ty != 1)
      (s.getF (F.MNL_WIN_VBASE_LO_ADDR win) * 2 ^ 21 + s.getF (F.MNL_WIN_VBASE_HI_ADDR win) * 2 ^ 32 + addr) len d mask).settle := if_neg (not_not_intro hcheck)

/-- A refused read or write is answered with its status. -/
theorem mnlAccess_refused (hdie : die < 4) (hty : ty < 2 ^ 8) (hcheck : s.mnlCheck ty win len addr d ≠ 0)
    (ht : (s.mnlHeard die bytes).mnlAccess die ty win tag len addr d mask = t) : MnlRefused die ty win (s.mnlCheck ty win len addr d) s t ∧
      MnlAnswered die (if ty = 1 then 0x81 else 0x82) tag (s.mnlCheck ty win len addr d) s t := by
  have hsame := mnlCheck_mnlHeard s hdie bytes ty win len addr d
  rw [mnlAccess_refuses (by rw [hsame]; exact hcheck), hsame] at ht
  subst ht
  exact ⟨(mnlTurned_refused s hdie hty (mnlCheck_lt ..) bytes win).of_regs rfl, mtSend_answers (mnlTurned_only s die bytes ty win _) ..⟩

/-- An accepted one begins its access in the window's partition. -/
theorem mnlAccess_accepted (hdie : die < 4) (hcheck : s.mnlCheck ty win len addr d = 0) : (s.mnlHeard die bytes).mnlAccess die ty win tag len addr d mask =
    ((s.mnlHeard die bytes).startJob (.moonlet (20 + die) ty win tag) (130 + die)
      (if s.pgState (pgPrt (s.getF (F.MNL_WIN_CTRL_PART win))) = prtReset then none else some (s.getF (F.MNL_WIN_CTRL_PART win))) (ty != 1)
      (s.getF (F.MNL_WIN_VBASE_LO_ADDR win) * 2 ^ 21 + s.getF (F.MNL_WIN_VBASE_HI_ADDR win) * 2 ^ 32 + addr) len d mask).settle := by
  have hlo : (s.mnlHeard die bytes).getF (F.MNL_WIN_VBASE_LO_ADDR win) = s.getF (F.MNL_WIN_VBASE_LO_ADDR win) :=
    getF_mnlHeard s hdie bytes (by simp only [F.MNL_WIN_VBASE_LO_ADDR]; omega)
  have hhi : (s.mnlHeard die bytes).getF (F.MNL_WIN_VBASE_HI_ADDR win) = s.getF (F.MNL_WIN_VBASE_HI_ADDR win) :=
    getF_mnlHeard s hdie bytes (by simp only [F.MNL_WIN_VBASE_HI_ADDR]; omega)
  have hstate (p : Nat) : (s.mnlHeard die bytes).pgState (pgPrt p) = s.pgState (pgPrt p) :=
    getF_mnlHeard s hdie bytes (by simp only [F.PG_STATE_STATE, pgPrt]; omega)
  rw [mnlAccess_goes (by rw [mnlCheck_mnlHeard s hdie]; exact hcheck), part_mnlHeard s hdie, hlo, hhi, hstate]

theorem execMrd_of_up (hup : s.mnlUp die = true) (win tag len addr : Nat) :
    exec (.mrd die win tag len addr) s = .next ((s.mnlHeard die 0).mnlAccess die 1 win tag len addr [] 0) := if_pos hup

theorem execMwr_of_up (hup : s.mnlUp die = true) (win tag len addr : Nat) (d : List Byte) :
    exec (.mwr die win tag len addr d) s = .next ((s.mnlHeard die d.length).mnlAccess die 2 win tag len addr d (2 ^ len - 1)) := if_pos hup

theorem execMwrb_of_up (hup : s.mnlUp die = true) (win tag len addr mask : Nat) (d : List Byte) :
    exec (.mwrb die win tag len addr d mask) s = .next ((s.mnlHeard die (d.length + 4)).mnlAccess die 3 win tag len addr d (mask % 2 ^ 32)) := if_pos hup

/-! MSIG and MEVT (R166) -/

/-- A signal may be sent to a site: its window is open and the site is of the window's partition. -/
def State.msigOk (s : State) (win i : Nat) : Bool :=
  decide (win < 16) && s.winOpen win && s.partOfSite i == some (s.getF (F.MNL_WIN_CTRL_PART (win % 16)))

theorem msigOk_mnlHeard (s : State) (hdie : die < 4) (bytes win i : Nat) : (s.mnlHeard die bytes).msigOk win i = s.msigOk win i := by
  simp only [State.msigOk, winOpen_mnlHeard s hdie, partOfSite_mnlHeard s hdie, part_mnlHeard s hdie]

theorem execMsig_sends (hup : s.mnlUp die = true) (hu : s.mnlHeard die 0 = u) (hsite : siteOfNum (addr % 2 ^ 16) = some i) (hok : u.msigOk win i = true) (count : Nat) :
    execMsig die win addr count s = .next (u.extSend (130 + die) (u.getF (F.MNL_WIN_CTRL_PART (win % 16))) i 0 0 0x01 0 0 0
      (bits addr 16 6 + 2 ^ 16 * (count % 2 ^ 16)) [] false 0) := by
  rw [execMsig, if_neg (by simp [hup])]
  dsimp only
  rw [hu, hsite]
  exact if_pos hok

theorem execMsig_drops (hup : s.mnlUp die = true) (hu : s.mnlHeard die 0 = u) (hno : ∀ i, siteOfNum (addr % 2 ^ 16) = some i → u.msigOk win i = false) (count : Nat) :
    execMsig die win addr count s = .next (u.mnlErr die 4 win 0xF) := by
  rw [execMsig, if_neg (by simp [hup])]
  dsimp only
  rw [hu]
  cases hsite : siteOfNum (addr % 2 ^ 16) with
  | none => rfl
  | some i => exact if_neg (Bool.eq_false_iff.mp (hno i hsite))

/-- The packet of a signal, at the moonlet's port of the die (R146, R149). -/
def State.msigPacket (s : State) (die part dst aux : Nat) : Packet :=
  ⟨.router (siteIdx die (stripAt 8 (bits 0 7 2)).1 (stripAt 8 (bits 0 7 2)).2), moonletRoute (s.getF F.MNL_PORTSEL_SEL) die dst (bits 0 7 2) 0, 1, 0, false, 0, 3,
    false, 0, 0x01, part, false, 0, 0, 0, aux, [], 0⟩

theorem extSend_msig (s : State) (die part dst aux : Nat) : s.extSend (130 + die) part dst 0 0 0x01 0 0 0 aux [] false 0 = s.inject (s.msigPacket die part dst aux) := by
  have hunit : 130 + die - 130 = die := by omega
  rw [State.extSend, if_neg (by omega), hunit]
  rfl

theorem msig_sends {part : Nat} (hup : s.mnlUp die = true) (hdie : die < 4) (hwin : win < 16) (hsite : siteOfNum (addr % 2 ^ 16) = some i) (hopen : s.winOpen win = true)
    (hpart : s.getF (F.MNL_WIN_CTRL_PART win) = part) (hmember : s.partOfSite i = some part) (count : Nat) :
    ∃ t q, execMsig die win addr count s = .next t ∧ t.pkt s.nextPkt = some q ∧ q.ty = 1 ∧ q.vc = 0 ∧ q.srcKind = 3 ∧ q.part = part ∧
      bits q.aux 0 6 = bits addr 16 6 ∧ bits q.aux 16 16 = count % 2 ^ 16 ∧ t = { s with regs := t.regs, packets := t.packets, nextPkt := s.nextPkt + 1 } ∧
      SameRegs (onPage (pgLnk (20 + die))) s t := by
  have hmod : win % 16 = win := Nat.mod_eq_of_lt hwin
  have hok : s.msigOk win i = true := by simp [State.msigOk, hwin, hopen, hmember, hmod, hpart]
  have hexec := execMsig_sends hup rfl hsite ((msigOk_mnlHeard s hdie 0 win i).trans hok) count
  rw [hmod, part_mnlHeard s hdie, hpart, extSend_msig] at hexec
  obtain ⟨honly, hregs⟩ := mnlHeard_only s die 0
  generalize s.mnlHeard die 0 = u at hexec honly hregs
  have hnext : u.nextPkt = s.nextPkt := by rw [honly]
  obtain ⟨htally, hcount⟩ := aux_fields (k := bits addr 16 6) (n := count % 2 ^ 16) (bits_lt _ _ _) (Nat.mod_lt _ (by decide))
  refine ⟨_, u.msigPacket die part i (bits addr 16 6 + 2 ^ 16 * (count % 2 ^ 16)), hexec, ?_, rfl, rfl, rfl, rfl, htally, hcount, ?_, hregs.weaken fun a ha => by unfold onPage pgLnk at *; omega⟩
  · rw [← hnext]
    exact tabGet_tabPut_same _ _ _
  · rw [State.inject, honly]

/-- A signal to a window that is not open, to no site or to one of another partition may not be sent. -/
theorem msigOk_of_refused {part : Nat} (hpart : s.getF (F.MNL_WIN_CTRL_PART win) = part) (hno : 16 ≤ win ∨ s.winOpen win = false ∨ siteOfNum (addr % 2 ^ 16) = none ∨
    ∃ i, siteOfNum (addr % 2 ^ 16) = some i ∧ s.partOfSite i ≠ some part) (hsite : siteOfNum (addr % 2 ^ 16) = some i) : s.msigOk win i = false := by
  by_cases hwin : win < 16
  · have hmod : win % 16 = win := Nat.mod_eq_of_lt hwin
    obtain hbig | hclosed | hnone | ⟨j, hj, hother⟩ := hno
    · omega
    · simp [State.msigOk, hclosed]
    · rw [hnone] at hsite
      exact absurd hsite nofun
    · rw [Option.some.inj (hj.symm.trans hsite)] at hother
      simp [State.msigOk, hmod, hpart, hother]
  · simp [State.msigOk, hwin]

/-- A dropped message is recorded and does nothing else. -/
theorem mnlTurned_drops (s : State) (hdie : die < 4) (hty : ty < 2 ^ 8) (win : Nat) : MnlRefused die ty win 0xF s (s.mnlTurned die 0 ty win 0xF) ∧
    s.mnlTurned die 0 ty win 0xF = { s with regs := (s.mnlTurned die 0 ty win 0xF).regs } :=
  ⟨mnlTurned_refused s hdie hty (by decide) 0 win, (mnlTurned_only s die 0 ty win 0xF).1⟩

theorem execMevt_drops (hup : s.mnlUp die = true) (hu : s.mnlHeard die 0 = u) (hno : 16 ≤ win ∨ u.winOpen win = false) (code : Nat) :
    execMevt die win code s = .next (u.mnlErr die 5 win 0xF) := by
  have hclosed : ¬ (decide (win < 16) && u.winOpen win) = true := by
    rintro h
    simp only [Bool.and_eq_true, decide_eq_true_eq] at h
    obtain hbig | hshut := hno
    · omega
    · simp [hshut] at h
  rw [execMevt, if_neg (by simp [hup])]
  dsimp only
  rw [hu]
  exact if_neg hclosed

theorem execMevt_posts (hup : s.mnlUp die = true) (hu : s.mnlHeard die 0 = u) (hwin : win < 16) (hopen : u.winOpen win = true) (code : Nat) :
    execMevt die win code s = .next (u.postTo (u.getF (F.PRT_DEFRING_RING (u.getF (F.MNL_WIN_CTRL_PART win)))) ⟨0x06, 0, win, code % 2 ^ 16, u.orbit, 0, 0, 12⟩) := by
  rw [execMevt, if_neg (by simp [hup])]
  dsimp only
  rw [hu]
  exact if_pos (by simp [hwin, hopen])

theorem mevt_posts (hup : s.mnlUp die = true) (hdie : die < 4) (hwin : win < 16) (hopen : s.winOpen win = true) (code : Nat) :
    execMevt die win code s = .next ((s.mnlHeard die 0).postTo (s.getF (F.PRT_DEFRING_RING (s.getF (F.MNL_WIN_CTRL_PART win))))
      ⟨0x06, 0, win, code % 2 ^ 16, s.orbit, 0, 0, 12⟩) := by
  have hring (p : Nat) : (s.mnlHeard die 0).getF (F.PRT_DEFRING_RING p) = s.getF (F.PRT_DEFRING_RING p) :=
    getF_mnlHeard s hdie 0 (by simp only [F.PRT_DEFRING_RING]; omega)
  rw [execMevt_posts hup rfl hwin ((winOpen_mnlHeard s hdie 0 win).trans hopen), part_mnlHeard s hdie, hring]
  rfl

/-- Settles O28: reads and writes by `mnlAccess_refused` and `mnlAccess_accepted`, signals by `msig_sends`, events by `mevt_posts`, and what is dropped by
`mnlTurned_drops`. -/
theorem moonletMessages : Obligations.MoonletMessages := by
  intro die win tag len addr mask count code d s hup part va Refuses Drops Goes
  have hdie : die < 4 := of_decide_eq_true (Bool.and_eq_true_iff.mp hup).1
  refine ⟨fun hcheck => ⟨_, execMrd_of_up hup win tag len addr, mnlAccess_refused hdie (by decide) hcheck rfl⟩,
    fun hcheck => ⟨_, execMwr_of_up hup win tag len addr d, mnlAccess_refused hdie (by decide) hcheck rfl⟩,
    fun hcheck => ⟨_, execMwrb_of_up hup win tag len addr mask d, mnlAccess_refused hdie (by decide) hcheck rfl⟩,
    fun hcheck => (execMrd_of_up hup win tag len addr).trans (congrArg _ (mnlAccess_accepted hdie hcheck)),
    fun hcheck => (execMwr_of_up hup win tag len addr d).trans (congrArg _ (mnlAccess_accepted hdie hcheck)),
    fun hcheck => (execMwrb_of_up hup win tag len addr mask d).trans (congrArg _ (mnlAccess_accepted hdie hcheck)),
    fun i hwin hsite hopen hmember => msig_sends hup hdie hwin hsite hopen rfl hmember count, fun hno => ?_, fun hno => ?_,
    fun hwin hopen => mevt_posts hup hdie hwin hopen code⟩
  · exact ⟨_, execMsig_drops hup rfl (fun i hsite => (msigOk_mnlHeard s hdie 0 win i).trans (msigOk_of_refused rfl hno hsite)) count,
      mnlTurned_drops s hdie (by decide) win⟩
  · exact ⟨_, execMevt_drops hup rfl (hno.imp_right (winOpen_mnlHeard s hdie 0 win).trans) code, mnlTurned_drops s hdie (by decide) win⟩

end

end Sys2Proof.Machine
end

section
namespace Sys2Proof.Machine

section
variable {i j : Nat}

/-! ### Rules of a halyard port's operations -/

@[simp] theorem port_setPort_same (s : State) (i : Nat) (q : PortState) : (s.setPort i q).port i = q := by simp [State.port, State.setPort]
theorem port_setPort_ne (s : State) (q : PortState) (h : j ≠ i) : (s.setPort i q).port j = s.port j := by
  simp [State.port, State.setPort, tabGet_tabPut_ne _ _ h]
@[simp] theorem port_setF (s : State) (f : Fld) (v j : Nat) : (s.setF f v).port j = s.port j := rfl
@[simp] theorem port_countF (s : State) (f : Fld) (n j : Nat) : (s.countF f n).port j = s.port j := rfl
@[simp] theorem port_advanceTo (s : State) (n j : Nat) : (s.advanceTo n).port j = s.port j := rfl

theorem le_now_advanceTo (s : State) (n : Nat) : n ≤ (s.advanceTo n).now := by
  rw [State.now_advanceTo]
  exact le_max_right _ _

end

end Sys2Proof.Machine
end

section
namespace Sys2Proof.Machine

section
variable {s u : State} {i b : Nat}

/-! ### Refresh (O31) -/

theorem debtOf_setDebt (q : PortState) (b n : Nat) : (q.setDebt b n).debtOf b = n := by
  unfold PortState.setDebt PortState.debtOf
  split
  · next hn => simp [hn]
  · simp

/-- An operation that begins takes a token, closes its row and is counted; the debt is what stands at its bank (R173, R191, R206). -/
theorem beginRefresh_begins (hregs : u.regs = s.regs) (hdram : u.dram = s.dram) (hport : ∀ j, j ≠ i → u.port j = s.port j)
    (hrefreshing : (u.port i).refreshing = (s.port i).refreshing) (b : Nat) (urgent : Bool) :
    RefreshBegins i b urgent ((u.port i).debtOf b) s (u.beginRefresh i b urgent) := by
  have hread (f : Fld) : u.getF f = s.getF f := State.getF_congr hregs f
  have hopsUrgent : (F.HYP_REF_OPS_COUNT i).addr ≠ (F.HYP_REF_URGENT_COUNT i).addr := by simp [F.HYP_REF_OPS_COUNT, F.HYP_REF_URGENT_COUNT]
  have hopsPeak : (F.HYP_REF_OPS_COUNT i).addr ≠ (F.DIE_BK_PEAK_TOK (siteDie i)).addr := by simp only [F.HYP_REF_OPS_COUNT, F.DIE_BK_PEAK_TOK]; omega
  have hurgentPeak : (F.HYP_REF_URGENT_COUNT i).addr ≠ (F.DIE_BK_PEAK_TOK (siteDie i)).addr := by
    simp only [F.HYP_REF_URGENT_COUNT, F.DIE_BK_PEAK_TOK]; omega
  refine ⟨?_, ?_, ?_, ?_, ?_, hdram, fun j hj => ?_, ?_⟩
  · simp [State.beginRefresh, State.tokenPeak, hrefreshing]
  · simp [State.beginRefresh, State.tokenPeak]
  · simp [State.beginRefresh, State.tokenPeak, PortState.debtOf]
  · rw [State.beginRefresh, State.tokenPeak, getF_setF_ne _ _ hopsPeak, getF_countF_ne _ _ hopsUrgent, ← hread]
    exact getF_countF (f := F.HYP_REF_OPS_COUNT i) (by decide : 0 + 32 ≤ 32)
  · rw [State.beginRefresh, State.tokenPeak, getF_setF_ne _ _ hurgentPeak, ← hread]
    exact (getF_countF (f := F.HYP_REF_URGENT_COUNT i) (by decide : 0 + 32 ≤ 32)).trans (by rw [getF_countF_ne _ _ hopsUrgent.symm]; rfl)
  · simp [State.beginRefresh, State.tokenPeak, port_setPort_ne _ _ hj, hport j hj]
  · exact (((SameRegs.of_regs (t := u.setPort i _) hregs).countF (f := F.HYP_REF_OPS_COUNT i) 1 (.inl rfl)).countF
      (f := F.HYP_REF_URGENT_COUNT i) _ (.inr (.inl rfl))).setF _ (.inr (.inr rfl))

@[simp] theorem now_beginRefresh (s : State) (i b : Nat) (urgent : Bool) : (s.beginRefresh i b urgent).now = s.now := by
  simp [State.beginRefresh, State.tokenPeak]

/-- The bank has no place for a refresh operation: it runs an operation of its engine, is in a refresh or holds a scrub's token. -/
def PortState.taken (q : PortState) (b : Nat) : Bool := q.inOp b || q.refreshing.contains b || q.scrubbing.any (fun x => x.1 == b)

/-! An interval elapses (R190) -/

/-- The end of a bank's operation interval. -/
def State.refreshAt (s : State) (i b : Nat) : Nat := (tabGet (s.port i).refAt b).getD 0 + s.refInterval i b

/-- The port, once the end of the interval is noted. -/
def State.portDue (s : State) (i b : Nat) : PortState :=
  { s.port i with refAt := tabPut (s.port i).refAt b (s.advanceTo (s.refreshAt i b)).now }

/-- The state, once the end of the interval is noted. -/
def State.due (s : State) (i b : Nat) : State := (s.advanceTo (s.refreshAt i b)).setPort i (s.portDue i b)

theorem refreshDue_idle (hon : s.refreshOn i b = true) (htaken : (s.port i).taken b = false) (htokens : (s.port i).tokens < 8)
    (hbusy : (s.port i).busyBank b = false) :
    exec (.refreshDue i b) s = .next ((s.due i b).beginRefresh i b (decide (s.debtLimit i b ≤ (s.port i).debtOf b))) := by
  have hruns : (!(s.port i).taken b && decide ((s.port i).tokens < 8) && !(s.port i).busyBank b) = true := by simp [htaken, htokens, hbusy]
  exact (if_neg (by simp [hon])).trans (if_pos hruns)

theorem refreshDue_urgent (hon : s.refreshOn i b = true) (htaken : (s.port i).taken b = false) (htokens : (s.port i).tokens < 8)
    (hbusy : (s.port i).busyBank b = true) (hlim : s.debtLimit i b ≤ (s.port i).debtOf b + 1) :
    exec (.refreshDue i b) s = .next ((s.due i b).beginRefresh i b true) := by
  have hwaits : ¬ (!(s.port i).taken b && decide ((s.port i).tokens < 8) && !(s.port i).busyBank b) = true := by simp [hbusy]
  have hruns : (!(s.port i).taken b && decide ((s.port i).tokens < 8) && decide (s.debtLimit i b ≤ (s.port i).debtOf b + 1)) = true := by
    simp [htaken, htokens, hlim]
  exact (if_neg (by simp [hon])).trans ((if_neg hwaits).trans (if_pos hruns))

theorem refreshDue_postponed (hon : s.refreshOn i b = true)
    (hwaits : (s.port i).taken b = true ∨ 8 ≤ (s.port i).tokens ∨ ((s.port i).busyBank b = true ∧ (s.port i).debtOf b + 1 < s.debtLimit i b)) :
    exec (.refreshDue i b) s = .next ((s.advanceTo (s.refreshAt i b)).setPort i ((s.portDue i b).setDebt b ((s.port i).debtOf b + 1))) := by
  have hnow : ¬ (!(s.port i).taken b && decide ((s.port i).tokens < 8) && !(s.port i).busyBank b) = true := by
    obtain htaken | htokens | ⟨hbusy, -⟩ := hwaits
    · simp [htaken]
    · simp [Nat.not_lt.mpr htokens]
    · simp [hbusy]
  have hurgent : ¬ (!(s.port i).taken b && decide ((s.port i).tokens < 8) && decide (s.debtLimit i b ≤ (s.port i).debtOf b + 1)) = true := by
    obtain htaken | htokens | ⟨-, hlim⟩ := hwaits
    · simp [htaken]
    · simp [Nat.not_lt.mpr htokens]
    · simp [Nat.not_le.mpr hlim]
  exact (if_neg (by simp [hon])).trans ((if_neg hnow).trans (if_neg hurgent))

theorem due_begins (s : State) (i b : Nat) (urgent : Bool) :
    RefreshBegins i b urgent ((s.port i).debtOf b) s ((s.due i b).beginRefresh i b urgent) := by
  have hport : (s.due i b).port i = s.portDue i b := port_setPort_same _ _ _
  have h := beginRefresh_begins (s := s) (u := s.due i b) (i := i) rfl rfl (fun j hj => port_setPort_ne _ _ hj) (by rw [hport]; rfl) b urgent
  rw [hport] at h
  exact h

theorem due_waits (s : State) (i b : Nat) (urgent : Bool) : s.refreshAt i b ≤ ((s.due i b).beginRefresh i b urgent).now := by
  rw [now_beginRefresh]
  exact le_now_advanceTo _ _

/-! A postponed operation is paid back (R191) -/

/-- When the bank's idle time allows a postponed operation: at the debt limit at once. -/
def State.paying (s : State) (i b : Nat) : State :=
  if s.debtLimit i b ≤ (s.port i).debtOf b then s else s.advanceTo ((tabGet (s.port i).idleFrom b).getD 0 + 20)

theorem paying_cases (s : State) (i b : Nat) : s.paying i b = s ∨ ∃ n, s.paying i b = s.advance n := by
  unfold State.paying
  split
  · exact .inl rfl
  · exact .inr ⟨_, rfl⟩

theorem refreshPayback_pays (hon : s.refreshOn i b = true) (htaken : (s.port i).taken b = false) (htokens : (s.port i).tokens < 8)
    (hdebt : 0 < (s.port i).debtOf b) (hfree : (s.port i).busyBank b = false ∨ s.debtLimit i b ≤ (s.port i).debtOf b) :
    exec (.refreshPayback i b) s = .next (((s.paying i b).setPort i ((s.port i).setDebt b ((s.port i).debtOf b - 1))).beginRefresh i b
      (decide (s.debtLimit i b ≤ (s.port i).debtOf b))) := by
  obtain ⟨⟨hop, hrefreshing⟩, hscrub⟩ : ((s.port i).inOp b = false ∧ b ∉ (s.port i).refreshing) ∧
      (s.port i).scrubbing.any (fun x => x.1 == b) = false := by simpa [PortState.taken] using htaken
  have hbusy : ((s.port i).busyBank b && decide ((s.port i).debtOf b < s.debtLimit i b)) = false := by
    obtain hidle | hlim := hfree
    · simp [hidle]
    · simp [Nat.not_lt.mpr hlim]
  have hexec : exec (.refreshPayback i b) s = .next (((s.paying i b).setPort i (((s.paying i b).port i).setDebt b (((s.paying i b).port i).debtOf b - 1))).beginRefresh i b
      (decide ((s.paying i b).debtLimit i b ≤ ((s.paying i b).port i).debtOf b))) :=
    if_neg (by simp [Nat.ne_of_gt hdebt, hop, hrefreshing, hbusy, hscrub, Nat.not_le.mpr htokens, hon])
  obtain hsame | ⟨n, hn⟩ := paying_cases s i b
  · rw [hexec, hsame]
  · rw [hexec, hn]
    rfl

theorem paying_begins (s : State) (i b n : Nat) (urgent : Bool) :
    RefreshBegins i b urgent n s (((s.paying i b).setPort i ((s.port i).setDebt b n)).beginRefresh i b urgent) := by
  have hbegins {u : State} (hregs : u.regs = s.regs) (hdram : u.dram = s.dram) (hport : ∀ j, u.port j = s.port j) :
      RefreshBegins i b urgent n s ((u.setPort i ((s.port i).setDebt b n)).beginRefresh i b urgent) := by
    have h := beginRefresh_begins (s := s) (u := u.setPort i ((s.port i).setDebt b n)) hregs hdram
      (fun j hj => (port_setPort_ne _ _ hj).trans (hport j)) (by rw [port_setPort_same]; rfl) b urgent
    rwa [port_setPort_same, debtOf_setDebt] at h
  obtain hsame | ⟨k, hk⟩ := paying_cases s i b
  · rw [hsame]
    exact hbegins rfl rfl fun _ => rfl
  · rw [hk]
    exact hbegins rfl rfl fun _ => rfl

theorem paying_waits (h : (s.port i).debtOf b < s.debtLimit i b) (q : PortState) (urgent : Bool) :
    (tabGet (s.port i).idleFrom b).getD 0 + 20 ≤ (((s.paying i b).setPort i q).beginRefresh i b urgent).now := by
  rw [now_beginRefresh, State.setPort_now, State.paying, if_neg (Nat.not_le.mpr h)]
  exact le_now_advanceTo _ _

/-! An operation ends (R191) -/

/-- The port of a bank whose operation has ended. -/
def State.portRefreshed (s : State) (i b : Nat) : PortState :=
  { s.port i with refreshing := (s.port i).refreshing.filter (· != b), idleFrom := tabPut (s.port i).idleFrom b s.now }

/-- The state in which the bank's operation has ended. -/
def State.refreshed (s : State) (i b : Nat) : State := s.setPort i (s.portRefreshed i b)

theorem refreshComplete_eq (hin : (s.port i).refreshing.contains b = true) : exec (.refreshComplete i b) s =
    if 0 < (s.port i).debtOf b ∧ s.debtLimit i b ≤ (s.port i).debtOf b then
      .next (((s.refreshed i b).setPort i ((s.portRefreshed i b).setDebt b ((s.port i).debtOf b - 1))).beginRefresh i b true)
    else .next (s.refreshed i b) := by
  have hport : (s.refreshed i b).port i = s.portRefreshed i b := port_setPort_same _ _ _
  have hexec : exec (.refreshComplete i b) s = if (decide (0 < ((s.refreshed i b).port i).debtOf b) &&
      decide (s.debtLimit i b ≤ ((s.refreshed i b).port i).debtOf b)) = true then
        .next (((s.refreshed i b).setPort i (((s.refreshed i b).port i).setDebt b (((s.refreshed i b).port i).debtOf b - 1))).beginRefresh i b true)
      else .next (s.refreshed i b) := if_pos hin
  rw [hexec, hport]
  simp only [Bool.and_eq_true, decide_eq_true_eq]
  rfl

/-- The next urgent operation takes the token that the last one has freed. -/
theorem refreshed_urgent (s : State) (i b n : Nat) :
    ∃ t, ((s.refreshed i b).setPort i ((s.portRefreshed i b).setDebt b n)).beginRefresh i b true = t ∧
      (t.port i).refreshing = (s.port i).refreshing.filter (· != b) ++ [b] ∧ (t.port i).debtOf b = n ∧
      t.getF (F.HYP_REF_URGENT_COUNT i) = satAdd (s.getF (F.HYP_REF_URGENT_COUNT i)) 1 (2 ^ (F.HYP_REF_URGENT_COUNT i).width - 1) ∧ t.dram = s.dram := by
  have hport : ((s.refreshed i b).setPort i ((s.portRefreshed i b).setDebt b n)).port i = (s.portRefreshed i b).setDebt b n := port_setPort_same _ _ _
  obtain ⟨hrefreshing, -, hdebt, -, hurgent, hdram, -⟩ :=
    beginRefresh_begins (u := (s.refreshed i b).setPort i ((s.portRefreshed i b).setDebt b n)) rfl rfl (fun _ _ => rfl) rfl b true
  rw [hport] at hrefreshing hdebt
  exact ⟨_, rfl, hrefreshing, hdebt.trans (debtOf_setDebt ..), hurgent, hdram⟩

/-! A row closes (R173) -/

/-- The state in which a bank's row has closed, no sooner than 200 ns after its last use. -/
def State.rowClosed (s : State) (i b at_ : Nat) : State :=
  (s.advanceTo (at_ + 20)).setPort i { s.port i with openRows := tabDel (s.port i).openRows b }

theorem rowIdleClose_of_open {row at_ : Nat} (h : tabGet (s.port i).openRows b = some (row, at_)) :
    exec (.rowIdleClose i b) s = .next (s.rowClosed i b at_) := by
  show execRowIdleClose i b s = _
  rw [execRowIdleClose, h]
  rfl

/-- Settles O31: an interval's end by `refreshDue_idle`, `refreshDue_urgent` and `refreshDue_postponed`, the paying back by `refreshPayback_pays`, the end of an
operation by `refreshComplete_eq`, and the row by `rowIdleClose_of_open`; what begins does so by `beginRefresh_begins`. -/
theorem refresh : Obligations.Refresh := by
  intro i b s hon q taken due d lim
  refine ⟨fun htaken htokens hbusy => ⟨_, refreshDue_idle hon htaken htokens hbusy, due_waits s i b _, due_begins s i b _⟩,
    fun htaken htokens hbusy hlim => ⟨_, refreshDue_urgent hon htaken htokens hbusy hlim, due_waits s i b _, due_begins s i b _⟩,
    fun hwaits => ⟨_, refreshDue_postponed hon hwaits, le_now_advanceTo _ _, ?_, ?_, rfl, rfl⟩,
    fun htaken htokens hdebt hfree => ⟨_, refreshPayback_pays hon htaken htokens hdebt hfree, paying_begins s i b _ _, fun hlim => paying_waits hlim _ _⟩,
    fun hin => ⟨fun hdebt hlim => ?_, fun hlim => ⟨s.refreshed i b, ?_, ?_, ?_, rfl, rfl⟩⟩,
    fun row at_ hopen => ⟨_, rowIdleClose_of_open hopen, le_now_advanceTo _ _, ?_, fun c hc => ?_, rfl, rfl⟩⟩
  · rw [port_setPort_same, debtOf_setDebt]
  · rw [port_setPort_same]
    rfl
  · obtain ⟨t, ht, hurgent⟩ := refreshed_urgent s i b (d - 1)
    exact ⟨t, (refreshComplete_eq hin).trans ((if_pos ⟨hdebt, hlim⟩).trans (congrArg _ ht)), hurgent⟩
  · exact (refreshComplete_eq hin).trans (if_neg fun h => absurd h.2 (Nat.not_le.mpr hlim))
  · rw [State.refreshed, port_setPort_same]
    rfl
  · rw [State.refreshed, port_setPort_same]
    rfl
  · rw [State.rowClosed, port_setPort_same]
    exact tabGet_tabDel_same _ _
  · rw [State.rowClosed, port_setPort_same]
    exact tabGet_tabDel_ne _ hc

end

end Sys2Proof.Machine
end

section
namespace Sys2Proof.Machine

section
variable {s t u : State} {i n id st : Nat} {p : Packet}

/-! ### Answers of a port (R181, R193) -/

theorem respond_answers (s : State) (p : Packet) (i ty st : Nat) (d : List Byte) : Answered i ty st d p s (s.respond p i ty st d) :=
  ⟨rfl, _, tabGet_tabPut_same _ _ _, rfl, rfl, rfl, rfl, rfl, rfl, rfl, rfl, rfl⟩

theorem portAnswer_refused (h : st ≠ 0) (s : State) (i : Nat) (p : Packet) (d : List Byte) :
    s.portAnswer i p st d = (s.portErr i p.ty p.addr st).respond p i (answerTy p) st d := by
  rw [State.portAnswer, if_neg h]
  rfl

/-- The registers that record a refused request: HYP_ERR and HYP_LASTERR. -/
def errReg (i a : Nat) : Prop := a = pgHyp i + 0x108 ∨ a = pgHyp i + 0x10C

theorem portErr_only (s : State) (i ty addr st : Nat) : OnlyRegs (errReg i) s (s.portErr i ty addr st) :=
  ((((OnlyRegs.refl.countF (f := F.HYP_ERR_COUNT i) 1 (.inl rfl)).setF (f := F.HYP_LASTERR_TYPE i) ty (.inr rfl)).setF
    (f := F.HYP_LASTERR_STATUS i) st (.inr rfl)).setF (f := F.HYP_LASTERR_SPACE i) _ (.inr rfl)).setF (f := F.HYP_LASTERR_DROW i) _ (.inr rfl)

theorem portErr_counts (s : State) (i ty addr st : Nat) :
    (s.portErr i ty addr st).getF (F.HYP_ERR_COUNT i) = satAdd (s.getF (F.HYP_ERR_COUNT i)) 1 (2 ^ (F.HYP_ERR_COUNT i).width - 1) := by
  have hlast : (F.HYP_ERR_COUNT i).addr ≠ 0x800000 + 0x1000 * i + 0x10C := by simp only [F.HYP_ERR_COUNT]; omega
  rw [State.portErr, getF_setF_ne _ _ hlast, getF_setF_ne _ _ hlast, getF_setF_ne _ _ hlast, getF_setF_ne _ _ hlast]
  exact getF_countF (f := F.HYP_ERR_COUNT i) (by decide : 0 + 32 ≤ 32)

theorem portErr_shows {ty : Nat} (hty : ty < 2 ^ 8) (hst : st < 2 ^ 4) (s : State) (i addr : Nat) :
    (s.portErr i ty addr st).getF (F.HYP_LASTERR_TYPE i) = ty ∧ (s.portErr i ty addr st).getF (F.HYP_LASTERR_STATUS i) = st ∧
    (s.portErr i ty addr st).getF (F.HYP_LASTERR_SPACE i) = dpaSpace addr := by
  have hspace : dpaSpace addr < 2 ^ 2 := bits_lt _ _ _
  refine ⟨?_, ?_, ?_⟩ <;>
    simp (disch := decide) only [State.portErr, F.HYP_LASTERR_TYPE, F.HYP_LASTERR_STATUS, F.HYP_LASTERR_SPACE, F.HYP_LASTERR_DROW, getF_setF_other_bits,
      getF_setF_bits, Nat.mod_eq_of_lt hty, Nat.mod_eq_of_lt hst, Nat.mod_eq_of_lt hspace]

/-- A request is answered with a status and no data, counted and shown, and nothing else has changed but the packets (R181, R193). -/
def Refused (i st : Nat) (p : Packet) (s t : State) : Prop :=
  Answered i (answerTy p) st [] p s t ∧
  t.getF (F.HYP_ERR_COUNT i) = satAdd (s.getF (F.HYP_ERR_COUNT i)) 1 (2 ^ (F.HYP_ERR_COUNT i).width - 1) ∧
  t.getF (F.HYP_LASTERR_TYPE i) = p.ty ∧ t.getF (F.HYP_LASTERR_STATUS i) = st ∧ t.getF (F.HYP_LASTERR_SPACE i) = dpaSpace p.addr ∧
  SameRegs (errReg i) s t ∧ t = { s with regs := t.regs, packets := t.packets, nextPkt := t.nextPkt, mesh := t.mesh }

theorem respond_refuses (honly : OnlyRegs (errReg i) (s.dropPkt id) u)
    (hcount : u.getF (F.HYP_ERR_COUNT i) = satAdd (s.getF (F.HYP_ERR_COUNT i)) 1 (2 ^ (F.HYP_ERR_COUNT i).width - 1))
    (htype : u.getF (F.HYP_LASTERR_TYPE i) = p.ty) (hstatus : u.getF (F.HYP_LASTERR_STATUS i) = st)
    (hspace : u.getF (F.HYP_LASTERR_SPACE i) = dpaSpace p.addr) : Refused i st p s (u.respond p i (answerTy p) st []) := by
  obtain ⟨hrest, hregs⟩ := honly
  have hnext : u.nextPkt = s.nextPkt := by rw [hrest]; rfl
  have hanswered := respond_answers u p i (answerTy p) st []
  rw [Answered, hnext] at hanswered
  refine ⟨hanswered, hcount, htype, hstatus, hspace, hregs, ?_⟩
  rw [State.respond, State.inject, hrest]
  rfl

/-- The packet that asked is gone, and its request refused. -/
theorem portAnswer_refuses (hty : p.ty < 2 ^ 8) (hst : st ≠ 0) (hlt : st < 2 ^ 4) (s : State) (i id : Nat) :
    Refused i st p s ((s.dropPkt id).portAnswer i p st []) := by
  obtain ⟨htype, hstatus, hspace⟩ := portErr_shows hty hlt (s.dropPkt id) i p.addr
  rw [portAnswer_refused hst]
  exact respond_refuses (portErr_only _ i p.ty p.addr st) (portErr_counts (s.dropPkt id) i p.ty p.addr st) htype hstatus hspace

/-! ### A request is judged on arrival (O29) -/

/-- A request keeps the rules of its space: R187 for an expanding one, which is a read, and else R181. -/
def State.formed (s : State) (i : Nat) (p : Packet) : Prop :=
  if dpaSpace p.addr = 1 then p.ty = 0x10 ∧ s.expandOk i p = true else plainOk p = true

theorem formed_iff (s : State) (i : Nat) (p : Packet) :
    s.formed i p ↔ ¬ (if dpaSpace p.addr = 1 then !(decide (p.ty = 0x10) && s.expandOk i p) else !plainOk p) = true := by
  unfold State.formed
  split <;> simp

theorem portTake_failed (h : s.hal i = halFailed) : s.portTake i p = s.portAnswer i p stColFail [] := if_pos h

theorem portTake_hole (hhal : s.hal i = halActive) (hhole : isHole p.addr = true) : s.portTake i p = s.portAnswer i p stHole [] :=
  (if_neg (by rw [hhal]; decide)).trans (if_pos hhole)

theorem portTake_malformed (hhal : s.hal i = halActive) (hhole : isHole p.addr = false) (hform : ¬ s.formed i p) :
    s.portTake i p = s.portAnswer i p stMalformed [] :=
  (if_neg (by rw [hhal]; decide)).trans ((if_neg (by simp [hhole])).trans (if_pos (not_not.mp ((formed_iff s i p).not.mp hform))))

theorem portTake_retired (hhal : s.hal i = halActive) (hhole : isHole p.addr = false) (hform : s.formed i p) (hspace : dpaSpace p.addr ≠ 2)
    (hbank : s.bankRetired i (dpaBank p.addr) = true) : s.portTake i p = s.portAnswer i p stColFail [] :=
  (if_neg (by rw [hhal]; decide)).trans ((if_neg (by simp [hhole])).trans ((if_neg ((formed_iff s i p).mp hform)).trans (if_pos (by simp [hspace, hbank]))))

/-- The request as it joins its port's queue: OWN where the site's own core sent it (R179). -/
def State.joining (s : State) (i : Nat) (p : Packet) : PortReq := ⟨p, p.srcKind == 0 && !p.clu && p.src == siteNum i, s.now, false⟩

/-- The request has joined the port's queue, and a free place is granted. -/
def State.queued (s : State) (i : Nat) (p : Packet) : State :=
  s.setPort i { s.port i with
    reqs := grantNext (s.port i).expand.length 1 (tabPut (s.port i).reqs (s.port i).nextReq (s.joining i p))
    nextReq := (s.port i).nextReq + 1 }

/-- A request that joins the queue changes its port, and HYP_BK_HELD where a bank operation makes it wait (R210). -/
theorem portTake_queued (hhal : s.hal i = halActive) (hhole : isHole p.addr = false) (hform : s.formed i p)
    (hbank : dpaSpace p.addr = 2 ∨ s.bankRetired i (dpaBank p.addr) = false) :
    OnlyRegs (fun a => a = pgHyp i + 0x414) (s.queued i p) (s.portTake i p) := by
  have htake : s.portTake i p = if (s.queued i p).bankVerdict i (s.port i).nextReq p = 2 then (s.queued i p).countF (F.HYP_BK_HELD_COUNT i) 1
      else s.queued i p :=
    (if_neg (by rw [hhal]; decide)).trans ((if_neg (by simp [hhole])).trans ((if_neg ((formed_iff s i p).mp hform)).trans
      (if_neg (by obtain h | h := hbank <;> simp [h]))))
  rw [htake]
  split
  · exact OnlyRegs.refl.countF (f := F.HYP_BK_HELD_COUNT i) 1 rfl
  · exact .refl

theorem mem_of_find?_orElse {α : Type} {l : List α} {f g : α → Bool} {e : α} (h : (l.find? f).orElse (fun _ => l.find? g) = some e) : e ∈ l := by
  cases hf : l.find? f with
  | some a =>
    rw [hf] at h
    exact Option.some.inj h ▸ List.mem_of_find?_eq_some hf
  | none =>
    rw [hf] at h
    exact List.mem_of_find?_eq_some h

theorem not_mem_of_tabGet_none {α : Type} {l : Tab α} {e : Nat × α} (h : tabGet l e.1 = none) : e ∉ l := by
  induction l with
  | nil => exact List.not_mem_nil
  | cons f l ih =>
    obtain ⟨k, v⟩ := f
    rw [tabGet] at h
    split at h
    · exact absurd h nofun
    · next hne => exact List.not_mem_cons_of_ne_of_not_mem (fun he => hne (by rw [he])) (ih h)

/-- A grant changes of a request no more than that it is granted, so that a request that has joined under a free number is found there. -/
theorem tabGet_grantNext_joined {l : Tab PortReq} (hfree : tabGet l n = none) (x : Nat) (r : PortReq) :
    ∃ g, tabGet (grantNext x 1 (tabPut l n r)) n = some { r with granted := g } := by
  have hjoined : tabGet (tabPut l n r) n = some { r with granted := r.granted } := tabGet_tabPut_same _ _ _
  unfold grantNext
  dsimp only
  split
  · exact ⟨_, hjoined⟩
  split
  next e he =>
    obtain rfl | hold := mem_tabPut_entry (mem_of_find?_orElse he)
    · exact ⟨true, tabGet_tabPut_same _ _ _⟩
    · have hne : n ≠ e.1 := fun h => not_mem_of_tabGet_none (h ▸ hfree) hold
      exact ⟨_, (tabGet_tabPut_ne _ _ hne).trans hjoined⟩
  next => exact ⟨_, hjoined⟩

/-- The request stands in the queue under the number that was free, and of memory, the packets, the other ports and the registers outside `r` nothing has changed. -/
theorem queued_joins {r : Nat → Prop} (h : OnlyRegs r (s.queued i p) t) (hfree : tabGet (s.port i).reqs (s.port i).nextReq = none) :
    ∃ x, tabGet (t.port i).reqs (s.port i).nextReq = some x ∧ x.pkt = p ∧ x.since = s.now ∧
      (x.own = true ↔ p.srcKind = 0 ∧ p.clu = false ∧ p.src = siteNum i) ∧ (t.port i).nextReq = (s.port i).nextReq + 1 ∧
      t.packets = s.packets ∧ t.dram = s.dram ∧ SameRegs r s t ∧ ∀ j, j ≠ i → t.port j = s.port j := by
  obtain ⟨honly, hregs⟩ := h
  have hport (j : Nat) : t.port j = (s.queued i p).port j := by rw [honly]; rfl
  obtain ⟨g, hg⟩ := tabGet_grantNext_joined hfree (s.port i).expand.length (s.joining i p)
  refine ⟨{ s.joining i p with granted := g }, ?_, rfl, rfl, ?_, ?_, ?_, ?_, hregs, fun j hj => (hport j).trans (port_setPort_ne _ _ hj)⟩
  · rw [hport, State.queued, port_setPort_same]
    exact hg
  · simp [State.joining, and_assoc]
  · rw [hport, State.queued, port_setPort_same]
  · rw [honly]
    rfl
  · rw [honly]
    rfl

/-! The packet reaches the port (R152, R183) -/

theorem memArrive_takes (hp : s.pkt id = some p) (hplace : p.place = .hal i) (horder : s.inOrder id p = true)
    (hhal : s.hal i = halActive ∨ s.hal i = halFailed) : s.memArrive id p.ty = (s.dropPkt id).portTake i p := by
  have hat : s.atPort id [p.ty] = some (i, p) := by
    obtain h | h := hhal <;> simp [State.atPort, hp, hplace, horder, h]
  rw [State.memArrive, hat]

theorem exec_hrd_hwr (hty : p.ty = 0x10 ∨ p.ty = 0x11) (id : Nat) (s : State) :
    exec (if p.ty = 0x10 then .hrd id else .hwr id) s = .next (s.memArrive id p.ty) := by
  obtain h | h := hty <;> rw [h] <;> rfl

/-! The aged grant (R179) -/

/-- The requests in flight at a port. -/
def PortState.inFlight (q : PortState) : Nat := (q.reqs.filter (fun e => e.2.granted)).length

/-- Expanding reads that the port holds, in flight or at the expansion unit. -/
def PortState.expanding (q : PortState) : Nat := q.expand.length + (q.reqs.filter (fun e => e.2.granted && dpaSpace e.2.pkt.addr == 1)).length

theorem agedRemoteGrant_full (h : 32 ≤ (s.port i).inFlight) : exec (.agedRemoteGrant i) s = .next s := by
  show execAgedRemoteGrant i s = _
  unfold execAgedRemoteGrant
  split
  · rfl
  · exact if_pos (by simp only [Bool.or_eq_true, decide_eq_true_eq]; exact .inl h)

/-- The instant of the next aged grant. -/
def State.agedDue (s : State) (i : Nat) (r : PortReq) : Nat := max r.since (s.port i).agedAt + 10 * s.getF (F.HYP_ARB_AGE i)

/-- A waiting request has been granted, not sooner than its age allows. -/
def State.agedGranted (s : State) (i : Nat) (e : Nat × PortReq) : State :=
  (s.advanceTo (s.agedDue i e.2)).setPort i { s.port i with
    reqs := tabPut (s.port i).reqs e.1 { e.2 with granted := true }
    agedAt := (s.advanceTo (s.agedDue i e.2)).now }

theorem agedRemoteGrant_grants {e : Nat × PortReq} (he : (s.port i).reqs.find? (fun e => !e.2.own && !e.2.granted) = some e)
    (hroom : (s.port i).inFlight < 32) (hexpand : dpaSpace e.2.pkt.addr = 1 → (s.port i).expanding < 16) :
    exec (.agedRemoteGrant i) s = .next (if (s.port i).reqs.any (fun x => x.2.own && !x.2.granted) then
      (s.agedGranted i e).countF (F.HYP_ARB_AGED_COUNT i) 1 else s.agedGranted i e) := by
  show execAgedRemoteGrant i s = _
  unfold execAgedRemoteGrant
  rw [he]
  refine if_neg ?_
  simp only [Bool.or_eq_true, Bool.and_eq_true, decide_eq_true_eq, beq_iff_eq, not_or, not_and, Nat.not_le]
  exact ⟨hroom, hexpand⟩

theorem getF_count_if (b : Bool) (s : State) (f : Fld) (hf : f.fits) :
    (if b then s.countF f 1 else s).getF f = satAdd (s.getF f) (b2n b) (2 ^ f.width - 1) := by
  cases b with
  | true => exact getF_countF hf
  | false => exact (satAdd_eq (b := 0) (Nat.le_sub_one_of_lt (s.getF_lt f))).symm

theorem agedGranted_shows (s : State) (i : Nat) (e : Nat × PortReq) (b : Bool) :
    ∃ t, (if b then (s.agedGranted i e).countF (F.HYP_ARB_AGED_COUNT i) 1 else s.agedGranted i e) = t ∧ s.agedDue i e.2 ≤ t.now ∧
      tabGet (t.port i).reqs e.1 = some { e.2 with granted := true } ∧ t.dram = s.dram ∧
      t.getF (F.HYP_ARB_AGED_COUNT i) = satAdd (s.getF (F.HYP_ARB_AGED_COUNT i)) (b2n b) (2 ^ (F.HYP_ARB_AGED_COUNT i).width - 1) := by
  have hnow : s.agedDue i e.2 ≤ (s.agedGranted i e).now := le_now_advanceTo _ _
  have hreq : tabGet ((s.agedGranted i e).port i).reqs e.1 = some { e.2 with granted := true } := by
    rw [State.agedGranted, port_setPort_same]
    exact tabGet_tabPut_same _ _ _
  have hcount := getF_count_if b (s.agedGranted i e) (F.HYP_ARB_AGED_COUNT i) (by decide : 0 + 32 ≤ 32)
  cases b with
  | true => exact ⟨_, rfl, hnow, hreq, rfl, hcount⟩
  | false => exact ⟨_, rfl, hnow, hreq, rfl, hcount⟩

/-- Settles O29: a refusal by `portAnswer_refuses`, what joins the queue by `portTake_queued` and `tabGet_grantNext_joined`, the aged grant by
`agedRemoteGrant_full` and `agedRemoteGrant_grants`. -/
theorem portTakes : Obligations.PortTakes := by
  intro id i p s hp hplace horder hty out formed Refuses
  have hlt : p.ty < 2 ^ 8 := by obtain h | h := hty <;> rw [h] <;> decide
  have harrives (hhal : s.hal i = halActive ∨ s.hal i = halFailed) : out = .next ((s.dropPkt id).portTake i p) :=
    (exec_hrd_hwr hty id s).trans (congrArg _ (memArrive_takes hp hplace horder hhal))
  have hrefuses {st : Nat} (hhal : s.hal i = halActive ∨ s.hal i = halFailed) (htake : (s.dropPkt id).portTake i p = (s.dropPkt id).portAnswer i p st [])
      (hst : st ≠ 0) (hst4 : st < 2 ^ 4) : Refuses st :=
    ⟨_, (harrives hhal).trans (congrArg _ htake), portAnswer_refuses hlt hst hst4 s i id⟩
  refine ⟨fun hfail => hrefuses (.inr hfail) (portTake_failed hfail) (by decide) (by decide), fun hactive => ⟨fun hhole => ?_, fun hhole hform => ?_,
    fun hhole hform hspace hbank => ?_, fun hhole hform hbank hfree => ?_⟩, agedRemoteGrant_full, fun e he hroom hexpand => ?_⟩
  · exact hrefuses (.inl hactive) (portTake_hole hactive hhole) (by decide) (by decide)
  · exact hrefuses (.inl hactive) (portTake_malformed hactive hhole hform) (by decide) (by decide)
  · exact hrefuses (.inl hactive) (portTake_retired hactive hhole hform hspace hbank) (by decide) (by decide)
  · obtain ⟨r, hreq, hpkt, hsince, hown, hnext, hpackets, hdram, hregs, hports⟩ :=
      queued_joins (portTake_queued (s := s.dropPkt id) hactive hhole hform hbank) hfree
    exact ⟨_, r, harrives (.inl hactive), hreq, hpkt, hsince, hown, hnext, by rw [State.pkt, hpackets]; exact pkt_dropPkt_same s id, hdram, hregs, hports⟩
  · obtain ⟨t, ht, hshows⟩ := agedGranted_shows s i e ((s.port i).reqs.any (fun x => x.2.own && !x.2.granted))
    exact ⟨t, (agedRemoteGrant_grants he hroom hexpand).trans (congrArg _ ht), hshows⟩

end

end Sys2Proof.Machine
end

section
namespace Sys2Proof.Machine

section
variable {s t u : State} {i n : Nat} {r : PortReq} {p : Packet}

/-! ### Bytes under a mask -/

theorem bit_succ (m k : Nat) : bit m (k + 1) = bit (m / 2) k := by
  simp only [bit_eq_testBit, Nat.testBit_succ]

theorem bit_zero_iff (m : Nat) : bit m 0 = true ↔ m % 2 = 1 := by simp [bit]

/-- The bytes written one by one. -/
def Memory.writes (m : Memory) (l : List (Nat × Byte)) : Memory := l.foldl (fun m e => m.write e.1 e.2) m

@[simp] theorem Memory.writes_cons (m : Memory) (e : Nat × Byte) (l : List (Nat × Byte)) : m.writes (e :: l) = (m.write e.1 e.2).writes l := rfl

theorem read_masked_off (m : Memory) (d : List Byte) (a mask : Nat) {c : Nat} (h : ∀ k, c = a + k → bit mask k = false ∨ d[k]? = none) :
    (m.writes (maskedFrom a mask d)).read c = m.read c := by
  induction d generalizing m a mask with
  | nil => rfl
  | cons x d ih =>
    have hrest (k : Nat) (hk : c = a + 1 + k) : bit (mask / 2) k = false ∨ d[k]? = none := by
      simpa [bit_succ] using h (k + 1) (by omega)
    unfold maskedFrom
    split
    next hon =>
      have hne : c ≠ a := fun hc => by simpa [(bit_zero_iff mask).mpr hon] using h 0 hc
      rw [Memory.writes_cons, ih _ _ _ hrest, Memory.read_write_ne _ _ hne]
    next => exact ih _ _ _ hrest

theorem read_masked_on (m : Memory) (d : List Byte) (a mask : Nat) {k : Nat} {b : Byte} (hon : bit mask k = true) (hb : d[k]? = some b) :
    (m.writes (maskedFrom a mask d)).read (a + k) = b := by
  induction d generalizing m a mask k with
  | nil => simp at hb
  | cons x d ih =>
    cases k with
    | zero =>
      have hx : x = b := by simpa using hb
      rw [maskedFrom, if_pos ((bit_zero_iff mask).mp hon), Memory.writes_cons, read_masked_off _ _ _ _ (fun k hk => by omega), Nat.add_zero,
        Memory.read_write_same, hx]
    | succ k =>
      have hstep (m : Memory) : (m.writes (maskedFrom (a + 1) (mask / 2) d)).read (a + (k + 1)) = b := by
        rw [show a + (k + 1) = a + 1 + k by omega]
        exact ih m (a + 1) (mask / 2) (bit_succ mask k ▸ hon) (by simpa using hb)
      unfold maskedFrom
      split
      · exact hstep _
      · exact hstep _

/-! ### What the service of a request leaves alone -/

/-- No packet is new, and device memory is as before. -/
structure Quiet (s t : State) : Prop where
  nextPkt : t.nextPkt = s.nextPkt
  dram : t.dram = s.dram

theorem Quiet.refl : Quiet s s := ⟨rfl, rfl⟩

theorem Quiet.ite {c : Prop} {_ : Decidable c} (ht : Quiet s t) (hu : Quiet s u) : Quiet s (if c then t else u) := by
  split
  · exact ht
  · exact hu

theorem Quiet.setF (h : Quiet s t) {f : Fld} {v : Nat} : Quiet s (t.setF f v) := ⟨h.nextPkt, h.dram⟩

theorem Quiet.setPort (h : Quiet s t) {i : Nat} {q : PortState} : Quiet s (t.setPort i q) := ⟨h.nextPkt, h.dram⟩

theorem Quiet.withRel (h : Quiet s t) {r : RelState} : Quiet s { t with rel := r } := ⟨h.nextPkt, h.dram⟩

theorem Quiet.raise (h : Quiet s t) {pg mask : Nat} : Quiet s (t.raise pg mask) := by
  have hraise := (raise_events t pg mask).1
  exact ⟨by rw [hraise, h.nextPkt], by rw [hraise, h.dram]⟩

theorem Quiet.logRecord (h : Quiet s t) {kind flags site loc synd : Nat} : Quiet s (t.logRecord kind flags site loc synd) := by
  unfold State.logRecord
  extract_lets +onlyGivenNames w0 orb wr full _ s1
  have h1 : Quiet s s1 := .ite h.setF.raise h.setF.setF.setF.setF.setF
  exact .ite (Quiet.ite h1.setF.setF.setF.setF h1).raise h1

theorem Quiet.logCode (h : Quiet s t) {kind site loc : Nat} {o : CodeOut} : Quiet s (t.logCode kind site loc o) := by
  unfold State.logCode
  split
  · exact h
  · exact h.setF.logRecord
  extract_lets +onlyGivenNames s1
  have h1 : Quiet s s1 := h.setF.raise
  split
  · exact .ite h1 h1.withRel.logRecord
  · exact h1.withRel.logRecord

theorem Quiet.dramLog (h : Quiet s t) {kind a n : Nat} : Quiet s (t.dramLog kind a n) := List.foldlRecOn _ _ h fun _ ht _ _ => ht.logCode

theorem Quiet.openRow (h : Quiet s t) {i a : Nat} : Quiet s (t.openRow i a) := by
  unfold State.openRow
  refine Quiet.setPort ?_
  split
  · exact .ite h h.setF
  · exact h

/-! Answers -/

/-- The answer to `p` is packet `n`: on RSP, on the reversed route, with the request's tag (R147, R181). -/
def SentAs (n : Nat) (p : Packet) (ty st : Nat) (d : List Byte) (t : State) : Prop :=
  ∃ q, t.pkt n = some q ∧ q.ty = ty ∧ q.aux = st ∧ q.tag = p.tag ∧ q.data = d ∧ q.route = reverseRoute p ∧ q.vc = 2

theorem portAnswer_sends (h : u.nextPkt = n) (i : Nat) (p : Packet) (st : Nat) (d : List Byte) :
    SentAs n p (answerTy p) st d (u.portAnswer i p st d) := by
  subst h
  by_cases hst : st = 0
  · rw [hst]
    exact ⟨_, tabGet_tabPut_same _ _ _, rfl, rfl, rfl, rfl, rfl, rfl⟩
  · have hnext : (u.portErr i p.ty p.addr st).nextPkt = u.nextPkt := rfl
    rw [portAnswer_refused hst, ← hnext]
    exact ⟨_, tabGet_tabPut_same _ _ _, rfl, rfl, rfl, rfl, rfl, rfl⟩

theorem portAnswer_dram (s : State) (i : Nat) (p : Packet) (st : Nat) (d : List Byte) : (s.portAnswer i p st d).dram = s.dram := by
  unfold State.portAnswer
  dsimp only
  split <;> rfl

/-- What has sent nothing and left memory alone may answer. -/
theorem Quiet.answers (h : Quiet s u) (i : Nat) (p : Packet) (st : Nat) (d : List Byte) :
    SentAs s.nextPkt p (answerTy p) st d (u.portAnswer i p st d) ∧ (u.portAnswer i p st d).dram = s.dram :=
  ⟨portAnswer_sends h.nextPkt i p st d, (portAnswer_dram u i p st d).trans h.dram⟩

theorem answerTy_read (h : p.ty = 0x10) : answerTy p = 0x12 := if_pos h

theorem answerTy_write (h : p.ty = 0x11) : answerTy p = 0x13 := if_neg (by rw [h]; decide)

/-! ### The access itself (O30) -/

/-- The request has left the queue, and its place is granted to the next. -/
def State.unqueued (s : State) (i n : Nat) : State :=
  s.setPort i { s.port i with reqs := grantNext (s.port i).expand.length 32 (tabDel (s.port i).reqs n) }

theorem halyardRequestComplete_serves (hreq : tabGet (s.port i).reqs n = some r) (hhal : s.hal i = halActive) (hgranted : r.granted = true)
    (hfirst : s.firstOnAtom i n r.pkt = true) (hbank : s.bankVerdict i n r.pkt = 0) : exec (.halyardRequestComplete i n) s = .next (s.serve i n r) := by
  show execHalyardRequestComplete i n s = _
  simp [execHalyardRequestComplete, hreq, hhal, hgranted, hfirst, hbank]

/-! Reads of DRAM (R174, R181) -/

/-- The column has been read: its row is open, its atoms are counted as OWN or REMOTE, and what its code found is logged. -/
def State.columnRead (s : State) (i : Nat) (r : PortReq) (a len : Nat) : State :=
  (((s.openRow i r.pkt.addr).countF (if r.own then F.HYP_RD_OWN_COUNT i else F.HYP_RD_REM_COUNT i) (len / 32)).countF
    (F.HYP_BUS_BUSY_COUNT i) (len / 32)).dramLog 1 a len

theorem columnRead_quiet (s : State) (i n : Nat) (r : PortReq) (a len : Nat) : Quiet s ((s.unqueued i n).columnRead i r a len) :=
  (Quiet.refl.setPort.openRow.setF.setF).dramLog

theorem Quiet.dramBad (h : Quiet s t) (a len : Nat) : t.dramBad a len = s.dramBad a len := by rw [State.dramBad, State.dramBad, h.dram]

theorem Quiet.dramData (h : Quiet s t) (a len : Nat) : t.dramData a len = s.dramData a len := by rw [State.dramData, State.dramData, h.dram]

/-- A read is answered with the bytes as the code delivers them, or without data where one is uncorrectable. -/
theorem serve_read (hty : r.pkt.ty = 0x10) (hspace : dpaSpace r.pkt.addr = 0) (i n : Nat) (s : State) :
    ∃ u, Quiet s u ∧ s.serve i n r = if s.dramBad r.pkt.addr r.pkt.len then u.portAnswer i r.pkt stUncorr []
      else u.portAnswer i r.pkt stOk (toBytes (s.dramData r.pkt.addr r.pkt.len)) := by
  have hquiet := columnRead_quiet s i n r r.pkt.addr r.pkt.len
  refine ⟨_, hquiet, ?_⟩
  rw [← hquiet.dramBad, ← hquiet.dramData]
  exact (if_neg (by rw [hspace]; decide)).trans ((if_neg (by rw [hspace]; decide)).trans (if_neg (by rw [hty]; decide)))

/-- An expanding read leaves its latent with the expansion unit. -/
theorem serve_latent (hspace : dpaSpace r.pkt.addr = 1) {lat len : Nat} (hlat : colBase i + dpaOff r.pkt.addr = lat)
    (hlen : 2 * s.xDin i (dpaXset r.pkt.addr) = len) (hgood : s.dramBad lat len = false) (n : Nat) :
    ∃ u, Quiet s u ∧ s.serve i n r = u.setPort i { u.port i with
      expand := tabPut (u.port i).expand (u.port i).nextReq (r, s.dramData lat len)
      nextReq := (u.port i).nextReq + 1 } := by
  subst hlat hlen
  have hquiet := columnRead_quiet s i n r (colBase i + dpaOff r.pkt.addr) (2 * s.xDin i (dpaXset r.pkt.addr))
  refine ⟨_, hquiet, ?_⟩
  rw [← hquiet.dramBad] at hgood
  rw [← hquiet.dramData]
  exact (if_neg (by rw [hspace]; decide)).trans ((if_pos hspace).trans (if_neg (Bool.eq_false_iff.mp hgood)))

/-! Writes of DRAM (R174, R182) -/

/-- The enabled bytes have been written, and those that the packet marks are poisoned. -/
def State.columnWritten (s : State) (i : Nat) (p : Packet) : State :=
  let k := atomsOn (writeMask p) p.len
  let u := (((s.openRow i p.addr).countF (F.HYP_WR_ATOMS_COUNT i) k).countF (F.HYP_BUS_BUSY_COUNT i) k).dramPut (maskedFrom p.addr (writeMask p) p.data)
  if p.clu || p.srcKind == 1 then (maskBytes p.aux p.len).foldl (fun s o => s.dramPoison (p.addr + o)) u else u

/-- Of device memory only marks of codewords have changed since the bytes `l` were written, and no packet is new. -/
def Wrote (l : List (Nat × Byte)) (s t : State) : Prop := t.nextPkt = s.nextPkt ∧ ∀ c, t.dram.read c = (s.dram.writes l).read c

theorem dramPut_wrote (s : State) (l : List (Nat × Byte)) : Wrote l s (s.dramPut l) := by
  unfold State.dramPut
  extract_lets +onlyGivenNames s1
  have h1 : Wrote l s s1 := ⟨rfl, fun _ => rfl⟩
  split
  · exact h1
  split
  · exact h1
  · exact h1

theorem Wrote.dramPoison {l : List (Nat × Byte)} (h : Wrote l s t) (a : Nat) : Wrote l s (t.dramPoison a) := h

theorem columnWritten_wrote (s : State) (i : Nat) (p : Packet) : Wrote (maskedFrom p.addr (writeMask p) p.data) s (s.columnWritten i p) := by
  unfold State.columnWritten
  extract_lets +onlyGivenNames k u
  have hquiet : Quiet s (((s.openRow i p.addr).countF (F.HYP_WR_ATOMS_COUNT i) k).countF (F.HYP_BUS_BUSY_COUNT i) k) := Quiet.refl.openRow.setF.setF
  have hu : Wrote (maskedFrom p.addr (writeMask p) p.data) s u := by
    obtain ⟨hnext, hread⟩ := dramPut_wrote (((s.openRow i p.addr).countF (F.HYP_WR_ATOMS_COUNT i) k).countF (F.HYP_BUS_BUSY_COUNT i) k)
      (maskedFrom p.addr (writeMask p) p.data)
    exact ⟨hnext.trans hquiet.nextPkt, fun c => (hread c).trans (by rw [hquiet.dram])⟩
  split
  · exact List.foldlRecOn _ _ hu fun _ ht o _ => ht.dramPoison (p.addr + o)
  · exact hu

/-- A write with an enabled byte writes what it enables; one without writes nothing; both are answered OK. -/
theorem serve_write (hty : r.pkt.ty = 0x11) (hspace : dpaSpace r.pkt.addr = 0) (i n : Nat) (s : State) :
    ∃ u, s.serve i n r = u.portAnswer i r.pkt stOk [] ∧
      if atomsOn (writeMask r.pkt) r.pkt.len = 0 then Quiet s u else Wrote (maskedFrom r.pkt.addr (writeMask r.pkt) r.pkt.data) s u := by
  have hserve : s.serve i n r = (if atomsOn (writeMask r.pkt) r.pkt.len = 0 then s.unqueued i n
      else (s.unqueued i n).columnWritten i r.pkt).portAnswer i r.pkt stOk [] :=
    (if_neg (by rw [hspace]; decide)).trans ((if_neg (by rw [hspace]; decide)).trans (if_pos hty))
  refine ⟨_, hserve, ?_⟩
  split
  · exact Quiet.refl.setPort
  · exact columnWritten_wrote (s.unqueued i n) i r.pkt

/-! The expansion buffer (R186) -/

theorem serve_bufferWrite (hty : r.pkt.ty = 0x11) (hspace : dpaSpace r.pkt.addr = 2) : s.serve i n r =
    ((s.unqueued i n).xbufPut i (maskedFrom (dpaOff r.pkt.addr) (writeMask r.pkt) r.pkt.data)).portAnswer i r.pkt stOk [] :=
  (if_pos hspace).trans (if_pos hty)

theorem xbufPut_quiet (s : State) (i : Nat) (l : List (Nat × Byte)) : Quiet s (s.xbufPut i l) := by
  unfold State.xbufPut
  extract_lets +onlyGivenNames q s1
  have h1 : Quiet s s1 := Quiet.refl.setPort
  split
  · exact h1
  · exact .ite h1.setPort.setF.setF h1

theorem xbufPut_read (s : State) (i : Nat) (l : List (Nat × Byte)) (c : Nat) : ((s.xbufPut i l).port i).xbuf.read c = ((s.port i).xbuf.writes l).read c := by
  unfold State.xbufPut
  extract_lets +onlyGivenNames q s1
  have hs1 : s1.port i = { s.port i with xbuf := (s.port i).xbuf.writes l } := port_setPort_same _ _ _
  split
  · rw [hs1]
  split
  · simp only [State.flipDone, port_setF, port_setPort_same, hs1]
    rfl
  · rw [hs1]

theorem unqueued_xbuf (s : State) (i n : Nat) : ((s.unqueued i n).port i).xbuf = (s.port i).xbuf := by
  rw [State.unqueued, port_setPort_same]

theorem serve_bufferRead (hty : r.pkt.ty = 0x10) (hspace : dpaSpace r.pkt.addr = 2)
    (hclean : (s.port i).xbuf.errors (dpaOff r.pkt.addr) r.pkt.len = []) : s.serve i n r =
    (s.unqueued i n).portAnswer i r.pkt stOk (toBytes ((s.port i).xbuf.deliver (dpaOff r.pkt.addr) r.pkt.len)) := by
  have hserve : s.serve i n r =
      let x := ((s.unqueued i n).port i).xbuf
      let es := x.errors (dpaOff r.pkt.addr) r.pkt.len
      let u := es.foldl (fun s e => s.logCode 7 i e.1 e.2) (s.unqueued i n)
      if es.any (fun e => e.2.bad) then u.portAnswer i r.pkt stUncorr [] else u.portAnswer i r.pkt stOk (toBytes (x.deliver (dpaOff r.pkt.addr) r.pkt.len)) :=
    (if_pos hspace).trans (if_neg (show ¬ r.pkt.ty = 0x11 by rw [hty]; decide))
  rw [hserve, unqueued_xbuf]
  dsimp only
  rw [hclean]
  rfl

/-! The expansion unit (R188) -/

/-- The vector has left the unit: its place is free for a waiting read, and it and its `n` cycles are counted. -/
def State.expanded (s : State) (i k n : Nat) : State :=
  ((s.setPort i { s.port i with
      expand := tabDel (s.port i).expand k
      reqs := grantNext (tabDel (s.port i).expand k).length 32 (s.port i).reqs }).countF (F.HYP_XVEC_COUNT i) 1).countF (F.HYP_XBUSY_COUNT i) n

theorem expanded_count (s : State) (i k n : Nat) :
    (s.expanded i k n).getF (F.HYP_XVEC_COUNT i) = satAdd (s.getF (F.HYP_XVEC_COUNT i)) 1 (2 ^ (F.HYP_XVEC_COUNT i).width - 1) := by
  rw [State.expanded, getF_countF_ne _ _ (by simp [F.HYP_XVEC_COUNT, F.HYP_XBUSY_COUNT])]
  exact getF_countF (f := F.HYP_XVEC_COUNT i) (by decide : 0 + 32 ≤ 32)

theorem expanded_expand (s : State) (i k n : Nat) : tabGet ((s.expanded i k n).port i).expand k = none := by
  simp [State.expanded]

/-- The vector of R188: the set's matrix, as the code delivers it, times the latent. -/
def State.xVector (s : State) (i x : Nat) (lat : List Nat) : List Nat :=
  expandVec ((s.port i).xbuf.deliver (s.xBase i x) (2 * s.xDin i x * s.xDout i x)) lat (s.xDin i x) (s.xDout i x) (s.xOut32 i x)

theorem expansionComplete_answers {k : Nat} {e : PortReq} {lat : List Nat} (hk : tabGet (s.port i).expand k = some (e, lat))
    (hclean : (s.port i).xbuf.errors (s.xBase i (dpaXset e.pkt.addr)) (2 * s.xDin i (dpaXset e.pkt.addr) * s.xDout i (dpaXset e.pkt.addr)) = []) :
    ∃ n, exec (.expansionComplete i k) s = .next ((s.expanded i k n).portAnswer i e.pkt stOk (toBytes (s.xVector i (dpaXset e.pkt.addr) lat))) := by
  refine ⟨(s.xDin i (dpaXset e.pkt.addr) * s.xDout i (dpaXset e.pkt.addr) + 1023) / 1024, ?_⟩
  show execExpansionComplete i k s = _
  unfold execExpansionComplete
  dsimp only
  rw [hk]
  dsimp only
  rw [hclean]
  rfl

/-- Settles O30: reads by `serve_read`, `serve_latent` and `serve_bufferRead`, writes by `columnWritten_wrote` and `xbufPut_read` with what a mask enables
(`read_masked_on`, `read_masked_off`), expansion by `expansionComplete_answers`. -/
theorem portServes : Obligations.PortServes := by
  intro i n r s hreq hhal hgranted hfirst hbank p out Sent
  have hserves {t : State} (h : s.serve i n r = t) : out = .next t :=
    (halyardRequestComplete_serves hreq hhal hgranted hfirst hbank).trans (congrArg _ h)
  have hunqueued : Quiet s (s.unqueued i n) := Quiet.refl.setPort
  refine ⟨fun hty hspace hgood => ?_, fun hty hspace hbad => ?_, fun hty hspace => ?_, fun hty hspace => ?_, fun hty hspace hclean => ?_,
    fun hty hspace hgood => ?_, fun k lat e hk hclean => ?_⟩
  · obtain ⟨u, hu, hserve⟩ := serve_read hty hspace i n s
    rw [if_neg (Bool.eq_false_iff.mp hgood)] at hserve
    obtain ⟨hsent, hdram⟩ := hu.answers i p stOk (toBytes (s.dramData p.addr p.len))
    rw [answerTy_read hty] at hsent
    exact ⟨_, hserves hserve, hsent, fun a => by rw [hdram]⟩
  · obtain ⟨u, hu, hserve⟩ := serve_read hty hspace i n s
    rw [if_pos hbad] at hserve
    obtain ⟨hsent, hdram⟩ := hu.answers i p stUncorr []
    rw [answerTy_read hty] at hsent
    exact ⟨_, hserves hserve, hsent, fun a => by rw [hdram]⟩
  · obtain ⟨u, hserve, hu⟩ := serve_write hty hspace i n s
    have hsent {v : State} (h : v.nextPkt = s.nextPkt) : Sent p 0x13 stOk [] (v.portAnswer i p stOk []) :=
      answerTy_write hty ▸ portAnswer_sends h i p stOk []
    refine ⟨_, hserves hserve, ?_⟩
    rw [portAnswer_dram]
    split at hu
    next hzero => exact ⟨hsent hu.nextPkt, fun h => absurd hzero h, fun a _ => by rw [hu.dram]⟩
    next =>
      obtain ⟨hnext, hread⟩ := hu
      exact ⟨hsent hnext, fun _ k b hon hb => (hread _).trans (read_masked_on _ _ _ _ hon hb), fun a hoff => (hread a).trans (read_masked_off _ _ _ _ hoff)⟩
  · have hquiet := xbufPut_quiet (s.unqueued i n) i (maskedFrom (dpaOff p.addr) (writeMask p) p.data)
    have hread := xbufPut_read (s.unqueued i n) i (maskedFrom (dpaOff p.addr) (writeMask p) p.data)
    obtain ⟨hsent, hdram⟩ := hquiet.answers i p stOk []
    rw [answerTy_write hty] at hsent
    rw [unqueued_xbuf] at hread
    exact ⟨_, hserves (serve_bufferWrite hty hspace), hsent, hdram, fun k b hon hb => (hread _).trans (read_masked_on _ _ _ _ hon hb),
      fun a hoff => (hread a).trans (read_masked_off _ _ _ _ hoff)⟩
  · obtain ⟨hsent, hdram⟩ := hunqueued.answers i p stOk (toBytes ((s.port i).xbuf.deliver (dpaOff p.addr) p.len))
    rw [answerTy_read hty] at hsent
    exact ⟨_, hserves (serve_bufferRead hty hspace hclean), hsent, hdram⟩
  · obtain ⟨u, hu, hserve⟩ := serve_latent hspace rfl rfl hgood n
    exact ⟨_, (u.port i).nextReq, hserves hserve, by rw [port_setPort_same]; exact tabGet_tabPut_same _ _ _, hu.nextPkt⟩
  · obtain ⟨n, hexec⟩ := expansionComplete_answers hk hclean
    exact ⟨_, hexec, expanded_expand s i k n, rfl, portAnswer_sends rfl i e.pkt stOk _, expanded_count s i k n⟩

end

end Sys2Proof.Machine
end

section
namespace Sys2Proof.Machine

section
variable {s t u : State} {i : Nat}

/-! ### What a port sends for a broadcast, and whom (R203) -/

/-- The packet that a port sends to another column's port. -/
def State.casting (s : State) (i ty tag addr aux : Nat) (d : List Byte) (j : Nat) : Packet :=
  ⟨.router i, synthRoute (s.linkSel i) i j 1, 0, 0, false, 0, 1, false, siteNum i, ty, s.partNum i, false, tag, addr, d.length, aux, d, 0⟩

/-- One packet to each target, in order. -/
def State.castAll (s : State) (i ty tag addr aux : Nat) (d : List Byte) (ts : List Nat) : State :=
  ts.foldl (fun s j => s.portSend i j ty tag addr aux d) s

section
variable (ty tag addr aux : Nat) (d : List Byte) (ts : List Nat)

/-- Sending changes the packets alone. -/
theorem castAll_rest (s : State) : ∃ l, s.castAll i ty tag addr aux d ts = { s with packets := l, nextPkt := s.nextPkt + ts.length } := by
  induction ts generalizing s with
  | nil => exact ⟨_, rfl⟩
  | cons j ts ih =>
    obtain ⟨l, hl⟩ := ih (s.portSend i j ty tag addr aux d)
    exact ⟨l, hl.trans (by simp [State.portSend, State.inject, Nat.add_comm, Nat.add_left_comm])⟩

theorem pkt_castAll_old (s : State) {n : Nat} (hn : n < s.nextPkt) : (s.castAll i ty tag addr aux d ts).pkt n = s.pkt n := by
  induction ts generalizing s with
  | nil => rfl
  | cons j ts ih => exact (ih _ (Nat.lt_succ_of_lt hn)).trans (tabGet_tabPut_ne _ _ (Nat.ne_of_lt hn))

theorem pkt_castAll (s : State) {k j : Nat} (h : ts[k]? = some j) :
    (s.castAll i ty tag addr aux d ts).pkt (s.nextPkt + k) = some (s.casting i ty tag addr aux d j) := by
  induction ts generalizing s k with
  | nil => simp at h
  | cons x ts ih =>
    cases k with
    | zero =>
      obtain rfl : x = j := by simpa using h
      exact (pkt_castAll_old ty tag addr aux d ts _ (Nat.lt_succ_self _)).trans (tabGet_tabPut_same _ _ _)
    | succ k =>
      rw [show s.nextPkt + (k + 1) = (s.portSend i x ty tag addr aux d).nextPkt + k by simp [State.portSend, State.inject]; omega]
      exact ih (s.portSend i x ty tag addr aux d) (by simpa using h)

theorem castAll_sends (hnext : u.nextPkt = s.nextPkt) (hlink : u.linkSel i = s.linkSel i) :
    BroadcastSent i ty tag addr aux d ts s (u.castAll i ty tag addr aux d ts) := by
  obtain ⟨l, hl⟩ := castAll_rest (i := i) ty tag addr aux d ts u
  refine ⟨by rw [hl, hnext], fun k j hk => ⟨_, hnext ▸ pkt_castAll ty tag addr aux d ts u hk, rfl, ?_, rfl, rfl, rfl, rfl, rfl, rfl, rfl⟩⟩
  rw [State.casting, hlink]

end

theorem partOfRow_of_regs {p : Nat → Prop} (h : SameRegs p s t) (hlo : ∀ n, ¬ p (F.PRT_ROWS_LO_ROWS n).addr) (hhi : ∀ n, ¬ p (F.PRT_ROWS_HI_ROWS n).addr)
    (g : Nat) : t.partOfRow g = s.partOfRow g := by
  simp only [State.partOfRow, h.getF (hlo _), h.getF (hhi _)]

theorem bkTargets_of_rows (h : ∀ g, t.partOfRow g = s.partOfRow g) (i : Nat) {c c' : List Nat} (hgrp : cmdGrp c' = cmdGrp c) (htarget : cmdTarget c' = cmdTarget c) :
    t.bkTargets i c' = s.bkTargets i c := by
  simp only [State.bkTargets, State.partOfSite, State.rowsOf, h, hgrp, htarget]

/-- With every target's tower on, a broadcast is sent to each and waits for all their reports. -/
theorem bkSend_of_on {op : BkOp} (hon : ∀ j ∈ u.bkTargets i op.cmd, u.towerOff j = false) (ty addr : Nat) (d : List Byte) :
    ∃ q, u.bkSend i op ty addr d = (u.setPort i q).castAll i ty op.tag addr (b2n (cmdGrp op.cmd != 0)) d (u.bkTargets i op.cmd) := by
  have hsent (k : Collect) (ts : List Nat) (v : State) (hts : ∀ j ∈ ts, v.towerOff j = false) :
      ts.foldl (fun s t => if s.towerOff t then s.bkReport i op.tag t 0 4 k.each else s.portSend i t ty op.tag addr (b2n (cmdGrp op.cmd != 0)) d) v =
      v.castAll i ty op.tag addr (b2n (cmdGrp op.cmd != 0)) d ts := by
    induction ts generalizing v with
    | nil => rfl
    | cons j ts ih =>
      obtain ⟨hj, hrest⟩ := List.forall_mem_cons.mp hts
      rw [List.foldl_cons, hj]
      exact ih _ hrest
  exact ⟨_, hsent _ _ _ hon⟩

end
end Sys2Proof.Machine
end

section
namespace Sys2Proof.Machine

section
variable {s t u : State} {i : Nat} {w : Word64}

/-! ### Issue of the BK instructions (O32) -/

/-! Holds (R113, R203) -/

theorem queueFull_bk (i : Nat) : s.queueFull i 5 = decide (4 ≤ (s.core i).bk.length) := rfl

/-- With four BK instructions held the core issues none. -/
theorem issueOk_of_fourHeld (h : 4 ≤ (s.core i).bk.length) {op : Nat} (hop : opIs w 5 op = true) : s.issueOk i w = false := by
  simp [State.issueOk, (opIs_parts hop).1, queueFull_bk, h]

/-- With four broadcasts of its port in flight the core issues neither BKCAST nor BKSETK. -/
theorem issueOk_of_sendsFull (h : s.sendsFull i = true) {op : Nat} (hop : opIs w 5 op = true) (hsends : op = 1 ∨ op = 2) : s.issueOk i w = false := by
  obtain ⟨hcls, hwop⟩ := opIs_parts hop
  have hcode : bits w.toNat 56 4 = op := beq_iff_eq.mp hwop
  have hcodes : (bits w.toNat 56 4 == 1 || bits w.toNat 56 4 == 2) = true := by simpa [hcode] using hsends
  simp [State.issueOk, hcls, hcodes, h]

theorem bkcast_of_held (h : s.issueOk i w = false) : exec (.bkcast i w) s = .next s := by
  show execBkcast i w s = _
  simp [execBkcast, h]

theorem bksetk_of_held (h : s.issueOk i w = false) : exec (.bksetk i w) s = .next s := by
  show execBksetk i w s = _
  simp [execBksetk, h]

theorem bkmark_of_held (h : s.issueOk i w = false) : exec (.bkmark i w) s = .next s := by
  show execBkmark i w s = _
  simp [execBkmark, h, issue]

/-! The descriptor with SO added (R201) -/

theorem length_deliver (m : Memory) (a n : Nat) : (m.deliver a n).length = n := by
  have hread (n : Nat) : ∀ a, (m.readN a n).length = n := by
    induction n with
    | zero => exact fun _ => rfl
    | succ n ih => exact fun a => congrArg (· + 1) (ih (a + 1))
  unfold Memory.deliver
  split
  · rw [Memory.nats, List.length_map, hread]
  · rw [List.length_map, List.length_range]

/-- SO changes the three row fields alone: what follows them is as before. -/
theorem drop_cmdPlus {c : List Nat} (h : 2 ≤ c.length) (so n : Nat) : (cmdPlus c so).drop (8 + n) = c.drop (8 + n) := by
  have hhead : (c.take 2 ++ leBytes 2 (cmdSrc c + so) ++ leBytes 2 (cmdSrc2 c + so) ++ leBytes 2 (cmdDst c + so)).length = 8 := by
    simp only [List.length_append, List.length_take, length_leBytes]
    omega
  rw [cmdPlus, ← List.drop_drop, ← List.drop_drop, List.drop_left' hhead]

theorem cmdGrp_cmdPlus {c : List Nat} (h : 2 ≤ c.length) (so : Nat) : cmdGrp (cmdPlus c so) = cmdGrp c := by
  have hat (l : List Nat) : cmdGrp l = ((l.drop (8 + 8))[0]?).getD 0 := by rw [List.getElem?_drop]; rfl
  rw [hat, hat, drop_cmdPlus h]

theorem cmdTarget_cmdPlus {c : List Nat} (h : 2 ≤ c.length) (so : Nat) : cmdTarget (cmdPlus c so) = cmdTarget c :=
  congrArg (fun l : List Nat => leNat (l.take 2)) (drop_cmdPlus h so 10)

/-! What issue does with a BK word (R202, R203) -/

/-- The instruction has joined the BK queue, under a tag of its own. -/
def State.bkJoin (s : State) (i : Nat) (op : BkOp) : State :=
  ({ s with nextTag := s.nextTag + 1 } : State).setCore i { s.core i with bk := (s.core i).bk ++ [op] }

/-- The command of a BKCAST: its descriptor with SO added. -/
def State.castCmd (s : State) (i : Nat) (w : Word64) : List Nat :=
  cmdPlus (s.lsData i (64 * bits w.toNat 41 15) 64) (s.scalar i (bits w.toNat 37 4)).toNat

/-- BKCAST joins the queue, is counted, and is sent. -/
def State.castIssued (s : State) (i : Nat) (w : Word64) : State :=
  let op : BkOp := ⟨1, s.castCmd i w, [], false, bit w.toNat 6, bits w.toNat 0 6, s.nextTag⟩
  (((s.bkJoin i op).countF (F.HYP_BK_ISSUED_COUNT i) 1).bkSend i op 0x20 0 (toBytes (s.castCmd i w))).nextPc i

/-- BKSETK joins the queue and is sent with its data. -/
def State.setkIssued (s : State) (i : Nat) (w : Word64) : State :=
  let c := s.lsData i (64 * bits w.toNat 41 15) 64
  let d := toBytes (s.lsData i (64 * bits w.toNat 26 15) 256)
  let op : BkOp := ⟨2, c, d, bit w.toNat 25, bit w.toNat 6, bits w.toNat 0 6, s.nextTag⟩
  ((s.bkJoin i op).bkSend i op 0x21 (cmdBanks c + 2 ^ 32 * b2n (bit w.toNat 25)) d).nextPc i

theorem bkcast_beyond (hok : s.issueOk i w = true) (hop : opIs w 5 1 = true) (h : s.inScratch i (64 * bits w.toNat 41 15) 64 = false) :
    exec (.bkcast i w) s = .next (s.progFault i causeBk 8) := by
  obtain ⟨hcls, hwop⟩ := opIs_parts hop
  show execBkcast i w s = _
  simp [execBkcast, hok, hcls, hwop, h]

/-- A descriptor that can be read faults with its case of R202, or is sent. -/
theorem bkcast_of_case {k : Nat} (hok : s.issueOk i w = true) (hop : opIs w 5 1 = true) (h : s.inScratch i (64 * bits w.toNat 41 15) 64 = true)
    (hclean : (s.core i).ls.errors (64 * bits w.toNat 41 15) 64 = [])
    (hcase : s.bkCase i (s.lsData i (64 * bits w.toNat 41 15) 64) (s.scalar i (bits w.toNat 37 4)).toNat
      (onlyBits w 56 [(41, 15), (37, 4), (6, 1), (0, 6)]) = some k) : exec (.bkcast i w) s = .next (s.progFault i causeBk k) := by
  obtain ⟨hcls, hwop⟩ := opIs_parts hop
  show execBkcast i w s = _
  simp [execBkcast, hok, hcls, hwop, h, lsNote_of_clean hclean, (issueOk_parts hok).2.1, hcase]

theorem bkcast_of_none (hok : s.issueOk i w = true) (hop : opIs w 5 1 = true) (h : s.inScratch i (64 * bits w.toNat 41 15) 64 = true)
    (hclean : (s.core i).ls.errors (64 * bits w.toNat 41 15) 64 = [])
    (hcase : s.bkCase i (s.lsData i (64 * bits w.toNat 41 15) 64) (s.scalar i (bits w.toNat 37 4)).toNat
      (onlyBits w 56 [(41, 15), (37, 4), (6, 1), (0, 6)]) = none) : exec (.bkcast i w) s = .next (s.castIssued i w) := by
  obtain ⟨hcls, hwop⟩ := opIs_parts hop
  have hfault : (s.core i).fault.isSome = false := by rw [(issueOk_parts hok).2.1]; rfl
  show execBkcast i w s = _
  simp only [execBkcast, hok, hcls, hwop, h, lsNote_of_clean hclean, hfault, hcase, Bool.and_self, beq_self_eq_true, Bool.not_true, Bool.false_eq_true,
    if_false] <;> rfl

theorem bksetk_beyond (hok : s.issueOk i w = true) (hop : opIs w 5 2 = true)
    (h : s.inScratch i (64 * bits w.toNat 41 15) 64 = false ∨ s.inScratch i (64 * bits w.toNat 26 15) 256 = false) :
    exec (.bksetk i w) s = .next (s.progFault i causeBk 8) := by
  obtain ⟨hcls, hwop⟩ := opIs_parts hop
  show execBksetk i w s = _
  obtain h | h := h <;> simp [execBksetk, hok, hcls, hwop, h]

theorem bksetk_of_case {k : Nat} (hok : s.issueOk i w = true) (hop : opIs w 5 2 = true) (h : s.inScratch i (64 * bits w.toNat 41 15) 64 = true)
    (hdata : s.inScratch i (64 * bits w.toNat 26 15) 256 = true) (hclean : (s.core i).ls.errors (64 * bits w.toNat 41 15) 64 = [])
    (hdataClean : (s.core i).ls.errors (64 * bits w.toNat 26 15) 256 = [])
    (hcase : s.bkSetCase i (s.lsData i (64 * bits w.toNat 41 15) 64) (onlyBits w 56 [(41, 15), (26, 15), (25, 1), (6, 1), (0, 6)]) = some k) :
    exec (.bksetk i w) s = .next (s.progFault i causeBk k) := by
  obtain ⟨hcls, hwop⟩ := opIs_parts hop
  show execBksetk i w s = _
  simp [execBksetk, hok, hcls, hwop, h, hdata, lsNote_of_clean hclean, lsNote_of_clean hdataClean, (issueOk_parts hok).2.1, hcase]

theorem bksetk_of_none (hok : s.issueOk i w = true) (hop : opIs w 5 2 = true) (h : s.inScratch i (64 * bits w.toNat 41 15) 64 = true)
    (hdata : s.inScratch i (64 * bits w.toNat 26 15) 256 = true) (hclean : (s.core i).ls.errors (64 * bits w.toNat 41 15) 64 = [])
    (hdataClean : (s.core i).ls.errors (64 * bits w.toNat 26 15) 256 = [])
    (hcase : s.bkSetCase i (s.lsData i (64 * bits w.toNat 41 15) 64) (onlyBits w 56 [(41, 15), (26, 15), (25, 1), (6, 1), (0, 6)]) = none) :
    exec (.bksetk i w) s = .next (s.setkIssued i w) := by
  obtain ⟨hcls, hwop⟩ := opIs_parts hop
  have hfault : (s.core i).fault.isSome = false := by rw [(issueOk_parts hok).2.1]; rfl
  show execBksetk i w s = _
  simp only [execBksetk, hok, hcls, hwop, h, hdata, lsNote_of_clean hclean, lsNote_of_clean hdataClean, hfault, hcase, Bool.and_self, beq_self_eq_true,
    Bool.not_true, Bool.false_eq_true, if_false] <;> rfl

/-- Where no register changes but the port's HYP_BK_ISSUED, a broadcast has the same targets. -/
theorem SameRegs.bkTargets {p : Nat → Prop} (h : SameRegs p s u) (hp : ∀ a, p a → a = pgHyp i + 0x424) {c c' : List Nat} (hgrp : cmdGrp c' = cmdGrp c)
    (htarget : cmdTarget c' = cmdTarget c) : u.bkTargets i c' = s.bkTargets i c := by
  refine bkTargets_of_rows (partOfRow_of_regs h (fun n hn => ?_) (fun n hn => ?_)) i hgrp htarget
  · have := hp _ hn
    simp only [F.PRT_ROWS_LO_ROWS, pgHyp] at this
    omega
  · have := hp _ hn
    simp only [F.PRT_ROWS_HI_ROWS, pgHyp] at this
    omega

/-- What an issued broadcast leaves, where its issue has changed no register but HYP_BK_ISSUED: the instruction in the queue, its packets and the next word. -/
theorem bkSend_issues {p : Nat → Prop} {op : BkOp} {c : List Nat} (hroom : s.getF (F.CORE_PC_PC i) + 1 < (s.core i).prog.length)
    (hu : OnlyRegs p (s.bkJoin i op) u) (hp : ∀ a, p a → a = pgHyp i + 0x424) (hgrp : cmdGrp op.cmd = cmdGrp c) (htarget : cmdTarget op.cmd = cmdTarget c)
    (hon : ∀ j ∈ s.bkTargets i c, s.towerOff j = false) (ty addr : Nat) (d : List Byte) :
    let t := (u.bkSend i op ty addr d).nextPc i
    PcNext i s t ∧ t.core i = { s.core i with bk := (s.core i).bk ++ [op] } ∧
    BroadcastSent i ty op.tag addr (b2n (cmdGrp c != 0)) d (s.bkTargets i c) s t ∧ SameRegs (fun y => pcReg i y ∨ p y) s t ∧ t.dram = s.dram ∧
    ∀ f, f.addr ≠ pgCore i + 0x12C → t.getF f = u.getF f := by
  intro t
  obtain ⟨hrest, hregs⟩ := hu
  have hsame : SameRegs p s u := hregs
  have hnext : u.nextPkt = s.nextPkt := by rw [hrest]; rfl
  have hdram : u.dram = s.dram := by rw [hrest]; rfl
  have hcore : u.core i = { s.core i with bk := (s.core i).bk ++ [op] } := by
    rw [hrest]
    exact State.core_setCore_same _ _
  have htower (j : Nat) : u.towerOff j = s.towerOff j := by rw [hrest]; rfl
  have hkept {f : Fld} (hf : f.addr ≠ pgHyp i + 0x424) : u.getF f = s.getF f := hsame.getF fun h => hf (hp _ h)
  have hlink : u.linkSel i = s.linkSel i := hkept (by simp [F.HYP_RT_LINKSEL_SEL, pgHyp])
  have hpc : u.getF (F.CORE_PC_PC i) = s.getF (F.CORE_PC_PC i) := hkept (by simp only [F.CORE_PC_PC, pgHyp]; omega)
  have hts : u.bkTargets i op.cmd = s.bkTargets i c := hsame.bkTargets hp hgrp htarget
  obtain ⟨q, hsend⟩ := bkSend_of_on (u := u) (i := i) (op := op) (by rw [hts]; exact fun j hj => (htower j).trans (hon j hj)) ty addr d
  rw [hts, hgrp] at hsend
  obtain ⟨l, hl⟩ := castAll_rest (i := i) ty op.tag addr (b2n (cmdGrp c != 0)) d (s.bkTargets i c) (u.setPort i q)
  have hv : u.bkSend i op ty addr d = { u.setPort i q with packets := l, nextPkt := u.nextPkt + (s.bkTargets i c).length } := hsend.trans hl
  have hsent : BroadcastSent i ty op.tag addr (b2n (cmdGrp c != 0)) d (s.bkTargets i c) s (u.bkSend i op ty addr d) := by
    rw [hsend]
    exact castAll_sends (u := u.setPort i q) ty op.tag addr _ d _ hnext hlink
  obtain ⟨ht, hgone⟩ := nextPc_goes (s := s) (u := u.bkSend i op ty addr d) (i := i) hroom (by rw [hv]; exact hpc)
    (by rw [hv]; exact (congrArg CoreState.prog hcore :))
  have hsetF : t = (u.bkSend i op ty addr d).setF (F.CORE_PC_PC i) ((u.bkSend i op ty addr d).getF (F.CORE_PC_PC i) + 1) := ht
  refine ⟨hgone, ?_, ?_, ?_, ?_, fun f hf => ?_⟩
  · rw [hsetF, State.core_setF, hv]
    exact hcore
  · rw [hsetF]
    exact hsent
  · rw [hsetF]
    refine SameRegs.setF ?_ _ (.inl rfl)
    rw [hv]
    exact hsame.weaken fun _ => .inr
  · rw [hsetF, State.setF_dram, hv]
    exact hdram
  · rw [hsetF, getF_setF_ne _ _ hf, hv]
    rfl

theorem castIssued_sends (hroom : s.getF (F.CORE_PC_PC i) + 1 < (s.core i).prog.length) {c : List Nat} (hc : s.lsData i (64 * bits w.toNat 41 15) 64 = c)
    (hon : ∀ j ∈ s.bkTargets i c, s.towerOff j = false) :
    PcNext i s (s.castIssued i w) ∧
    (s.castIssued i w).core i = { s.core i with bk := (s.core i).bk ++ [⟨1, s.castCmd i w, [], false, bit w.toNat 6, bits w.toNat 0 6, s.nextTag⟩] } ∧
    BroadcastSent i 0x20 s.nextTag 0 (b2n (cmdGrp c != 0)) (toBytes (s.castCmd i w)) (s.bkTargets i c) s (s.castIssued i w) ∧
    (s.castIssued i w).getF (F.HYP_BK_ISSUED_COUNT i) = satAdd (s.getF (F.HYP_BK_ISSUED_COUNT i)) 1 (2 ^ (F.HYP_BK_ISSUED_COUNT i).width - 1) ∧
    SameRegs (fun y => pcReg i y ∨ y = pgHyp i + 0x424) s (s.castIssued i w) ∧ (s.castIssued i w).dram = s.dram := by
  have hlen : 2 ≤ c.length := by
    rw [← hc, State.lsData, length_deliver]
    decide
  obtain ⟨hgone, hcore, hsent, hregs, hdram, hreads⟩ := bkSend_issues (p := fun a => a = pgHyp i + 0x424) (c := c)
    (op := ⟨1, s.castCmd i w, [], false, bit w.toNat 6, bits w.toNat 0 6, s.nextTag⟩) hroom (OnlyRegs.refl.countF (f := F.HYP_BK_ISSUED_COUNT i) 1 rfl)
    (fun _ h => h) (by rw [State.castCmd, hc]; exact cmdGrp_cmdPlus hlen _) (by rw [State.castCmd, hc]; exact cmdTarget_cmdPlus hlen _) hon 0x20 0
    (toBytes (s.castCmd i w))
  refine ⟨hgone, hcore, hsent, (hreads _ ?_).trans (getF_countF (f := F.HYP_BK_ISSUED_COUNT i) (by decide : 0 + 32 ≤ 32)), hregs, hdram⟩
  simp only [F.HYP_BK_ISSUED_COUNT, pgCore]
  omega

theorem setkIssued_sends (hroom : s.getF (F.CORE_PC_PC i) + 1 < (s.core i).prog.length) {c : List Nat} {d : List Byte}
    (hc : s.lsData i (64 * bits w.toNat 41 15) 64 = c) (hd : toBytes (s.lsData i (64 * bits w.toNat 26 15) 256) = d)
    (hon : ∀ j ∈ s.bkTargets i c, s.towerOff j = false) :
    PcNext i s (s.setkIssued i w) ∧
    (s.setkIssued i w).core i = { s.core i with bk := (s.core i).bk ++ [⟨2, c, d, bit w.toNat 25, bit w.toNat 6, bits w.toNat 0 6, s.nextTag⟩] } ∧
    BroadcastSent i 0x21 s.nextTag (cmdBanks c + 2 ^ 32 * b2n (bit w.toNat 25)) (b2n (cmdGrp c != 0)) d (s.bkTargets i c) s (s.setkIssued i w) ∧
    SameRegs (pcReg i) s (s.setkIssued i w) ∧ (s.setkIssued i w).dram = s.dram := by
  subst hc hd
  obtain ⟨hgone, hcore, hsent, hregs, hdram, -⟩ := bkSend_issues (p := fun _ => False) (c := s.lsData i (64 * bits w.toNat 41 15) 64)
    (op := ⟨2, s.lsData i (64 * bits w.toNat 41 15) 64, toBytes (s.lsData i (64 * bits w.toNat 26 15) 256), bit w.toNat 25, bit w.toNat 6, bits w.toNat 0 6,
      s.nextTag⟩) hroom OnlyRegs.refl (fun _ => False.elim) rfl rfl hon 0x21 _ _
  exact ⟨hgone, hcore, hsent, hregs.weaken fun _ h => h.resolve_right id, hdram⟩

theorem exec_bkmark_of_legal (hok : s.issueOk i w = true) (hop : opIs w 5 3 = true) (hlegal : onlyBits w 56 [(0, 6)] = true) : exec (.bkmark i w) s =
    .next ((s.setCore i { s.core i with bk := (s.core i).bk ++ [⟨3, [], [], false, true, bits w.toNat 0 6, 0⟩] }).nextPc i) := by
  obtain ⟨hcls, hwop⟩ := opIs_parts hop
  show execBkmark i w s = _
  simp [execBkmark, issue, hok, hcls, hwop, hlegal]

theorem exec_bkmark_of_illegal (hok : s.issueOk i w = true) (hop : opIs w 5 3 = true) (hlegal : onlyBits w 56 [(0, 6)] = false) :
    exec (.bkmark i w) s = .next (s.progFault i causeBk 1) := by
  obtain ⟨hcls, hwop⟩ := opIs_parts hop
  show execBkmark i w s = _
  simp [execBkmark, hok, hcls, hwop, hlegal]

/-- A core's state changes and the program goes on. -/
theorem setCore_nextPc (hroom : s.getF (F.CORE_PC_PC i) + 1 < (s.core i).prog.length) {c : CoreState} (hprog : c.prog = (s.core i).prog) :
    PcNext i s ((s.setCore i c).nextPc i) ∧ ((s.setCore i c).nextPc i).core i = c ∧ OnlyCore i (pcReg i) s ((s.setCore i c).nextPc i) := by
  obtain ⟨hnext, hgone⟩ := nextPc_goes (u := s.setCore i c) hroom rfl (by rw [State.core_setCore_same, hprog])
  rw [hnext] at hgone ⊢
  exact ⟨hgone, State.core_setCore_same i c, (OnlyCore.refl.setCore c).setF _ rfl⟩

theorem exec_bkmarkDone {o : BkOp} {rest : List BkOp} (hbk : (s.core i).bk = o :: rest) (hmark : o.op = 3) :
    exec (.bkmarkDone i) s = .next ((s.setCore i { s.core i with bk := rest }).tallyAdd i o.tally 1) := by
  show execBkmarkDone i s = _
  simp [execBkmarkDone, hbk, hmark]

/-- Settles O32: a word that is held has no effect (`issueOk_of_fourHeld`, `issueOk_of_sendsFull`), a descriptor is judged (`bkcast_beyond`, `bkcast_of_case`
and their like of BKSETK), and what is sent is `castIssued_sends` and `setkIssued_sends`. -/
theorem bkIssue : Obligations.BkIssue := by
  intro i w s
  refine ⟨fun hfull => ⟨fun hop => ?_, fun hop => ?_⟩, fun hfour hop => bkmark_of_held (issueOk_of_fourHeld hfour hop), fun o rest hbk hmark hlt => ?_,
    fun hissues => ?_⟩
  · exact bkcast_of_held (hfull.elim (issueOk_of_fourHeld · hop) (issueOk_of_sendsFull · hop (.inl rfl)))
  · exact bksetk_of_held (hfull.elim (issueOk_of_fourHeld · hop) (issueOk_of_sendsFull · hop (.inr rfl)))
  · have hadd := tallyAdd_one (s := s.setCore i { s.core i with bk := rest }) hlt
    exact ⟨_, exec_bkmarkDone hbk hmark, by rw [hadd, State.core_setF, State.core_setCore_same], getF_tallyAdd_one hlt,
      (OnlyCore.refl.setCore _).trans (tallyAdd_only _ i o.tally)⟩
  obtain ⟨hok, hroom⟩ := hissues
  intro a l so c d x Faults
  have hfaults {y : Instr} {k : Nat} (h : exec y s = .next (s.progFault i causeBk k)) : Faults y k := h.trans (by rw [progFault_of_issueOk hok])
  refine ⟨fun hop => ?_, fun hop => ?_, fun hop => ⟨fun hillegal => hfaults (exec_bkmark_of_illegal hok hop hillegal), fun hlegal => ?_⟩⟩
  · refine ⟨fun hbeyond => hfaults (bkcast_beyond hok hop hbeyond), fun hwhole hclean => ⟨fun k hk => hfaults (bkcast_of_case hok hop hwhole hclean hk),
      fun hnone hon => ⟨_, bkcast_of_none hok hop hwhole hclean hnone, castIssued_sends hroom rfl hon⟩⟩⟩
  · refine ⟨fun hbeyond => hfaults (bksetk_beyond hok hop hbeyond), fun hwhole hdata hclean hdataClean =>
      ⟨fun k hk => hfaults (bksetk_of_case hok hop hwhole hdata hclean hdataClean hk),
      fun hnone hon => ⟨_, bksetk_of_none hok hop hwhole hdata hclean hdataClean hnone, setkIssued_sends hroom rfl rfl hon⟩⟩⟩
  · exact ⟨_, exec_bkmark_of_legal hok hop hlegal, setCore_nextPc hroom rfl⟩
end
end Sys2Proof.Machine
end

section
namespace Sys2Proof.Machine

section
variable {s t u : State} {i id : Nat} {p : Packet}

/-! ### Reports of broadcasts (R205) -/

theorem Quiet.setCore (h : Quiet s t) {i : Nat} {c : CoreState} : Quiet s (t.setCore i c) := ⟨h.nextPkt, h.dram⟩

theorem Quiet.progFault (h : Quiet s t) {i cause info : Nat} : Quiet s (t.progFault i cause info) := .ite h h.setCore

theorem Quiet.tallyAdd (h : Quiet s t) {i k n : Nat} : Quiet s (t.tallyAdd i k n) := .ite h.setF h.setF.progFault

/-! A broadcast completes at its issuer (R205, R208) -/

/-- The instruction has left the BK queue, a BKMARK stays. -/
def State.bkLeft (s : State) (i tag : Nat) : State := s.setCore i { s.core i with bk := (s.core i).bk.filter (fun o => o.op == 3 || o.tag != tag) }

/-- HYP_BK_LASTDONE shows the result of a broadcast (R213). -/
def State.lastDone (s : State) (i : Nat) (k : Collect) : State :=
  ((((s.setF (F.HYP_BK_LASTDONE_WAVES i) (min k.waves 63)).setF (F.HYP_BK_LASTDONE_WAVE_OVER i) (b2n (bit k.status 0))).setF
    (F.HYP_BK_LASTDONE_UNCORR i) (b2n (bit k.status 1))).setF (F.HYP_BK_LASTDONE_COL_FAIL i) (b2n (bit k.status 2))).setF (F.HYP_BK_LASTDONE_COLUMNS i) k.columns

/-- A broadcast over its budget is counted, and shown for its partition (R208). -/
def State.overBudget (s : State) (i : Nat) : State :=
  let old := s.getF (F.DIE_BK_WOVER_PART (siteDie i))
  let t := (s.countF (F.HYP_BK_WOVER_COUNT i) 1).setF (F.DIE_BK_WOVER_PART (siteDie i)) (Nat.lor old (2 ^ s.partNum i))
  if bit old (s.partNum i) then t else t.setF (F.DIE_BK_WOVER_ORBIT_ORBIT (siteDie i)) (t.orbit % 2 ^ 32)

/-- The BK bits of PG_EVT that a status sets (R205). -/
def bkEvents (status : Nat) : Nat := 2 ^ 8 * b2n (bit status 1) + 2 ^ 9 * b2n (bit status 2) + 2 ^ 10 * b2n (bit status 0)

/-- What a status raises: the account of a broadcast over budget, and bits of PG_EVT. -/
def State.bkRaised (s : State) (i status : Nat) : State :=
  let t := if bit status 0 then s.overBudget i else s
  if bkEvents status = 0 then t else t.raise (pgHyp i) (bkEvents status)

/-- The registers that `bkRaised` changes. -/
def bkRaisedReg (i a : Nat) : Prop :=
  a = pgHyp i + 0x42C ∨ a = pgDie (siteDie i) + 0x208 ∨ a = pgDie (siteDie i) + 0x20C ∨ a = pgHyp i + 0x10 ∨ a = pgHyp i + 0x1C ∨ onRings a

theorem overBudget_only (s : State) (i : Nat) : OnlyRegs (bkRaisedReg i) s (s.overBudget i) := by
  have h := (OnlyRegs.refl (s := s) (p := bkRaisedReg i)).countF (f := F.HYP_BK_WOVER_COUNT i) 1 (.inl rfl)
  have hpart := h.setF (f := F.DIE_BK_WOVER_PART (siteDie i)) (Nat.lor (s.getF (F.DIE_BK_WOVER_PART (siteDie i))) (2 ^ s.partNum i)) (.inr (.inl rfl))
  unfold State.overBudget
  dsimp only
  split
  · exact hpart
  · exact hpart.setF (f := F.DIE_BK_WOVER_ORBIT_ORBIT (siteDie i)) _ (.inr (.inr (.inl rfl)))

theorem bkRaised_events (s : State) (i status : Nat) : OnlyEvents (bkRaisedReg i) s (s.bkRaised i status) := by
  have hbudget : OnlyEvents (bkRaisedReg i) s (if bit status 0 then s.overBudget i else s) := by
    split
    · exact .of_regs (overBudget_only s i)
    · exact .refl
  unfold State.bkRaised
  dsimp only
  split
  · exact hbudget
  · exact hbudget.trans ((raise_events _ _ _).weaken fun a ha => .inr (.inr (.inr ha)))

/-- The end of a broadcast at its issuer: a BKSETK shows nothing, and without TEN no tally grows. -/
theorem bkFinish_eq (s : State) (i : Nat) (k : Collect) : s.bkFinish i k =
    let here := (s.core i).bk.any (fun o => o.tag == k.tag && o.op != 3)
    let left := if here then s.bkLeft i k.tag else s
    let shown := if k.setk then left else (left.lastDone i k).bkRaised i k.status
    if here && k.ten then shown.tallyAdd i k.tally 1 else shown := rfl

theorem Quiet.lastDone (h : Quiet s t) {k : Collect} : Quiet s (t.lastDone i k) := h.setF.setF.setF.setF.setF

theorem Quiet.bkRaised (h : Quiet s t) {status : Nat} : Quiet s (t.bkRaised i status) := by
  have hraised := (bkRaised_events t i status).1
  exact ⟨by rw [hraised, h.nextPkt], by rw [hraised, h.dram]⟩

theorem bkFinish_quiet (s : State) (i : Nat) (k : Collect) : Quiet s (s.bkFinish i k) := by
  rw [bkFinish_eq]
  extract_lets here left shown
  have hleft : Quiet s left := .ite (Quiet.refl.setCore) .refl
  have hshown : Quiet s shown := .ite hleft hleft.lastDone.bkRaised
  exact .ite hshown.tallyAdd hshown

theorem lastDone_only (s : State) (i : Nat) (k : Collect) : OnlyRegs (fun a => a = pgHyp i + 0x428) s (s.lastDone i k) :=
  (((((OnlyRegs.refl (p := fun a => a = pgHyp i + 0x428)).setF (f := F.HYP_BK_LASTDONE_WAVES i) _ rfl).setF (f := F.HYP_BK_LASTDONE_WAVE_OVER i) _ rfl).setF
    (f := F.HYP_BK_LASTDONE_UNCORR i) _ rfl).setF (f := F.HYP_BK_LASTDONE_COL_FAIL i) _ rfl).setF (f := F.HYP_BK_LASTDONE_COLUMNS i) _ rfl

theorem b2n_lt (b : Bool) : b2n b < 2 ^ 1 := by cases b <;> decide

theorem lastDone_shows {k : Collect} (hcolumns : k.columns < 2 ^ 11) (s : State) (i : Nat) :
    (s.lastDone i k).getF (F.HYP_BK_LASTDONE_WAVES i) = min k.waves 63 ∧
    (s.lastDone i k).getF (F.HYP_BK_LASTDONE_WAVE_OVER i) = b2n (bit k.status 0) ∧
    (s.lastDone i k).getF (F.HYP_BK_LASTDONE_UNCORR i) = b2n (bit k.status 1) ∧
    (s.lastDone i k).getF (F.HYP_BK_LASTDONE_COL_FAIL i) = b2n (bit k.status 2) ∧
    (s.lastDone i k).getF (F.HYP_BK_LASTDONE_COLUMNS i) = k.columns := by
  have hwaves : min k.waves 63 < 2 ^ 6 := by omega
  refine ⟨?_, ?_, ?_, ?_, ?_⟩ <;>
    simp (disch := decide) only [State.lastDone, F.HYP_BK_LASTDONE_WAVES, F.HYP_BK_LASTDONE_WAVE_OVER, F.HYP_BK_LASTDONE_UNCORR, F.HYP_BK_LASTDONE_COL_FAIL,
      F.HYP_BK_LASTDONE_COLUMNS, getF_setF_other_bits, getF_setF_bits, Nat.mod_eq_of_lt hwaves, Nat.mod_eq_of_lt (b2n_lt _), Nat.mod_eq_of_lt hcolumns]

/-- The registers that the end of a BKCAST changes. -/
def bkDoneReg (i k a : Nat) : Prop := a = pgHyp i + 0x428 ∨ bkRaisedReg i a ∨ tallyReg i k a

theorem not_bkRaisedReg {a : Nat} (hrings : 0xC0000 ≤ a) (hpage : a % 0x1000 < 0x10 ∨ (0x100 ≤ a % 0x1000 ∧ a % 0x1000 < 0x200) ∨ a % 0x1000 = 0x428) :
    ¬ bkRaisedReg i a := by
  unfold bkRaisedReg onRings pgHyp pgDie
  omega

/-- A BKCAST with TEN that its issuer's queue still holds: it leaves the queue, its result is shown, and its tally grows. -/
theorem bkFinish_completes {k : Collect} (hhere : (s.core i).bk.any (fun o => o.tag == k.tag && o.op != 3) = true) (hcast : k.setk = false)
    (hten : k.ten = true) (htally : k.tally < 64) (hroom : s.getF (tallyFld i k.tally) < 0xFFFF) (hcolumns : k.columns < 2 ^ 11) :
    let t := s.bkFinish i k
    t.getF (tallyFld i k.tally) = s.getF (tallyFld i k.tally) + 1 ∧
    (t.core i).bk = (s.core i).bk.filter (fun o => o.op == 3 || o.tag != k.tag) ∧
    t.getF (F.HYP_BK_LASTDONE_WAVES i) = min k.waves 63 ∧ t.getF (F.HYP_BK_LASTDONE_WAVE_OVER i) = b2n (bit k.status 0) ∧
    t.getF (F.HYP_BK_LASTDONE_UNCORR i) = b2n (bit k.status 1) ∧ t.getF (F.HYP_BK_LASTDONE_COL_FAIL i) = b2n (bit k.status 2) ∧
    t.getF (F.HYP_BK_LASTDONE_COLUMNS i) = k.columns ∧ SameRegs (bkDoneReg i k.tally) s t := by
  intro t
  let v := (s.bkLeft i k.tag).lastDone i k
  let r := v.bkRaised i k.status
  have ht : t = r.tallyAdd i k.tally 1 := by
    simp only [t, bkFinish_eq, hhere, hcast, hten]
    rfl
  obtain ⟨hrest, hraised⟩ := bkRaised_events v i k.status
  have hv : SameRegs (fun a => a = pgHyp i + 0x428) s v := (lastDone_only (s.bkLeft i k.tag) i k).2
  have htallyAddr := tallyFld_addr i k.tally
  have hvt : v.getF (tallyFld i k.tally) = s.getF (tallyFld i k.tally) := hv.getF (by rw [htallyAddr]; unfold pgHyp pgCore; omega)
  have hrt : r.getF (tallyFld i k.tally) = s.getF (tallyFld i k.tally) :=
    (hraised.getF (not_bkRaisedReg (by rw [htallyAddr]; unfold pgCore; omega) (by rw [htallyAddr]; unfold pgCore; omega))).trans hvt
  have hadded := (tallyAdd_only r i k.tally).2.1
  have hshown {f : Fld} (hf : f.addr = pgHyp i + 0x428) : t.getF f = v.getF f := by
    rw [ht]
    refine (hadded.getF ?_).trans (hraised.getF (not_bkRaisedReg ?_ ?_))
    · rw [tallyReg, hf, htallyAddr]
      unfold pgHyp pgCore
      omega
    · rw [hf]
      unfold pgHyp
      omega
    · rw [hf]
      unfold pgHyp
      omega
  obtain ⟨hwaves, hover, hunc, hfail, hcols⟩ := lastDone_shows hcolumns (s.bkLeft i k.tag) i
  refine ⟨?_, ?_, (hshown rfl).trans hwaves, (hshown rfl).trans hover, (hshown rfl).trans hunc, (hshown rfl).trans hfail, (hshown rfl).trans hcols, ?_⟩
  · rw [ht, getF_tallyAdd_one (by rw [hrt]; exact hroom), hrt]
  · obtain ⟨f, hf⟩ := tallyAdd_core r i k.tally
    have hcore : r.core i = (s.bkLeft i k.tag).core i := by
      show (v.bkRaised i k.status).core i = _
      rw [hrest]
      rfl
    rw [ht, hf, hcore, State.bkLeft, State.core_setCore_same]
  · rw [ht]
    exact ((hv.weaken fun _ => .inl).trans (hraised.weaken fun _ h => .inr (.inl h))).trans (hadded.weaken fun _ h => .inr (.inr h))

end
end Sys2Proof.Machine
end

section
namespace Sys2Proof.Machine

section
variable {s t u : State} {i id : Nat} {p : Packet}

/-! ### A column takes its broadcast, and a row head sends it on (O34) -/

/-! Collections of reports (R205) -/

/-- A collection with one more report. -/
def Collect.reported (k : Collect) (src waves status columns : Nat) : Collect :=
  { k with waits := k.waits.filter (· != src), waves := max k.waves waves, status := Nat.lor k.status status, columns := k.columns + columns }

/-- A report joins the collection `k`, the others being `rest`. -/
def State.bkReported (s : State) (i : Nat) (k : Collect) (rest : List Collect) : State :=
  if !k.waits.isEmpty then s.setPort i { s.port i with collects := rest ++ [k] }
  else
    match k.head with
    | some p => (s.setPort i { s.port i with collects := rest }).respond p i 0x22 (doneAux k.waves k.status k.columns) []
    | none => (s.setPort i { s.port i with collects := rest }).bkFinish i k

theorem bkReport_of_found {tag src : Nat} {k : Collect} (h : (s.port i).collects.find? (fun k => k.tag == tag && k.waits.contains src) = some k)
    (waves status columns : Nat) : s.bkReport i tag src waves status columns =
      s.bkReported i (k.reported src waves status columns) ((s.port i).collects.filter (fun x => x.tag != tag)) := by
  simp only [State.bkReport, h]
  rfl

theorem bkReport_of_none {tag src : Nat} (h : (s.port i).collects.find? (fun k => k.tag == tag && k.waits.contains src) = none)
    (waves status columns : Nat) : s.bkReport i tag src waves status columns = s := by
  simp only [State.bkReport, h]

/-- Others are still awaited: the collection waits on. -/
theorem bkReported_waits {k : Collect} (h : k.waits ≠ []) (rest : List Collect) :
    s.bkReported i k rest = s.setPort i { s.port i with collects := rest ++ [k] } := if_pos (by simp [h])

/-- The last report at a row head: it reports on. -/
theorem bkReported_head {k : Collect} (h : k.waits = []) {hd : Packet} (hhead : k.head = some hd) (rest : List Collect) : s.bkReported i k rest =
    (s.setPort i { s.port i with collects := rest }).respond hd i 0x22 (doneAux k.waves k.status k.columns) [] := by
  rw [State.bkReported, if_neg (by simp [h]), hhead]

/-- The last report at the issuer: the broadcast is complete. -/
theorem bkReported_issuer {k : Collect} (h : k.waits = []) (hhead : k.head = none) (rest : List Collect) :
    s.bkReported i k rest = (s.setPort i { s.port i with collects := rest }).bkFinish i k := by
  rw [State.bkReported, if_neg (by simp [h]), hhead]

theorem bkReport_dram (s : State) (i tag src waves status columns : Nat) : (s.bkReport i tag src waves status columns).dram = s.dram := by
  cases h : (s.port i).collects.find? (fun k => k.tag == tag && k.waits.contains src) with
  | none => rw [bkReport_of_none h]
  | some k =>
    rw [bkReport_of_found h, State.bkReported]
    split
    · rfl
    split
    · rfl
    · exact (bkFinish_quiet _ i _).dram

/-- BKDONE at its port, where no partition's reset waits for it. -/
theorem exec_bkdone (hp : s.pkt id = some p) (hplace : p.place = .hal i) (hty : p.ty = 0x22) {src : Nat} (hsrc : siteOfNum p.src = some src)
    {k : Collect} (hone : (s.port i).collects = [k]) (htag : k.tag = p.tag) (hwaits : src ∈ k.waits) : exec (.bkdone id) s =
      .next (((s.dropPkt id).bkReported i (k.reported src (p.aux % 64) (bits p.aux 6 3) (bits p.aux 16 11)) []).resetsGo) := by
  have hfound : ((s.dropPkt id).port i).collects.find? (fun k => k.tag == p.tag && k.waits.contains src) = some k := by
    rw [show (s.dropPkt id).port i = s.port i from rfl, hone]
    exact List.find?_cons_of_pos (by simp [htag, hwaits])
  have hrest : ((s.dropPkt id).port i).collects.filter (fun x => x.tag != p.tag) = [] := by
    rw [show (s.dropPkt id).port i = s.port i from rfl, hone]
    simp [htag]
  show execBkdone id s = _
  rw [execBkdone, hp]
  dsimp only
  rw [hplace]
  dsimp only
  rw [if_pos hty, hsrc, Option.getD_some, bkReport_of_found hfound, hrest]

/-! The front of a port's broadcasts (R204, R205) -/

theorem bkSettle_nil (h : (s.port i).bcasts = []) (n : Nat) : s.bkSettle i n = s := by
  cases n with
  | zero => rfl
  | succ n => simp only [State.bkSettle, h]

/-- A BKCAST with banks to start stays at the front. -/
theorem bkSettle_todo {c : Bcast} {rest : List Bcast} (h : (s.port i).bcasts = c :: rest) (hcast : c.setk = none) (htodo : c.todo ≠ []) (n : Nat) :
    s.bkSettle i n = s := by
  have hempty : c.todo.isEmpty = false := by simp [htodo]
  cases n with
  | zero => rfl
  | succ n => simp only [State.bkSettle, h, hcast, hempty, Bool.false_and] <;> rfl

/-- The status of a BKCAST that a column reports (R208). -/
def Bcast.status (c : Bcast) : Nat := b2n (decide (0 < cmdWmax c.cmd) && decide (cmdWmax c.cmd < c.waves)) + 2 * b2n c.uncorr

/-- A BKCAST without a bank to run, at a port that serves, is reported. -/
theorem bkSettle_done {c : Bcast} {rest : List Bcast} (h : (s.port i).bcasts = c :: rest) (hcast : c.setk = none) (htodo : c.todo = []) (hactive : c.active = [])
    (hhal : s.hal i ≠ halFailed) (n : Nat) : s.bkSettle i (n + 1) =
      ((s.setPort i { s.port i with bcasts := rest }).columnReport i c.pkt c.waves c.status).bkSettle i n := by
  have hserves : (s.hal i == halFailed) = false := by simp [hhal]
  rw [State.bkSettle]
  simp only [h, hcast, htodo, hactive, hserves, List.isEmpty_nil, Bool.and_self, Bool.and_false, Bool.false_eq_true, if_false, if_true] <;> rfl

/-- The K slots of a bank with a half's data put into them (R201). -/
def putHalf (half : Bool) (d : List Byte) (m : Tab (List Nat)) (b : Nat) : Tab (List Nat) :=
  (List.range 8).foldl (fun m j => tabPut m (16 * b + (if half then 8 else 0) + j) (((d.drop (32 * j)).take 32).map BitVec.toNat)) m

/-- The banks of a mask that are not retired. -/
def State.bkBanks (s : State) (i banks : Nat) : List Nat := (List.range 32).filter (fun b => bit banks b && !s.bankRetired i b)

/-- A BKSETK applies its data to every selected bank and is reported. -/
theorem bkSettle_setk {c : Bcast} {rest : List Bcast} {half : Bool} {d : List Byte} (h : (s.port i).bcasts = c :: rest) (hsetk : c.setk = some (half, d))
    (n : Nat) : s.bkSettle i (n + 1) = ((s.setPort i { s.port i with
      bcasts := rest, kslots := (s.bkBanks i c.banks).foldl (putHalf half d) (s.port i).kslots }).columnReport i c.pkt 0 0).bkSettle i n := by
  rw [State.bkSettle]
  simp only [h, hsetk]
  rfl

/-! A packet arrives (R203) -/

theorem atPort_of_inOrder (hp : s.pkt id = some p) (hplace : p.place = .hal i) (horder : s.inOrder id p = true)
    (hhal : s.hal i = halActive ∨ s.hal i = halFailed) : s.atPort id [p.ty] = some (i, p) := by
  obtain h | h := hhal <;> simp [State.atPort, hp, hplace, horder, h]

/-- For one column, the port takes the packet. -/
theorem bkArrive_takes (hat : s.atPort id [p.ty] = some (i, p)) (haux : p.aux = 0) : s.bkArrive id p.ty = (s.dropPkt id).bkTake i p := by
  simp [State.bkArrive, hat, haux]

/-- With FWD, it takes it and sends it on. -/
theorem bkArrive_forwards (hat : s.atPort id [p.ty] = some (i, p)) (haux : p.aux = 1) :
    s.bkArrive id p.ty = (s.dropPkt id).bkForward i p (fun s p => s.bkTake i p) := by
  simp [State.bkArrive, hat, haux]

theorem columnReport_away (h : p.aux = 0) (waves status : Nat) : s.columnReport i p waves status = s.respond p i 0x22 (doneAux waves status 1) [] := by
  simp [State.columnReport, h]

theorem columnReport_own (hsrc : p.src = siteNum i) (haux : p.aux = 2) (waves status : Nat) :
    s.columnReport i p waves status = s.bkReport i p.tag i waves status 1 := by
  simp [State.columnReport, hsrc, haux]

/-- A packet as the broadcast that the port takes. -/
def State.taking (s : State) (i : Nat) (p : Packet) : Bcast :=
  let cmd := p.data.map BitVec.toNat
  let banks := if p.ty = 0x21 then p.addr % 2 ^ 32 else cmdBanks cmd
  ⟨if p.ty = 0x21 then some (bit p.addr 32, p.data) else none, cmd, banks, p, (s.port i).reqs.map (fun e => e.1),
    if p.ty = 0x21 then [] else s.bkBanks i banks, [], 0, false, false⟩

/-- The packet stands as the only broadcast of its port. -/
def State.taken (s : State) (i : Nat) (p : Packet) : State := s.setPort i { s.port i with bcasts := [s.taking i p] }

theorem bkTake_failed (h : s.hal i = halFailed) : s.bkTake i p = s.columnReport i p 0 4 := if_pos h

theorem bkTake_serving (h : s.hal i ≠ halFailed) (hnone : (s.port i).bcasts = []) : s.bkTake i p = (s.taken i p).bkSettle i 64 := by
  simp only [State.bkTake, if_neg h, hnone, List.nil_append] <;> rfl

@[simp] theorem bcasts_taken (s : State) (i : Nat) (p : Packet) : ((s.taken i p).port i).bcasts = [s.taking i p] := by rw [State.taken, port_setPort_same]

theorem setk_taking_cast (h : p.ty = 0x20) : (s.taking i p).setk = none := if_neg (by rw [h]; decide)

theorem setk_taking_setk (h : p.ty = 0x21) : (s.taking i p).setk = some (bit p.addr 32, p.data) := if_pos h

/-! Slot data in its place (R194, R201) -/

/-- An entry that one step of a run over a list puts, and that every other step leaves, stands after the run. -/
theorem tabGet_foldl_of_mem {α β : Type} {f : Tab β → α → Tab β} {l : List α} {x : α} {a : Nat} {v : β} (hx : x ∈ l)
    (hput : ∀ m, tabGet (f m x) a = some v) (hkeep : ∀ m y, y ≠ x → tabGet (f m y) a = tabGet m a) (m : Tab β) : tabGet (l.foldl f m) a = some v := by
  obtain ⟨l₁, l₂, rfl⟩ := List.append_of_mem hx
  rw [List.foldl_append, List.foldl_cons]
  refine List.foldlRecOn (motive := fun m => tabGet m a = some v) l₂ f (hput _) fun m hm y _ => ?_
  by_cases hy : y = x
  · exact hy ▸ hput m
  · exact (hkeep m y hy).trans hm

/-- The first slot of a half. -/
def halfBase (half : Bool) : Nat := if half then 8 else 0

theorem halfBase_le (half : Bool) : halfBase half ≤ 8 := by cases half <;> decide

theorem tabGet_putHalf_same (half : Bool) (d : List Byte) (b : Nat) {j : Nat} (hj : j < 8) (m : Tab (List Nat)) :
    tabGet (putHalf half d m b) (16 * b + (halfBase half + j)) = some (((d.drop (32 * j)).take 32).map BitVec.toNat) := by
  refine tabGet_foldl_of_mem (List.mem_range.mpr hj) (fun m => ?_) (fun m k hk => tabGet_tabPut_ne _ _ ?_) m
  · rw [← Nat.add_assoc]
    exact tabGet_tabPut_same _ _ _
  · show 16 * b + (halfBase half + j) ≠ 16 * b + halfBase half + k
    omega

/-- Another bank's slots are as before. -/
theorem tabGet_putHalf_ne (half : Bool) (d : List Byte) {b c : Nat} (h : c ≠ b) {j : Nat} (hj : j < 8) (m : Tab (List Nat)) :
    tabGet (putHalf half d m c) (16 * b + (halfBase half + j)) = tabGet m (16 * b + (halfBase half + j)) := by
  have hhalf := halfBase_le half
  refine List.foldlRecOn (motive := fun u => tabGet u (16 * b + (halfBase half + j)) = tabGet m (16 * b + (halfBase half + j))) _ _ rfl
    fun u hu k hk => (tabGet_tabPut_ne _ _ ?_).trans hu
  have hlt := List.mem_range.mp hk
  show 16 * b + (halfBase half + j) ≠ 16 * c + halfBase half + k
  omega

theorem kslot_of_get {q : PortState} {b j : Nat} {d : List Nat} (h : tabGet q.kslots (16 * b + j) = some d) : q.kslot b j = d := by
  rw [PortState.kslot, h]

/-! One column (R204, R205) -/

theorem Answered.of_dropped (h : Answered i ty st d p (s.dropPkt id) t) : Answered i ty st d p s t := h

theorem bkcmd_failed (hat : s.atPort id [p.ty] = some (i, p)) (hty : p.ty = 0x20) (haux : p.aux = 0) (hhal : s.hal i = halFailed) :
    exec (.bkcmd id) s = .next ((s.dropPkt id).respond p i 0x22 (doneAux 0 4 1) []) := by
  have hfailed : (s.dropPkt id).hal i = halFailed := hhal
  show Host.Outcome.next (s.bkArrive id 0x20) = _
  rw [← hty, bkArrive_takes hat haux, bkTake_failed hfailed, columnReport_away haux]

/-- A BKCAST with a bank selected waits at the front for its first wave. -/
theorem bkcmd_taken (hat : s.atPort id [p.ty] = some (i, p)) (hty : p.ty = 0x20) (haux : p.aux = 0) (hhal : s.hal i = halActive)
    (hnone : (s.port i).bcasts = []) (hsel : s.bkBanks i (cmdBanks (p.data.map BitVec.toNat)) ≠ []) :
    exec (.bkcmd id) s = .next ((s.dropPkt id).taken i p) := by
  have hserves : (s.dropPkt id).hal i ≠ halFailed := by
    rw [show (s.dropPkt id).hal i = halActive from hhal]
    decide
  have htodo : ((s.dropPkt id).taking i p).todo ≠ [] := by
    simp only [State.taking, hty]
    exact hsel
  show Host.Outcome.next (s.bkArrive id 0x20) = _
  rw [← hty, bkArrive_takes hat haux, bkTake_serving hserves hnone, bkSettle_todo (bcasts_taken _ _ _) (setk_taking_cast hty) htodo]

/-- The port has applied a BKSETK. -/
def State.setkApplied (s : State) (i : Nat) (p : Packet) : State :=
  (s.taken i p).setPort i { s.port i with
    bcasts := []
    kslots := (s.bkBanks i (p.addr % 2 ^ 32)).foldl (putHalf (bit p.addr 32) p.data) (s.port i).kslots }

theorem taken_setk_settles (hty : p.ty = 0x21) (n : Nat) :
    (s.taken i p).bkSettle i (n + 1) = ((s.setkApplied i p).columnReport i p 0 0).bkSettle i n := by
  have hbanks : (s.taking i p).banks = p.addr % 2 ^ 32 := if_pos hty
  rw [bkSettle_setk (bcasts_taken s i p) (setk_taking_setk hty), hbanks, State.setkApplied, State.taken, port_setPort_same]
  rfl

theorem kslot_setkApplied {b j : Nat} (hb : b < 32) (hj : j < 8) (hbit : bit (p.addr % 2 ^ 32) b = true) (hlive : s.bankRetired i b = false) :
    ((s.setkApplied i p).port i).kslot b (halfBase (bit p.addr 32) + j) = ((p.data.drop (32 * j)).take 32).map BitVec.toNat := by
  have hmem : b ∈ s.bkBanks i (p.addr % 2 ^ 32) := List.mem_filter.mpr ⟨List.mem_range.mpr hb, by rw [hbit, hlive]; rfl⟩
  refine kslot_of_get ?_
  rw [State.setkApplied, port_setPort_same]
  exact tabGet_foldl_of_mem hmem (tabGet_putHalf_same _ _ _ hj) (fun m c hc => tabGet_putHalf_ne _ _ hc hj m) _

/-- A BKSETK is applied and reported at once. -/
theorem bksetk_taken (hat : s.atPort id [p.ty] = some (i, p)) (hty : p.ty = 0x21) (haux : p.aux = 0) (hhal : s.hal i = halActive)
    (hnone : (s.port i).bcasts = []) : exec (.bksetkPacket id) s = .next (((s.dropPkt id).setkApplied i p).respond p i 0x22 (doneAux 0 0 1) []) := by
  have hserves : (s.dropPkt id).hal i ≠ halFailed := by
    rw [show (s.dropPkt id).hal i = halActive from hhal]
    decide
  have hempty : ((((s.dropPkt id).setkApplied i p).respond p i 0x22 (doneAux 0 0 1) []).port i).bcasts = [] :=
    congrArg PortState.bcasts (port_setPort_same _ _ _)
  show Host.Outcome.next (s.bkArrive id 0x21) = _
  rw [← hty, bkArrive_takes hat haux, bkTake_serving hserves hnone, taken_setk_settles hty, columnReport_away haux, bkSettle_nil hempty]

/-! A row head (R203) -/

/-- Only the ports have changed. -/
def OnlyPorts (s t : State) : Prop := t = { s with ports := t.ports }

theorem OnlyPorts.refl : OnlyPorts s s := rfl

theorem OnlyPorts.setPort (h : OnlyPorts s t) {i : Nat} {q : PortState} : OnlyPorts s (t.setPort i q) := by
  unfold OnlyPorts
  rw [h]
  rfl

theorem OnlyPorts.trans (h : OnlyPorts s t) (k : OnlyPorts t u) : OnlyPorts s u := by
  unfold OnlyPorts at h k ⊢
  rw [k, h]

/-- The collection of a row head's own column waits for the other columns. -/
def AwaitsRow (i tag : Nat) (s : State) : Prop :=
  ∃ k, (s.port i).collects.find? (fun k => k.tag == tag && k.waits.contains i) = some k ∧ k.waits.filter (· != i) ≠ []

/-- The own column's report joins the collection, and nothing is sent. -/
theorem columnReport_awaited (h : AwaitsRow i p.tag s) (hsrc : p.src = siteNum i) (haux : p.aux = 2) (waves status : Nat) :
    OnlyPorts s (s.columnReport i p waves status) ∧ ((s.columnReport i p waves status).port i).bcasts = (s.port i).bcasts := by
  obtain ⟨k, hfound, hothers⟩ := h
  rw [columnReport_own hsrc haux, bkReport_of_found hfound, bkReported_waits (by exact hothers), port_setPort_same]
  exact ⟨OnlyPorts.refl.setPort, rfl⟩

/-- Its report ends the broadcast at the own port. -/
theorem columnReport_settles (honly : OnlyPorts s t) (hcollects : (t.port i).collects = (s.port i).collects) (hempty : (t.port i).bcasts = [])
    (h : AwaitsRow i p.tag s) (hsrc : p.src = siteNum i) (haux : p.aux = 2) (waves status n : Nat) :
    OnlyPorts s ((t.columnReport i p waves status).bkSettle i n) := by
  obtain ⟨hreport, hbcasts⟩ := columnReport_awaited (s := t) (by rwa [AwaitsRow, hcollects]) hsrc haux waves status
  rw [bkSettle_nil (hbcasts.trans hempty)]
  exact honly.trans hreport

/-- A row head's own column takes the broadcast: nothing but its port changes. -/
theorem bkTake_own (h : AwaitsRow i p.tag s) (hsrc : p.src = siteNum i) (haux : p.aux = 2) (hty : p.ty = 0x20 ∨ p.ty = 0x21)
    (hnone : (s.port i).bcasts = []) : OnlyPorts s (s.bkTake i p) := by
  have htaken : OnlyPorts s (s.taken i p) := OnlyPorts.refl.setPort
  have happlied : OnlyPorts s (s.setkApplied i p) := htaken.setPort
  have hsame (q : PortState) : ((s.taken i p).setPort i q).port i = q := port_setPort_same _ _ _
  by_cases hfailed : s.hal i = halFailed
  · rw [bkTake_failed hfailed]
    exact (columnReport_awaited h hsrc haux 0 4).1
  rw [bkTake_serving hfailed hnone]
  obtain hty | hty := hty
  · by_cases htodo : (s.taking i p).todo = []
    · rw [bkSettle_done (bcasts_taken _ _ _) (setk_taking_cast hty) htodo rfl (show (s.taken i p).hal i ≠ halFailed from hfailed)]
      exact columnReport_settles htaken.setPort (by rw [hsame, State.taken, port_setPort_same]) (by rw [hsame]) h hsrc haux _ _ _
    · rw [bkSettle_todo (bcasts_taken _ _ _) (setk_taking_cast hty) htodo]
      exact htaken
  · rw [taken_setk_settles hty]
    exact columnReport_settles happlied (by rw [State.setkApplied, hsame]) (by rw [State.setkApplied, hsame]) h hsrc haux _ _ _

/-- A row head's collection of its row's reports. -/
def rowCollect (p : Packet) (i tag : Nat) : Collect := ⟨some p, tag, (List.range 17).map (17 * (i / 17) + ·), 1, 0, 0, 0, false, false, 0, 0⟩

theorem mem_row (i : Nat) : i ∈ (List.range 17).map (17 * (i / 17) + ·) :=
  List.mem_map.mpr ⟨i % 17, List.mem_range.mpr (Nat.mod_lt _ (by decide)), Nat.div_add_mod i 17⟩

theorem row_others (i : Nat) : ((List.range 17).map (17 * (i / 17) + ·)).filter (· != i) ≠ [] := by
  obtain ⟨n, hn, hne⟩ : ∃ n < 17, 17 * (i / 17) + n ≠ i := by
    by_cases h : i = 17 * (i / 17)
    · exact ⟨1, by decide, by omega⟩
    · exact ⟨0, by decide, by omega⟩
  exact List.ne_nil_of_mem (List.mem_filter.mpr ⟨List.mem_map.mpr ⟨n, List.mem_range.mpr hn, rfl⟩, by simpa using hne⟩)

/-- The row head's collection has begun, under a tag of its own. -/
def State.rowBegun (s : State) (i : Nat) (p : Packet) : State :=
  ({ s with nextTag := s.nextTag + 1 } : State).setPort i { s.port i with collects := (s.port i).collects ++ [rowCollect p i s.nextTag] }

theorem rowBegun_awaits (hfresh : ∀ k ∈ (s.port i).collects, k.tag ≠ s.nextTag) (p : Packet) : AwaitsRow i s.nextTag (s.rowBegun i p) := by
  refine ⟨rowCollect p i s.nextTag, ?_, row_others i⟩
  have hold : (s.port i).collects.find? (fun k => k.tag == s.nextTag && k.waits.contains i) = none :=
    List.find?_eq_none.mpr fun k hk => by simp [hfresh k hk]
  have hown : (s.nextTag == s.nextTag && ((List.range 17).map (17 * (i / 17) + ·)).contains i) = true := by
    simpa using mem_row i
  rw [State.rowBegun, port_setPort_same, List.find?_append, hold]
  exact List.find?_cons_of_pos (p := fun k : Collect => k.tag == s.nextTag && k.waits.contains i) hown

/-- A row head sends a broadcast on to columns 01 to 16, whatever its own column does with it (R203). -/
theorem bkForward_sends (hfresh : ∀ k ∈ (s.port i).collects, k.tag ≠ s.nextTag) (hty : p.ty = 0x20 ∨ p.ty = 0x21) (hnone : (s.port i).bcasts = []) :
    BroadcastSent i p.ty s.nextTag p.addr 0 p.data ((List.range 16).map (fun k => 17 * (i / 17) + k + 1)) s (s.bkForward i p (fun s p => s.bkTake i p)) ∧
    (s.bkForward i p (fun s p => s.bkTake i p)).dram = s.dram := by
  let own : Packet := { p with src := siteNum i, tag := s.nextTag, aux := 2 }
  let ts := (List.range 16).map (fun k => 17 * (i / 17) + k + 1)
  have hforward : s.bkForward i p (fun s p => s.bkTake i p) = ((s.rowBegun i p).bkTake i own).castAll i p.ty s.nextTag p.addr 0 p.data ts := rfl
  have htake : OnlyPorts (s.rowBegun i p) ((s.rowBegun i p).bkTake i own) :=
    bkTake_own (rowBegun_awaits hfresh p) rfl rfl hty (by rw [State.rowBegun, port_setPort_same]; exact hnone)
  obtain ⟨l, hl⟩ := castAll_rest (i := i) p.ty s.nextTag p.addr 0 p.data ts ((s.rowBegun i p).bkTake i own)
  rw [hforward]
  refine ⟨castAll_sends _ _ _ _ _ _ ?_ ?_, ?_⟩
  · rw [htake]
    rfl
  · rw [htake]
    rfl
  · rw [hl, htake]
    rfl

/-- Settles O34: one column by `bkcmd_failed`, `bkcmd_taken` and `bksetk_taken`, a row head by `bkForward_sends`, and a report by what it leaves of its
collection (`bkReported_waits`, `bkReported_head`, `bkReported_issuer`), the issuer's last being `bkFinish_completes`. -/
theorem bkReports : Obligations.BkReports := by
  intro id i p s hp hplace horder q
  have hat (hhal : s.hal i = halActive ∨ s.hal i = halFailed) : s.atPort id [p.ty] = some (i, p) := atPort_of_inOrder hp hplace horder hhal
  refine ⟨fun hty haux hhal => ?_, fun hty haux hhal hnone => ?_, fun hty haux hhal hnone => ?_, fun x hx haux hhal hnone hfresh => ?_,
    fun hty hresets k src hsrc hone htag hwaits => ?_⟩
  · exact ⟨_, bkcmd_failed (hat (.inr hhal)) hty haux hhal, respond_answers (s.dropPkt id) p i _ _ _, rfl⟩
  · intro cmd sel hsel
    refine ⟨_, bkcmd_taken (hat (.inl hhal)) hty haux hhal hnone hsel, pkt_dropPkt_same s id, ?_, rfl, rfl⟩
    rw [bcasts_taken]
    simp only [State.taking, hty]
    rfl
  · refine ⟨_, bksetk_taken (hat (.inl hhal)) hty haux hhal hnone, respond_answers ((s.dropPkt id).setkApplied i p) p i _ _ _, ?_, rfl, rfl,
      fun b j hb hj hbit hlive => kslot_setkApplied (s := s.dropPkt id) hb hj hbit hlive⟩
    exact congrArg PortState.bcasts (port_setPort_same ((s.dropPkt id).taken i p) i _)
  · have hty : p.ty = 0x20 ∨ p.ty = 0x21 := hx.imp And.right And.right
    have hexec : exec x s = .next (s.bkArrive id p.ty) := by
      obtain ⟨rfl, hty⟩ | ⟨rfl, hty⟩ := hx
      all_goals rw [hty]; rfl
    obtain ⟨hsent, hdram⟩ := bkForward_sends (s := s.dropPkt id) hfresh hty hnone
    exact ⟨_, hexec.trans (congrArg _ (bkArrive_forwards (hat hhal) haux)), hsent, hdram⟩
  · intro waves status columns
    have hexec := exec_bkdone hp hplace hty hsrc hone htag hwaits
    have hstays {t : State} (h : ∀ n, n < 16 → t.pgState (pgPrt n) = s.pgState (pgPrt n)) : t.resetsGo = t :=
      resetsGo_of_none_in_reset fun n hn => by rw [h n hn]; exact hresets n hn
    refine ⟨fun hothers => ?_, fun hlast hd hhead => ?_, fun hlast hhead hcast hten htally hroom hcolumns hhere => ?_⟩
    · rw [bkReported_waits (by exact hothers)] at hexec
      exact ⟨_, hexec.trans (congrArg _ (hstays fun _ _ => rfl)), congrArg PortState.collects (port_setPort_same (s.dropPkt id) i _), rfl, rfl, rfl⟩
    · rw [bkReported_head (by exact hlast) (by exact hhead)] at hexec
      exact ⟨_, hexec.trans (congrArg _ (hstays fun _ _ => rfl)), congrArg PortState.collects (port_setPort_same (s.dropPkt id) i _), respond_answers ((s.dropPkt id).setPort i _) hd i _ _ _, rfl⟩
    · rw [bkReported_issuer (by exact hlast) (by exact hhead)] at hexec
      obtain ⟨hgrown, hqueue, hwaves, hover, hunc, hfail, hcols, hregs⟩ :=
        bkFinish_completes (s := (s.dropPkt id).setPort i { (s.dropPkt id).port i with collects := [] })
          (k := k.reported src (p.aux % 64) (bits p.aux 6 3) (bits p.aux 16 11)) hhere hcast hten htally hroom hcolumns
      rw [hstays fun n hn => hregs.getF ?_] at hexec
      · exact ⟨_, hexec, hgrown, hqueue, hwaves, hover, hunc, hfail, hcols, (bkFinish_quiet _ _ _).dram⟩
      · show ¬ bkDoneReg i k.tally (pgPrt n + 0xC)
        unfold bkDoneReg bkRaisedReg tallyReg onRings
        rw [tallyFld_addr]
        unfold pgPrt pgHyp pgDie pgCore
        omega

end
end Sys2Proof.Machine
end

section
namespace Sys2Proof.Machine

section
variable {s t u : State} {i : Nat}

/-! ### Waves (O33) -/

theorem tokenPeak_only (s : State) (d : Nat) : OnlyRegs (fun a => a = pgDie d + 0x210) s (s.tokenPeak d) :=
  (OnlyRegs.refl (p := fun a => a = pgDie d + 0x210)).setF (f := F.DIE_BK_PEAK_TOK d) _ rfl

/-- H of R207: a token is held back for a refresh that is due. -/
def PortState.holdback (q : PortState) : Nat := b2n (!q.debt.isEmpty && decide (1 ≤ 8 - q.tokens))

/-- The banks that a wave takes (R207). -/
def PortState.waveBanks (q : PortState) (c : Bcast) (cap : Nat) : List Nat := (robin q.ptr c.todo).take (min (8 - q.tokens - q.holdback) cap)

/-- A broadcast whose next wave runs on the banks `take`. -/
def Bcast.waveBegun (c : Bcast) (take : List Nat) : Bcast :=
  { c with todo := c.todo.filter (fun b => !take.contains b), active := take.map (fun b => ⟨b, 0, 0, false, false⟩), waves := c.waves + 1, started := true }

/-- The wave runs in its banks, whose open rows close. -/
def State.waveRuns (s : State) (i : Nat) (take : List Nat) (c : Bcast) (rest : List Bcast) : State :=
  s.setPort i { s.port i with
    bcasts := c.waveBegun take :: rest
    ptr := take.getLastD (s.port i).ptr
    openRows := (s.port i).openRows.filter (fun e => !take.contains e.1) }

/-- A wave of a BKCAST that nothing holds back (R207). -/
theorem startWave_starts {c : Bcast} {rest : List Bcast} {cap : Nat} (hfront : (s.port i).bcasts = c :: rest) (hcast : c.setk = none) (hidle : c.active = [])
    (htodo : c.todo ≠ []) (hroom : 0 < min (8 - (s.port i).tokens - (s.port i).holdback) cap) (hreqs : (s.port i).reqs = []) : s.startWave i cap =
      (((s.waveRuns i ((s.port i).waveBanks c cap) c rest).countF (F.HYP_BK_WAVES_COUNT i) 1).setF (F.HYP_BK_STATUS_HOLDBACK i)
        (s.port i).holdback).tokenPeak (siteDie i) := by
  have hsome : c.todo.isEmpty = false := by simp [htodo]
  have hn : (min (8 - (s.port i).tokens - b2n (!(s.port i).debt.isEmpty && decide (1 ≤ 8 - (s.port i).tokens))) cap == 0) = false :=
    beq_false_of_ne (Nat.ne_of_gt hroom)
  unfold State.startWave
  simp only [hfront]
  rw [if_neg (by simp only [hcast, hidle, hsome, hn, hreqs, List.any_nil]; decide)]
  rfl

theorem waveStart_starts {c : Bcast} {rest : List Bcast} (hhal : s.hal i = halActive) (hfront : (s.port i).bcasts = c :: rest) (hcast : c.setk = none)
    (hidle : c.active = []) (htodo : c.todo ≠ []) (hroom : 0 < min (8 - (s.port i).tokens - (s.port i).holdback) (s.effCap i)) (hreqs : (s.port i).reqs = []) :
    let take := (s.port i).waveBanks c (s.effCap i)
    ∃ t, exec (.waveStart i) s = .next t ∧ (t.port i).bcasts = c.waveBegun take :: rest ∧ (t.port i).ptr = take.getLastD (s.port i).ptr ∧
      t.getF (F.HYP_BK_STATUS_HOLDBACK i) = (s.port i).holdback ∧ t.dram = s.dram ∧
      t.getF (F.HYP_BK_WAVES_COUNT i) = satAdd (s.getF (F.HYP_BK_WAVES_COUNT i)) 1 (2 ^ (F.HYP_BK_WAVES_COUNT i).width - 1) := by
  intro take
  let runs := s.waveRuns i take c rest
  let shown := (runs.countF (F.HYP_BK_WAVES_COUNT i) 1).setF (F.HYP_BK_STATUS_HOLDBACK i) (s.port i).holdback
  have hexec : exec (.waveStart i) s = .next (shown.tokenPeak (siteDie i)) := by
    show execWaveStart i s = _
    rw [execWaveStart, if_pos hhal, startWave_starts hfront hcast hidle htodo hroom hreqs]
  obtain ⟨hrest, hregs⟩ := tokenPeak_only shown (siteDie i)
  have hport : (shown.tokenPeak (siteDie i)).port i = runs.port i := by rw [hrest]; rfl
  have hruns : runs.port i = _ := port_setPort_same _ _ _
  refine ⟨_, hexec, ?_, ?_, ?_, ?_, ?_⟩
  · rw [hport, hruns]
  · rw [hport, hruns]
  · rw [hregs.getF (by simp only [F.HYP_BK_STATUS_HOLDBACK, pgDie]; omega)]
    exact getF_setF (f := F.HYP_BK_STATUS_HOLDBACK i) (b2n_lt _) (by decide : 12 + 1 ≤ 32)
  · rw [hrest]
    rfl
  · rw [hregs.getF (by simp only [F.HYP_BK_WAVES_COUNT, pgDie]; omega), getF_setF_ne _ _ (by simp [F.HYP_BK_WAVES_COUNT, F.HYP_BK_STATUS_HOLDBACK])]
    exact getF_countF (f := F.HYP_BK_WAVES_COUNT i) (by decide : 0 + 32 ≤ 32)

end
end Sys2Proof.Machine
end

section
namespace Sys2Proof.Machine

section
variable {s t u : State} {i b : Nat}

/-! ### What a step leaves of its port (R195) -/

/-- The requests and broadcasts of a port, and its count of steps, are as before. -/
structure StepKept (i : Nat) (s t : State) : Prop where
  reqs : (t.port i).reqs = (s.port i).reqs
  bcasts : (t.port i).bcasts = (s.port i).bcasts
  steps : t.getF (F.HYP_BK_STEPS_COUNT i) = s.getF (F.HYP_BK_STEPS_COUNT i)

theorem StepKept.refl : StepKept i s s := ⟨rfl, rfl, rfl⟩

theorem StepKept.ite {c : Prop} {_ : Decidable c} (ht : StepKept i s t) (hu : StepKept i s u) : StepKept i s (if c then t else u) := by
  split
  · exact ht
  · exact hu

theorem StepKept.setF (h : StepKept i s t) {f : Fld} (hf : f.addr ≠ pgHyp i + 0x40C) {v : Nat} : StepKept i s (t.setF f v) :=
  ⟨h.reqs, h.bcasts, (getF_setF_ne t v (Ne.symm hf)).trans h.steps⟩

theorem StepKept.withRel (h : StepKept i s t) {r : RelState} : StepKept i s { t with rel := r } := ⟨h.reqs, h.bcasts, h.steps⟩

theorem StepKept.raise (h : StepKept i s t) {mask : Nat} : StepKept i s (t.raise pgRel mask) := by
  obtain ⟨hrest, hregs⟩ := raise_events t pgRel mask
  have hport : (t.raise pgRel mask).port i = t.port i := by rw [hrest]; rfl
  refine ⟨by rw [hport, h.reqs], by rw [hport, h.bcasts], (hregs.getF ?_).trans h.steps⟩
  simp only [F.HYP_BK_STEPS_COUNT, onRings, pgRel]
  omega

/-- The error log lies below the pages of the halyard ports (R369). -/
theorem StepKept.setLog (h : StepKept i s t) {f : Fld} (hf : f.addr < 0x800000) {v : Nat} : StepKept i s (t.setF f v) :=
  h.setF (by unfold pgHyp; omega)

theorem elogAddr (k : Nat) : (F.G_ELOG_REC0 (k % 64)).addr < 0x800000 ∧ (F.G_ELOG_REC1 (k % 64)).addr < 0x800000 ∧
    (F.G_ELOG_REC2 (k % 64)).addr < 0x800000 ∧ (F.G_ELOG_REC3 (k % 64)).addr < 0x800000 := by
  simp only [F.G_ELOG_REC0, F.G_ELOG_REC1, F.G_ELOG_REC2, F.G_ELOG_REC3]
  omega

theorem StepKept.logRecord (h : StepKept i s t) {kind flags site loc synd : Nat} : StepKept i s (t.logRecord kind flags site loc synd) := by
  unfold State.logRecord
  extract_lets +onlyGivenNames w0 orb wr full _ s1
  obtain ⟨h0, h1, h2, h3⟩ := elogAddr wr
  have hs1 : StepKept i s s1 := .ite (h.setLog (f := F.G_ELOG_LOST_COUNT) (by decide)).raise
    (((((h.setLog h0).setLog h1).setLog h2).setLog h3).setLog (f := F.G_ELOG_WR_COUNT) (by decide))
  exact .ite (StepKept.ite ((((hs1.setLog (f := F.PG_ERRCAP pgRel 0) (by decide)).setLog (f := F.PG_ERRCAP pgRel 1) (by decide)).setLog
    (f := F.PG_ERRCAP pgRel 2) (by decide)).setLog (f := F.PG_ERRCAP pgRel 3) (by decide)) hs1).raise hs1

theorem StepKept.logCode (h : StepKept i s t) {kind site loc : Nat} {o : CodeOut} : StepKept i s (t.logCode kind site loc o) := by
  unfold State.logCode
  split
  · exact h
  · exact (h.setLog (f := F.G_UE_COUNT_COUNT) (by decide)).logRecord
  extract_lets +onlyGivenNames s1
  have h1 : StepKept i s s1 := (h.setLog (f := F.G_CE_COUNT_COUNT) (by decide)).raise
  split
  · exact .ite h1 h1.withRel.logRecord
  · exact h1.withRel.logRecord

theorem StepKept.dramLog (h : StepKept i s t) {kind a n : Nat} : StepKept i s (t.dramLog kind a n) := List.foldlRecOn _ _ h fun _ ht _ _ => ht.logCode

theorem StepKept.checkUnit (h : StepKept i s t) {b row a n kind logKind : Nat} : StepKept i s (t.checkUnit i b row a n kind logKind).1 := by
  unfold State.checkUnit
  extract_lets es atoms bad ok s1 s2
  have h2 : StepKept i s s2 := (h.dramLog.setF (f := F.HYP_BK_CORR_COUNT i) (by simp [F.HYP_BK_CORR_COUNT, pgHyp])).setF (f := F.HYP_BK_UNCORR_COUNT i)
    (by simp [F.HYP_BK_UNCORR_COUNT, pgHyp])
  split
  · exact h2
  · exact ((h2.setF (f := F.HYP_BK_LASTERR_DROW i) (by simp [F.HYP_BK_LASTERR_DROW, pgHyp])).setF (f := F.HYP_BK_LASTERR_BANK i)
      (by simp [F.HYP_BK_LASTERR_BANK, pgHyp])).setF (f := F.HYP_BK_LASTERR_KIND i) (by simp [F.HYP_BK_LASTERR_KIND, pgHyp])

theorem Quiet.checkUnit (h : Quiet s t) {i b row a n kind logKind : Nat} : Quiet s (t.checkUnit i b row a n kind logKind).1 := by
  unfold State.checkUnit
  extract_lets es atoms bad ok s1 s2
  have h2 : Quiet s s2 := h.dramLog.setF.setF
  split
  · exact h2
  · exact h2.setF.setF.setF

theorem StepKept.dramPut (h : StepKept i s t) {l : List (Nat × Byte)} : StepKept i s (t.dramPut l) := by
  unfold State.dramPut
  extract_lets s1
  have h1 : StepKept i s s1 := ⟨h.reqs, h.bcasts, h.steps⟩
  split
  · exact h1
  next a _ =>
    have hflip : StepKept i s ({ s1 with dram := { s1.dram with flips := tabPut s1.dram.flips a s1.flipMask } } : State) := ⟨h1.reqs, h1.bcasts, h1.steps⟩
    exact .ite ((hflip.setLog (f := F.G_FLIP_CTRL_ARM) (by decide)).setLog (f := F.G_FLIP_CTRL_DONE) (by decide)) h1

theorem StepKept.setKslots (h : StepKept i s t) {k : Tab (List Nat)} : StepKept i s (t.setPort i { t.port i with kslots := k }) :=
  ⟨by rw [port_setPort_same]; exact h.reqs, by rw [port_setPort_same]; exact h.bcasts, h.steps⟩

theorem bkStep_kept (s : State) (i b : Nat) (c : List Nat) (x : BkStep) : StepKept i s (s.bkStep i b c x).1 := by
  cases x with
  | readSrc r => exact StepKept.refl.checkUnit
  | readDst r => exact StepKept.refl.checkUnit
  | write k => exact StepKept.refl.dramPut
  | kload => exact StepKept.refl.checkUnit.setKslots
  | scrub r => exact StepKept.refl.checkUnit.dramPut
  | logic k => exact StepKept.refl.dramPut

/-! ### What a step does (R197 to R199) -/

theorem writes_addrsFrom (m : Memory) (a : Nat) (l : List Byte) : m.writes (addrsFrom a l) = m.writeL a l := by
  induction l generalizing m a with
  | nil => rfl
  | cons x l ih => exact ih (m.write a x) (a + 1)

/-- A run of bytes that a step writes reads what was written, and no other byte changes. -/
theorem read_dramPut_in {l : List Byte} {a k : Nat} {x : Byte} (h : l[k]? = some x) (s : State) : (s.dramPut (addrsFrom a l)).dram.read (a + k) = x := by
  rw [(dramPut_wrote s _).2, writes_addrsFrom]
  exact Memory.read_writeL_in _ _ _ _ _ h

theorem read_dramPut_out {l : List Byte} {a c : Nat} (h : c < a ∨ a + l.length ≤ c) (s : State) :
    (s.dramPut (addrsFrom a l)).dram.read c = s.dram.read c := by
  rw [(dramPut_wrote s _).2, writes_addrsFrom]
  exact Memory.read_writeL_out _ _ _ _ h

theorem length_toBytes (l : List Nat) : (toBytes l).length = l.length := List.length_map _

theorem getElem?_toBytes {l : List Nat} {k x : Nat} (h : l[k]? = some x) : (toBytes l)[k]? = some (BitVec.ofNat 8 x) := by
  rw [toBytes, List.getElem?_map, h]
  rfl

/-! Logic steps (R199) -/

/-- A stored byte of a row, as the sense amplifiers hold it: an error of its cells with it. -/
def State.rawByte (s : State) (i b r y : Nat) : Nat := Nat.xor (s.dram.read (rowAddr i b r + y)).toNat ((tabGet s.dram.flips (rowAddr i b r + y)).getD 0 % 256)

/-- The bitwise result of a logic operation. -/
def logicByte (bop x y : Nat) : Nat :=
  if bop = 3 then Nat.land x y else if bop = 4 then Nat.lor x y else if bop = 5 then Nat.xor x y else 255 - x

/-- The row that a logic step writes. -/
def State.logicRow (s : State) (i b : Nat) (c : List Nat) (k : Nat) : List Nat :=
  (List.range 2048).map (fun y => logicByte (cmdBop c) (s.rawByte i b (cmdSrc c + k) y) (s.rawByte i b (cmdSrc2 c + k) y))

theorem bkStep_logic (s : State) (i b : Nat) (c : List Nat) (k : Nat) :
    (s.bkStep i b c (.logic k)).1 = s.dramPut (addrsFrom (rowAddr i b (cmdDst c + k)) (toBytes (s.logicRow i b c k))) := by
  have hrow : s.logicRow i b c k = match cmdBop c with
      | 3 => (((List.range 2048).map (s.rawByte i b (cmdSrc c + k))).zip ((List.range 2048).map (s.rawByte i b (cmdSrc2 c + k)))).map (fun p => Nat.land p.1 p.2)
      | 4 => (((List.range 2048).map (s.rawByte i b (cmdSrc c + k))).zip ((List.range 2048).map (s.rawByte i b (cmdSrc2 c + k)))).map (fun p => Nat.lor p.1 p.2)
      | 5 => (((List.range 2048).map (s.rawByte i b (cmdSrc c + k))).zip ((List.range 2048).map (s.rawByte i b (cmdSrc2 c + k)))).map (fun p => Nat.xor p.1 p.2)
      | _ => ((List.range 2048).map (s.rawByte i b (cmdSrc c + k))).map (fun v => 255 - v) := by
    unfold State.logicRow
    split
    next h => simp [h, logicByte, List.zip_map']
    next h => simp [h, logicByte, List.zip_map']
    next h => simp [h, logicByte, List.zip_map']
    next h3 h4 h5 => simp [logicByte, if_neg h3, if_neg h4, if_neg h5]
  rw [hrow]
  rfl

theorem length_logicRow (s : State) (i b : Nat) (c : List Nat) (k : Nat) : (s.logicRow i b c k).length = 2048 := by
  rw [State.logicRow, List.length_map, List.length_range]

theorem getElem?_logicRow (s : State) (i b : Nat) (c : List Nat) (k : Nat) {y : Nat} (h : y < 2048) :
    (s.logicRow i b c k)[y]? = some (logicByte (cmdBop c) (s.rawByte i b (cmdSrc c + k) y) (s.rawByte i b (cmdSrc2 c + k) y)) := by
  rw [State.logicRow, List.getElem?_map, List.getElem?_range h]
  rfl

/-! Write steps of DOT (R197) -/

theorem getElem?_leBytes (n v : Nat) {y : Nat} (h : y < n) : (leBytes n v)[y]? = some (bits v (8 * y) 8) := by
  induction n generalizing v y with
  | zero => omega
  | succ n ih =>
    cases y with
    | zero => simp [leBytes, bits]
    | succ y =>
      rw [leBytes, List.getElem?_cons_succ, ih _ (by omega), bits, bits, show 256 = 2 ^ 8 from rfl, ← Nat.shiftRight_eq_div_pow, ← Nat.shiftRight_add,
        show 8 + 8 * y = 8 * (y + 1) by omega]

/-- Of parts of one length, one for each index, part `m` stands `m` lengths in. -/
theorem getElem?_flatMap_range {g : Nat → List Nat} {c : Nat} (hg : ∀ k, (g k).length = c) {n m y : Nat} (hm : m < n) (hy : y < c) :
    ((List.range n).flatMap g)[c * m + y]? = (g m)[y]? := by
  induction n with
  | zero => omega
  | succ n ih =>
    have hlen : ((List.range n).flatMap g).length = c * n := (length_flatMap_range hg n).trans (Nat.mul_comm _ _)
    rw [List.range_succ, List.flatMap_append, List.flatMap_singleton]
    by_cases h : m = n
    · subst h
      rw [List.getElem?_append_right (by omega), hlen, Nat.add_sub_cancel_left]
    · have hle : c * m + c ≤ c * n := by
        rw [← Nat.mul_succ]
        exact Nat.mul_le_mul_left c (by omega)
      rw [List.getElem?_append_left (by omega), ih (by omega)]

/-- The outputs of a DOT that lie in its destination row `k`, as bytes, and what pads the last atom. -/
def State.dotBytes (s : State) (i b : Nat) (c : List Nat) (k : Nat) : List Nat :=
  (List.range (min 512 (cmdRows c * dotV c - 512 * k))).flatMap
    (fun x => leBytes 4 (s.dotOut i b c ((List.range (cmdVl c)).map (fun j => (s.port i).kslot b j)) (512 * k + x)))

def State.dotRow (s : State) (i b : Nat) (c : List Nat) (k : Nat) : List Nat :=
  s.dotBytes i b c k ++ List.replicate ((32 - (s.dotBytes i b c k).length % 32) % 32) 0

theorem bkStep_write (s : State) (i b : Nat) (c : List Nat) (k : Nat) :
    (s.bkStep i b c (.write k)).1 = s.dramPut (addrsFrom (rowAddr i b (cmdDst c + k)) (toBytes (s.dotRow i b c k))) := rfl

theorem length_dotBytes (s : State) (i b : Nat) (c : List Nat) (k : Nat) : (s.dotBytes i b c k).length = min 512 (cmdRows c * dotV c - 512 * k) * 4 :=
  length_flatMap_range (fun _ => length_leBytes 4 _) _

theorem length_dotRow_le (s : State) (i b : Nat) (c : List Nat) (k : Nat) : (s.dotRow i b c k).length ≤ 2048 := by
  have hlen := length_dotBytes s i b c k
  rw [State.dotRow, List.length_append, List.length_replicate]
  omega

theorem getElem?_dotRow (s : State) (i b : Nat) (c : List Nat) (k : Nat) {m y : Nat} (hm : m < 512) (hout : 512 * k + m < cmdRows c * dotV c) (hy : y < 4) :
    (s.dotRow i b c k)[4 * m + y]? =
      some (bits (s.dotOut i b c ((List.range (cmdVl c)).map (fun j => (s.port i).kslot b j)) (512 * k + m)) (8 * y) 8) := by
  have hlen := length_dotBytes s i b c k
  rw [State.dotRow, List.getElem?_append_left (by omega), State.dotBytes, getElem?_flatMap_range (fun _ => length_leBytes 4 _) (by omega) hy,
    getElem?_leBytes 4 _ hy]

/-! KLOAD (R198) -/

theorem bkStep_kload_dram (s : State) (i b : Nat) (c : List Nat) : (s.bkStep i b c .kload).1.dram = s.dram := Quiet.refl.checkUnit.dram

/-- What KLOAD puts into a slot. -/
def State.kloadSlot (s : State) (i b : Nat) (c : List Nat) (j : Nat) : List Nat :=
  let a := rowAddr i b (cmdSrc c) + 32 * cmdAtom c + 32 * j
  if s.dramBad a 32 then (List.replicate 16 [0xC0, 0x7F]).flatten else s.dramData a 32

/-- The state once the check unit has met the atoms of a KLOAD. -/
def State.kloadRead (s : State) (i b : Nat) (c : List Nat) : State := (s.checkUnit i b (cmdSrc c) (rowAddr i b (cmdSrc c) + 32 * cmdAtom c) 512 2 2).1

theorem bkStep_kload (s : State) (i b : Nat) (c : List Nat) : (s.bkStep i b c .kload).1 = (s.kloadRead i b c).setPort i { (s.kloadRead i b c).port i with
    kslots := (List.range 16).foldl (fun m j => tabPut m (16 * b + j) (s.kloadSlot i b c j)) ((s.kloadRead i b c).port i).kslots } := by
  rw [State.bkStep]
  simp only [State.kloadSlot, State.kloadRead]

/-- A correctable atom is copied into its slot. -/
theorem bkStep_kload_slot (s : State) (i b : Nat) (c : List Nat) {j : Nat} (hj : j < 16)
    (hgood : s.dramBad (rowAddr i b (cmdSrc c) + 32 * cmdAtom c + 32 * j) 32 = false) :
    tabGet ((s.bkStep i b c .kload).1.port i).kslots (16 * b + j) = some (s.dramData (rowAddr i b (cmdSrc c) + 32 * cmdAtom c + 32 * j) 32) := by
  have hslot : s.kloadSlot i b c j = s.dramData (rowAddr i b (cmdSrc c) + 32 * cmdAtom c + 32 * j) 32 := if_neg (Bool.eq_false_iff.mp hgood)
  rw [bkStep_kload, port_setPort_same, ← hslot]
  dsimp only
  have hput := tabGet_foldl_of_mem (f := fun m j => tabPut m (16 * b + j) (s.kloadSlot i b c j)) (List.mem_range.mpr hj)
    (fun m => tabGet_tabPut_same m (16 * b + j) (s.kloadSlot i b c j)) (fun m k hk => tabGet_tabPut_ne m _ (by omega))
  exact hput ((s.kloadRead i b c).port i).kslots

end
end Sys2Proof.Machine
end

section
namespace Sys2Proof.Machine

section
variable {s t u : State} {i b : Nat}

/-! ### The end of a step, and of an operation (O33) -/

/-- The step `x` has been done and counted, and its token's time spent. -/
def State.stepped (s : State) (i b cycles : Nat) (c : Bcast) (x : BkStep) : State :=
  ((s.bkStep i b c.cmd x).1.countF (F.HYP_BK_STEPS_COUNT i) 1).tokensSpent i cycles

/-- The operation of bank `b` is over: its token is free, and what is complete is reported. -/
def State.opEnded (u : State) (i b : Nat) (unc : Bool) : State :=
  (((u.setOp i b unc (fun _ => none)).countF (F.HYP_BK_OPS_COUNT i) 1).bankDone i b).bkSettle i 64

/-- An urgent refresh falls into the gap after a step (R211). -/
def State.urgentGap (u : State) (i b : Nat) (o : BankOp) : Bool :=
  decide (0 < (u.port i).debtOf b) && decide (u.debtLimit i b ≤ (u.port i).debtOf b) && decide (o.inserted < 2)

/-- It is taken from the debt and counted. -/
def State.urgentTaken (u : State) (i b : Nat) : State :=
  ((u.setPort i ((u.port i).setDebt b ((u.port i).debtOf b - 1))).countF (F.HYP_REF_OPS_COUNT i) 1).countF (F.HYP_REF_URGENT_COUNT i) 1

/-- The operation of a bank after a step that is not its last. -/
def BankOp.advanced (o : BankOp) (urgent : Bool) : BankOp := { o with step := o.step + 1, refreshing := urgent, inserted := o.inserted + b2n urgent }

/-- The operation goes on to its next step: a gap, in which a request can be served, and the bank is claimed again. -/
def State.opGoesOn (u : State) (i b : Nat) (o : BankOp) (unc : Bool) : State :=
  (((if u.urgentGap i b o then u.urgentTaken i b else u).serveGap i b).closeRow i b).setOp i b unc (fun x => some (x.advanced (u.urgentGap i b o)))

theorem endStep_eq {cycles : Nat} {c : Bcast} {rest : List Bcast} {o : BankOp} {x : BkStep} (hfront : (s.port i).bcasts = c :: rest)
    (hop : c.active.find? (fun o => o.bank == b) = some o) (hrefreshing : o.refreshing = false) (hbank : (s.port i).refreshing.contains b = false)
    (hscrub : (s.port i).scrubbing = none) (hx : (bkSteps c.cmd)[o.step]? = some x) : s.endStep i b cycles =
      if o.step + 1 = (bkSteps c.cmd).length then (s.stepped i b cycles c x).opEnded i b (s.bkStep i b c.cmd x).2
      else (s.stepped i b cycles c x).opGoesOn i b o (s.bkStep i b c.cmd x).2 := by
  simp only [State.endStep, hscrub, hfront, hop, hrefreshing, hbank, hx, Option.any_none, Bool.or_self, Bool.false_eq_true, if_false]
  split
  · rfl
  · rfl

/-- The front broadcast with the operations of bank `b` changed by `f`. -/
def Bcast.withOp (c : Bcast) (b : Nat) (unc : Bool) (f : BankOp → Option BankOp) : Bcast :=
  { c with active := c.active.filterMap (fun o => if o.bank = b then f o else some o), uncorr := c.uncorr || unc }

theorem setOp_of_front {c : Bcast} {rest : List Bcast} (h : (u.port i).bcasts = c :: rest) (b : Nat) (unc : Bool) (f : BankOp → Option BankOp) :
    u.setOp i b unc f = u.setPort i { u.port i with bcasts := c.withOp b unc f :: rest } := by
  simp only [State.setOp, h] <;> rfl

theorem mem_withOp {c : Bcast} {o o' : BankOp} (h : o ∈ c.active) (hbank : o.bank = b) {f : BankOp → Option BankOp} (hf : f o = some o') (unc : Bool) :
    o' ∈ (c.withOp b unc f).active := List.mem_filterMap.mpr ⟨o, h, by rw [if_pos hbank, hf]⟩

/-! The step has been counted -/

theorem port_tokensSpent (s : State) (i n j : Nat) : (s.tokensSpent i n).port j = s.port j := rfl

theorem dram_tokensSpent (s : State) (i n : Nat) : (s.tokensSpent i n).dram = s.dram := rfl

theorem stepped_dram (s : State) (i b cycles : Nat) (c : Bcast) (x : BkStep) : (s.stepped i b cycles c x).dram = (s.bkStep i b c.cmd x).1.dram := by
  rw [State.stepped, dram_tokensSpent, State.countF_dram]

theorem stepped_port (s : State) (i b cycles : Nat) (c : Bcast) (x : BkStep) : (s.stepped i b cycles c x).port i = (s.bkStep i b c.cmd x).1.port i := by
  rw [State.stepped, port_tokensSpent, port_countF]

theorem getF_tokensSpent {f : Fld} (s : State) (i n : Nat) (h : f.addr ≠ (F.HYP_BK_TOKNS_COUNT i).addr) : (s.tokensSpent i n).getF f = s.getF f :=
  getF_countF_ne s n h

theorem steps_countF (s : State) (i : Nat) : (s.countF (F.HYP_BK_STEPS_COUNT i) 1).getF (F.HYP_BK_STEPS_COUNT i) =
    satAdd (s.getF (F.HYP_BK_STEPS_COUNT i)) 1 (2 ^ (F.HYP_BK_STEPS_COUNT i).width - 1) :=
  getF_countF (f := F.HYP_BK_STEPS_COUNT i) (by decide : 0 + 32 ≤ 32)

theorem stepped_counts (s : State) (i b cycles : Nat) (c : Bcast) (x : BkStep) : (s.stepped i b cycles c x).getF (F.HYP_BK_STEPS_COUNT i) =
    satAdd (s.getF (F.HYP_BK_STEPS_COUNT i)) 1 (2 ^ (F.HYP_BK_STEPS_COUNT i).width - 1) := by
  rw [State.stepped, getF_tokensSpent _ _ _ (by simp [F.HYP_BK_STEPS_COUNT, F.HYP_BK_TOKNS_COUNT]), steps_countF, (bkStep_kept s i b c.cmd x).steps]

/-! An operation that goes on -/

theorem getF_setPort (s : State) (i : Nat) (q : PortState) (f : Fld) : (s.setPort i q).getF f = s.getF f := rfl

theorem serveGap_of_idle (h : (u.port i).reqs = []) (b : Nat) : u.serveGap i b = u := by
  simp only [State.serveGap, h, List.find?_nil]

theorem getF_steps_urgentTaken (u : State) (i b : Nat) : (u.urgentTaken i b).getF (F.HYP_BK_STEPS_COUNT i) = u.getF (F.HYP_BK_STEPS_COUNT i) := by
  rw [State.urgentTaken, getF_countF_ne _ _ (by simp [F.HYP_BK_STEPS_COUNT, F.HYP_REF_URGENT_COUNT]),
    getF_countF_ne _ _ (by simp [F.HYP_BK_STEPS_COUNT, F.HYP_REF_OPS_COUNT])]
  rfl

theorem dram_urgentTaken (u : State) (i b : Nat) : (u.urgentTaken i b).dram = u.dram := by
  rw [State.urgentTaken, State.countF_dram, State.countF_dram]
  rfl

theorem port_urgentTaken (u : State) (i b : Nat) : (u.urgentTaken i b).port i = (u.port i).setDebt b ((u.port i).debtOf b - 1) := port_setPort_same _ _ _

/-- Where no request waits, the gap leaves memory and the K slots alone, and the operation has advanced. -/
theorem opGoesOn_keeps {c : Bcast} {rest : List Bcast} (hfront : (u.port i).bcasts = c :: rest) (hreqs : (u.port i).reqs = []) (o : BankOp) (unc : Bool) :
    let t := u.opGoesOn i b o unc
    t.dram = u.dram ∧ (t.port i).kslots = (u.port i).kslots ∧ t.getF (F.HYP_BK_STEPS_COUNT i) = u.getF (F.HYP_BK_STEPS_COUNT i) ∧
    (t.port i).bcasts = c.withOp b unc (fun o' => some (o'.advanced (u.urgentGap i b o))) :: rest := by
  intro t
  let v := if u.urgentGap i b o then u.urgentTaken i b else u
  have hv : v.dram = u.dram ∧ (v.port i).kslots = (u.port i).kslots ∧ (v.port i).reqs = [] ∧ (v.port i).bcasts = c :: rest ∧
      v.getF (F.HYP_BK_STEPS_COUNT i) = u.getF (F.HYP_BK_STEPS_COUNT i) := by
    simp only [v]
    split
    · rw [port_urgentTaken, dram_urgentTaken, getF_steps_urgentTaken]
      exact ⟨rfl, rfl, hreqs, hfront, rfl⟩
    · exact ⟨rfl, rfl, hreqs, hfront, rfl⟩
  obtain ⟨hdram, hslots, hidle, hbcasts, hsteps⟩ := hv
  have hclosed : (v.closeRow i b).port i = _ := port_setPort_same _ _ _
  have ht : t = (v.closeRow i b).setPort i { (v.closeRow i b).port i with
      bcasts := c.withOp b unc (fun o' => some (o'.advanced (u.urgentGap i b o))) :: rest } := by
    show ((v.serveGap i b).closeRow i b).setOp i b unc _ = _
    rw [serveGap_of_idle hidle, setOp_of_front (by rw [hclosed]; exact hbcasts)]
  have hread : t.getF (F.HYP_BK_STEPS_COUNT i) = v.getF (F.HYP_BK_STEPS_COUNT i) := by rw [ht, getF_setPort, State.closeRow, getF_setPort]
  rw [hread, ht, port_setPort_same, hclosed]
  refine ⟨?_, ?_, hsteps, rfl⟩
  · rw [State.setPort_dram, State.closeRow, State.setPort_dram, hdram]
  · exact hslots

/-! An operation that is over -/

theorem columnReport_dram (s : State) (i : Nat) (p : Packet) (waves status : Nat) : (s.columnReport i p waves status).dram = s.dram := by
  unfold State.columnReport
  split
  · exact bkReport_dram _ _ _ _ _ _ _
  · rfl

theorem bkSettle_dram (n : Nat) (s : State) (i : Nat) : (s.bkSettle i n).dram = s.dram := by
  induction n generalizing s with
  | zero => rfl
  | succ n ih =>
    unfold State.bkSettle
    extract_lets q
    split
    · rfl
    extract_lets put
    split
    · rw [ih, columnReport_dram]
      rfl
    split
    · rw [ih, columnReport_dram]
      rfl
    split
    · rw [ih, columnReport_dram]
      rfl
    · rfl

theorem bankDone_keeps (u : State) (i b : Nat) : (u.bankDone i b).dram = u.dram ∧ ((u.bankDone i b).port i).bcasts = (u.port i).bcasts ∧
    ((u.bankDone i b).port i).kslots = (u.port i).kslots := by
  unfold State.bankDone
  extract_lets q0 q d
  split
  · simp [State.beginRefresh, State.tokenPeak, PortState.setDebt, q, q0]
  · simp [q, q0]

/-- The end of an operation leaves memory alone. -/
theorem opEnded_dram (u : State) (i b : Nat) (unc : Bool) : (u.opEnded i b unc).dram = u.dram := by
  have hset : (u.setOp i b unc (fun _ => none)).dram = u.dram := by
    unfold State.setOp
    extract_lets q
    split <;> rfl
  rw [State.opEnded, bkSettle_dram, (bankDone_keeps _ i b).1, State.countF_dram, hset]

/-- With banks still to start, the broadcast stays, and the K slots stand. -/
theorem opEnded_kslots {c : Bcast} {rest : List Bcast} (hfront : (u.port i).bcasts = c :: rest) (hcast : c.setk = none) (htodo : c.todo ≠ []) (b : Nat)
    (unc : Bool) : ((u.opEnded i b unc).port i).kslots = (u.port i).kslots := by
  let v := (u.setOp i b unc (fun _ => none)).countF (F.HYP_BK_OPS_COUNT i) 1
  have hv : v.port i = { u.port i with bcasts := c.withOp b unc (fun _ => none) :: rest } := by
    show (u.setOp i b unc (fun _ => none)).port i = _
    rw [setOp_of_front hfront, port_setPort_same]
  obtain ⟨-, hbcasts, hslots⟩ := bankDone_keeps v i b
  rw [hv] at hbcasts hslots
  have hstays : u.opEnded i b unc = v.bankDone i b := bkSettle_todo hbcasts hcast htodo 64
  rw [hstays, hslots]

/-! ENGINE_STEP_COMPLETE -/

section
variable {c : Bcast} {rest : List Bcast} {o : BankOp} {x : BkStep} {cycles : Nat}

/-- A running operation, its next step `x`, and a bank and a port that nothing else occupies. -/
structure Stepping (s : State) (i b : Nat) (c : Bcast) (rest : List Bcast) (o : BankOp) (x : BkStep) : Prop where
  front : (s.port i).bcasts = c :: rest
  op : c.active.find? (fun o => o.bank == b) = some o
  opIdle : o.refreshing = false
  bankIdle : (s.port i).refreshing.contains b = false
  noScrub : (s.port i).scrubbing = none
  noReqs : (s.port i).reqs = []
  step : (bkSteps c.cmd)[o.step]? = some x

theorem Stepping.endStep_last (h : Stepping s i b c rest o x) (hlast : o.step + 1 = (bkSteps c.cmd).length) :
    s.endStep i b cycles = (s.stepped i b cycles c x).opEnded i b (s.bkStep i b c.cmd x).2 :=
  (endStep_eq h.front h.op h.opIdle h.bankIdle h.noScrub h.step).trans (if_pos hlast)

theorem Stepping.endStep_more (h : Stepping s i b c rest o x) (hmore : o.step + 1 ≠ (bkSteps c.cmd).length) :
    s.endStep i b cycles = (s.stepped i b cycles c x).opGoesOn i b o (s.bkStep i b c.cmd x).2 :=
  (endStep_eq h.front h.op h.opIdle h.bankIdle h.noScrub h.step).trans (if_neg hmore)

theorem Stepping.stepped_front (h : Stepping s i b c rest o x) : ((s.stepped i b cycles c x).port i).bcasts = c :: rest := by
  rw [stepped_port, (bkStep_kept s i b c.cmd x).bcasts, h.front]

theorem Stepping.stepped_reqs (h : Stepping s i b c rest o x) : ((s.stepped i b cycles c x).port i).reqs = [] := by
  rw [stepped_port, (bkStep_kept s i b c.cmd x).reqs, h.noReqs]

/-- Memory is as the step leaves it. -/
theorem Stepping.endStep_dram (h : Stepping s i b c rest o x) : (s.endStep i b cycles).dram = (s.bkStep i b c.cmd x).1.dram := by
  by_cases hlast : o.step + 1 = (bkSteps c.cmd).length
  · rw [h.endStep_last hlast, opEnded_dram, stepped_dram]
  · rw [h.endStep_more hlast, (opGoesOn_keeps h.stepped_front h.stepped_reqs o _).1, stepped_dram]

/-- With banks still to start, so are the K slots. -/
theorem Stepping.endStep_kslots (h : Stepping s i b c rest o x) (hcast : c.setk = none) (htodo : c.todo ≠ []) :
    ((s.endStep i b cycles).port i).kslots = ((s.bkStep i b c.cmd x).1.port i).kslots := by
  by_cases hlast : o.step + 1 = (bkSteps c.cmd).length
  · rw [h.endStep_last hlast, opEnded_kslots h.stepped_front hcast htodo, stepped_port]
  · rw [h.endStep_more hlast, (opGoesOn_keeps h.stepped_front h.stepped_reqs o _).2.1, stepped_port]

/-- An operation with steps left has counted this one and goes to its next. -/
theorem Stepping.endStep_advances (h : Stepping s i b c rest o x) (hmore : o.step + 1 < (bkSteps c.cmd).length) :
    (s.endStep i b cycles).getF (F.HYP_BK_STEPS_COUNT i) = satAdd (s.getF (F.HYP_BK_STEPS_COUNT i)) 1 (2 ^ (F.HYP_BK_STEPS_COUNT i).width - 1) ∧
    ∃ c' o', ((s.endStep i b cycles).port i).bcasts = c' :: rest ∧ o' ∈ c'.active ∧ o'.bank = b ∧ o'.step = o.step + 1 := by
  obtain ⟨-, -, hsteps, hbcasts⟩ := opGoesOn_keeps (b := b) (h.stepped_front (cycles := cycles)) h.stepped_reqs o (s.bkStep i b c.cmd x).2
  have hbank : o.bank = b := by simpa using List.find?_some h.op
  rw [h.endStep_more (Nat.ne_of_lt hmore)]
  exact ⟨hsteps.trans (stepped_counts s i b cycles c x), _, o.advanced ((s.stepped i b cycles c x).urgentGap i b o), hbcasts,
    mem_withOp (f := fun o' => some (o'.advanced _)) (List.mem_of_find?_eq_some h.op) hbank rfl _, hbank, rfl⟩

end

/-- Settles O33: a wave by `waveStart_starts`; a step leaves memory as it has written it (`Stepping.endStep_dram`), which is a logic step's row
(`bkStep_logic`), a DOT's (`bkStep_write`) or nothing, and the K slots as KLOAD has put them (`bkStep_kload_slot`). -/
theorem bkEngine : Obligations.BkEngine := by
  intro i b cycles s c rest hfront hcast q h n take
  refine ⟨fun hhal hidle htodo hroom hreqs => waveStart_starts hhal hfront hcast hidle htodo hroom hreqs,
    fun o x hop hopIdle hbankIdle hscrub hreqs hx => ?_⟩
  have hs : Stepping s i b c rest o x := ⟨hfront, hop, hopIdle, hbankIdle, hscrub, hreqs, hx⟩
  have hdram (a : Nat) : (s.endStep i b cycles).dram.read a = (s.bkStep i b c.cmd x).1.dram.read a := by rw [hs.endStep_dram]
  refine ⟨s.endStep i b cycles, rfl, hs.endStep_advances, fun k hk => ?_, fun k hk _ => ?_, fun hread a => ?_, fun hk htodo => ?_⟩
  · subst hk
    intro row raw A B
    have hlen : (toBytes (s.logicRow i b c.cmd k)).length = 2048 := (length_toBytes _).trans (length_logicRow s i b c.cmd k)
    refine ⟨fun y hy => ?_, fun a ha => ?_⟩
    · rw [hdram, bkStep_logic]
      exact read_dramPut_in (getElem?_toBytes (getElem?_logicRow s i b c.cmd k hy)) s
    · rw [hdram, bkStep_logic, read_dramPut_out (by rwa [hlen])]
  · subst hk
    intro row ks
    have hlen : (toBytes (s.dotRow i b c.cmd k)).length ≤ 2048 := (length_toBytes _).trans_le (length_dotRow_le s i b c.cmd k)
    refine ⟨fun m y hm hout hy => ?_, fun a ha => ?_⟩
    · rw [hdram, bkStep_write, Nat.add_assoc]
      exact read_dramPut_in (getElem?_toBytes (getElem?_dotRow s i b c.cmd k hm hout hy)) s
    · rw [hdram, bkStep_write, read_dramPut_out (ha.imp_right fun h => by omega)]
  · rw [hdram]
    obtain ⟨r, rfl | rfl⟩ := hread
    all_goals exact congrArg (fun m => Memory.read m a) Quiet.refl.checkUnit.dram
  · subst hk
    refine ⟨fun a => by rw [hdram, bkStep_kload_dram], fun j hj hgood => kslot_of_get ?_⟩
    rw [hs.endStep_kslots hcast htodo]
    exact bkStep_kload_slot s i b c.cmd hj hgood

end
end Sys2Proof.Machine
end
